-- ==== Sys2Proof/Word.lean ====
section
/-!
DEFINITION. The byte and the byte string: what the spec's layouts are made of.
-/

namespace Sys2Proof

/-- One octet of a wire layout, of a dictionary payload or of a memory cell. -/
abbrev Byte := BitVec 8

/-- An octet string, the octet at the lowest byte offset first (R6). -/
abbrev Bytes := List Byte

end Sys2Proof
end

