-- ==== Sys2Proof/Syntax.lean ====
section
/-!
DEFINITION. The commands of the TG8140, one constructor per row of the opcode table, and the types of their operands.
A command is what reaches the block from outside: a frame, a dictionary message, a timer or the completion of an engine,
an event on a pin, a rail or a feed (R2). Verdicts that need a key or an analogue measurement (an ICV, a decode outcome,
a voltage) are operands; everything else is computed from State by the command's meaning.
-/

namespace Sys2Proof

/-! ### Management frames and the dictionary (chapter 2) -/

/-- A frame at the MGT MAC (R30), as DXE classifies it. -/
inductive MgtFrame
  /-- ARP request for an IPv4 address. -/
  | arpRequest (target : BitVec 32)
  /-- IPv6 neighbour solicitation for an address; of duplicate address detection, where its source is unspecified. -/
  | neighbourSolicitation (target : BitVec 128) (dad : Bool)
  /-- ICMP echo request (to an IPv4-mapped address) or ICMPv6 echo request; `fragment` marks an IP fragment. -/
  | echo (dst : BitVec 128) (fragment : Bool)
  /-- A UDP datagram to an address (IPv4 as IPv4-mapped); `fragment` marks an IP fragment. -/
  | udp (dst : BitVec 128) (dport : BitVec 16) (fragment : Bool)
  /-- Any other frame. -/
  | other
  deriving DecidableEq, Repr

/-- The client certificate chain of a handshake, as R34 judges it. -/
structure ClientChain where
  /-- Certificates in the chain. -/
  depth : Nat
  /-- Size in bytes of the largest certificate. -/
  certBytesMax : Nat
  /-- Every signature and validity check up to the anchor passed, and possession was proved. -/
  verified : Bool
  /-- SubjectPublicKeyInfo of the chain's root, as a trust anchor holds it (KEY kind: its bytes). -/
  anchor : Bytes
  /-- SHA-256 of each certificate, leaf first: what the deny list names. -/
  digests : List Bytes
  deriving DecidableEq, Repr

/-- A dictionary request message: the header fields of Table 2.3 and the body bytes, and the session slot it came on
(0–15 MGT, 16–19 windows). -/
structure Req where
  slot : Fin 20
  dsvMajor : BitVec 8
  dsvMinor : BitVec 8
  tag : BitVec 32
  opSeq : BitVec 32
  staged : Bool
  bodyLen : BitVec 16
  body : Bytes
  /-- Type code of the header, where it is none of a request's (Table 2.4). -/
  otherType : Option (BitVec 8) := none
  /-- Requests of the session that are still unanswered as this one arrives: a matter of timing (R49). -/
  unanswered : Nat := 0
  deriving DecidableEq, Repr

/-! ### RoCEv2 packets (chapters 4 and 5) -/

/-- Place of a packet in its message. -/
inductive Pos | first | middle | last | only
  deriving DecidableEq, Repr

/-- The first or only packet of a message. -/
def Pos.starts : Pos → Bool
  | .first | .only => true
  | _ => false

/-- The last or only packet of a message. -/
def Pos.ends : Pos → Bool
  | .last | .only => true
  | _ => false

/-- The ESP layer of a received packet (R94): SPI, 64-bit sequence number, and CRY's ICV verdict. -/
structure Esp where
  spi : BitVec 32
  seq : BitVec 64
  icvOk : Bool
  deriving DecidableEq, Repr

/-- What the RS(544,514) decoder of a port found in a frame: codewords corrected, and codewords beyond correction (R97). -/
structure Fec where
  corrected : Nat
  uncorrectable : Nat
  deriving DecidableEq, Repr

/-- What a host port delivers of a packet besides its operation: the facts that Table 4.2 judges, and the BTH fields. -/
structure Pkt where
  /-- Host port HP0–HP3. -/
  port : Fin 4
  frameBytes : Nat
  /-- Receive buffer level of the port after this frame, in KiB (R171). -/
  rxBufKib : Nat
  fcsOk : Bool
  fec : Fec
  /-- IP/UDP to port 4791. -/
  udpRoce : Bool
  /-- No IP fragment, IPv4 option or IPv6 extension header other than ESP. -/
  ipFormOk : Bool
  /-- Destination address, IPv4 in IPv4-mapped form, first octet in the highest bits. -/
  dstIp : BitVec 128
  esp : Option Esp
  icrcOk : Bool
  tver : BitVec 4
  pkey : BitVec 16
  /-- The IP header carries ECN CE. -/
  ce : Bool
  ackReq : Bool
  destQp : BitVec 24
  psn : BitVec 24
  /-- The address that the frame asks for, where it is ARP or IPv6 neighbour discovery, in the form of `dstIp`. -/
  neighbour : Option (BitVec 128) := none
  deriving DecidableEq, Repr

/-- RETH: target GGA, AK and DMA length. -/
structure Reth where
  gga : BitVec 64
  ak : BitVec 32
  length : BitVec 32
  deriving DecidableEq, Repr

/-- AtomicETH. -/
structure AtomicEth where
  gga : BitVec 64
  ak : BitVec 32
  swapAdd : BitVec 64
  compare : BitVec 64
  deriving DecidableEq, Repr

/-- Gyrin extension header (Table 5.2); `reserved` is bits [31:4] less nothing: the reserved bits as received. -/
structure Gxh where
  tag : BitVec 64
  gga : BitVec 64
  ak : BitVec 32
  length : BitVec 32
  deadlineUs : BitVec 16
  extents : BitVec 16
  noSolo : Bool
  dur : Bool
  ce : Bool
  deriving DecidableEq, Repr

/-- A request of Table 5.1 as it stands after BTH. A header is present in FIRST and ONLY packets only. -/
inductive ReqOp
  | send (pos : Pos) (imm : Option (BitVec 32)) (data : Bytes)
  | write (pos : Pos) (reth : Option Reth) (imm : Option (BitVec 32)) (data : Bytes)
  | read (reth : Reth)
  | cswap (a : AtomicEth)
  | fadd (a : AtomicEth)
  | hxvOffer (o0 o1 o2 o3 : BitVec 16)
  | dwrite (pos : Pos) (gxh : Option Gxh) (data : Bytes)
  | flush (gxh : Gxh)
  | cas16 (gxh : Gxh) (compare swap : BitVec 128)
  | awg (pos : Pos) (gxh : Option Gxh) (data : Bytes)
  | wait (threshold : BitVec 64) (cqn : BitVec 18)
  | tread (gxh : Gxh)
  | invalid (opcode : BitVec 8)
  deriving DecidableEq, Repr

/-! ### Twin frames and lease messages (chapter 8) -/

/-- A received twin-port frame: the verdict of MACsec and the header fields of Table 8.1. -/
structure TwinHdr where
  /-- Twin port TP0 or TP1. -/
  port : Fin 2
  fec : Fec
  /-- The ICV, the strict replay check and the header checks pass (R203). -/
  macsecOk : Bool
  /-- body_len matches the type (R205). -/
  bodyLenOk : Bool
  retx : Bool
  last : Bool
  unit : Bool
  resync : Bool
  group : BitVec 8
  sender : BitVec 12
  epoch : BitVec 32
  seq : BitVec 64
  txTime : BitVec 64
  deriving DecidableEq, Repr

/-- HELLO body of Table 8.6, with the roles the twin holds (see assumption 21). -/
structure HelloBody where
  offers : List (BitVec 16)
  deviceUid : BitVec 128
  member : BitVec 12
  port : BitVec 8
  reply : Bool
  fabricDigest : BitVec 256
  chosen : BitVec 16
  /-- For each group 0–254 in order, the twin's role code of Table 8.18; groups beyond the list: FENCED. -/
  roles : List (Fin 4)
  deriving DecidableEq, Repr

/-- WRITE body of Table 8.3 less its data. -/
structure WriteBody where
  offset : BitVec 64
  index : BitVec 24
  length : BitVec 16
  unitSeq : BitVec 64
  unitLen : BitVec 32
  extents : BitVec 16
  deriving DecidableEq, Repr

/-- READ_REQ and READ_RESP body of Table 8.10 less data and status. -/
structure ReadBody where
  offset : BitVec 64
  index : BitVec 24
  length : BitVec 32
  afterSeq : BitVec 64
  reqId : BitVec 32
  deriving DecidableEq, Repr

/-- Body of RESYNC_BEGIN and RESYNC_END (Table 8.11). -/
structure ResyncBody where
  baseEpoch : BitVec 32
  newEpoch : BitVec 32
  endSeq : BitVec 64
  runs : BitVec 32
  nextSeq : BitVec 64
  done : Bool
  active : Bool
  full : Bool
  deriving DecidableEq, Repr

/-- A run entry of RESYNC_MAP (Table 8.12). -/
structure ResyncRun where
  index : BitVec 24
  firstSeg : BitVec 32
  count : BitVec 32
  deriving DecidableEq, Repr

/-- LEASE message (Table 8.8). -/
structure LeaseMsg where
  renewSeq : BitVec 64
  mapB : BitVec 256
  mapA : BitVec 256
  tSend : BitVec 64
  residenceNs : BitVec 32
  epoch : BitVec 32
  twin : BitVec 12
  member : BitVec 12
  unpair : Bool
  inSync : Bool
  reply : Bool
  group : BitVec 8
  result : BitVec 8
  op : BitVec 8
  deriving DecidableEq, Repr

/-- A segment fetch from flash: of a tier segment (descriptor index and segment), or of a DRAM segment by its LSN. -/
inductive FetchKey
  | tier (idx : BitVec 20) (seg : Nat)
  | dram (lsn : Nat)
  deriving DecidableEq, Repr

/-- What restore finds of a directory entry (R190, R194). -/
inductive RestoreOutcome
  /-- Its units are read, rebuilt, decrypted and decompressed, and its CRC agrees. -/
  | restored
  /-- It names its segment, but a step on its units fails. -/
  | failed
  /-- Its check fails: the segment it stood for is not known. -/
  | unnamed
  deriving DecidableEq, Repr

/-- How one unit of a stored segment decoded (R334). -/
inductive UnitOutcome
  /-- Hard decision at the default read levels. -/
  | hard
  /-- A read-retry level. -/
  | retry (level : Nat)
  /-- Soft decision. -/
  | soft
  /-- No step succeeds. -/
  | uncorrectable
  deriving DecidableEq, Repr

/-! ### Fabric datagrams (chapter 10) -/

/-- Fabric routing header (Table 10.1). -/
structure Frh where
  hopsLeft : BitVec 4
  cls : BitVec 2
  redirected : Bool
  dst : BitVec 12
  src : BitVec 12
  pd : BitVec 16
  deriving DecidableEq, Repr

/-- A received fabric datagram other than HELLO: the port and adjacency slot it came through, the ESP verdict, whether the negotiated FPV
defines its kind, its FRH. -/
structure FabRx where
  port : Fin 4
  slot : Fin 16
  fec : Fec
  icvOk : Bool
  kindOk : Bool := true
  frh : Frh
  /-- ECN field of the datagram's IP header; CE is 0b11 (R158). -/
  ecn : BitVec 2 := 0
  deriving DecidableEq, Repr

/-- HELLO body of Table 10.2 less its tag. -/
structure FabHello where
  offers : List (BitVec 16)
  deviceUid : BitVec 128
  member : BitVec 12
  tentative : Bool
  conflict : Bool
  callerOk : Bool
  echo : Bool
  port : BitVec 2
  helloIntervalMs : BitVec 16
  configEpoch : BitVec 64
  digest : BitVec 256
  nonce : BitVec 64
  echoNonce : BitVec 64
  helloSeq : BitVec 32
  deriving DecidableEq, Repr

/-- Route entry (Table 10.5). -/
structure RouteEntry where
  member : BitVec 12
  metric : BitVec 4
  tentative : Bool
  callerOk : Bool
  uidTag : BitVec 32
  configEpoch : BitVec 64
  digestTag : BitVec 64
  deriving DecidableEq, Repr

/-- SESSION body (R271) less its op. -/
structure SessionBody where
  hxv : BitVec 16
  senderQpn : BitVec 18
  startPsn : BitVec 24
  peerQpn : BitVec 18
  deriving DecidableEq, Repr

/-- CALLER_OFFER, CALLER_ANSWER and CALLER_NOTE body (R276) less its note. -/
structure CallerBody where
  lower : BitVec 12
  higher : BitVec 12
  caller : BitVec 12
  result : BitVec 8
  desigSeq : BitVec 64
  deriving DecidableEq, Repr

/-- Inner BTH of a DATA datagram. -/
structure InnerBth where
  destQp : BitVec 18
  psn : BitVec 24
  ackReq : Bool
  deriving DecidableEq, Repr

/-- Gyrin response body (Table 5.5). -/
structure Grb where
  tag : BitVec 64
  result : BitVec 128
  epoch : BitVec 32
  status : BitVec 8
  durability : BitVec 8
  regionGroup : BitVec 8
  deriving DecidableEq, Repr

/-- IEEE 1588 messages that the ordinary clock acts on (R281), with correction-adjusted stamps. -/
inductive PtpMsg
  /-- Announce: priority1 of the grandmaster, then its class, accuracy, variance, priority2 and identity in the order in which the best
  master clock algorithm compares them; the lower is the better. -/
  | announce (priority1 : BitVec 8) (quality : BitVec 104)
  /-- Sync with its receive stamp. -/
  | sync (rxNs : BitVec 64)
  /-- Follow_Up with the master's origin stamp. -/
  | followUp (originNs : BitVec 64)
  /-- Delay_Req received as master, with its receive stamp. -/
  | delayReq (rxNs : BitVec 64)
  /-- Delay_Resp with the master's receive stamp of our Delay_Req. -/
  | delayResp (rxNs : BitVec 64)
  deriving DecidableEq, Repr

/-- An IEEE 1588 message with the domain number of its header. -/
structure PtpRx where
  domain : BitVec 8
  body : PtpMsg
  deriving DecidableEq, Repr

/-- Which PTP interval expired. -/
inductive PtpTimer
  | announceReceipt
  | announceInterval
  | syncInterval
  | delayReqInterval
  deriving DecidableEq, Repr

/-! ### DRAM and flash observations (chapters 11 and 12) -/

/-- What the SPD controller of one slot read (R284–R286, R289). -/
structure SpdSlot where
  present : Bool
  crcOk : Bool
  /-- A DIMM of Table 11.1: DDR5 RDIMM or 3DS RDIMM with x4 devices. -/
  supported : Bool
  capacityGib : Nat
  /-- Module type, ranks, density, stack height and width, as one comparable code. -/
  formCode : Nat
  topMts : Nat
  raw : Bytes
  deriving DecidableEq, Repr

/-- How a row repair of TRAIN came out (R308): no resource of its bank group, a permanent one, or one that every TRAIN applies
again. -/
inductive PprKind | none_ | hard | soft
  deriving DecidableEq, Repr

/-- Repair of the row of a channel page. -/
structure PprRow where
  ch : Fin 16
  page : BitVec 64
  kind : PprKind
  deriving DecidableEq, Repr

/-- Outcome of reading one line. -/
inductive LineOutcome
  | clean
  | corrected
  | uncorrected
  deriving DecidableEq, Repr

/-- What FL found while attaching a carrier: the inputs of Table 12.3. -/
structure CarrierObs where
  pgoodInTime : Bool
  /-- The 192 bytes of the option area; empty when unreadable. -/
  optionArea : Bytes
  /-- Read ID, parameter page CRC and geometry agree on every target. -/
  targetsMatch : Bool
  trained : Bool
  /-- Good blocks of each of the four channels, factory bad blocks excluded. -/
  goodBlocks : Nat
  deriving DecidableEq, Repr

/-- A flash block: carrier, channel of the carrier, target, LUN and block number. -/
structure BlkAddr where
  carrier : Fin 8
  channel : Fin 4
  target : Fin 8
  lun : Fin 4
  block : BitVec 32
  deriving DecidableEq, Repr

/-- Kind of an ONFI operation. -/
inductive FlashOpKind | read | program | erase
  deriving DecidableEq, Repr

/-- End of a page program, as FL reads it. -/
inductive ProgramResult
  /-- Status pass; `verifyOk` is the outcome of the wordline's verification where R330 samples it. -/
  | pass (verifyOk : Bool)
  | fail
  deriving DecidableEq, Repr

/-! ### Faults, power and boot (chapters 14 to 16) -/

/-- Fault classes. -/
inductive FaultClass | ce | ucc | ftl
  deriving DecidableEq, Repr

/-- What a UCC is confined to (Table 14.6): the logic of the block, or one job, queue pair, line, buffer agent or core. -/
inductive FaultScope
  | logic
  | content (id : Nat)
  deriving DecidableEq, Repr

/-- A fault message of a block to FCO (Table 14.2), with the attribution that Table 14.6 needs. -/
structure FaultMsg where
  block : BitVec 8
  inst : BitVec 8
  cls : FaultClass
  kind : BitVec 8
  detail : BitVec 32
  addrValid : Bool
  address : BitVec 64
  time : BitVec 64
  master : BitVec 8
  access : BitVec 4
  merges : BitVec 16
  scope : FaultScope
  deriving DecidableEq, Repr

/-- Verdicts of checks 2, 3 and 4 of R355 on a slot's header: the fuse revoking the root is intact, the signer's signature and the
image's signature verify. Checks 1 and 5 are made from the slot's bytes. -/
structure HeaderOutcome where
  rootIntact : Bool
  signerOk : Bool
  imageOk : Bool
  deriving DecidableEq, Repr

/-- One PMBus transaction of a poll. -/
structure PmbusReading where
  entry : Fin 32
  ok : Bool
  mv : Nat
  ma : Nat
  statusWord : BitVec 16
  deriving DecidableEq, Repr
/-- A command, one constructor per row of the opcode table. -/
inductive Instr
  /-- `MGT_FRAME_RECEIVED` (R30): A frame arrives at the MGT MAC. DXE answers ARP, neighbour discovery and ICMP echo, hands UDP to the dictionary port to DTLS, and counts any other frame in mgt_discards. -/
  | mgtFrameReceived (k : MgtFrame)
  /-- `CLIENT_HELLO` (R36): A DTLS ClientHello arrives. It draws a HelloRetryRequest with a cookie, allocates a session slot, or is dropped when no slot is free or the handshake rate is exceeded. -/
  | clientHello (peerAddr : BitVec 128) (peerPort : BitVec 16) (cookieValid : Bool)
  /-- `HANDSHAKE_COMPLETE` (R34): The final handshake flight arrives. The client chain is admitted or refused against the trust anchors and the deny list, and the session level is fixed. -/
  | handshakeComplete (slot : Fin 16) (chain : ClientChain)
  /-- `HANDSHAKE_TIMEOUT` (R32): A handshake has not completed within handshake_timeout_ms, so it is abandoned and its slot is freed. -/
  | handshakeTimeout (slot : Fin 16)
  /-- `DTLS_RETRANSMIT_TIMER` (R32): The DTLS retransmission timer of a handshake flight expires, and the flight is sent again. -/
  | dtlsRetransmitTimer (slot : Fin 16)
  /-- `CLOSE_NOTIFY` (R36): A close_notify is received, so the session closes and its subscriptions are deleted. -/
  | closeNotify (slot : Fin 16)
  /-- `SESSION_IDLE_TIMEOUT` (R36): No authenticated record has arrived for session_idle_timeout_s, so the session closes. -/
  | sessionIdleTimeout (slot : Fin 16)
  /-- `DICT_HELLO` (R60): A HELLO message negotiates the DSV of a session, or is refused with VERSION and the session closes. -/
  | dictHello (r : Req)
  /-- `READ` (R445): A READ message returns one value record, a result object, or UNAVAILABLE for a live value of an unpowered or gated block. -/
  | read (r : Req)
  /-- `WRITE` (R45): A WRITE to a parameter that has no row of its own is applied at the arbitration point. The value is stored in LGM, staged, or held in the STANDBY store. -/
  | write (r : Req)
  /-- `MULTI_READ` (R43): A MULTI_READ returns value records in request order, with no write applied between its items. -/
  | multiRead (r : Req)
  /-- `SUBSCRIBE` (R51): A SUBSCRIBE creates an ON_CHANGE or PERIODIC subscription, or is refused with LIMIT. -/
  | subscribe (r : Req)
  /-- `UNSUBSCRIBE` (R53): An UNSUBSCRIBE removes one subscription, or all of them with sub_id 0xFFFF. -/
  | unsubscribe (r : Req)
  /-- `DIGEST` (R57): A DIGEST returns the count and the SHA-256 over the covered parameter values, or the fabric digest for scope 2. -/
  | digest (r : Req)
  /-- `DESCRIBE` (R58): A DESCRIBE returns the descriptor record of a parameter, or of the next parameter when STAGED is set. -/
  | describe (r : Req)
  /-- `SUBSCRIPTION_SAMPLE` (R52): Every 1 ms DXE samples the ON_CHANGE subscriptions and sends a NOTIFY for each changed value whose interval has passed. -/
  | subscriptionSample 
  /-- `PERIODIC_NOTIFY` (R52): The period of a PERIODIC subscription expires, and a NOTIFY is sent. -/
  | periodicNotify (slot : Fin 20) (subId : BitVec 16)
  /-- `WINDOW_OPEN_DOORBELL` (R62): Firmware rings the open doorbell of a window, which opens a Custodian session unless window_enable is false. -/
  | windowOpenDoorbell (win : Fin 4) (cluster : Fin 4)
  /-- `WINDOW_CLOSE_DOORBELL` (R62): Firmware rings the close doorbell of a window, which frees the window session. -/
  | windowCloseDoorbell (win : Fin 4)
  /-- `MGT_APPLY` (R47): The mgt_apply command makes the staged block 000 values effective and closes every MGT session. -/
  | mgtApply (r : Req)
  /-- `SESSION_CLOSE_ALL` (R36): The session_close_all command closes every MGT session other than the requester's. -/
  | sessionCloseAll (r : Req)
  /-- `SESSION_REVALIDATE` (R65): The session_revalidate command checks every MGT session chain against the current anchors and deny list and closes those that fail. -/
  | sessionRevalidate (r : Req)
  /-- `SESS_CLOSE` (R66): The sess_close command closes one session slot. -/
  | sessClose (r : Req)
  /-- `STICKY_FLAG_CLEAR` (R372): A WRITE to a STICKY W1C parameter clears the bits written as 1. A set in the same cycle wins, and condition bits are set again. -/
  | stickyFlagClear (r : Req)
  /-- `TRUST_ANCHOR_WRITE` (R353): A WRITE of a trust anchor or of its level is checked for a Factory session where the anchor is a Factory anchor. -/
  | trustAnchorWrite (r : Req)
  /-- `FABRIC_KEY_TX_WRITE` (R351): A WRITE of fabric_key_tx changes the slot that tags own HELLOs, and affected adjacencies are handled as a new nonce. -/
  | fabricKeyTxWrite (r : Req)
  /-- `TWIN_TX_AN_WRITE` (R352): A WRITE of twin_tx_an switches the transmit AN of a twin port, or is refused when that AN key was never written. -/
  | twinTxAnWrite (r : Req)
  /-- `MC_FENCE_WRITE` (R310): Firmware writes mc_fence to fence a DRAM channel, or clears a bit after a successful retrain. -/
  | mcFenceWrite (r : Req)
  /-- `REGION_REGISTER` (R82): The FW-served region_register command chooses an index, allocates and prepares the backing, sends CONFIG REGISTER for a paired group, and writes the descriptor. -/
  | regionRegister (r : Req) (fwBacking : Option Nat)
  /-- `REGION_REKEY` (R83): The region_rekey command applies the revoke point, which advances the generation and sets DRAINING, and later reports DONE. -/
  | regionRekey (r : Req)
  /-- `REGION_DEREGISTER` (R83): The region_deregister command applies a revoke point that clears the rights and sets DEREG, drains, and frees the descriptor. -/
  | regionDeregister (r : Req)
  /-- `REVOKE_DRAIN_TIMEOUT` (R85): revoke_drain_timeout_ms elapses. Queue pairs with open old-generation messages go to ERROR, or to FREE when CLOSING, and the drain completes. -/
  | revokeDrainTimeout (idx : BitVec 20)
  /-- `DESC_CACHE_FILL` (R76): A descriptor miss fill on RQ2 completes, and the waiting check proceeds. -/
  | descCacheFill (idx : BitVec 20) (uncorrected : Bool)
  /-- `BUFFER_FREE` (R90): An agent frees a BPM buffer. The free takes effect once earlier reads of the buffer complete, and pool arbitration applies frees before allocations. -/
  | bufferFree (agent : Fin 8) (addr : BitVec 64) (unit : BitVec 32)
  /-- `SEND` (R116): A SEND packet is classified by PSN, consumes a receive ring entry, and places data in the receive buffer. -/
  | send (p : Pkt) (pos : Pos) (imm : Option (BitVec 32)) (data : Bytes)
  /-- `RDMA_WRITE` (R135): An RDMA WRITE packet is classified, checked at its first packet, staged and placed on RQ0. -/
  | rdmaWrite (p : Pkt) (pos : Pos) (reth : Option Reth) (data : Bytes)
  /-- `RDMA_WRITE_WITH_IMMEDIATE` (R116): An RDMA WRITE with immediate is placed and consumes a receive entry for its completion. -/
  | rdmaWriteWithImmediate (p : Pkt) (only : Bool) (reth : Option Reth) (imm : BitVec 32) (data : Bytes)
  /-- `RDMA_READ_REQUEST` (R146): An RDMA READ request consumes PSNs and issues its first DRAM read after the earlier placements, with the check at issue. -/
  | rdmaReadRequest (p : Pkt) (reth : Reth)
  /-- `COMPARE_SWAP` (R147): A COMPARE SWAP performs an 8-byte atomic read-modify-write at the MC and answers with ATOMIC ACK. -/
  | compareSwap (p : Pkt) (h : AtomicEth)
  /-- `FETCH_ADD` (R147): A FETCH ADD performs an 8-byte atomic add at the MC and answers with ATOMIC ACK. -/
  | fetchAdd (p : Pkt) (h : AtomicEth)
  /-- `HXV_OFFER` (R126): An HXV_OFFER negotiates the host extension version of a queue pair and is answered with HXV_ANSWER. -/
  | hxvOffer (p : Pkt) (o0 : BitVec 16) (o1 : BitVec 16) (o2 : BitVec 16) (o3 : BitVec 16)
  /-- `DWRITE` (R140): A durable write is admitted and placed, and is answered with GX_RESPONSE at its durable point. -/
  | dwrite (p : Pkt) (pos : Pos) (gxh : Option Gxh) (data : Bytes)
  /-- `FLUSH` (R144): A FLUSH waits for every covered write to reach its highest level and answers with the combined status and durability. -/
  | flush (p : Pkt) (gxh : Gxh)
  /-- `CAS16` (R149): A 16-byte compare-and-swap executes at the MC and answers with GX_RESPONSE, at the durable point when DUR is set. -/
  | cas16 (p : Pkt) (gxh : Gxh) (compare : BitVec 128) (swap : BitVec 128)
  /-- `AWG` (R151): An atomic write group message is checked structurally and per extent, and is then admitted for staging, commit and apply. -/
  | awg (p : Pkt) (pos : Pos) (gxh : Option Gxh) (data : Bytes)
  /-- `WAIT` (R121): A WAIT is acknowledged on arrival and sets WAIT_ACTIVE when the named CQ count is below the threshold. -/
  | wait (p : Pkt) (threshold : BitVec 64) (cqn : BitVec 18)
  /-- `TREAD` (R154): A tagged read with deadline returns data, or a GX_RESPONSE with POISON or REGION_LOST. -/
  | tread (p : Pkt) (gxh : Gxh)
  /-- `INVALID_OPCODE` (R130): A reserved opcode, or one that only the device sends, draws NAK 0x61, and the queue pair enters ERROR with INVALID_REQUEST. -/
  | invalidOpcode (p : Pkt) (op : BitVec 8)
  /-- `CNP_RECEIVED` (R162): A CNP for a READY queue pair is handed to the governor, which counts it and cuts Rc when the hold has passed. -/
  | cnpReceived (p : Pkt)
  /-- `FABRIC_ACK_RECEIVED` (R272): An ACK arrives on a FABRIC queue pair as requester, and the entry member completes the host messages it covers. -/
  | fabricAckReceived (d : FabRx) (qpn : BitVec 18) (psn : BitVec 24)
  /-- `FABRIC_NAK_RECEIVED` (R272): A NAK arrives on a FABRIC queue pair, which retransmits or relays the outcome to the host. -/
  | fabricNakReceived (d : FabRx) (qpn : BitVec 18) (psn : BitVec 24) (syndrome : BitVec 8)
  /-- `FABRIC_READ_RESPONSE` (R272): A read response arrives on a FABRIC queue pair and is returned to the host queue pair. -/
  | fabricReadResponse (d : FabRx) (qpn : BitVec 18) (psn : BitVec 24) (last : Bool) (data : Bytes)
  /-- `FABRIC_ATOMIC_ACK` (R272): An ATOMIC ACK arrives on a FABRIC queue pair and completes the host atomic. -/
  | fabricAtomicAck (d : FabRx) (qpn : BitVec 18) (psn : BitVec 24) (orig : BitVec 64)
  /-- `FABRIC_GX_RESPONSE` (R272): A GX_RESPONSE arrives on a FABRIC queue pair and completes the host extension operation with the owner's status. -/
  | fabricGxResponse (d : FabRx) (qpn : BitVec 18) (psn : BitVec 24) (grb : Grb)
  /-- `PORT_LINK_UP` (R96): A host port reaches PCS lane alignment and FEC lock, and the link is up. -/
  | portLinkUp (port : Fin 4)
  /-- `PORT_LINK_DOWN` (R98): A host port link goes down. Frames are neither received nor sent, and queue pair states are unchanged. -/
  | portLinkDown (port : Fin 4)
  /-- `QP_CREATE` (R107): The qp_create command validates a context image, unwraps and rewraps the SA keys, and writes the context, with inheritance when INHERIT is set. -/
  | qpCreate (r : Req) (saOk : Bool)
  /-- `QP_DESTROY` (R107): The qp_destroy command moves a queue pair to CLOSING or FREE and discards its log. -/
  | qpDestroy (r : Req)
  /-- `QP_FORCE_ERROR` (R107): The qp_force_error command moves a READY queue pair to ERROR with cause FORCED. -/
  | qpForceError (r : Req)
  /-- `CQ_CREATE` (R117): The cq_create command zeroes the ring and control line and makes the CQ READY. -/
  | cqCreate (r : Req)
  /-- `CQ_DESTROY` (R107): The cq_destroy command frees a CQ that no queue pair is bound to. -/
  | cqDestroy (r : Req)
  /-- `QP_CLOSE_TIMEOUT` (R108): qp_close_timeout_ms elapses on a CLOSING queue pair. The message in progress ends, and the queue pair becomes FREE. -/
  | qpCloseTimeout (qpn : BitVec 18)
  /-- `INHERIT_DEADLINE_PASSED` (R114): A successor's inherit_deadline passes. Its inheritance ends, and the RETAINED predecessor becomes FREE. -/
  | inheritDeadlinePassed (qpn : BitVec 18)
  /-- `WAIT_DEADLINE_PASSED` (R121): wait_deadline passes before the threshold is reached, and the queue pair enters ERROR with WAIT_TIMEOUT. -/
  | waitDeadlinePassed (qpn : BitVec 18)
  /-- `QCC_FILL` (R104): A QCC miss fill completes on RQ3 after the victim write-back, and the waiting packet proceeds. -/
  | qccFill (qpn : BitVec 18) (uncorrected : Bool)
  /-- `PLACEMENT_COMPLETE` (R135): A DRAM placement or atomic read-modify-write completes. The segment is marked dirty, the acknowledgement point may be reached, and answers leave in PSN order. -/
  | placementComplete (bad : List Nat)
  /-- `READ_DATA_RETURNED` (R135): DRAM read data returns on RQ1, and read response packets are sent. -/
  | readDataReturned (bad : List Nat) (corrected : List Nat)
  /-- `CQ_CONTROL_REREAD` (R119): Every 10 µs while an entry is pending, XPT rereads the CQ control line and writes pending entries into the free slots. -/
  | cqControlReread (cqn : BitVec 18)
  /-- `AWG_STAGE_COMPLETE` (R198): The extent list and data of a group have been staged in the redo ring on RQ6, and the commit record write is issued. -/
  | awgStageComplete 
  /-- `AWG_COMMIT_WRITTEN` (R198): The COMMITTED record write to LGM completes. The group is committed, overlapping placements are held, and apply begins. -/
  | awgCommitWritten 
  /-- `AWG_APPLY_COMPLETE` (R198): The apply of a group completes. The record is rewritten APPLIED, and held placements and redo space are released. -/
  | awgApplyComplete (awgSeq : BitVec 64)
  /-- `BUDGET_OCCUPANCY_TICK` (R163): Every 1 µs PDE computes occupancy u and f_budget. -/
  | budgetOccupancyTick 
  /-- `WREG_WINDOW_TICK` (R164): Every 1 µs the 10 µs window of the RQ0 regulator slides, and f_wreg is set. -/
  | wregWindowTick (emptyPct : Nat)
  /-- `GOV_STEP_TIMER` (R168): gov_step_us passes without a cut, and the governor raises Rc toward Rt or by gov_ai_mbps. -/
  | govStepTimer (qpn : BitVec 18)
  /-- `PFC_REPEAT_TIMER` (R171): Every 20 µs while the buffer stays above pfc_xon_kib, the PFC frame is repeated. -/
  | pfcRepeatTimer (port : Fin 4)
  /-- `PFC_XON` (R171): The receive buffer level falls below pfc_xon_kib, and one PFC frame with quanta 0 is sent. -/
  | pfcXon (port : Fin 4) (levelKib : Nat)
  /-- `PFC_FRAME_RECEIVED` (R172): A received PFC frame pauses transmission of pfc_priority for its quanta. -/
  | pfcFrameReceived (port : Fin 4) (prio : Fin 8) (quanta : BitVec 16)
  /-- `PFC_WATCHDOG_TRIP` (R172): A port has been paused without a break for pfc_watchdog_ms. It ignores PFC frames, and a PFC-storm event is recorded. -/
  | pfcWatchdogTrip (port : Fin 4)
  /-- `PFC_WATCHDOG_RELEASE` (R172): No PFC frame has arrived for a further pfc_watchdog_ms, and PFC frames are honoured again. -/
  | pfcWatchdogRelease (port : Fin 4)
  /-- `BUDGET_COMPUTE` (R182): Every 1 ms PDE computes the candidate budget and lowers the permitted budget, or raises it after the hold. -/
  | budgetCompute (sense : List (BitVec 12))
  /-- `BUDGET_OVER_WARNING` (R184): Every 10 s while u is at least 1, a Warning event is recorded. -/
  | budgetOverWarning 
  /-- `PROMENADE_SELECT` (R186): Promenade selects the next segment to drain, reads it on RQ5 and passes it to the storage pipeline. -/
  | promenadeSelect (frameLen : Nat) (bad : List Nat)
  /-- `DRAIN_COMPLETE` (R179): Every unit and parity unit of a drain is programmed and the map is updated. The segment becomes CLEAN and its charge is released, or from REDIRTY it becomes DIRTY. -/
  | drainComplete (lsn : BitVec 32)
  /-- `REFILL_NEXT` (R197): The background refill job takes the next ABSENT segment in LSN order, within refill_gbps. -/
  | refillNext 
  /-- `REFILL_COMPLETE` (R197): A refill or on-demand fetch completes, and the segment becomes CLEAN. -/
  | refillComplete (lsn : BitVec 32)
  /-- `SAVE_SHED` (R392): At 30 µs after t0, ports and cores are gated and steps 6 and 5 and the SHED rails are lowered. -/
  | saveShed 
  /-- `SAVE_RECORD_WRITING` (R191): After issued placements and the QCC write-back complete, PDE draws the save key, freezes the dirty set and writes the record as WRITING. -/
  | saveRecordWriting 
  /-- `SAVE_DIRECTORY_PLANNED` (R190): The save directory is written as PLANNED, PLAN_WRITTEN follows, and the first data units are issued. -/
  | saveDirectoryPlanned 
  /-- `SAVE_SEGMENT_PROGRAMMED` (R190): The last unit of a saved segment and its stripe parity are programmed, and the directory entry is rewritten final. -/
  | saveSegmentProgrammed (entry : BitVec 32) (frameLen : Nat) (bad : List Nat)
  /-- `SAVE_COMPLETE` (R191): The final programs complete and the record is closed COMPLETE or INCOMPLETE. -/
  | saveComplete (powerMw : BitVec 32)
  /-- `RESTORE_SEGMENT_READ` (R194): The units of a directory entry are read, rebuilt, decrypted, decompressed and checked, and the segment is written DIRTY on RQ6. -/
  | restoreSegmentRead (entry : BitVec 32) (outcome : RestoreOutcome)
  /-- `RESTORE_COMPLETE` (R194): Restore finishes its steps. Queue pairs go to ERROR with RESTART, roles go to FENCED, and the device enters RESYNC. -/
  | restoreComplete 
  /-- `REGION_LOST_CLEAR` (R196): The region_lost_clear command clears LOST on a region. -/
  | regionLostClear (r : Req)
  /-- `SAVE_RATE_TEST` (R201): The save_rate_test command writes 4 GiB RAW to the target slot and measures rate and power. -/
  | saveRateTest (r : Req)
  /-- `SAVE_RATE_TEST_DONE` (R182): The save rate test write completes, its measurements enter R182, and the slot is erased again. -/
  | saveRateTestDone (rateMbps : BitVec 32) (powerMw : BitVec 32)
  /-- `PDD_LINK_UP` (R211): A twin port link comes up, and HELLO starts on it. -/
  | pddLinkUp (port : Fin 2)
  /-- `PDD_LINK_DOWN` (R204): A twin port link goes down, and its groups move to the other port. -/
  | pddLinkDown (port : Fin 2)
  /-- `PDD_HELLO_TIMER` (R211): Every 100 µs until a HELLO is received, a HELLO is sent on the twin port. -/
  | pddHelloTimer (port : Fin 2)
  /-- `PDD_HELLO` (R212): A twin HELLO is received. The MPV is negotiated, or the port is refused for member, port or version. -/
  | pddHello (h : TwinHdr) (body : HelloBody)
  /-- `PDD_ECHO` (R215): An ECHO is received and answered with t2 and t3. -/
  | pddEcho (h : TwinHdr) (t1 : BitVec 64) (echoId : BitVec 32)
  /-- `PDD_ECHO_REPLY` (R215): An ECHO_REPLY is received, and the one-way delay is computed. -/
  | pddEchoReply (h : TwinHdr) (t1 : BitVec 64) (t2 : BitVec 64) (t3 : BitVec 64) (echoId : BitVec 32)
  /-- `ECHO_INTERVAL_TIMER` (R215): echo_interval_ms passes, and an ECHO is sent on each twin port. -/
  | echoIntervalTimer 
  /-- `MIRROR_WRITE` (R208): A WRITE frame is placed in sequence order at the standby, held, or discarded with MACK again. UNIT frames are staged and committed. -/
  | mirrorWrite (h : TwinHdr) (body : WriteBody) (data : Bytes) (bad : List Nat)
  /-- `MACK` (R209): A MACK arrives. acked_seq covers frames, durable points are reached, window and free budget are updated, and held placements are issued. -/
  | mack (h : TwinHdr) (ackedSeq : BitVec 64) (freeBudget : BitVec 32) (windowKib : BitVec 32)
  /-- `MNAK` (R209): An MNAK arrives, and the source acts by reason: FENCED, SOLO declaration, or a resync segment resent. -/
  | mnak (h : TwinHdr) (ackedSeq : BitVec 64) (freeBudget : BitVec 32) (windowKib : BitVec 32) (reason : BitVec 8) (frameSeq : BitVec 64)
  /-- `MACK_TIMER` (R209): The 1 µs MACK interval passes, and the standby sends a MACK. -/
  | mackTimer (g : Fin 255)
  /-- `MIRROR_RETX_TIMER` (R209): A frame is uncovered after 2p + mirror_retx_us and is sent again with RETX. -/
  | mirrorRetxTimer (g : Fin 255)
  /-- `MIRROR_ACK_TIMEOUT` (R209): A frame is uncovered after 2p + mirror_ack_timeout_us, its acknowledgement counts as missing, and SOLO is declared. -/
  | mirrorAckTimeout (g : Fin 255)
  /-- `MIRROR_GAP_TIMEOUT` (R223): A mirror_seq gap at the standby is not filled in time, so IN_SYNC is set to 0 and RESYNC_BEGIN is sent. -/
  | mirrorGapTimeout (g : Fin 255)
  /-- `READ_REQ` (R233): The standby receives READ_REQ and answers with READ_RESP frames after placing every frame up to after_seq, or with status UNAVAILABLE or POISON. -/
  | readReq (h : TwinHdr) (body : ReadBody) (bad : List Nat)
  /-- `READ_RESP` (R247): READ_RESP frames arrive. The last one places the twin copy, which completes a promotion, recovery or line repair. -/
  | readResp (h : TwinHdr) (body : ReadBody) (status : BitVec 8) (data : Bytes)
  /-- `RESYNC_BEGIN` (R231): A RESYNC_BEGIN is received. The source decides the scope, or the target adopts the epoch and next_seq and marks segments awaiting resync. -/
  | resyncBegin (h : TwinHdr) (b : ResyncBody)
  /-- `RESYNC_MAP` (R231): RESYNC_MAP run entries are received and merged into the resync scope. -/
  | resyncMap (h : TwinHdr) (runs : List ResyncRun)
  /-- `RESYNC_END` (R231): A RESYNC_END is received. The target answers DONE and sets IN_SYNC, the source learns the result, or the target adopts ACTIVE and new_epoch. -/
  | resyncEnd (h : TwinHdr) (b : ResyncBody)
  /-- `RESYNC_BEGIN_REPEAT` (R231): Every 1 ms until the source answers, the target repeats RESYNC_BEGIN. -/
  | resyncBeginRepeat (g : Fin 255)
  /-- `RESYNC_SEGMENT_SEND` (R231): The source reads a marked segment and sends it as 16 RESYNC WRITE frames within resync_rate_gbps. -/
  | resyncSegmentSend (g : Fin 255)
  /-- `REJOIN_WAIT_EXPIRY` (R232): rejoin_wait_ms passes. A target opens a new resync, or a member with incomplete segments sends RESUME. -/
  | rejoinWaitExpiry (g : Fin 255)
  /-- `TWIN_HELLO_TIMEOUT` (R232): No twin HELLO has completed within 100 ms after restore, so the twin counts as unreachable and RESUME is sent. -/
  | twinHelloTimeout 
  /-- `RESYNC_GIVEUP_TIMER` (R232): A group has stayed FENCED for 2 × rejoin_wait_ms with no grant, so it counts as settled for the resync-complete report. -/
  | resyncGiveupTimer (g : Fin 255)
  /-- `CONFIG` (R216): The twin applies a CONFIG op (REGISTER, REKEY, DEREGISTER, SYNC, PAIR, UNPAIR) and answers CONFIG_ACK, or repeats its earlier result. -/
  | config (h : TwinHdr) (op : BitVec 8) (idx : BitVec 24) (image : Bytes) (fwBacking : Option Nat)
  /-- `CONFIG_ACK` (R216): A CONFIG_ACK arrives and completes or fails the region or pairing command waiting on it. -/
  | configAck (h : TwinHdr) (op : BitVec 8) (idx : BitVec 24) (result : BitVec 8)
  /-- `CONFIG_RETX_TIMER` (R216): No CONFIG_ACK has arrived within 2p + mirror_retx_us, and the CONFIG is resent with RETX. -/
  | configRetxTimer (g : Fin 255)
  /-- `CONFIG_ACK_TIMEOUT` (R216): No CONFIG_ACK has arrived within 1 ms, so the group is handled as for a missing acknowledgement and the command ends accordingly. -/
  | configAckTimeout (g : Fin 255)
  /-- `RENEW_TIMER` (R218): Every renew_us the holder sends RENEW to the Caller and to the twin. -/
  | renewTimer 
  /-- `TWIN_RENEW` (R219): The standby receives a RENEW on the twin link and grants the twin lease for its STANDBY groups. -/
  | twinRenew (h : TwinHdr) (m : LeaseMsg)
  /-- `RENEW_REPLY` (R218): A RENEW grant from the Caller or the twin advances the lease end, and groups named in map_b go to FENCED. -/
  | renewReply (m : LeaseMsg) (viaTwin : Bool)
  /-- `LEASE_END` (R218): A holder's lease end is reached. Admission stops, open messages are answered FENCED, and the group becomes FENCED. -/
  | leaseEnd (g : Fin 255)
  /-- `STANDBY_RENEW_LAPSE` (R219): No RENEW has named a group for 2 × renew_us. The standby stops granting and, when in sync, sends TAKEOVER. -/
  | standbyRenewLapse (g : Fin 255)
  /-- `LEASE_REQUEST_REPEAT` (R221): Every renew_us an unanswered or QUIET-answered single-group lease request is repeated. -/
  | leaseRequestRepeat (g : Fin 255)
  /-- `LEASE_PROBE_TIMER` (R222): Every 1 ms a PROBE is sent to the Caller, or over the twin link when no RENEW has passed. -/
  | leaseProbeTimer 
  /-- `PROBE_REPLY` (R222): A PROBE reply arrives, and the Caller round trip or the twin's caller_rtt_ns is recorded. -/
  | probeReply (m : LeaseMsg) (viaTwin : Bool)
  /-- `LEASE_BUDGET_COMPUTE` (R222): Every 1 s MIR computes budget_takeover_us, budget_solo_us and lease_budget_ok. -/
  | leaseBudgetCompute 
  /-- `SOLO_GRANTED` (R226): The SOLO grant arrives. Divergence bits are set for uncovered frames, held answers are sent, and the group becomes SOLO. -/
  | soloGranted (m : LeaseMsg)
  /-- `TAKEOVER_GRANTED` (R223): The standby receives the TAKEOVER grant. After its twin grant ends, it applies COMMITTED TWIN records and becomes SOLO. -/
  | takeoverGranted (m : LeaseMsg)
  /-- `ACTIVE_GRANTED` (R231): The ACTIVE grant arrives. The source sends RESYNC_END with ACTIVE, and the group becomes ACTIVE. -/
  | activeGranted (m : LeaseMsg)
  /-- `HANDOVER_GRANTED` (R228): The HANDOVER grant arrives. The holder becomes STANDBY or FENCED, and the named twin becomes ACTIVE or SOLO. -/
  | handoverGranted (m : LeaseMsg)
  /-- `RESUME_GRANTED` (R232): The RESUME grant arrives, and the member serves the group as SOLO. -/
  | resumeGranted (m : LeaseMsg)
  /-- `FORCE_GRANTED` (R229): The FORCE grant arrives. The member becomes SOLO, and a Critical forced-takeover event is recorded. -/
  | forceGranted (m : LeaseMsg)
  /-- `PAIR_GRANTED` (R227): The PAIR grant arrives, and the member becomes SOLO at epoch 1. -/
  | pairGranted (m : LeaseMsg)
  /-- `LEASE_REFUSED` (R217): A lease reply is refused. The pending role change fails, the group fences, or a stale epoch is noted. -/
  | leaseRefused (m : LeaseMsg)
  /-- `QUIET_REPLY` (R221): A QUIET reply makes the holder send one CLAIM per group it holds. -/
  | quietReply (m : LeaseMsg)
  /-- `CALLER_RENEW` (R220): The Caller grants RENEW for groups whose recorded holder is the requester and refuses the others. -/
  | callerRenew (m : LeaseMsg)
  /-- `CALLER_SOLO` (R220): The Caller grants SOLO to the current holder, writes epoch + 1 and SOLO to LGM, and replies. -/
  | callerSolo (m : LeaseMsg)
  /-- `CALLER_TAKEOVER` (R220): The Caller holds a TAKEOVER request until the holder's grant end + 1 µs. -/
  | callerTakeover (m : LeaseMsg)
  /-- `CALLER_TAKEOVER_DUE` (R220): A held TAKEOVER reaches the grant end + 1 µs and is granted, unless a RENEW or SOLO refuses it. -/
  | callerTakeoverDue (lower : BitVec 12) (higher : BitVec 12) (g : Fin 255)
  /-- `CALLER_ACTIVE` (R220): The Caller grants ACTIVE to the holder and clears SOLO. -/
  | callerActive (m : LeaseMsg)
  /-- `CALLER_HANDOVER` (R220): The Caller grants HANDOVER, names the twin as holder and sends the reply to both members. -/
  | callerHandover (m : LeaseMsg)
  /-- `CALLER_RESUME` (R220): The Caller grants RESUME to the holder after its grant ends, or to the other member under the SOLO and rejoin-wait conditions. -/
  | callerResume (m : LeaseMsg)
  /-- `CALLER_CLAIM` (R221): The Caller records a holder's claim during its quiet period. -/
  | callerClaim (m : LeaseMsg)
  /-- `CALLER_RELEASE` (R220): The Caller withdraws the requester's held request, or erases the group record when UNPAIR is set. -/
  | callerRelease (m : LeaseMsg)
  /-- `CALLER_PROBE` (R222): The Caller answers a PROBE for round-trip measurement. -/
  | callerProbe (m : LeaseMsg)
  /-- `CALLER_FORCE` (R229): The Caller grants FORCE once every grant for the group has ended + 1 µs. -/
  | callerForce (m : LeaseMsg)
  /-- `CALLER_PAIR` (R220): The Caller creates a group record (holder, epoch 1, SOLO), or refuses when a record exists. -/
  | callerPair (m : LeaseMsg)
  /-- `CALLER_START` (R221): A Caller restarts or begins to serve a pair and enters its quiet period. -/
  | callerStart (lower : BitVec 12) (higher : BitVec 12)
  /-- `CALLER_QUIET_END` (R221): caller_quiet_us ends. The Caller adopts the highest epoch among its LGM records and the claims, and serves normally. -/
  | callerQuietEnd (lower : BitVec 12) (higher : BitVec 12)
  /-- `GROUP_PAIR` (R227): The FW-served group_pair command sends CONFIG PAIR and then PAIR to the Caller, and the member serves the group SOLO. -/
  | groupPair (r : Req)
  /-- `GROUP_UNPAIR` (R227): The group_unpair command sends CONFIG UNPAIR and RELEASE with UNPAIR, and both members become FENCED and unpaired. -/
  | groupUnpair (r : Req)
  /-- `GROUP_SWITCHOVER` (R228): The group_switchover command defers new messages, waits for answers and coverage, and sends HANDOVER with IN_SYNC. -/
  | groupSwitchover (r : Req)
  /-- `GROUP_FORCE_SOLO` (R229): The group_force_solo command sends FORCE to the Caller. -/
  | groupForceSolo (r : Req)
  /-- `GROUP_RESYNC_FULL` (R235): The group_resync_full command makes the next resync of a group FULL. -/
  | groupResyncFull (r : Req)
  /-- `FLASH_READ_COMPLETE` (R334): A flash page read completes, and each unit is decoded by hard decision, read-retry and soft decode. -/
  | flashReadComplete (k : FetchKey) (units : List UnitOutcome)
  /-- `PARITY_REBUILD_COMPLETE` (R335): The row reads for a rebuild complete. The unit is rebuilt and its block marked SUSPECT, or the rebuild fails and the next source is tried. -/
  | parityRebuildComplete (k : FetchKey) (ok : Bool)
  /-- `PROMOTION_COMPLETE` (R240): The flash copy of a PROMOTING segment is placed. The segment becomes RESIDENT, and every waiter is served. -/
  | promotionComplete (idx : BitVec 20) (seg : BitVec 32)
  /-- `READ_DEADLINE_PASSED` (R247): A read deadline passes on a PROMOTING or RECOVERING segment, and MIR sends READ_REQ within the fallback rate limit. -/
  | readDeadlinePassed (idx : BitVec 20) (seg : BitVec 32) (qpn : BitVec 18) (psn : BitVec 24)
  /-- `CACHE_EVICTION` (R242): The free share of the shared cache falls below the low mark, and the clock chooses victims until the high mark is reached. -/
  | cacheEviction 
  /-- `EVICT_UNMAP_WRITTEN` (R240): The unmapping write of an EVICTING entry completes, and the frame is freed. -/
  | evictUnmapWritten (idx : BitVec 20) (seg : BitVec 32)
  /-- `TIER_EVICT` (R243): The tier_evict command issues eviction requests for a range of segments. -/
  | tierEvict (r : Req)
  /-- `TIER_POISON_CLEAR` (R254): The tier_poison_clear command sets POISONED segments of a range ABSENT without a home. -/
  | tierPoisonClear (r : Req)
  /-- `TIER_CAPACITY_TICK` (R255): Every 1 s, and on a change of usable deep-store capacity, TMV recomputes the extended capacity and the overcommit state. -/
  | tierCapacityTick 
  /-- `FAB_START` (R266): FAB starts. It draws a nonce and joins with a bound identifier, or chooses a candidate and probes. -/
  | fabStart 
  /-- `FABRIC_HELLO_TIMER` (R261): Every hello_interval_ms a fabric HELLO is multicast on each host port whose link is up. -/
  | fabricHelloTimer 
  /-- `FABRIC_HELLO` (R264): A fabric HELLO is verified and drives the adjacency state, the member-identifier probing and the ECHO reply. -/
  | fabricHello (port : Fin 4) (srcMac : BitVec 48) (fec : Fec) (body : FabHello) (tagKeySlot : Option (Fin 2))
  /-- `ADJACENCY_DEAD` (R264): A dead interval passes without a HELLO. The adjacency goes DOWN, and its routes are set to 15. -/
  | adjacencyDead (port : Fin 4) (slot : Fin 16)
  /-- `ROUTE` (R268): A ROUTE datagram updates the primary and secondary routes and the configuration agreement counts. -/
  | route (d : FabRx) (updateSeq : BitVec 32) (full : Bool) (entries : List RouteEntry)
  /-- `ROUTE_UPDATE_TIMER` (R268): Every route_update_ms a full route update is sent on each adjacency. -/
  | routeUpdateTimer 
  /-- `TRIGGERED_UPDATE` (R268): Changed entries are sent no sooner than 10 ms after the previous triggered update. -/
  | triggeredUpdate 
  /-- `ROUTE_EXPIRY` (R268): A route not refreshed for 3 × route_update_ms is set to 15, and a secondary is promoted or hold-down starts. -/
  | routeExpiry (member : BitVec 12)
  /-- `ROUTE_HOLDDOWN_END` (R268): route_holddown_ms ends for a route. -/
  | routeHolddownEnd (member : BitVec 12)
  /-- `MEMBER_PROBE_TIMEOUT` (R266): The probe time passes without a conflict, and the identifier is bound in LGM. -/
  | memberProbeTimeout 
  /-- `CONFLICT_CLEAR_TIMER` (R266): No entry with the other uid_tag has been seen for a probe time, and the own route entry is advertised again. -/
  | conflictClearTimer 
  /-- `MEMBER_ID_RELEASE` (R265): The member_id_release command erases the binding and restarts FAB. -/
  | memberIdRelease (r : Req)
  /-- `FABRIC_DATA` (R270): A DATA datagram is relayed, executed at the owner under the FRH pd, or redirected once to the twin. -/
  | fabricData (d : FabRx) (bth : InnerBth) (op : ReqOp) (icrcOk : Bool)
  /-- `FABRIC_LEASE_RELAY` (R269): A LEASE datagram for another member is relayed or dropped on its hop limit. -/
  | fabricLeaseRelay (d : FabRx)
  /-- `SESSION_OPEN` (R271): A SESSION OPEN creates a FABRIC queue pair and is answered with ACCEPT or REFUSE. -/
  | sessionOpen (d : FabRx) (body : SessionBody)
  /-- `SESSION_ACCEPT` (R271): A SESSION ACCEPT completes a FABRIC queue pair at the opener. -/
  | sessionAccept (d : FabRx) (body : SessionBody)
  /-- `SESSION_CLOSE` (R271): A SESSION CLOSE closes a FABRIC queue pair. -/
  | sessionClose (d : FabRx) (body : SessionBody)
  /-- `SESSION_REFUSE` (R271): A SESSION REFUSE ends an OPEN attempt. -/
  | sessionRefuse (d : FabRx) (body : SessionBody)
  /-- `FABRIC_QP_IDLE` (R271): A FABRIC queue pair has had no message for fabric_qp_idle_s and is closed. -/
  | fabricQpIdle (qpn : BitVec 18)
  /-- `FABRIC_ACK_TIMEOUT` (R273): fabric_ack_timeout_us passes, and the requester retransmits from the oldest unacknowledged PSN, or enters ERROR with RETRY_EXCEEDED. -/
  | fabricAckTimeout (qpn : BitVec 18)
  /-- `CALLER_OFFER` (R277): A candidate receives CALLER_OFFER and accepts, reserving the pair, or refuses as FULL, NOT_ELIGIBLE or DIGEST. -/
  | callerOffer (d : FabRx) (b : CallerBody)
  /-- `CALLER_ANSWER` (R277): The designator receives an answer and adopts the candidate or moves to the next. -/
  | callerAnswer (d : FabRx) (b : CallerBody)
  /-- `CALLER_OFFER_TIMEOUT` (R277): An offer has no answer within 1 ms, and the next candidate is tried. -/
  | callerOfferTimeout 
  /-- `NOTE_ADOPT` (R277): The higher twin receives NOTE ADOPT, enters CHANGE and answers REPLY. -/
  | noteAdopt (d : FabRx) (b : CallerBody)
  /-- `NOTE_REPLY` (R277): The designator receives NOTE REPLY and sends NOTE START to the new Caller. -/
  | noteReply (d : FabRx) (b : CallerBody)
  /-- `NOTE_START` (R277): The new Caller receives NOTE START and begins to serve the pair with its quiet period. -/
  | noteStart (d : FabRx) (b : CallerBody)
  /-- `NOTE_RELEASE` (R277): The old Caller receives NOTE RELEASE, erases its pair records and answers RELEASED. -/
  | noteRelease (d : FabRx) (b : CallerBody)
  /-- `NOTE_RELEASED` (R277): The designator receives RELEASED and sends NOTE DONE. -/
  | noteReleased (d : FabRx) (b : CallerBody)
  /-- `NOTE_DONE` (R277): NOTE DONE ends CHANGE at both twins, which adopt the new Caller. -/
  | noteDone (d : FabRx) (b : CallerBody)
  /-- `CALLER_LOST` (R276): The adopted Caller has been unreachable for caller_lost_ms, and the designator designates again. -/
  | callerLost 
  /-- `CALLER_RELEASE_REPEAT` (R277): Every caller_lost_ms NOTE RELEASE is resent, or the release is taken as done after 2 × caller_lost_ms. -/
  | callerReleaseRepeat 
  /-- `CHANGE_REPLY_TIMEOUT` (R277): The higher twin gives no REPLY within caller_lost_ms. The designator leaves CHANGE and keeps the old Caller. -/
  | changeReplyTimeout 
  /-- `PTP_MESSAGE` (R281): An IEEE 1588 message is received on a host port and processed by the ordinary clock. -/
  | ptpMessage (port : Fin 4) (slot : Fin 16) (fec : Fec) (msg : PtpRx)
  /-- `SPD_READ_COMPLETE` (R289): The SPD controllers finish reading the hubs. Population and speed are checked, CLK_MC is set, and the MCs are released. -/
  | spdReadComplete (slots : List SpdSlot)
  /-- `TRAINING_STEP_COMPLETE` (R290): A DRAM training step of Table 11.2 completes on a channel, or fails and fences it. -/
  | trainingStepComplete (ch : Fin 16) (step : Nat) (ok : Bool) (marginPs : Nat)
  /-- `DRAM_TRAIN_COMPLETE` (R292): Training ends PASSED, PASSED_FENCED or FAILED, and TRAIN leaves for RESTORE or MAINT. -/
  | dramTrainComplete (rows : List PprRow)
  /-- `SPD_TEMPERATURE_POLL` (R289): Every 100 ms each hub temperature is read, and the refresh rate and Warning events are set. -/
  | spdTemperaturePoll (ch : Fin 16) (slot : Fin 2) (temp : BitVec 8)
  /-- `DRAM_UNCORRECTED_READ` (R302): A read returns an uncorrected or poisoned line. The poison encoding is written, and the agent acts by its requester port. -/
  | dramUncorrectedRead (rq : Fin 12) (addr : BitVec 64) (unit : BitVec 32)
  /-- `LINE_REPAIR` (R303): Firmware repairs a poisoned line from the deep store or the twin by a repair write on RQ11, and schedules the page for retirement. -/
  | lineRepair (addr : BitVec 64)
  /-- `ALERT_N` (R304): A CA parity alert stops issuing and replays the retry buffer, or fences the channel at ca_retry_limit. -/
  | alertN (ch : Fin 16) (entries : Nat) (retired : Bool)
  /-- `SCRUB_READ` (R305): Reel reads the next patrol line, corrects a one-device error or poisons an uncorrected line. -/
  | scrubRead (addr : BitVec 64) (outcome : LineOutcome)
  /-- `PAGE_RETIRE` (R306): The page_retire command takes a spare page and starts the line-by-line copy. -/
  | pageRetire (r : Req)
  /-- `PAGE_COPY_COMPLETE` (R306): The last line of a page copy is written, and the remap entry becomes final. -/
  | pageCopyComplete (ch : Fin 16) (page : BitVec 64)
  /-- `PPR_COPY_BACK` (R308): After a row repair, Reel copies a remapped page back and frees its entry. -/
  | pprCopyBack (ch : Fin 16) (page : BitVec 64)
  /-- `DRAM_RETRAIN` (R292): The dram_retrain command reruns population checks and training on the masked channels. -/
  | dramRetrain (r : Req) (slots : List SpdSlot) (failed : List (Fin 16 × Nat))
  /-- `CARRIER_PRESENCE_CHANGE` (R313): A debounced CARn_PRSNT_N change starts an attach, records an insertion, or takes a removed carrier OFFLINE or EMPTY. -/
  | carrierPresenceChange (c : Fin 8) (present : Bool)
  /-- `CARRIER_ATTACH_CHECKS` (R315): After the power-good wait, FL checks the option area, version, geometry, parameter pages and training, and attaches or refuses the carrier. -/
  | carrierAttachChecks (c : Fin 8) (obs : CarrierObs)
  /-- `CARRIER_PGOOD_LOW` (R319): CARn_PGOOD falls, and the carrier goes OFFLINE with its exposed-segment scan. -/
  | carrierPgoodLow (c : Fin 8)
  /-- `CARRIER_FORMAT` (R342): The carrier_format command draws a new media key, erases every block, reserves spares and slots, and writes the dynamic part. -/
  | carrierFormat (r : Req)
  /-- `CARRIER_FORMAT_COMPLETE` (R342): The format finishes, and the carrier becomes IN_SERVICE. -/
  | carrierFormatComplete (c : Fin 8) (factoryBad : BitVec 32)
  /-- `CARRIER_DETACH` (R342): The carrier_detach command starts evacuation of every valid unit, or powers off an OFFLINE carrier. -/
  | carrierDetach (r : Req)
  /-- `EVACUATION_COMPLETE` (R318): Every valid unit has been relocated. The carrier is powered off with ATTN asserted and becomes DETACHED. -/
  | evacuationComplete (c : Fin 8) (noSpace : Bool)
  /-- `OPTION_AREA_UPDATE` (R314): Every 24 h the dynamic part of each carrier option area is rewritten. -/
  | optionAreaUpdate 
  /-- `FLASH_PROGRAM_COMPLETE` (R329): A page program completes. Holds are released or verified, or on FAIL the block is retired and held pages are rewritten. -/
  | flashProgramComplete (b : BlkAddr) (page : Nat) (res : ProgramResult)
  /-- `FLASH_ERASE_COMPLETE` (R328): A block erase completes and the block becomes FREE, or on FAIL it is retired. -/
  | flashEraseComplete (b : BlkAddr) (ok : Bool)
  /-- `FLASH_OPERATION_TIMEOUT` (R321): An ONFI operation exceeds five times its typical time, and its LUN is reset. Three timeouts in 1 s fence the channel. -/
  | flashOperationTimeout (b : BlkAddr) (kind : FlashOpKind)
  /-- `ROW_PAD_TIMER` (R322): A row with no further data for 100 µs is completed with padding and its parity is programmed. -/
  | rowPadTimer 
  /-- `MAP_FLUSH` (R324): When the journal is 75 % full or 2,048 pages are dirty, dirty map pages and their directory words are written. -/
  | mapFlush 
  /-- `FLASH_PATROL` (R336): The flash patrol reads the next block within flash_patrol_days. -/
  | flashPatrol (b : BlkAddr) (worst : UnitOutcome)
  /-- `GARBAGE_COLLECT` (R337): When free superblocks fall below gc_free_low_pct, the valid units of the emptiest superblocks are relocated and the blocks erased. -/
  | garbageCollect 
  /-- `WEAR_LEVEL` (R338): When erase counts spread beyond wear_spread_max, the least-erased block is relocated. -/
  | wearLevel (c : Fin 8)
  /-- `ZQ_SHORT_TIMER` (R320): Every 1 s a ZQ Calibration Short is issued. -/
  | zqShortTimer 
  /-- `RAW_READ` (R343): The FW-served raw_read command reads one codeword chunk and its decode status. -/
  | rawRead (r : Req) (outcome : UnitOutcome) (bits : BitVec 16)
  /-- `DEEP_MAP_LOOKUP` (R324): The FW-served deep_map_lookup command returns the deep-store map entry of an LSN. -/
  | deepMapLookup (r : Req)
  /-- `ENTROPY_HEALTH_FAIL` (R347): The entropy source fails its continuous health test, the DRBG stops, and an FTL fault is raised. -/
  | entropyHealthFail (test : BitVec 8)
  /-- `LC_TRANSITION` (R358): The lc_transition command checks the request and runs the transition, including the wipe steps for a wiping transition. -/
  | lcTransition (r : Req)
  /-- `LC_ZERO_FILL_COMPLETE` (R359): Reel finishes the unregulated DRAM zero-fill of a wiping transition. -/
  | lcZeroFillComplete 
  /-- `LC_ERASE_COMPLETE` (R359): FL finishes erasing every carrier. The transition record completes, and lc_state takes the target value. -/
  | lcEraseComplete 
  /-- `FW_UPDATE_CHUNK` (R356): The fw_update_chunk command writes a chunk into the inactive slot, erasing the slot first at offset 0. -/
  | fwUpdateChunk (r : Req)
  /-- `FW_UPDATE_COMMIT` (R356): The fw_update_commit command verifies the inactive slot and makes it preferred. -/
  | fwUpdateCommit (r : Req) (failedStep : Option (BitVec 8))
  /-- `FW_ROLLBACK_COMMIT` (R356): The fw_rollback_commit command blows anti-rollback fuses up to the running security_version. -/
  | fwRollbackCommit (r : Req)
  /-- `FAULT_MESSAGE` (R367): FCO accepts a fault message. It assigns fault_seq, captures or merges, sets flags and counters, fences per Table 14.6, and has EVR record it. -/
  | faultMessage (msg : FaultMsg)
  /-- `BLK_FAULT_STATUS_CLEAR` (R368): A write to blk_fault_status clears bits, and when every clearing bit is 0 the capture is zeroed and FAULT_CLEARED is recorded. -/
  | blkFaultStatusClear (r : Req)
  /-- `EVT_FETCH` (R381): The evt_fetch command returns up to max untorn records from start_seq that pass the filters. -/
  | evtFetch (r : Req)
  /-- `FAULT_COUNTERS_RESET` (R373): The fault_counters_reset command zeroes the occurrence counters. -/
  | faultCountersReset (r : Req)
  /-- `EVENTS_DROPPED_TIMER` (R378): Once per minute while drops continue, EVENTS_DROPPED is recorded. -/
  | eventsDroppedTimer 
  /-- `OPERATING_HOUR_TICK` (R376): Each hour with VDD_AON present advances operating_hours in LGM. -/
  | operatingHourTick 
  /-- `RAIL_FAULT` (R386): A rail stays outside its window for rail_fault_us, or PMBus or PGOOD reports it failed. It becomes FAILED, and a RAIL fault is raised. -/
  | railFault (rail : Fin 64) (mv : Nat)
  /-- `PMBUS_POLL` (R396): Every pmbus_poll_ms the PMBus entries are polled, and a third failed transaction makes an entry LOST. -/
  | pmbusPoll (sense : List (BitVec 12)) (readings : List PmbusReading)
  /-- `PMBUS_ALERT` (R397): PMB_ALERT_N goes low. The alert response address and the STATUS_WORD pages are read, and R386 is applied. -/
  | pmbusAlert (answers : List (Fin 32 × BitVec 16))
  /-- `FEED_PRESENT` (R398): A feed has stayed in its window for feed_settle_ms and becomes present, which may raise an auto-on request. -/
  | feedPresent (feed : Fin 2) (mv : Nat)
  /-- `FEED_CROSSING` (R398): A present feed crosses out of its window, and HOLD_TEST_EN is deasserted within 1 µs. -/
  | feedCrossing (feed : Fin 2)
  /-- `FEED_LOSS_CONFIRMED` (R398): A feed stays out of its window for feed_confirm_us. One feed lost is recorded, or loss of the last enters SAVE or stops. -/
  | feedLossConfirmed (feed : Fin 2) (mv : Nat)
  /-- `PWR_BTN_PRESS` (R403): PWR_BTN_N held low for 50 ms in STANDBY is an on request. -/
  | pwrBtnPress 
  /-- `PWR_BTN_HOLD` (R403): PWR_BTN_N held low for 4 s outside STANDBY is an orderly off. -/
  | pwrBtnHold 
  /-- `POWER_ON` (R403): The power_on command raises an on request. -/
  | powerOn (r : Req)
  /-- `POWER_OFF` (R403): The power_off command raises an orderly or an immediate off. -/
  | powerOff (r : Req)
  /-- `MODE_REQUEST` (R404): The mode_request command asks for SERVICE, QUIESCE or MAINT under the mode table. -/
  | modeRequest (r : Req)
  /-- `RAIL_STEP_STABLE` (R388): A RAMP step holds its rails in window for rail_settle_us, and the next step is enabled or TRAIN is entered. -/
  | railStepStable 
  /-- `RAIL_STEP_TIMEOUT` (R388): A step is not stable within rail_ramp_timeout_ms. Its rails fail, and RAMP is aborted. -/
  | railStepTimeout (failed : List (Fin 64))
  /-- `POWER_DOWN_STEP` (R389): A step's rails fall below 10 % or time out, the next step is lowered, and STANDBY is reached at the end. -/
  | powerDownStep 
  /-- `MIN_OFF_EXPIRY` (R391): min_off_ms passes after the last rail went off, and a held on request is acted on. -/
  | minOffExpiry 
  /-- `STANDBY_LGM_IDLE` (R389): 1 s after the last LGM or xSPI access in STANDBY, steps 1 and 2 are lowered. -/
  | standbyLgmIdle 
  /-- `CAP_TEST` (R402): The cap_test command starts the capacitance test, or defers it. -/
  | capTest (r : Req)
  /-- `CAP_TEST_SCHEDULE` (R402): cap_test_interval_h passes, or RESYNC begins with no result, and the test starts or is deferred by 10 min. -/
  | capTestSchedule 
  /-- `CAP_TEST_FIRST_SAMPLE` (R401): 10 ms after HOLD_TEST_EN, t1 and V1 are taken and current averaging starts. -/
  | capTestFirstSample (mv : Nat)
  /-- `CAP_TEST_END` (R401): The voltage reaches V1 − cap_test_drop_mv. C is computed, checked and stored, and HOLD_TEST_EN is deasserted. -/
  | capTestEnd (ma : Nat) (dtUs : Nat) (mv : Nat)
  /-- `CAP_TEST_TIMEOUT` (R401): cap_test_max_ms passes before t2, and the test fails with TIMEOUT. -/
  | capTestTimeout 
  /-- `QUIESCE_TIMEOUT` (R404): An orderly off has been pending for quiesce_timeout_s, and a COMMANDED save is made. -/
  | quiesceTimeout 
  /-- `FATAL_PLAN_TIMEOUT` (R406): PDE has not reported the plan within 5 ms of a fatal save, so the save is abandoned and the device powers down. -/
  | fatalPlanTimeout 
  /-- `VDD_AON_RISE` (R412): VDD_AON enters its window, and the cold start begins. -/
  | vddAonRise 
  /-- `VDD_AON_LOSS` (R404): VDD_AON falls below UV. CD39 is held in reset, and the mode is OFF. -/
  | vddAonLoss 
  /-- `SYS_RST_N` (R410): SYS_RST_N held low for 10 µs requests a COLD reset, at once or after an immediate off. -/
  | sysRstN 
  /-- `COLD_RESET_RELEASE` (R412): VDD_AON has stayed in its window for 2 ms. CD39 reset is released, and the ROM reads fuses and checks REFCLK. -/
  | coldResetRelease (refclkOk : Bool)
  /-- `ROOT_LOCK` (R412): The root synthesizer locks. CD39 switches to CLK_MGT, the option area is read, keys are derived, and STANDBY is entered. -/
  | rootLock (copyAOk : Bool) (copyBOk : Bool)
  /-- `BOOT_HEADER_CHECKED` (R355): A slot header is read and checks 1 to 5 complete, and the body read starts or the other slot is tried. -/
  | bootHeaderChecked (outcome : HeaderOutcome)
  /-- `IMAGE_BODY_VERIFIED` (R414): The body digest check completes. Core 0 is released, or the slot is marked INVALID and the other is loaded. -/
  | imageBodyVerified (ok : Bool)
  /-- `IMAGE_COPY_COMPLETE` (R414): The image copy to the CPX working area completes, and the staging SRAM passes to BPM for its pools. -/
  | imageCopyComplete 
  /-- `CORE_RESTART` (R417): The core_restart command resets CD0–CD3 and reloads and verifies the preferred image. -/
  | coreRestart (r : Req)
  /-- `PORT_RESET` (R421): The port_reset command resets a port domain, applies staged addresses and ends a clock fence. -/
  | portReset (r : Req) (clockOk : Bool)
  /-- `CLUSTER_WATCHDOG` (R416): A cluster watchdog expires and restarts the core, with a cluster reset after three restarts in 1 s. -/
  | clusterWatchdog (cluster : Fin 4) (core : Fin 4) (pc : BitVec 64)
  /-- `CLOCK_CHECK` (R420): A clock supervision interval ends. Each clock is measured, and a fault raises CLOCK with the consequence of Table 16.5. -/
  | clockCheck (source : Fin 42) (freqKhz : Nat)
  /-- `THERMAL_SAMPLE` (R440): Every 1 ms PWR samples the on-die sensors and updates the Tj statistics. -/
  | thermalSample (temps : List (BitVec 8))
  /-- `THERMTRIP_RELEASE` (R441): Every sensor has stayed below 110 °C for 1 s, and THERMTRIP_N releases. -/
  | thermtripRelease 
  /-- `HANDSHAKE_ALERT_RECEIVED` (R36): A DTLS alert arrives during a handshake, so the slot returns to FREE and handshakes_refused advances. -/
  | handshakeAlertReceived (slot : Fin 16)
  /-- `SCRATCH_ZERO_FILL_COMPLETE` (R447): Reel finishes writing zeros over a new SCRATCH backing through RQ11, and region_register may report DONE. -/
  | scratchZeroFillComplete (idx : BitVec 20)
  /-- `DOMAIN_RESET_RELEASE` (R409): A PORT, XPT, DOMAIN or CLUSTER reset ends after the memory wipe, and the domain runs again; for example admission resumes, the pipeline restarts, or the port links again. -/
  | domainResetRelease (domain : Fin 40)
  /-- `LGM_PATROL_REWRITE` (R14): Reel rewrites the next LGM word of its patrol, which maintains MRAM retention. -/
  | lgmPatrolRewrite 
  /-- `CALLER_REPLY_TIMEOUT` (R227): A group command's lease request, such as PAIR, has had no reply from the Caller within 1 ms, and the command fails with CALLER_REFUSED. -/
  | callerReplyTimeout (g : Fin 255)
  /-- `TWIN_GRANT_END` (R223): A STANDBY's own twin grant for a group expires, so a TAKEOVER grant that arrived earlier may now apply the COMMITTED TWIN records and move to SOLO. -/
  | twinGrantEnd (g : Fin 255)
  /-- `PTP_ANNOUNCE_RECEIPT_TIMEOUT` (R281): Under the IEEE 1588 default profile, the announce receipt timeout or a message interval expires, so the ordinary clock leaves LISTENING or sends its periodic messages. -/
  | ptpAnnounceReceiptTimeout (port : Fin 4) (slot : Fin 16) (kind : PtpTimer)
  /-- `PFC_PAUSE_EXPIRY` (R172): The quanta of a received PFC frame run out, and the port resumes transmission of pfc_priority. -/
  | pfcPauseExpiry (port : Fin 4)
  /-- `FABRIC_RNR_RETRY` (R273): The RNR timer of a FABRIC requester expires, and the deferred first packet is sent again without counting as a retry. -/
  | fabricRnrRetry (qpn : BitVec 18)
  deriving DecidableEq, Repr

end Sys2Proof
end

