-- ==== Sys2Proof/Config.lean ====
section
/-!
DEFINITION. What an implementation fixes and what the spec leaves open: free values. None of these constants has a body, so no
proof can rest on a value. A draw is a function of the counter `freeCount` of the state, which the meaning advances
(assumption 2).
-/

namespace Sys2Proof.Config

/-! ### Values fused or masked at manufacture (Table 2.10) -/

/-- Silicon stepping, serial number and manufacture date as the numbers their octets spell. -/
opaque deviceStepping : BitVec 32
opaque serialNumber : BitVec 192
opaque manufactureDate : BitVec 32
/-- Device UID, first octet highest. -/
opaque deviceUid : BitVec 128
/-- MAC address of MGT and, from it, of each host port, first octet highest. -/
opaque mgtMac : BitVec 48
opaque portMac : Nat → BitVec 48
opaque romVersion : BitVec 32
/-- Does the SHA-384 of an anchor equal the fused provisioning-anchor hash (R353)? -/
opaque isProvisioningAnchor : List Byte → Bool
/-- Public half of the device's identity key, 97 octets (R350). -/
opaque devicePubkey : BitVec 776
/-- What `device_pubkey` reads once the kill fuse is blown and its key can no longer be derived (R357). -/
opaque killedPubkey : BitVec 776

/-! ### Draws and sequences -/

/-- Output of the deterministic random bit generator, by draw number (R347). -/
opaque randomWord : Nat → BitVec 64
/-- Reason code of an operation whose key cannot be drawn (R347), by draw number. -/
opaque drawFailure : Nat → BitVec 8
/-- Linear-feedback sequence that decides endpoint marks (R166), 16 bits for each draw. -/
opaque markDraw : Nat → BitVec 16

/-- MAC address of the twin's port, which this member's frames carry as destination (R203): the spec does not say how it is learned. -/
opaque twinMac : Nat → BitVec 48
/-- Frame data that the standby side lets its source have uncovered on a port while it has buffers, in KiB (R210). -/
opaque mirrorWindowKib : BitVec 32

/-- AES-256-GCM tag of a HELLO (Table 10.2) under the fabric hello key derived from a fabric key, over the nonce and hello_seq. -/
opaque helloTag : Nat → BitVec 64 → BitVec 32 → BitVec 128

/-- Clock class, accuracy, variance, priority2 and identity that the ordinary clock announces (R281). -/
opaque ptpQuality : BitVec 104

/-- What the identification of a PMBus entry finds (R397), by draw number: its revision, format and PEC capability fit. -/
opaque pmbusFits : Nat → Bool

/-! ### Functions whose values the spec does not fix -/

/-- Decoded location of a DRAM byte address, in the layout of `mc_first_err_loc` (R287), and the x4 device index of a corrected
error, by draw number. -/
opaque lineLocation : Nat → BitVec 64
opaque failedDevice : Nat → BitVec 32

/-- Violation kind in the completion entry of a forwarded request that its owner refused, by draw number: the NAK does not carry it
(R124). -/
opaque remoteKind : Nat → BitVec 8

/-- Octets of a raw codeword chunk (R343), by draw number. -/
opaque rawChunk : Nat → List Byte

/-! ### Keys and ciphers: values that the spec leaves to the random bit generator, and algorithms that it cites -/

/-- A 512-bit key, by the number of its draw (R347). -/
opaque drawnKey : Nat → BitVec 512
/-- An SA key that CRY unwraps with an `sa_wrap_key` and wraps again under CWK (R349). -/
opaque rewrapSa : Nat → BitVec 384 → BitVec 384
/-- HKDF with SHA-384 of a save key, for a part (R348). -/
opaque partKey : BitVec 512 → Nat → BitVec 512
/-- XTS-AES-256 (IEEE 1619) of a data unit of 16 to 4,096 bytes, under a key and the octets of a tweak (R345). -/
opaque aesXts : BitVec 512 → List Byte → List Byte → List Byte
/-- A Zstandard frame of a segment's contents, of a length (R185): the standard leaves the encoder its choices. -/
opaque zstdFrame : List Host.Cell → Nat → List Byte

/-- Numbering that the previous major of the dictionary schema presents (R61): each of its numbers, rising, with the number of the same
parameter in the current numbering. -/
opaque previousSchema : List (Nat × Nat)
/-- Minor version of the current major that added a parameter (R61). -/
opaque addedInMinor : Nat → Nat
/-- Minor version of the previous major that added a parameter, by its number there (R61). -/
opaque previousAddedInMinor : Nat → Nat
/-- Minor version of the current major that added a message type, by its code, and an enumerator of a parameter (R61). -/
opaque typeAddedInMinor : Nat → Nat
opaque enumAddedInMinor : Nat → Nat → Nat

end Sys2Proof.Config
end

