-- ==== Sys2Proof/Machine/Bits.lean ====
section
/-!
DEFINITION. Octet strings and bit fields: the byte orders of R6, fields of a layout, saturating sums.
-/

namespace Sys2Proof.Machine

/-- The `n` little-endian octets of a number. -/
def leBytes : Nat → Nat → Bytes
  | 0, _ => []
  | n + 1, v => BitVec.ofNat 8 v :: leBytes n (v / 256)

/-- The number that little-endian octets spell. -/
def leNat : Bytes → Nat
  | [] => 0
  | b :: t => b.toNat + 256 * leNat t

/-- The `n` octets of a number in network byte order. -/
def beBytes (n v : Nat) : Bytes := (leBytes n v).reverse

/-- The number that octets in network byte order spell. -/
def beNat (b : Bytes) : Nat := leNat b.reverse

/-- Bits [hi:lo] of a number. -/
def bits (v hi lo : Nat) : Nat := (v >>> lo) % 2 ^ (hi + 1 - lo)

/-- Bit n of a number. -/
def bit (v n : Nat) : Bool := v.testBit n

/-- A field value placed at bit lo. -/
def place (lo v : Nat) : Nat := v <<< lo

/-- A flag as a number. -/
def flag (b : Bool) : Nat := if b then 1 else 0

/-- The first n octets, padded with zeros. -/
def takePad (n : Nat) (b : Bytes) : Bytes := b.take n ++ List.replicate (n - b.length) 0

/-- `n` octets from byte offset `o` of an octet string. -/
def slice (b : Bytes) (o n : Nat) : Bytes := (b.drop o).take n

/-- Little-endian field of `n` octets at byte offset `o`. -/
def leAt (b : Bytes) (o n : Nat) : Nat := leNat (slice b o n)

/-- Big-endian field of `n` octets at byte offset `o`. -/
def beAt (b : Bytes) (o n : Nat) : Nat := beNat (slice b o n)

/-- A number whose `n` octets are taken in reverse: between an address held first octet highest and its place in a
little-endian layout, where the first octet lies lowest (R6). -/
def octetSwap (n v : Nat) : Nat := beNat (leBytes n v)

/-- A sum that saturates at the largest value of `w` bits. -/
def satAdd (w a b : Nat) : Nat := min (a + b) (2 ^ w - 1)

/-- 24-bit sequence arithmetic: (a − b) mod 2^24. -/
def psnSub (a b : Nat) : Nat := (a + 2 ^ 24 - b % 2 ^ 24) % 2 ^ 24

/-- 24-bit sequence arithmetic: (a + n) mod 2^24. -/
def psnAdd (a n : Nat) : Nat := (a + n) % 2 ^ 24

/-- Division that rounds up. -/
def ceilDiv (a b : Nat) : Nat := (a + b - 1) / b

/-- CRC-32C (polynomial 0x1EDC_6F41, reflected), one bit. -/
def crcBit (c : Nat) : Nat := (c / 2) ^^^ (0x82F63B78 * (c % 2))

/-- CRC-32C, one octet. -/
def crcByte (c : Nat) (b : Byte) : Nat :=
  let x := c ^^^ b.toNat
  crcBit (crcBit (crcBit (crcBit (crcBit (crcBit (crcBit (crcBit x)))))))

/-- CRC-32C of an octet string. -/
def crc32c (b : Bytes) : Nat := (b.foldl crcByte 0xFFFFFFFF) ^^^ 0xFFFFFFFF

end Sys2Proof.Machine
end

