-- ==== Sys2Proof/Machine/Catalogue.lean ====
section
/-!
DEFINITION. The parameter catalogue: one entry per parameter of the lists of the spec (R63), transcribed from its tables.
-/

namespace Sys2Proof.Machine

/-- Type codes of Table 2.7. -/
inductive PType | u8 | u16 | u32 | u64 | s32 | s64 | bool | enum8 | bits32 | bytes | str | time | key
  deriving DecidableEq, Repr

/-- Type code number. -/
def PType.code : PType → Nat
  | .u8 => 1 | .u16 => 2 | .u32 => 3 | .u64 => 4 | .s32 => 5 | .s64 => 6 | .bool => 7 | .enum8 => 8 | .bits32 => 9
  | .bytes => 10 | .str => 11 | .time => 12 | .key => 13

/-- Access attributes (R11). -/
inductive PAccess | ro | rw | rwr | wo | cmd
  deriving DecidableEq, Repr

/-- Access code (Table 2.8). -/
def PAccess.code : PAccess → Nat
  | .ro => 0 | .rw => 1 | .rwr => 2 | .wo => 3 | .cmd => 4

/-- A parameter: number of its first instance, name, type and length, access, default (as the number its octets spell), permitted
ranges, array elements (0: sparse), instances, write modes (bit n: mode n), write level, and flags: 1 FW, 2 VOLATILE, 4 COUNTER,
8 STICKY, 16 ARRAY, 32 INSTANCE. -/
structure Param where
  num : Nat
  name : String
  ty : PType
  len : Nat
  access : PAccess
  dflt : Nat
  ranges : List (Nat × Nat)
  count : Nat
  inst : Nat
  modes : Nat
  level : Nat
  flags : Nat
  deriving DecidableEq, Repr

/-- Parameters of area 0. -/
def catalogue0 : List Param := [
  ⟨0x00000000, "device_part", .str, 16, .ro, 0x303431384754, [], 1, 1, 0x0, 255, 0⟩,
  ⟨0x00000001, "device_stepping", .str, 4, .ro, 0, [], 1, 1, 0x0, 255, 0⟩,
  ⟨0x00000002, "serial_number", .str, 24, .ro, 0, [], 1, 1, 0x0, 255, 0⟩,
  ⟨0x00000003, "device_uid", .bytes, 16, .ro, 0, [], 1, 1, 0x0, 255, 0⟩,
  ⟨0x00000004, "mgt_mac_addr", .bytes, 6, .ro, 0, [], 1, 1, 0x0, 255, 0⟩,
  ⟨0x00000005, "manufacture_date", .u32, 4, .ro, 0, [(0, 4294967295)], 1, 1, 0x0, 255, 0⟩,
  ⟨0x00010000, "fw_active_slot", .enum8, 1, .ro, 0, [(0, 1)], 1, 1, 0x0, 255, 0⟩,
  ⟨0x00010001, "fw_version", .str, 32, .ro, 0, [], 1, 1, 0x0, 255, 0⟩,
  ⟨0x00010002, "fw_image_digest", .bytes, 48, .ro, 0, [], 1, 1, 0x0, 255, 0⟩,
  ⟨0x00010003, "rom_version", .u32, 4, .ro, 0, [(0, 4294967295)], 1, 1, 0x0, 255, 0⟩,
  ⟨0x00020000, "hxv_current", .u16, 2, .ro, 513, [(0, 65535)], 1, 1, 0x0, 255, 0⟩,
  ⟨0x00020001, "hxv_previous", .u16, 2, .ro, 259, [(0, 65535)], 1, 1, 0x0, 255, 0⟩,
  ⟨0x00020002, "mpv_current", .u16, 2, .ro, 512, [(0, 65535)], 1, 1, 0x0, 255, 0⟩,
  ⟨0x00020003, "mpv_previous", .u16, 2, .ro, 260, [(0, 65535)], 1, 1, 0x0, 255, 0⟩,
  ⟨0x00020004, "fpv_current", .u16, 2, .ro, 259, [(0, 65535)], 1, 1, 0x0, 255, 0⟩,
  ⟨0x00020005, "fpv_previous", .u16, 2, .ro, 0, [(0, 65535)], 1, 1, 0x0, 255, 0⟩,
  ⟨0x00020006, "dsv_current", .u16, 2, .ro, 516, [(0, 65535)], 1, 1, 0x0, 255, 0⟩,
  ⟨0x00020007, "dsv_previous", .u16, 2, .ro, 263, [(0, 65535)], 1, 1, 0x0, 255, 0⟩,
  ⟨0x00020008, "civ_current", .u16, 2, .ro, 257, [(0, 65535)], 1, 1, 0x0, 255, 0⟩,
  ⟨0x00020009, "civ_previous", .u16, 2, .ro, 0, [(0, 65535)], 1, 1, 0x0, 255, 0⟩]

/-- Parameters of area 1, part 1. -/
def catalogue1a : List Param := [
  ⟨0x10000000, "mgt_ipv4_addr", .bytes, 4, .rwr, 0, [], 1, 1, 0x7FE, 2, 0⟩,
  ⟨0x10000001, "mgt_ipv4_prefix", .u8, 1, .rwr, 24, [(1, 32)], 1, 1, 0x7FE, 2, 0⟩,
  ⟨0x10000002, "mgt_ipv4_gateway", .bytes, 4, .rwr, 0, [], 1, 1, 0x7FE, 2, 0⟩,
  ⟨0x10000003, "mgt_ipv6_addr", .bytes, 16, .rwr, 0, [], 1, 1, 0x7FE, 2, 0⟩,
  ⟨0x10000004, "mgt_ipv6_prefix", .u8, 1, .rwr, 64, [(1, 128)], 1, 1, 0x7FE, 2, 0⟩,
  ⟨0x10000005, "mgt_ipv6_gateway", .bytes, 16, .rwr, 0, [], 1, 1, 0x7FE, 2, 0⟩,
  ⟨0x10000006, "mgt_udp_port", .u16, 2, .rwr, 7412, [(1024, 65535)], 1, 1, 0x7FE, 2, 0⟩,
  ⟨0x10000007, "mgt_vlan_id", .u16, 2, .rwr, 0, [(0, 4094)], 1, 1, 0x7FE, 2, 0⟩,
  ⟨0x10000008, "mgt_apply", .u8, 1, .cmd, 0, [(0, 0)], 1, 1, 0x7FE, 2, 0⟩,
  ⟨0x10010000, "session_max", .u8, 1, .rw, 16, [(1, 16)], 1, 1, 0x7FE, 2, 0⟩,
  ⟨0x10010001, "session_idle_timeout_s", .u16, 2, .rw, 300, [(10, 3600)], 1, 1, 0x7FE, 1, 0⟩,
  ⟨0x10010002, "handshake_rate_per_s", .u16, 2, .rw, 10, [(1, 20)], 1, 1, 0x7FE, 2, 0⟩,
  ⟨0x10010003, "handshake_timeout_ms", .u16, 2, .rw, 5000, [(1000, 30000)], 1, 1, 0x7FE, 2, 0⟩,
  ⟨0x10010004, "sessions_open", .u8, 1, .ro, 0, [(0, 20)], 1, 1, 0x0, 255, 2⟩,
  ⟨0x10010005, "handshakes_refused", .u32, 4, .ro, 0, [(0, 4294967295)], 1, 1, 0x0, 255, 6⟩,
  ⟨0x10010006, "version_refusals", .u32, 4, .ro, 0, [(0, 4294967295)], 1, 1, 0x0, 255, 6⟩,
  ⟨0x10010007, "subs_per_session_max", .u8, 1, .rw, 32, [(1, 64)], 1, 1, 0x7FE, 1, 0⟩,
  ⟨0x10010008, "notify_min_interval_ms", .u16, 2, .rw, 10, [(1, 60000)], 1, 1, 0x7FE, 1, 0⟩,
  ⟨0x10010009, "session_close_all", .u8, 1, .cmd, 0, [(0, 0)], 1, 1, 0x7FE, 2, 0⟩,
  ⟨0x1001000A, "window_enable", .bool, 1, .rw, 1, [(0, 1)], 1, 1, 0x402, 2, 0⟩,
  ⟨0x1001000B, "session_revalidate", .u8, 1, .cmd, 0, [(0, 0)], 1, 1, 0x7FE, 2, 0⟩,
  ⟨0x1001000C, "mgt_discards", .u64, 8, .ro, 0, [(0, 18446744073709551615)], 1, 1, 0x0, 255, 6⟩,
  ⟨0x11000000, "sess_state", .enum8, 1, .ro, 0, [(0, 4)], 1, 20, 0x0, 255, 34⟩,
  ⟨0x11000001, "sess_level", .enum8, 1, .ro, 0, [(0, 3)], 1, 20, 0x0, 255, 34⟩,
  ⟨0x11000002, "sess_peer_addr", .bytes, 16, .ro, 0, [], 1, 20, 0x0, 255, 34⟩,
  ⟨0x11000003, "sess_peer_port", .u16, 2, .ro, 0, [(0, 65535)], 1, 20, 0x0, 255, 34⟩,
  ⟨0x11000004, "sess_cert_digest", .bytes, 32, .ro, 0, [], 1, 20, 0x0, 255, 34⟩,
  ⟨0x11000005, "sess_dsv", .u16, 2, .ro, 0, [(0, 65535)], 1, 20, 0x0, 255, 34⟩,
  ⟨0x11000006, "sess_age_s", .u32, 4, .ro, 0, [(0, 4294967295)], 1, 20, 0x0, 255, 34⟩,
  ⟨0x11000007, "sess_requests", .u64, 8, .ro, 0, [(0, 18446744073709551615)], 1, 20, 0x0, 255, 38⟩]

/-- Parameters of area 1, part 2. -/
def catalogue1b : List Param := [
  ⟨0x11000008, "sess_subscriptions", .u8, 1, .ro, 0, [(0, 64)], 1, 20, 0x0, 255, 34⟩,
  ⟨0x11000009, "sess_notify_seq", .u32, 4, .ro, 0, [(0, 4294967295)], 1, 20, 0x0, 255, 34⟩,
  ⟨0x1100000A, "sess_close", .u8, 1, .cmd, 0, [(0, 0)], 1, 20, 0x7FE, 2, 34⟩,
  ⟨0x1100000B, "sess_dropped", .u32, 4, .ro, 0, [(0, 4294967295)], 1, 20, 0x0, 255, 38⟩]

/-- Parameters of area 2, part 1. -/
def catalogue2a : List Param := [
  ⟨0x20000000, "mode", .enum8, 1, .ro, 1, [(0, 11)], 1, 1, 0x0, 255, 0⟩,
  ⟨0x20000001, "mode_request", .enum8, 1, .cmd, 0, [(6, 6), (8, 8), (10, 10)], 1, 1, 0x5E0, 2, 0⟩,
  ⟨0x20000002, "power_on", .u8, 1, .cmd, 0, [(0, 0)], 1, 1, 0x2, 1, 0⟩,
  ⟨0x20000003, "power_off", .u8, 1, .cmd, 0, [(0, 1)], 1, 1, 0xDFC, 2, 0⟩,
  ⟨0x20000004, "auto_on", .bool, 1, .rw, 1, [(0, 1)], 1, 1, 0x7FE, 2, 0⟩,
  ⟨0x20000005, "fatal_restart", .bool, 1, .rw, 1, [(0, 1)], 1, 1, 0x7FE, 2, 0⟩,
  ⟨0x20000006, "fatal_restart_max", .u8, 1, .rw, 3, [(0, 10)], 1, 1, 0x7FE, 2, 0⟩,
  ⟨0x20000007, "min_off_ms", .u16, 2, .ro, 2000, [(0, 65535)], 1, 1, 0x0, 255, 0⟩,
  ⟨0x20000008, "quiesce_timeout_s", .u16, 2, .rw, 60, [(1, 3600)], 1, 1, 0x7FE, 1, 0⟩,
  ⟨0x20000009, "degraded_causes", .bits32, 4, .ro, 0, [(0, 4294967295)], 1, 1, 0x0, 255, 0⟩,
  ⟨0x2000000A, "last_off_trigger", .enum8, 1, .ro, 0, [(0, 6)], 1, 1, 0x0, 255, 0⟩,
  ⟨0x2000000B, "mode_changes", .u32, 4, .ro, 0, [(0, 4294967295)], 1, 1, 0x0, 255, 6⟩,
  ⟨0x2000000C, "fatal_stops", .u32, 4, .ro, 0, [(0, 4294967295)], 1, 1, 0x0, 255, 4⟩,
  ⟨0x2000000D, "unsaved_pending", .bool, 1, .ro, 0, [(0, 1)], 1, 1, 0x0, 255, 0⟩,
  ⟨0x20010000, "feed_uv_mv", .u16, 2, .rw, 10800, [(9000, 11800)], 1, 1, 0x7FE, 2, 0⟩,
  ⟨0x20010001, "feed_ok_mv", .u16, 2, .rw, 11400, [(9100, 12000)], 1, 1, 0x7FE, 2, 0⟩,
  ⟨0x20010002, "feed_ov_mv", .u16, 2, .rw, 13200, [(12500, 15000)], 1, 1, 0x7FE, 2, 0⟩,
  ⟨0x20010003, "feed_confirm_us", .u16, 2, .ro, 20, [(0, 65535)], 1, 1, 0x0, 255, 0⟩,
  ⟨0x20010004, "feed_settle_ms", .u16, 2, .rw, 100, [(10, 5000)], 1, 1, 0x7FE, 2, 0⟩,
  ⟨0x20010005, "feeds_present", .bits32, 4, .ro, 0, [(0, 4294967295)], 1, 1, 0x0, 255, 0⟩,
  ⟨0x20010006, "feed_losses", .u32, 4, .ro, 0, [(0, 4294967295)], 1, 1, 0x0, 255, 6⟩,
  ⟨0x20010007, "hold_mv", .u32, 4, .ro, 0, [(0, 4294967295)], 1, 1, 0x0, 255, 0⟩,
  ⟨0x20010008, "hold_ma", .s32, 4, .ro, 0, [(0, 4294967295)], 1, 1, 0x0, 255, 0⟩,
  ⟨0x20010009, "power_mw", .u32, 4, .ro, 0, [(0, 4294967295)], 1, 1, 0x0, 255, 0⟩,
  ⟨0x20020000, "cap_test", .u8, 1, .cmd, 0, [(0, 0)], 1, 1, 0x4E0, 2, 0⟩,
  ⟨0x20020001, "cap_test_interval_h", .u16, 2, .rw, 168, [(1, 8760)], 1, 1, 0x7FE, 2, 0⟩,
  ⟨0x20020002, "cap_test_drop_mv", .u16, 2, .rw, 2000, [(500, 10000)], 1, 1, 0x7FE, 2, 0⟩,
  ⟨0x20020003, "cap_test_max_ms", .u16, 2, .rw, 10000, [(1000, 60000)], 1, 1, 0x7FE, 2, 0⟩,
  ⟨0x20020004, "cap_mf", .u32, 4, .ro, 0, [(0, 0), (50, 100000)], 1, 1, 0x0, 255, 0⟩,
  ⟨0x20020005, "cap_first_mf", .u32, 4, .ro, 0, [(0, 4294967295)], 1, 1, 0x0, 255, 0⟩]

/-- Parameters of area 2, part 2. -/
def catalogue2b : List Param := [
  ⟨0x20020006, "cap_result_hours", .u32, 4, .ro, 0, [(0, 4294967295)], 1, 1, 0x0, 255, 0⟩,
  ⟨0x20020007, "cap_tests_deferred", .u32, 4, .ro, 0, [(0, 4294967295)], 1, 1, 0x0, 255, 6⟩,
  ⟨0x20020008, "cap_tests_failed", .u32, 4, .ro, 0, [(0, 4294967295)], 1, 1, 0x0, 255, 6⟩,
  ⟨0x20030000, "sns_ratio_milli", .u32, 4, .rw, 1000, [(1, 1000000)], 24, 1, 0x402, 2, 16⟩,
  ⟨0x20030001, "sns_value", .s32, 4, .ro, 0, [(0, 4294967295)], 24, 1, 0x0, 255, 16⟩,
  ⟨0x20040000, "rail_state", .enum8, 1, .ro, 0, [(0, 4)], 64, 1, 0x0, 255, 16⟩,
  ⟨0x20040001, "rail_mv", .u32, 4, .ro, 0, [(0, 4294967295)], 64, 1, 0x0, 255, 16⟩,
  ⟨0x20040002, "rail_ma", .u32, 4, .ro, 0, [(0, 4294967295)], 64, 1, 0x0, 255, 16⟩,
  ⟨0x20040003, "rail_fault_us", .u16, 2, .rw, 10, [(2, 1000)], 1, 1, 0x7FE, 2, 0⟩,
  ⟨0x20040004, "rail_ramp_timeout_ms", .u16, 2, .rw, 20, [(1, 200)], 1, 1, 0x7FE, 2, 0⟩,
  ⟨0x20040005, "rail_settle_us", .u16, 2, .rw, 500, [(50, 10000)], 1, 1, 0x7FE, 2, 0⟩,
  ⟨0x20040006, "rail_failures", .u32, 4, .ro, 0, [(0, 4294967295)], 1, 1, 0x0, 255, 4⟩,
  ⟨0x20040007, "ramp_failures", .u32, 4, .ro, 0, [(0, 4294967295)], 1, 1, 0x0, 255, 4⟩,
  ⟨0x20050000, "pmbus_rail", .bytes, 8, .rw, 0, [], 32, 1, 0x2, 2, 16⟩,
  ⟨0x20050001, "pmbus_state", .enum8, 1, .ro, 0, [(0, 3)], 32, 1, 0x0, 255, 16⟩,
  ⟨0x20050002, "pmbus_status_word", .u16, 2, .ro, 0, [(0, 65535)], 32, 1, 0x0, 255, 16⟩,
  ⟨0x20050003, "pmbus_poll_ms", .u16, 2, .rw, 10, [(1, 1000)], 1, 1, 0x7FE, 1, 0⟩,
  ⟨0x20050004, "pmbus_errors", .u64, 8, .ro, 0, [(0, 18446744073709551615)], 1, 1, 0x0, 255, 6⟩,
  ⟨0x20050005, "pmbus_alerts", .u64, 8, .ro, 0, [(0, 18446744073709551615)], 1, 1, 0x0, 255, 6⟩,
  ⟨0x20060000, "power_log", .bytes, 64, .ro, 0, [], 4096, 1, 0x0, 255, 16⟩,
  ⟨0x20060001, "power_log_next", .u16, 2, .ro, 0, [(0, 65535)], 1, 1, 0x0, 255, 0⟩]

/-- Parameters of area 3. -/
def catalogue3 : List Param := [
  ⟨0x30000000, "refclk_ok", .bool, 1, .ro, 0, [(0, 1)], 1, 1, 0x0, 255, 0⟩,
  ⟨0x30000001, "root_locked", .bool, 1, .ro, 0, [(0, 1)], 1, 1, 0x0, 255, 0⟩,
  ⟨0x30000002, "ethref_ppm", .s32, 4, .ro, 0, [(0, 4294967295)], 1, 1, 0x0, 255, 0⟩,
  ⟨0x30000003, "clk_mc_div", .u8, 1, .ro, 0, [(0, 0), (6, 6), (8, 8)], 1, 1, 0x0, 255, 0⟩,
  ⟨0x30000004, "clk_status", .bits32, 4, .rw, 0, [(0, 4294967295)], 1, 1, 0x7FE, 1, 10⟩,
  ⟨0x30010000, "domain_gated", .bytes, 8, .ro, 0, [], 1, 1, 0x0, 255, 0⟩,
  ⟨0x30010001, "domain_fenced", .bytes, 8, .ro, 0, [], 1, 1, 0x0, 255, 0⟩,
  ⟨0x30010002, "domain_freq_khz", .u32, 4, .ro, 0, [(0, 4294967295)], 40, 1, 0x0, 255, 16⟩,
  ⟨0x30010003, "domain_clock_faults", .u32, 4, .ro, 0, [(0, 4294967295)], 40, 1, 0x0, 255, 22⟩,
  ⟨0x30010004, "domain_resets", .u32, 4, .ro, 0, [(0, 4294967295)], 40, 1, 0x0, 255, 22⟩,
  ⟨0x30020000, "reset_cause", .enum8, 1, .ro, 0, [(0, 2)], 1, 1, 0x0, 255, 0⟩,
  ⟨0x30020001, "cold_start_ms", .u32, 4, .ro, 0, [(0, 4294967295)], 1, 1, 0x0, 255, 0⟩,
  ⟨0x30020002, "core_start_ms", .u32, 4, .ro, 0, [(0, 4294967295)], 1, 1, 0x0, 255, 0⟩,
  ⟨0x30020003, "core_restart", .u8, 1, .cmd, 0, [(0, 0)], 1, 1, 0x400, 2, 0⟩,
  ⟨0x30020004, "port_reset", .u8, 1, .cmd, 0, [(0, 5)], 1, 1, 0x400, 2, 0⟩,
  ⟨0x30020005, "sys_rst_events", .u32, 4, .ro, 0, [(0, 4294967295)], 1, 1, 0x0, 255, 4⟩,
  ⟨0x30020006, "lgm_option_state", .enum8, 1, .ro, 0, [(0, 2)], 1, 1, 0x0, 255, 0⟩]

/-- Parameters of area 4. -/
def catalogue4 : List Param := [
  ⟨0x40000000, "regions_valid", .u32, 4, .ro, 0, [(0, 1048576)], 1, 1, 0x0, 255, 0⟩,
  ⟨0x40000001, "desc_cache_hits", .u64, 8, .ro, 0, [(0, 18446744073709551615)], 1, 1, 0x0, 255, 6⟩,
  ⟨0x40000002, "desc_cache_misses", .u64, 8, .ro, 0, [(0, 18446744073709551615)], 1, 1, 0x0, 255, 6⟩,
  ⟨0x40000003, "access_violations", .u64, 8, .ro, 0, [(0, 18446744073709551615)], 1, 1, 0x0, 255, 6⟩,
  ⟨0x40000004, "violation_by_kind", .u64, 8, .ro, 0, [(0, 18446744073709551615)], 8, 1, 0x0, 255, 22⟩,
  ⟨0x40000005, "no_buffer_rnr_code", .u8, 1, .rw, 1, [(1, 31)], 1, 1, 0x7FE, 1, 0⟩,
  ⟨0x40000006, "revoke_drain_timeout_ms", .u16, 2, .rw, 100, [(1, 10000)], 1, 1, 0x7FE, 2, 0⟩,
  ⟨0x40010000, "region_register", .bytes, 32, .cmd, 0, [], 1, 1, 0x5E0, 1, 1⟩,
  ⟨0x40010001, "region_rekey", .u32, 4, .cmd, 0, [(0, 4294967295)], 1, 1, 0x5E0, 1, 0⟩,
  ⟨0x40010002, "region_deregister", .u32, 4, .cmd, 0, [(0, 4294967295)], 1, 1, 0x5E0, 1, 0⟩,
  ⟨0x40010003, "region_desc", .bytes, 64, .ro, 0, [], 1048576, 1, 0x0, 255, 16⟩,
  ⟨0x40020000, "pd_regions", .u32, 4, .ro, 0, [(0, 4294967295)], 65536, 1, 0x0, 255, 16⟩,
  ⟨0x40020001, "pd_qps", .u32, 4, .ro, 0, [(0, 4294967295)], 65536, 1, 0x0, 255, 16⟩,
  ⟨0x40100000, "pool_buf_size", .u32, 4, .ro, 0, [(0, 4294967295)], 1, 8, 0x0, 255, 32⟩,
  ⟨0x40100001, "pool_count", .u32, 4, .rwr, 0, [(0, 393216)], 1, 8, 0x7FE, 2, 32⟩,
  ⟨0x40100002, "pool_free", .u32, 4, .ro, 0, [(0, 4294967295)], 1, 8, 0x0, 255, 32⟩,
  ⟨0x40100003, "pool_low_water", .u32, 4, .ro, 0, [(0, 4294967295)], 1, 8, 0x0, 255, 32⟩,
  ⟨0x40100004, "pool_fallbacks", .u64, 8, .ro, 0, [(0, 18446744073709551615)], 1, 8, 0x0, 255, 38⟩,
  ⟨0x40100005, "pool_no_buffer", .u64, 8, .ro, 0, [(0, 18446744073709551615)], 1, 8, 0x0, 255, 38⟩,
  ⟨0x40100006, "pool_bad_frees", .u32, 4, .ro, 0, [(0, 4294967295)], 1, 8, 0x0, 255, 38⟩,
  ⟨0x40100007, "pool_bad_free_status", .bits32, 4, .rw, 0, [(0, 4294967295)], 1, 8, 0x7FE, 1, 42⟩]

/-- Parameters of area 5, part 1. -/
def catalogue5a : List Param := [
  ⟨0x50000000, "dirty_segments", .u32, 4, .ro, 0, [(0, 4294967295)], 1, 1, 0x0, 255, 0⟩,
  ⟨0x50000001, "device_dirty_segments", .u32, 4, .ro, 0, [(0, 4294967295)], 1, 1, 0x0, 255, 0⟩,
  ⟨0x50000002, "reserved_segments", .u32, 4, .ro, 0, [(0, 4294967295)], 1, 1, 0x0, 255, 0⟩,
  ⟨0x50000003, "budget_occupancy_pct", .u16, 2, .ro, 0, [(0, 65535)], 1, 1, 0x0, 255, 0⟩,
  ⟨0x50000004, "budget_rnr", .u64, 8, .ro, 0, [(0, 18446744073709551615)], 1, 1, 0x0, 255, 6⟩,
  ⟨0x50000005, "budget_exceeded", .u64, 8, .ro, 0, [(0, 18446744073709551615)], 1, 1, 0x0, 255, 6⟩,
  ⟨0x50100000, "hold_vmin_mv", .u32, 4, .rw, 24000, [(6000, 60000)], 1, 1, 0x7FE, 2, 0⟩,
  ⟨0x50100001, "hold_efficiency_pct", .u8, 1, .rw, 85, [(50, 98)], 1, 1, 0x7FE, 2, 0⟩,
  ⟨0x50100002, "save_power_w", .u16, 2, .rw, 900, [(100, 5000)], 1, 1, 0x7FE, 2, 0⟩,
  ⟨0x50100003, "save_margin_pct", .u16, 2, .rw, 150, [(120, 400)], 1, 1, 0x7FE, 2, 0⟩,
  ⟨0x50100004, "in_cap_mf", .u32, 4, .ro, 0, [(0, 4294967295)], 1, 1, 0x0, 255, 0⟩,
  ⟨0x50100005, "in_hold_mv", .u32, 4, .ro, 0, [(0, 4294967295)], 1, 1, 0x0, 255, 0⟩,
  ⟨0x50100006, "in_save_rate_mbps", .u32, 4, .ro, 56000, [(0, 4294967295)], 1, 1, 0x0, 255, 0⟩,
  ⟨0x50100007, "in_save_power_w", .u16, 2, .ro, 0, [(0, 65535)], 1, 1, 0x0, 255, 0⟩,
  ⟨0x50100008, "in_save_area_mib", .u32, 4, .ro, 0, [(0, 4294967295)], 1, 1, 0x0, 255, 0⟩,
  ⟨0x50100009, "budget_energy_gib", .s32, 4, .ro, 0, [(0, 4294967295)], 1, 1, 0x0, 255, 0⟩,
  ⟨0x5010000A, "budget_limit", .enum8, 1, .ro, 3, [(0, 3)], 1, 1, 0x0, 255, 0⟩,
  ⟨0x5010000B, "budget_area_gib", .s32, 4, .ro, 0, [(0, 4294967295)], 1, 1, 0x0, 255, 0⟩,
  ⟨0x50200000, "budget_permitted_gib", .u8, 1, .ro, 0, [(0, 96)], 1, 1, 0x0, 255, 0⟩,
  ⟨0x50200001, "budget_decreases", .u32, 4, .ro, 0, [(0, 4294967295)], 1, 1, 0x0, 255, 6⟩,
  ⟨0x50200002, "budget_raise_hold_s", .u16, 2, .rw, 10, [(1, 3600)], 1, 1, 0x7FE, 2, 0⟩,
  ⟨0x50200003, "save_reserve_mib", .u32, 4, .ro, 1280, [(0, 4294967295)], 1, 1, 0x0, 255, 0⟩,
  ⟨0x50200004, "dirty_budget_gib", .u8, 1, .rw, 32, [(1, 96)], 1, 1, 0x7FE, 2, 0⟩,
  ⟨0x50200005, "save_fixed_ms", .u16, 2, .ro, 5, [(0, 65535)], 1, 1, 0x0, 255, 0⟩,
  ⟨0x50300000, "drain_min_age_ms", .u32, 4, .rw, 1000, [(0, 600000)], 1, 1, 0x7FE, 1, 0⟩,
  ⟨0x50300001, "drain_urgent_pct", .u8, 1, .rw, 60, [(10, 100)], 1, 1, 0x7FE, 1, 0⟩,
  ⟨0x50300002, "device_drain_pct", .u8, 1, .rw, 75, [(25, 100)], 1, 1, 0x7FE, 1, 0⟩,
  ⟨0x50300003, "drain_segments", .u64, 8, .ro, 0, [(0, 18446744073709551615)], 1, 1, 0x0, 255, 6⟩,
  ⟨0x50300004, "drain_bytes_in", .u64, 8, .ro, 0, [(0, 18446744073709551615)], 1, 1, 0x0, 255, 6⟩,
  ⟨0x50300005, "drain_bytes_stored", .u64, 8, .ro, 0, [(0, 18446744073709551615)], 1, 1, 0x0, 255, 6⟩]

/-- Parameters of area 5, part 2. -/
def catalogue5b : List Param := [
  ⟨0x50300006, "drain_redirty", .u64, 8, .ro, 0, [(0, 18446744073709551615)], 1, 1, 0x0, 255, 6⟩,
  ⟨0x50300007, "drain_rate_mbps", .u32, 4, .ro, 0, [(0, 4294967295)], 1, 1, 0x0, 255, 0⟩,
  ⟨0x50300008, "drain_raw_segments", .u64, 8, .ro, 0, [(0, 18446744073709551615)], 1, 1, 0x0, 255, 6⟩,
  ⟨0x50400000, "save_slot_gib", .u16, 2, .rwr, 17, [(2, 85)], 1, 1, 0x400, 2, 0⟩,
  ⟨0x50400001, "save_seq", .u64, 8, .ro, 0, [(0, 18446744073709551615)], 1, 1, 0x0, 255, 4⟩,
  ⟨0x50400002, "save_rate_test", .u8, 1, .cmd, 0, [(0, 0)], 1, 1, 0x400, 2, 0⟩,
  ⟨0x50400004, "save_record", .bytes, 128, .ro, 0, [], 2, 1, 0x0, 255, 16⟩,
  ⟨0x50400005, "last_save_ms", .u32, 4, .ro, 0, [(0, 4294967295)], 1, 1, 0x0, 255, 0⟩,
  ⟨0x50400006, "last_restore_ms", .u32, 4, .ro, 0, [(0, 4294967295)], 1, 1, 0x0, 255, 0⟩,
  ⟨0x50400007, "restore_incomplete_segments", .u32, 4, .ro, 0, [(0, 4294967295)], 1, 1, 0x0, 255, 0⟩,
  ⟨0x50400008, "refill_pending_segments", .u32, 4, .ro, 0, [(0, 4294967295)], 1, 1, 0x0, 255, 0⟩,
  ⟨0x50400009, "refill_gbps", .u8, 1, .rw, 20, [(1, 60)], 1, 1, 0x7FE, 1, 0⟩,
  ⟨0x50500000, "regions_lost", .u32, 4, .ro, 0, [(0, 1048576)], 1, 1, 0x0, 255, 0⟩,
  ⟨0x50500001, "region_lost", .bool, 1, .ro, 0, [(0, 1)], 1048576, 1, 0x0, 255, 16⟩,
  ⟨0x50500002, "region_lost_clear", .u32, 4, .cmd, 0, [(0, 4294967295)], 1, 1, 0x4C0, 2, 0⟩,
  ⟨0x50600000, "awg_redo_mib", .u16, 2, .ro, 32, [(0, 65535)], 1, 1, 0x0, 255, 0⟩,
  ⟨0x50600001, "awg_commits", .u64, 8, .ro, 0, [(0, 18446744073709551615)], 1, 1, 0x0, 255, 6⟩,
  ⟨0x50600002, "awg_redo_full", .u64, 8, .ro, 0, [(0, 18446744073709551615)], 1, 1, 0x0, 255, 6⟩,
  ⟨0x50600003, "awg_recovered", .u32, 4, .ro, 0, [(0, 4294967295)], 1, 1, 0x0, 255, 0⟩,
  ⟨0x50600004, "awg_unrecoverable", .u32, 4, .ro, 0, [(0, 4294967295)], 1, 1, 0x0, 255, 6⟩,
  ⟨0x50600005, "awg_rate_limit_per_s", .u32, 4, .ro, 2000000, [(0, 4294967295)], 1, 1, 0x0, 255, 0⟩]

/-- Parameters of area 6, part 1. -/
def catalogue6a : List Param := [
  ⟨0x60000000, "twin_member", .u16, 2, .rwr, 65535, [(0, 4095), (65535, 65535)], 1, 1, 0x7FE, 2, 0⟩,
  ⟨0x60000001, "mpv_negotiated", .u16, 2, .ro, 0, [(0, 65535)], 1, 1, 0x0, 255, 0⟩,
  ⟨0x60000002, "caller_member", .u16, 2, .ro, 65535, [(0, 4095), (65535, 65535)], 1, 1, 0x0, 255, 0⟩,
  ⟨0x60000003, "lease_us", .u16, 2, .ro, 24, [(0, 65535)], 1, 1, 0x0, 255, 0⟩,
  ⟨0x60000004, "renew_us", .u16, 2, .ro, 6, [(0, 65535)], 1, 1, 0x0, 255, 0⟩,
  ⟨0x60000005, "lease_guard_ns", .u16, 2, .ro, 1000, [(0, 65535)], 1, 1, 0x0, 255, 0⟩,
  ⟨0x60000006, "budget_takeover_ns", .u32, 4, .ro, 0, [(0, 4294967295)], 1, 1, 0x0, 255, 0⟩,
  ⟨0x60000007, "budget_solo_ns", .u32, 4, .ro, 0, [(0, 4294967295)], 1, 1, 0x0, 255, 0⟩,
  ⟨0x60000008, "caller_rtt_ns", .u32, 4, .ro, 0, [(0, 4294967295)], 1, 1, 0x0, 255, 0⟩,
  ⟨0x60000009, "lease_budget_ok", .bool, 1, .ro, 0, [(0, 1)], 1, 1, 0x0, 255, 0⟩,
  ⟨0x6000000A, "mirror_ack_timeout_us", .u16, 2, .rw, 8, [(4, 30)], 1, 1, 0x7FE, 2, 0⟩,
  ⟨0x6000000B, "mirror_retx_us", .u16, 2, .rw, 2, [(1, 10)], 1, 1, 0x7FE, 2, 0⟩,
  ⟨0x6000000C, "mirror_credit_kib", .u32, 4, .rw, 2048, [(256, 16384)], 1, 1, 0x7FE, 1, 0⟩,
  ⟨0x6000000D, "resync_rate_gbps", .u8, 1, .rw, 40, [(1, 50)], 1, 1, 0x7FE, 1, 0⟩,
  ⟨0x6000000E, "echo_interval_ms", .u16, 2, .rw, 100, [(10, 10000)], 1, 1, 0x7FE, 1, 0⟩,
  ⟨0x6000000F, "lease_dscp", .u8, 1, .rw, 46, [(0, 63)], 1, 1, 0x7FE, 2, 0⟩,
  ⟨0x60000010, "rejoin_wait_ms", .u32, 4, .rw, 2000, [(100, 600000)], 1, 1, 0x7FE, 2, 0⟩,
  ⟨0x60000011, "caller_quiet_us", .u16, 2, .ro, 30, [(0, 65535)], 1, 1, 0x0, 255, 0⟩,
  ⟨0x60000012, "mirror_frames", .u64, 8, .ro, 0, [(0, 18446744073709551615)], 1, 1, 0x0, 255, 6⟩,
  ⟨0x60000013, "mirror_retx", .u64, 8, .ro, 0, [(0, 18446744073709551615)], 1, 1, 0x0, 255, 6⟩,
  ⟨0x60000014, "mnak_received", .u64, 8, .ro, 0, [(0, 18446744073709551615)], 1, 1, 0x0, 255, 6⟩,
  ⟨0x60000015, "mpv_refusals", .u32, 4, .ro, 0, [(0, 4294967295)], 1, 1, 0x0, 255, 6⟩,
  ⟨0x60000016, "pdd_malformed", .u64, 8, .ro, 0, [(0, 18446744073709551615)], 1, 1, 0x0, 255, 6⟩,
  ⟨0x60000017, "twin_reads", .u64, 8, .ro, 0, [(0, 18446744073709551615)], 1, 1, 0x0, 255, 6⟩,
  ⟨0x60000018, "caller_pairs", .u8, 1, .ro, 0, [(0, 64)], 1, 1, 0x0, 255, 0⟩,
  ⟨0x60000019, "caller_takeovers", .u32, 4, .ro, 0, [(0, 4294967295)], 1, 1, 0x0, 255, 6⟩,
  ⟨0x60010000, "group_pair", .u8, 1, .cmd, 0, [(0, 254)], 1, 1, 0x4E0, 2, 1⟩,
  ⟨0x60010001, "group_unpair", .u8, 1, .cmd, 0, [(0, 254)], 1, 1, 0x4E0, 2, 0⟩,
  ⟨0x60010002, "group_switchover", .u8, 1, .cmd, 0, [(0, 254)], 1, 1, 0x4E0, 1, 0⟩,
  ⟨0x60010003, "group_force_solo", .u8, 1, .cmd, 0, [(0, 254)], 1, 1, 0x480, 2, 0⟩]

/-- Parameters of area 6, part 2. -/
def catalogue6b : List Param := [
  ⟨0x60010004, "group_resync_full", .u8, 1, .cmd, 0, [(0, 254)], 1, 1, 0x4E0, 1, 0⟩,
  ⟨0x60100000, "tp_delay_ns", .u32, 4, .ro, 0, [(0, 4294967295)], 1, 2, 0x0, 255, 32⟩,
  ⟨0x60100001, "tp_hello_state", .enum8, 1, .ro, 0, [(0, 3)], 1, 2, 0x0, 255, 32⟩,
  ⟨0x60100002, "tp_window_kib", .u32, 4, .ro, 0, [(0, 4294967295)], 1, 2, 0x0, 255, 32⟩,
  ⟨0x60100003, "tp_groups", .u8, 1, .ro, 0, [(0, 255)], 1, 2, 0x0, 255, 32⟩,
  ⟨0x61000000, "grp_role", .enum8, 1, .ro, 3, [(0, 3)], 1, 255, 0x0, 255, 32⟩,
  ⟨0x61000001, "grp_paired", .bool, 1, .ro, 0, [(0, 1)], 1, 255, 0x0, 255, 32⟩,
  ⟨0x61000002, "grp_in_sync", .bool, 1, .ro, 0, [(0, 1)], 1, 255, 0x0, 255, 32⟩,
  ⟨0x61000003, "grp_epoch", .u32, 4, .ro, 0, [(0, 4294967295)], 1, 255, 0x0, 255, 32⟩,
  ⟨0x61000004, "grp_sync_epoch", .u32, 4, .ro, 0, [(0, 4294967295)], 1, 255, 0x0, 255, 32⟩,
  ⟨0x61000005, "grp_mirror_seq", .u64, 8, .ro, 0, [(0, 18446744073709551615)], 1, 255, 0x0, 255, 32⟩,
  ⟨0x61000006, "grp_acked_seq", .u64, 8, .ro, 0, [(0, 18446744073709551615)], 1, 255, 0x0, 255, 32⟩,
  ⟨0x61000007, "grp_credit_pct", .u8, 1, .ro, 0, [(0, 255)], 1, 255, 0x0, 255, 32⟩,
  ⟨0x61000008, "grp_divergent_segments", .u64, 8, .ro, 0, [(0, 18446744073709551615)], 1, 255, 0x0, 255, 32⟩,
  ⟨0x61000009, "grp_resync_remaining", .u64, 8, .ro, 0, [(0, 18446744073709551615)], 1, 255, 0x0, 255, 32⟩,
  ⟨0x6100000A, "grp_lease_remaining_ns", .u32, 4, .ro, 0, [(0, 4294967295)], 1, 255, 0x0, 255, 32⟩,
  ⟨0x6100000B, "grp_role_changes", .u32, 4, .ro, 0, [(0, 4294967295)], 1, 255, 0x0, 255, 38⟩]

/-- Parameters of area 7, part 1. -/
def catalogue7a : List Param := [
  ⟨0x70000000, "qp_max", .u32, 4, .rwr, 262144, [(1024, 262144)], 1, 1, 0x7FE, 2, 0⟩,
  ⟨0x70000001, "plaintext_allowed", .bool, 1, .rw, 0, [(0, 1)], 1, 1, 0x7FE, 2, 0⟩,
  ⟨0x70000002, "rnr_code", .u8, 1, .rw, 1, [(1, 31)], 1, 1, 0x7FE, 1, 0⟩,
  ⟨0x70000003, "wait_rnr_code", .u8, 1, .rw, 1, [(1, 31)], 1, 1, 0x7FE, 1, 0⟩,
  ⟨0x70000004, "wait_timeout_ms", .u32, 4, .rw, 1000, [(1, 60000)], 1, 1, 0x7FE, 1, 0⟩,
  ⟨0x70000005, "violation_to_error", .bool, 1, .rw, 0, [(0, 1)], 1, 1, 0x7FE, 1, 0⟩,
  ⟨0x70000006, "inherit_window_ms", .u32, 4, .rw, 10000, [(0, 600000)], 1, 1, 0x7FE, 1, 0⟩,
  ⟨0x70000007, "qp_close_timeout_ms", .u16, 2, .rw, 100, [(1, 10000)], 1, 1, 0x7FE, 1, 0⟩,
  ⟨0x70000008, "transport_area_bytes", .u64, 8, .ro, 8740929536, [(0, 18446744073709551615)], 1, 1, 0x0, 255, 0⟩,
  ⟨0x70000010, "rx_unknown_qp", .u64, 8, .ro, 0, [(0, 18446744073709551615)], 1, 1, 0x0, 255, 6⟩,
  ⟨0x70000011, "rx_bad_icrc", .u64, 8, .ro, 0, [(0, 18446744073709551615)], 1, 1, 0x0, 255, 6⟩,
  ⟨0x70000012, "rx_esp_icv_fail", .u64, 8, .ro, 0, [(0, 18446744073709551615)], 1, 1, 0x0, 255, 6⟩,
  ⟨0x70000013, "rx_esp_replay", .u64, 8, .ro, 0, [(0, 18446744073709551615)], 1, 1, 0x0, 255, 6⟩,
  ⟨0x70000014, "rx_malformed", .u64, 8, .ro, 0, [(0, 18446744073709551615)], 1, 1, 0x0, 255, 6⟩,
  ⟨0x70000015, "dup_reacked", .u64, 8, .ro, 0, [(0, 18446744073709551615)], 1, 1, 0x0, 255, 6⟩,
  ⟨0x70000016, "old_duplicates", .u64, 8, .ro, 0, [(0, 18446744073709551615)], 1, 1, 0x0, 255, 6⟩,
  ⟨0x70000017, "rnr_naks", .u64, 8, .ro, 0, [(0, 18446744073709551615)], 1, 1, 0x0, 255, 6⟩,
  ⟨0x70000018, "seq_naks", .u64, 8, .ro, 0, [(0, 18446744073709551615)], 1, 1, 0x0, 255, 6⟩,
  ⟨0x70000019, "qcc_hits", .u64, 8, .ro, 0, [(0, 18446744073709551615)], 1, 1, 0x0, 255, 6⟩,
  ⟨0x7000001A, "qcc_misses", .u64, 8, .ro, 0, [(0, 18446744073709551615)], 1, 1, 0x0, 255, 6⟩,
  ⟨0x7000001B, "qcc_all_pinned", .u64, 8, .ro, 0, [(0, 18446744073709551615)], 1, 1, 0x0, 255, 6⟩,
  ⟨0x7000001C, "hxv_refusals", .u32, 4, .ro, 0, [(0, 4294967295)], 1, 1, 0x0, 255, 6⟩,
  ⟨0x7000001D, "inherit_matches", .u64, 8, .ro, 0, [(0, 18446744073709551615)], 1, 1, 0x0, 255, 6⟩,
  ⟨0x7000001E, "qps_ready", .u32, 4, .ro, 0, [(0, 262144)], 1, 1, 0x0, 255, 0⟩,
  ⟨0x7000001F, "qps_error", .u32, 4, .ro, 0, [(0, 262144)], 1, 1, 0x0, 255, 0⟩,
  ⟨0x70010000, "qp_create", .bytes, 512, .cmd, 0, [], 1, 1, 0x4E0, 1, 0⟩,
  ⟨0x70010001, "qp_destroy", .u32, 4, .cmd, 0, [(0, 4294967295)], 1, 1, 0x5E0, 1, 0⟩,
  ⟨0x70010002, "qp_force_error", .u32, 4, .cmd, 0, [(0, 4294967295)], 1, 1, 0x5E0, 1, 0⟩,
  ⟨0x70010003, "qp_context", .bytes, 512, .ro, 0, [], 262144, 1, 0x0, 255, 16⟩,
  ⟨0x70010004, "cq_create", .bytes, 64, .cmd, 0, [], 1, 1, 0x4E0, 1, 0⟩]

/-- Parameters of area 7, part 2. -/
def catalogue7b : List Param := [
  ⟨0x70010005, "cq_destroy", .u32, 4, .cmd, 0, [(0, 4294967295)], 1, 1, 0x5E0, 1, 0⟩,
  ⟨0x70010006, "cq_context", .bytes, 64, .ro, 0, [], 262144, 1, 0x0, 255, 16⟩,
  ⟨0x70010007, "qp_lowest_free", .u32, 4, .ro, 0, [(0, 262144)], 1, 1, 0x0, 255, 0⟩,
  ⟨0x70010008, "cq_lowest_free", .u32, 4, .ro, 0, [(0, 262144)], 1, 1, 0x0, 255, 0⟩,
  ⟨0x70100000, "port_link_up", .bool, 1, .ro, 0, [(0, 1)], 1, 6, 0x0, 255, 32⟩,
  ⟨0x70100001, "port_mac_addr", .bytes, 6, .ro, 0, [], 1, 4, 0x0, 255, 32⟩,
  ⟨0x70100002, "port_ipv4_addr", .bytes, 4, .rwr, 0, [], 1, 4, 0x7FE, 2, 32⟩,
  ⟨0x70100003, "port_ipv6_addr", .bytes, 16, .rwr, 0, [], 1, 4, 0x7FE, 2, 32⟩,
  ⟨0x70100004, "port_fec_corrected", .u64, 8, .ro, 0, [(0, 18446744073709551615)], 1, 6, 0x0, 255, 38⟩,
  ⟨0x70100005, "port_fec_uncorrected", .u64, 8, .ro, 0, [(0, 18446744073709551615)], 1, 6, 0x0, 255, 38⟩,
  ⟨0x70100006, "port_rx_frames", .u64, 8, .ro, 0, [(0, 18446744073709551615)], 1, 6, 0x0, 255, 38⟩,
  ⟨0x70100007, "port_rx_dropped", .u64, 8, .ro, 0, [(0, 18446744073709551615)], 1, 6, 0x0, 255, 38⟩,
  ⟨0x70100008, "port_link_downs", .u32, 4, .ro, 0, [(0, 4294967295)], 1, 6, 0x0, 255, 38⟩]

/-- Parameters of area 8. -/
def catalogue8 : List Param := [
  ⟨0x80000000, "ecn_enable", .bool, 1, .rw, 1, [(0, 1)], 1, 1, 0x7FE, 2, 0⟩,
  ⟨0x80000001, "cnp_interval_us", .u16, 2, .rw, 20, [(1, 1000)], 1, 1, 0x7FE, 1, 0⟩,
  ⟨0x80000002, "cnp_dscp", .u8, 1, .rw, 48, [(0, 63)], 1, 1, 0x7FE, 1, 0⟩,
  ⟨0x80000003, "mark_low_pct", .u8, 1, .rw, 75, [(10, 95)], 1, 1, 0x7FE, 2, 0⟩,
  ⟨0x80000004, "mark_high_pct", .u8, 1, .rw, 90, [(11, 99)], 1, 1, 0x7FE, 2, 0⟩,
  ⟨0x80000005, "mark_ramp_max_pct", .u8, 1, .rw, 10, [(0, 100)], 1, 1, 0x7FE, 2, 0⟩,
  ⟨0x80000006, "wreg_sat_pct", .u8, 1, .rw, 50, [(1, 100)], 1, 1, 0x7FE, 1, 0⟩,
  ⟨0x80000007, "wreg_mark_pct", .u8, 1, .rw, 5, [(0, 100)], 1, 1, 0x7FE, 1, 0⟩,
  ⟨0x80000008, "mirror_mark_pct", .u8, 1, .rw, 75, [(10, 100)], 1, 1, 0x7FE, 1, 0⟩,
  ⟨0x80000009, "fwd_backlog_mark_kib", .u32, 4, .rw, 512, [(64, 16384)], 1, 1, 0x7FE, 1, 0⟩,
  ⟨0x80000010, "cnp_sent", .u64, 8, .ro, 0, [(0, 18446744073709551615)], 1, 1, 0x0, 255, 6⟩,
  ⟨0x80000011, "cnp_suppressed", .u64, 8, .ro, 0, [(0, 18446744073709551615)], 1, 1, 0x0, 255, 6⟩,
  ⟨0x80000012, "ce_received", .u64, 8, .ro, 0, [(0, 18446744073709551615)], 1, 1, 0x0, 255, 6⟩,
  ⟨0x80000013, "endpoint_marks", .u64, 8, .ro, 0, [(0, 18446744073709551615)], 1, 1, 0x0, 255, 6⟩,
  ⟨0x80000014, "mark_fraction_pct", .u8, 1, .ro, 0, [(0, 100)], 1, 1, 0x0, 255, 0⟩,
  ⟨0x80010000, "gov_enable", .bool, 1, .rw, 1, [(0, 1)], 1, 1, 0x7FE, 2, 0⟩,
  ⟨0x80010001, "gov_cut_pct", .u8, 1, .rw, 75, [(50, 95)], 1, 1, 0x7FE, 1, 0⟩,
  ⟨0x80010002, "gov_cut_hold_us", .u16, 2, .rw, 20, [(1, 1000)], 1, 1, 0x7FE, 1, 0⟩,
  ⟨0x80010003, "gov_step_us", .u16, 2, .rw, 50, [(5, 10000)], 1, 1, 0x7FE, 1, 0⟩,
  ⟨0x80010004, "gov_ai_mbps", .u32, 4, .rw, 5000, [(100, 100000)], 1, 1, 0x7FE, 1, 0⟩,
  ⟨0x80010005, "gov_rate_min_mbps", .u32, 4, .rw, 1000, [(100, 100000)], 1, 1, 0x7FE, 1, 0⟩,
  ⟨0x80010010, "cnp_received", .u64, 8, .ro, 0, [(0, 18446744073709551615)], 1, 1, 0x0, 255, 6⟩,
  ⟨0x80010011, "gov_cuts", .u64, 8, .ro, 0, [(0, 18446744073709551615)], 1, 1, 0x0, 255, 6⟩,
  ⟨0x80020000, "pfc_enable", .bool, 1, .rwr, 0, [(0, 1)], 1, 1, 0x7FE, 2, 0⟩,
  ⟨0x80020001, "pfc_priority", .u8, 1, .rwr, 3, [(0, 7)], 1, 1, 0x7FE, 2, 0⟩,
  ⟨0x80020002, "pfc_xoff_kib", .u16, 2, .rw, 384, [(64, 1024)], 1, 1, 0x7FE, 2, 0⟩,
  ⟨0x80020003, "pfc_xon_kib", .u16, 2, .rw, 256, [(32, 992)], 1, 1, 0x7FE, 2, 0⟩,
  ⟨0x80020004, "pfc_watchdog_ms", .u16, 2, .rw, 100, [(10, 10000)], 1, 1, 0x7FE, 2, 0⟩,
  ⟨0x80020010, "pfc_frames_sent", .u64, 8, .ro, 0, [(0, 18446744073709551615)], 1, 1, 0x0, 255, 6⟩,
  ⟨0x80020011, "pfc_watchdog_trips", .u32, 4, .ro, 0, [(0, 4294967295)], 1, 1, 0x0, 255, 6⟩]

/-- Parameters of area 9, part 1. -/
def catalogue9a : List Param := [
  ⟨0x90000000, "tier_dram_gib", .u32, 4, .rwr, 0, [(0, 0), (128, 4096)], 1, 1, 0x7FE, 2, 0⟩,
  ⟨0x90000001, "tier_shared_frames", .u32, 4, .ro, 0, [(0, 4294967295)], 1, 1, 0x0, 255, 0⟩,
  ⟨0x90000002, "tier_window_frames", .u32, 4, .ro, 0, [(0, 4294967295)], 1, 1, 0x0, 255, 0⟩,
  ⟨0x90000003, "tier_free_frames", .u32, 4, .ro, 0, [(0, 4294967295)], 1, 1, 0x0, 255, 0⟩,
  ⟨0x90000004, "cache_free_low_pct", .u8, 1, .rw, 2, [(1, 50)], 1, 1, 0x7FE, 1, 0⟩,
  ⟨0x90000005, "cache_free_high_pct", .u8, 1, .rw, 4, [(2, 60)], 1, 1, 0x7FE, 1, 0⟩,
  ⟨0x90000006, "tier_no_frame", .u64, 8, .ro, 0, [(0, 18446744073709551615)], 1, 1, 0x0, 255, 6⟩,
  ⟨0x90010000, "read_deadline_us", .u16, 2, .rw, 200, [(0, 65535)], 1, 1, 0x7FE, 1, 0⟩,
  ⟨0x90010001, "fallback_rate_limit_per_s", .u32, 4, .rw, 100000, [(0, 1000000)], 1, 1, 0x7FE, 1, 0⟩,
  ⟨0x90010002, "fallbacks", .u64, 8, .ro, 0, [(0, 18446744073709551615)], 1, 1, 0x0, 255, 6⟩,
  ⟨0x90010003, "fallback_wins", .u64, 8, .ro, 0, [(0, 18446744073709551615)], 1, 1, 0x0, 255, 6⟩,
  ⟨0x90010004, "fallback_limited", .u64, 8, .ro, 0, [(0, 18446744073709551615)], 1, 1, 0x0, 255, 6⟩,
  ⟨0x90020000, "promotions", .u64, 8, .ro, 0, [(0, 18446744073709551615)], 1, 1, 0x0, 255, 6⟩,
  ⟨0x90020001, "promote_bytes_flash", .u64, 8, .ro, 0, [(0, 18446744073709551615)], 1, 1, 0x0, 255, 6⟩,
  ⟨0x90020002, "evictions", .u64, 8, .ro, 0, [(0, 18446744073709551615)], 1, 1, 0x0, 255, 6⟩,
  ⟨0x90020003, "evict_deferred", .u64, 8, .ro, 0, [(0, 18446744073709551615)], 1, 1, 0x0, 255, 6⟩,
  ⟨0x90020004, "evict_cancelled", .u64, 8, .ro, 0, [(0, 18446744073709551615)], 1, 1, 0x0, 255, 6⟩,
  ⟨0x90020005, "prefetches", .u64, 8, .ro, 0, [(0, 18446744073709551615)], 1, 1, 0x0, 255, 6⟩,
  ⟨0x90020006, "prefetch_hits", .u64, 8, .ro, 0, [(0, 18446744073709551615)], 1, 1, 0x0, 255, 6⟩,
  ⟨0x90020007, "standby_merges", .u64, 8, .ro, 0, [(0, 18446744073709551615)], 1, 1, 0x0, 255, 6⟩,
  ⟨0x90030000, "cmp_skip_after", .u16, 2, .rw, 64, [(0, 4096)], 1, 1, 0x7FE, 1, 0⟩,
  ⟨0x90030001, "cmp_skip_count", .u16, 2, .rw, 1024, [(1, 65535)], 1, 1, 0x7FE, 1, 0⟩,
  ⟨0x90030002, "cmp_skipped", .u64, 8, .ro, 0, [(0, 18446744073709551615)], 1, 1, 0x0, 255, 6⟩,
  ⟨0x90040000, "recovery_records_max", .u16, 2, .ro, 1024, [(0, 65535)], 1, 1, 0x0, 255, 0⟩,
  ⟨0x90040001, "recoveries", .u64, 8, .ro, 0, [(0, 18446744073709551615)], 1, 1, 0x0, 255, 6⟩,
  ⟨0x90040002, "recovered_parity", .u64, 8, .ro, 0, [(0, 18446744073709551615)], 1, 1, 0x0, 255, 6⟩,
  ⟨0x90040003, "recovered_twin", .u64, 8, .ro, 0, [(0, 18446744073709551615)], 1, 1, 0x0, 255, 6⟩,
  ⟨0x90040004, "poisoned_segments", .u32, 4, .ro, 0, [(0, 4294967295)], 1, 1, 0x0, 255, 0⟩,
  ⟨0x90040005, "tier_poison_clear", .bytes, 12, .cmd, 0, [], 1, 1, 0x4E0, 2, 0⟩,
  ⟨0x90050000, "tier_capacity_gib", .u32, 4, .ro, 0, [(0, 4294967295)], 1, 1, 0x0, 255, 0⟩]

/-- Parameters of area 9, part 2. -/
def catalogue9b : List Param := [
  ⟨0x90050001, "tier_provisioned_gib", .u32, 4, .ro, 0, [(0, 4294967295)], 1, 1, 0x0, 255, 0⟩,
  ⟨0x90050002, "tier_provision_pct", .u16, 2, .rw, 100, [(100, 400)], 1, 1, 0x7FE, 2, 0⟩,
  ⟨0x90050003, "tier_stored_gib", .u32, 4, .ro, 0, [(0, 4294967295)], 1, 1, 0x0, 255, 0⟩,
  ⟨0x90050004, "tier_overcommit", .bool, 1, .ro, 0, [(0, 1)], 1, 1, 0x0, 255, 0⟩,
  ⟨0x90060000, "tier_evict", .bytes, 12, .cmd, 0, [], 1, 1, 0x4E0, 1, 0⟩]

/-- Parameters of area A, part 1. -/
def catalogueAa : List Param := [
  ⟨0xA0000000, "member_id", .u16, 2, .ro, 65535, [(0, 4095), (65535, 65535)], 1, 1, 0x0, 255, 0⟩,
  ⟨0xA0000001, "member_id_pref", .u16, 2, .rwr, 65535, [(0, 4095), (65535, 65535)], 1, 1, 0x7FE, 2, 0⟩,
  ⟨0xA0000002, "member_state", .enum8, 1, .ro, 0, [(0, 3)], 1, 1, 0x0, 255, 0⟩,
  ⟨0xA0000003, "member_id_bound", .bool, 1, .ro, 0, [(0, 1)], 1, 1, 0x0, 255, 0⟩,
  ⟨0xA0000004, "member_id_release", .u8, 1, .cmd, 0, [(0, 0)], 1, 1, 0x4C0, 2, 0⟩,
  ⟨0xA0000005, "fpv_refusals", .u32, 4, .ro, 0, [(0, 4294967295)], 1, 1, 0x0, 255, 6⟩,
  ⟨0xA0000006, "fabric_udp_port", .u16, 2, .rwr, 7413, [(1024, 65535)], 1, 1, 0x7FE, 2, 0⟩,
  ⟨0xA0000007, "hello_interval_ms", .u16, 2, .rw, 100, [(10, 1000)], 1, 1, 0x7FE, 2, 0⟩,
  ⟨0xA0000008, "adjacencies", .u8, 1, .ro, 0, [(0, 64)], 1, 1, 0x0, 255, 0⟩,
  ⟨0xA0000009, "adjacency_state", .enum8, 1, .ro, 0, [(0, 5)], 64, 1, 0x0, 255, 16⟩,
  ⟨0xA000000A, "fabric_rx_dropped", .u64, 8, .ro, 0, [(0, 18446744073709551615)], 1, 1, 0x0, 255, 6⟩,
  ⟨0xA0010000, "route_max_hops", .u8, 1, .rw, 6, [(1, 14)], 1, 1, 0x7FE, 2, 0⟩,
  ⟨0xA0010001, "route_update_ms", .u16, 2, .rw, 1000, [(100, 10000)], 1, 1, 0x7FE, 2, 0⟩,
  ⟨0xA0010002, "route_holddown_ms", .u16, 2, .rw, 3000, [(0, 60000)], 1, 1, 0x7FE, 2, 0⟩,
  ⟨0xA0010003, "members_reachable", .u16, 2, .ro, 1, [(1, 4096)], 1, 1, 0x0, 255, 0⟩,
  ⟨0xA0010004, "route", .u64, 8, .ro, 0, [(0, 18446744073709551615)], 4096, 1, 0x0, 255, 16⟩,
  ⟨0xA0010005, "relay_packets", .u64, 8, .ro, 0, [(0, 18446744073709551615)], 1, 1, 0x0, 255, 6⟩,
  ⟨0xA0010006, "relay_dropped_hops", .u64, 8, .ro, 0, [(0, 18446744073709551615)], 1, 1, 0x0, 255, 6⟩,
  ⟨0xA0020000, "fabric_qp_slots", .u16, 2, .rwr, 512, [(64, 4096)], 1, 1, 0x7FE, 2, 0⟩,
  ⟨0xA0020001, "fabric_retry_count", .u8, 1, .rw, 7, [(1, 7)], 1, 1, 0x7FE, 2, 0⟩,
  ⟨0xA0020002, "fabric_ack_timeout_us", .u32, 4, .rw, 500, [(50, 1000000)], 1, 1, 0x7FE, 2, 0⟩,
  ⟨0xA0020003, "fabric_qp_idle_s", .u16, 2, .rw, 60, [(1, 3600)], 1, 1, 0x7FE, 1, 0⟩,
  ⟨0xA0020004, "forwarded_requests", .u64, 8, .ro, 0, [(0, 18446744073709551615)], 1, 1, 0x0, 255, 6⟩,
  ⟨0xA0020005, "fabric_qps_open", .u16, 2, .ro, 0, [(0, 65535)], 1, 1, 0x0, 255, 0⟩,
  ⟨0xA0020006, "fabric_data_dscp", .u8, 1, .rw, 26, [(0, 63)], 1, 1, 0x7FE, 2, 0⟩,
  ⟨0xA0030000, "caller_lost_ms", .u16, 2, .rw, 50, [(5, 10000)], 1, 1, 0x7FE, 2, 0⟩,
  ⟨0xA0030001, "caller_enable", .bool, 1, .rw, 1, [(0, 1)], 1, 1, 0x7FE, 2, 0⟩,
  ⟨0xA0030002, "caller_designations", .u32, 4, .ro, 0, [(0, 4294967295)], 1, 1, 0x0, 255, 6⟩,
  ⟨0xA0040000, "fabric_config_epoch", .u64, 8, .rw, 0, [(0, 18446744073709551615)], 1, 1, 0x7FE, 2, 0⟩,
  ⟨0xA0040001, "fabric_digest", .bytes, 32, .ro, 0, [], 1, 1, 0x0, 255, 0⟩]

/-- Parameters of area A, part 2. -/
def catalogueAb : List Param := [
  ⟨0xA0040002, "cfg_agree_members", .u16, 2, .ro, 1, [(1, 4096)], 1, 1, 0x0, 255, 0⟩,
  ⟨0xA0040003, "cfg_disagree_members", .u16, 2, .ro, 0, [(0, 4095)], 1, 1, 0x0, 255, 0⟩,
  ⟨0xA0040004, "cfg_disagree_map", .bytes, 512, .ro, 0, [], 1, 1, 0x0, 255, 0⟩,
  ⟨0xA0040005, "fabric_name", .str, 32, .rw, 0, [], 1, 1, 0x7FE, 2, 0⟩,
  ⟨0xA0050000, "ptp_enable", .bool, 1, .rwr, 0, [(0, 1)], 1, 1, 0x7FE, 2, 0⟩,
  ⟨0xA0050001, "ptp_domain", .u8, 1, .rwr, 0, [(0, 127)], 1, 1, 0x7FE, 2, 0⟩,
  ⟨0xA0050002, "ptp_priority1", .u8, 1, .rw, 128, [(0, 255)], 1, 1, 0x7FE, 1, 0⟩,
  ⟨0xA0050003, "ptp_state", .enum8, 1, .ro, 0, [(0, 3)], 1, 1, 0x0, 255, 0⟩,
  ⟨0xA0050004, "ptp_offset_ns", .s64, 8, .ro, 0, [(0, 18446744073709551615)], 1, 1, 0x0, 255, 0⟩,
  ⟨0xA0050005, "ptp_time_ns", .u64, 8, .ro, 0, [(0, 18446744073709551615)], 1, 1, 0x0, 255, 0⟩]

/-- Parameters of area B, part 1. -/
def catalogueBa : List Param := [
  ⟨0xB0000000, "dram_speed_mts", .u16, 2, .ro, 0, [(0, 0), (4800, 4800), (6400, 6400)], 1, 1, 0x0, 255, 0⟩,
  ⟨0xB0000001, "dram_dpc", .u8, 1, .ro, 0, [(0, 2)], 1, 1, 0x0, 255, 0⟩,
  ⟨0xB0000002, "dram_channels", .u8, 1, .ro, 0, [(0, 0), (8, 8), (16, 16)], 1, 1, 0x0, 255, 0⟩,
  ⟨0xB0000003, "dram_bytes", .u64, 8, .ro, 0, [(0, 18446744073709551615)], 1, 1, 0x0, 255, 0⟩,
  ⟨0xB0000004, "dram_sets", .u8, 1, .ro, 0, [(0, 4)], 1, 1, 0x0, 255, 0⟩,
  ⟨0xB0000005, "dram_train_state", .enum8, 1, .ro, 0, [(0, 4)], 1, 1, 0x0, 255, 0⟩,
  ⟨0xB0000006, "dram_retrain", .u16, 2, .cmd, 0, [(0, 65535)], 1, 1, 0x400, 2, 0⟩,
  ⟨0xB0000007, "scrub_period_h", .u16, 2, .rw, 24, [(1, 168)], 1, 1, 0x7FE, 1, 0⟩,
  ⟨0xB0000008, "scrub_progress_pct", .u8, 1, .ro, 0, [(0, 100)], 1, 1, 0x0, 255, 0⟩,
  ⟨0xB0000009, "scrub_passes", .u32, 4, .ro, 0, [(0, 4294967295)], 1, 1, 0x0, 255, 6⟩,
  ⟨0xB000000A, "retire_ce_threshold", .u16, 2, .rw, 16, [(1, 1000)], 1, 1, 0x7FE, 2, 0⟩,
  ⟨0xB000000B, "retire_enable", .bool, 1, .rw, 1, [(0, 1)], 1, 1, 0x7FE, 2, 0⟩,
  ⟨0xB000000C, "pages_retired", .u32, 4, .ro, 0, [(0, 4294967295)], 1, 1, 0x0, 255, 6⟩,
  ⟨0xB000000D, "ppr_pending", .u16, 2, .ro, 0, [(0, 65535)], 1, 1, 0x0, 255, 0⟩,
  ⟨0xB000000E, "ppr_done", .u32, 4, .ro, 0, [(0, 4294967295)], 1, 1, 0x0, 255, 6⟩,
  ⟨0xB000000F, "ue_total", .u64, 8, .ro, 0, [(0, 18446744073709551615)], 1, 1, 0x0, 255, 6⟩,
  ⟨0xB0000010, "ppr_per_train", .u8, 1, .rw, 2, [(0, 16)], 1, 1, 0x7FE, 2, 0⟩,
  ⟨0xB0000011, "poisoned_lines", .u32, 4, .ro, 0, [(0, 4294967295)], 1, 1, 0x0, 255, 0⟩,
  ⟨0xB0000012, "line_repairs", .u64, 8, .ro, 0, [(0, 18446744073709551615)], 1, 1, 0x0, 255, 6⟩,
  ⟨0xB0000013, "ca_retry_limit", .u8, 1, .rw, 3, [(1, 8)], 1, 1, 0x7FE, 2, 0⟩,
  ⟨0xB0000014, "ca_replays", .u64, 8, .ro, 0, [(0, 18446744073709551615)], 1, 1, 0x0, 255, 6⟩,
  ⟨0xB0000015, "page_retire", .u64, 8, .cmd, 0, [(0, 18446744073709551615)], 1, 1, 0x4E0, 2, 0⟩,
  ⟨0xB0000016, "retire_impossible", .u32, 4, .ro, 0, [(0, 4294967295)], 1, 1, 0x0, 255, 6⟩,
  ⟨0xB0000017, "ue_fence_count", .u16, 2, .rw, 16, [(2, 1024)], 1, 1, 0x7FE, 2, 0⟩,
  ⟨0xB0000018, "mc_fence", .bits32, 4, .rw, 0, [(0, 4294967295)], 1, 1, 0x400, 2, 0⟩,
  ⟨0xB0100000, "mc_state", .enum8, 1, .ro, 0, [(0, 3)], 1, 16, 0x0, 255, 32⟩,
  ⟨0xB0100001, "mc_spd", .bytes, 1024, .ro, 0, [], 2, 16, 0x0, 255, 48⟩,
  ⟨0xB0100002, "mc_capacity_gib", .u16, 2, .ro, 0, [(0, 65535)], 1, 16, 0x0, 255, 32⟩,
  ⟨0xB0100003, "mc_ce", .u64, 8, .ro, 0, [(0, 18446744073709551615)], 1, 16, 0x0, 255, 38⟩,
  ⟨0xB0100004, "mc_ue", .u64, 8, .ro, 0, [(0, 18446744073709551615)], 1, 16, 0x0, 255, 38⟩]

/-- Parameters of area B, part 2. -/
def catalogueBb : List Param := [
  ⟨0xB0100005, "mc_remap_used", .u16, 2, .ro, 0, [(0, 16384)], 1, 16, 0x0, 255, 32⟩,
  ⟨0xB0100006, "mc_temp_c", .u8, 1, .ro, 0, [(0, 255)], 1, 16, 0x0, 255, 32⟩,
  ⟨0xB0100007, "mc_err_status", .bits32, 4, .rw, 0, [(0, 4294967295)], 1, 16, 0x7FE, 1, 42⟩,
  ⟨0xB0100008, "mc_first_err_loc", .u64, 8, .ro, 0, [(0, 18446744073709551615)], 1, 16, 0x0, 255, 32⟩,
  ⟨0xB0100009, "mc_train_margin_ps", .u16, 2, .ro, 0, [(0, 65535)], 1, 16, 0x0, 255, 32⟩,
  ⟨0xB0300000, "rq_rate_gbps", .u16, 2, .rw, 0, [(1, 819)], 1, 12, 0x7FE, 2, 32⟩,
  ⟨0xB0300001, "rq_burst_kib", .u16, 2, .rw, 256, [(4, 4096)], 1, 12, 0x7FE, 2, 32⟩,
  ⟨0xB0300002, "rq_bytes", .u64, 8, .ro, 0, [(0, 18446744073709551615)], 1, 12, 0x0, 255, 38⟩,
  ⟨0xB0300003, "rq_empty_pct", .u8, 1, .ro, 0, [(0, 100)], 1, 12, 0x0, 255, 32⟩]

/-- Parameters of area C, part 1. -/
def catalogueCa : List Param := [
  ⟨0xC0000000, "carriers_ready", .u8, 1, .ro, 0, [(0, 8)], 1, 1, 0x0, 255, 0⟩,
  ⟨0xC0000001, "stripe_width", .u8, 1, .ro, 0, [(0, 32)], 1, 1, 0x0, 255, 0⟩,
  ⟨0xC0000002, "deep_usable_gib", .u32, 4, .ro, 0, [(0, 4294967295)], 1, 1, 0x0, 255, 0⟩,
  ⟨0xC0000003, "deep_stored_gib", .u32, 4, .ro, 0, [(0, 4294967295)], 1, 1, 0x0, 255, 0⟩,
  ⟨0xC0000004, "write_amp_milli", .u32, 4, .ro, 0, [(0, 4294967295)], 1, 1, 0x0, 255, 0⟩,
  ⟨0xC0000005, "save_area_low", .bool, 1, .ro, 1, [(0, 1)], 1, 1, 0x0, 255, 0⟩,
  ⟨0xC0000006, "exposed_segments", .u32, 4, .ro, 0, [(0, 4294967295)], 1, 1, 0x0, 255, 0⟩,
  ⟨0xC0000007, "spare_pct", .u8, 1, .rw, 3, [(1, 20)], 1, 1, 0x7FE, 2, 0⟩,
  ⟨0xC0000008, "verify_interval", .u16, 2, .rw, 8, [(1, 256)], 1, 1, 0x7FE, 1, 0⟩,
  ⟨0xC0000009, "verify_max_bits", .u16, 2, .rw, 96, [(8, 400)], 1, 1, 0x7FE, 2, 0⟩,
  ⟨0xC000000A, "gc_free_low_pct", .u8, 1, .rw, 5, [(2, 30)], 1, 1, 0x7FE, 2, 0⟩,
  ⟨0xC000000B, "wear_spread_max", .u16, 2, .rw, 500, [(50, 10000)], 1, 1, 0x7FE, 1, 0⟩,
  ⟨0xC000000C, "read_disturb_limit", .u32, 4, .rw, 200000, [(10000, 10000000)], 1, 1, 0x7FE, 1, 0⟩,
  ⟨0xC000000D, "flash_patrol_days", .u16, 2, .rw, 30, [(1, 365)], 1, 1, 0x7FE, 1, 0⟩,
  ⟨0xC000000E, "relocate_retry_level", .u8, 1, .rw, 8, [(1, 64)], 1, 1, 0x7FE, 1, 0⟩,
  ⟨0xC000000F, "erase_suspend_max", .u8, 1, .ro, 16, [(0, 255)], 1, 1, 0x0, 255, 0⟩,
  ⟨0xC0000010, "erase_suspend_total_ms", .u16, 2, .ro, 20, [(0, 65535)], 1, 1, 0x0, 255, 0⟩,
  ⟨0xC0000011, "prog_suspend_max", .u8, 1, .ro, 4, [(0, 255)], 1, 1, 0x0, 255, 0⟩,
  ⟨0xC0000012, "prog_suspend_total_us", .u16, 2, .ro, 1000, [(0, 65535)], 1, 1, 0x0, 255, 0⟩,
  ⟨0xC0000013, "units_rebuilt", .u64, 8, .ro, 0, [(0, 18446744073709551615)], 1, 1, 0x0, 255, 6⟩,
  ⟨0xC0000014, "units_unrecovered", .u64, 8, .ro, 0, [(0, 18446744073709551615)], 1, 1, 0x0, 255, 6⟩,
  ⟨0xC0000015, "map_corruptions", .u32, 4, .ro, 0, [(0, 4294967295)], 1, 1, 0x0, 255, 6⟩,
  ⟨0xC0000016, "program_rejects", .u32, 4, .ro, 0, [(0, 4294967295)], 1, 1, 0x0, 255, 6⟩,
  ⟨0xC0000017, "suspend_forced", .u64, 8, .ro, 0, [(0, 18446744073709551615)], 1, 1, 0x0, 255, 6⟩,
  ⟨0xC0000018, "raw_read", .bytes, 16, .cmd, 0, [], 1, 1, 0x4E0, 2, 1⟩,
  ⟨0xC0000019, "deep_map_lookup", .u32, 4, .cmd, 0, [(0, 4294967295)], 1, 1, 0x4E0, 1, 1⟩,
  ⟨0xC0100000, "car_state", .enum8, 1, .ro, 0, [(0, 9)], 1, 8, 0x0, 255, 32⟩,
  ⟨0xC0100001, "car_refuse_reason", .enum8, 1, .ro, 0, [(0, 6)], 1, 8, 0x0, 255, 32⟩,
  ⟨0xC0100002, "car_option_area", .bytes, 192, .ro, 0, [], 1, 8, 0x0, 255, 32⟩,
  ⟨0xC0100003, "car_civ", .u16, 2, .ro, 0, [(0, 65535)], 1, 8, 0x0, 255, 32⟩]

/-- Parameters of area C, part 2. -/
def catalogueCb : List Param := [
  ⟨0xC0100004, "car_raw_gib", .u32, 4, .ro, 0, [(0, 32768)], 1, 8, 0x0, 255, 32⟩,
  ⟨0xC0100005, "car_spare_blocks", .u32, 4, .ro, 0, [(0, 4294967295)], 1, 8, 0x0, 255, 32⟩,
  ⟨0xC0100006, "car_retired_blocks", .u32, 4, .ro, 0, [(0, 4294967295)], 1, 8, 0x0, 255, 32⟩,
  ⟨0xC0100007, "car_wear_pct", .u16, 2, .ro, 0, [(0, 65535)], 1, 8, 0x0, 255, 32⟩,
  ⟨0xC0100008, "car_max_pe", .u32, 4, .ro, 0, [(0, 4294967295)], 1, 8, 0x0, 255, 32⟩,
  ⟨0xC0100009, "car_slot_usable_mib", .u32, 4, .ro, 0, [(0, 4294967295)], 2, 8, 0x0, 255, 48⟩,
  ⟨0xC010000A, "car_channels_fenced", .bits32, 4, .ro, 0, [(0, 4294967295)], 1, 8, 0x0, 255, 32⟩,
  ⟨0xC010000B, "car_err_status", .bits32, 4, .rw, 0, [(0, 4294967295)], 1, 8, 0x7FE, 1, 42⟩,
  ⟨0xC010000C, "car_bytes_programmed", .u64, 8, .ro, 0, [(0, 18446744073709551615)], 1, 8, 0x0, 255, 36⟩,
  ⟨0xC010000D, "carrier_format", .u8, 1, .cmd, 0, [(0, 0)], 1, 8, 0x400, 2, 32⟩,
  ⟨0xC010000E, "carrier_detach", .u8, 1, .cmd, 0, [(0, 0)], 1, 8, 0x400, 2, 32⟩]

/-- Parameters of area D. -/
def catalogueD : List Param := [
  ⟨0xD0000000, "lc_state", .enum8, 1, .ro, 0, [(0, 4)], 1, 1, 0x0, 255, 0⟩,
  ⟨0xD0000001, "lc_transition", .bytes, 8, .cmd, 0, [], 1, 1, 0xC00, 2, 0⟩,
  ⟨0xD0000002, "lc_wipe_progress_pct", .u8, 1, .ro, 0, [(0, 100)], 1, 1, 0x0, 255, 0⟩,
  ⟨0xD0000003, "lc_transitions", .u16, 2, .ro, 0, [(0, 65535)], 1, 1, 0x0, 255, 4⟩,
  ⟨0xD0000004, "kill_fused", .bool, 1, .ro, 0, [(0, 1)], 1, 1, 0x0, 255, 0⟩,
  ⟨0xD0010000, "sa_wrap_key", .key, 32, .wo, 0, [], 1, 1, 0x7FE, 2, 0⟩,
  ⟨0xD0010001, "fabric_key", .key, 32, .wo, 0, [], 2, 1, 0x7FE, 2, 16⟩,
  ⟨0xD0010002, "fabric_key_tx", .u8, 1, .rw, 0, [(0, 1)], 1, 1, 0x7FE, 2, 0⟩,
  ⟨0xD0010003, "twin_sak", .key, 44, .wo, 0, [], 4, 1, 0x7FE, 2, 16⟩,
  ⟨0xD0010004, "twin_tx_an", .u8, 1, .rw, 0, [(0, 1)], 2, 1, 0x7FE, 2, 16⟩,
  ⟨0xD0020000, "device_pubkey", .bytes, 97, .ro, 0, [], 1, 1, 0x0, 255, 0⟩,
  ⟨0xD0020001, "device_cert", .bytes, 1024, .rw, 0, [], 2, 1, 0x7FE, 2, 16⟩,
  ⟨0xD0020002, "device_cert_len", .u16, 2, .rw, 0, [(0, 2048)], 1, 1, 0x7FE, 2, 0⟩,
  ⟨0xD0020003, "trust_anchor", .bytes, 120, .rw, 0, [], 16, 1, 0x7FE, 2, 16⟩,
  ⟨0xD0020004, "trust_anchor_level", .enum8, 1, .rw, 0, [(0, 3)], 16, 1, 0x7FE, 2, 16⟩,
  ⟨0xD0020005, "cert_deny", .bytes, 32, .rw, 0, [], 256, 1, 0x7FE, 2, 16⟩,
  ⟨0xD0030000, "fw_update_chunk", .bytes, 1024, .cmd, 0, [], 1, 1, 0x402, 2, 0⟩,
  ⟨0xD0030001, "fw_update_commit", .u8, 1, .cmd, 0, [(0, 0)], 1, 1, 0x402, 2, 0⟩,
  ⟨0xD0030002, "fw_rollback_commit", .u8, 1, .cmd, 0, [(0, 0)], 1, 1, 0x400, 2, 0⟩,
  ⟨0xD0030003, "fw_min_security", .u8, 1, .ro, 0, [(0, 64)], 1, 1, 0x0, 255, 0⟩,
  ⟨0xD0030004, "fw_slot_state", .enum8, 1, .ro, 0, [(0, 3)], 2, 1, 0x0, 255, 16⟩,
  ⟨0xD0030005, "boot_failures", .u32, 4, .ro, 0, [(0, 4294967295)], 1, 1, 0x0, 255, 4⟩,
  ⟨0xD0040000, "entropy_failures", .u32, 4, .ro, 0, [(0, 4294967295)], 1, 1, 0x0, 255, 4⟩]

/-- Parameters of area E. -/
def catalogueE : List Param := [
  ⟨0xE0000000, "faults_ce", .u64, 8, .ro, 0, [(0, 18446744073709551615)], 1, 1, 0x0, 255, 6⟩,
  ⟨0xE0000001, "faults_ucc", .u64, 8, .ro, 0, [(0, 18446744073709551615)], 1, 1, 0x0, 255, 6⟩,
  ⟨0xE0000002, "faults_ftl", .u32, 4, .ro, 0, [(0, 4294967295)], 1, 1, 0x0, 255, 6⟩,
  ⟨0xE0000003, "blocks_captured", .u16, 2, .ro, 0, [(0, 65535)], 1, 1, 0x0, 255, 0⟩,
  ⟨0xE0000004, "last_fatal", .bytes, 32, .ro, 0, [], 1, 1, 0x0, 255, 0⟩,
  ⟨0xE0000005, "fences_in_force", .u16, 2, .ro, 0, [(0, 65535)], 1, 1, 0x0, 255, 0⟩,
  ⟨0xE0000006, "fault_counters_reset", .u8, 1, .cmd, 0, [(0, 0)], 1, 1, 0x7FE, 2, 0⟩,
  ⟨0xE0010000, "sticky_counts", .bytes, 64, .ro, 0, [], 0, 1, 0x0, 255, 16⟩,
  ⟨0xE0020000, "evt_min_severity", .enum8, 1, .rw, 1, [(0, 7)], 1, 1, 0x7FE, 1, 0⟩,
  ⟨0xE0020001, "evt_rate_per_s", .u16, 2, .rw, 10, [(1, 1000)], 1, 1, 0x7FE, 2, 0⟩,
  ⟨0xE0020002, "evt_burst", .u16, 2, .rw, 100, [(1, 10000)], 1, 1, 0x7FE, 2, 0⟩,
  ⟨0xE0020003, "evt_limit_override", .u32, 4, .rw, 0, [(0, 4294967295)], 64, 1, 0x7FE, 2, 16⟩,
  ⟨0xE0020004, "evt_last_seq", .u64, 8, .ro, 0, [(0, 18446744073709551615)], 1, 1, 0x0, 255, 0⟩,
  ⟨0xE0020005, "evt_records_valid", .u32, 4, .ro, 0, [(0, 1048576)], 1, 1, 0x0, 255, 0⟩,
  ⟨0xE0020006, "evt_priv_records", .u32, 4, .ro, 0, [(0, 4294967295)], 1, 1, 0x0, 255, 0⟩,
  ⟨0xE0020007, "evt_dropped", .u64, 8, .ro, 0, [(0, 18446744073709551615)], 1, 1, 0x0, 255, 6⟩,
  ⟨0xE0020008, "evt_suppressed", .u64, 8, .ro, 0, [(0, 18446744073709551615)], 1, 1, 0x0, 255, 6⟩,
  ⟨0xE0020009, "evt_torn", .u64, 8, .ro, 0, [(0, 18446744073709551615)], 1, 1, 0x0, 255, 6⟩,
  ⟨0xE002000A, "evt_fetch", .bytes, 12, .cmd, 0, [], 1, 1, 0x7FE, 1, 0⟩,
  ⟨0xE002000B, "evt_write_limit_per_s", .u32, 4, .ro, 200000, [(0, 4294967295)], 1, 1, 0x0, 255, 0⟩,
  ⟨0xE002000C, "operating_hours", .u32, 4, .ro, 0, [(0, 1048575)], 1, 1, 0x0, 255, 0⟩,
  ⟨0xE002000D, "power_cycles", .u32, 4, .ro, 0, [(0, 16777215)], 1, 1, 0x0, 255, 0⟩,
  ⟨0xE4000000, "blk_fault_status", .bits32, 4, .rw, 0, [(0, 4294967295)], 1, 2592, 0x7FE, 1, 42⟩,
  ⟨0xE4000001, "blk_fault_state", .enum8, 1, .ro, 0, [(0, 1)], 1, 2592, 0x0, 255, 32⟩,
  ⟨0xE4000002, "blk_first_error", .bytes, 32, .ro, 0, [], 1, 2592, 0x0, 255, 32⟩,
  ⟨0xE4000003, "blk_faults", .u64, 8, .ro, 0, [(0, 18446744073709551615)], 1, 2592, 0x0, 255, 38⟩]

/-- Parameters of area F. -/
def catalogueF : List Param := [
  ⟨0xF0000000, "tj_c", .s32, 4, .ro, 0, [(0, 4294967295)], 8, 1, 0x0, 255, 16⟩,
  ⟨0xF0000001, "tj_max_c", .s32, 4, .ro, 0, [(0, 4294967295)], 1, 1, 0x0, 255, 0⟩,
  ⟨0xF0000002, "tj_peak_c", .s32, 4, .ro, 0, [(0, 4294967295)], 1, 1, 0x0, 255, 2⟩,
  ⟨0xF0000003, "tj_life_avg_c", .s32, 4, .ro, 0, [(0, 4294967295)], 1, 1, 0x0, 255, 0⟩,
  ⟨0xF0000004, "tj_hours_above_95", .u32, 4, .ro, 0, [(0, 4294967295)], 1, 1, 0x0, 255, 0⟩,
  ⟨0xF0000005, "thermtrip_events", .u32, 4, .ro, 0, [(0, 4294967295)], 1, 1, 0x0, 255, 4⟩]

/-- The catalogue of an area, in ascending order of number. -/
def areaCatalogue : Nat → List Param
  | 0 => catalogue0
  | 1 => catalogue1a ++ catalogue1b
  | 2 => catalogue2a ++ catalogue2b
  | 3 => catalogue3
  | 4 => catalogue4
  | 5 => catalogue5a ++ catalogue5b
  | 6 => catalogue6a ++ catalogue6b
  | 7 => catalogue7a ++ catalogue7b
  | 8 => catalogue8
  | 9 => catalogue9a ++ catalogue9b
  | 10 => catalogueAa ++ catalogueAb
  | 11 => catalogueBa ++ catalogueBb
  | 12 => catalogueCa ++ catalogueCb
  | 13 => catalogueD
  | 14 => catalogueE
  | 15 => catalogueF
  | _ => []

/-- The whole catalogue, in ascending order of number. -/
def catalogue : List Param := (List.range 16).flatMap areaCatalogue

/-- Defaults that differ between instances (Tables 3.10 and 11.7). -/
def instanceDefaults : List (Nat × Nat) := [
  (0xB0300000, 300), (0xB0310000, 400), (0xB0320000, 20), (0xB0330000, 60),
  (0xB0340000, 120), (0xB0350000, 120), (0xB0360000, 80), (0xB0370000, 100),
  (0xB0380000, 100), (0xB0390000, 20), (0xB03A0000, 20), (0xB03B0000, 10),
  (0xB0300001, 256), (0xB0310001, 256), (0xB0320001, 64), (0xB0330001, 256),
  (0xB0340001, 256), (0xB0350001, 512), (0xB0360001, 512), (0xB0370001, 256),
  (0xB0380001, 256), (0xB0390001, 64), (0xB03A0001, 64), (0xB03B0001, 64),
  (0x40100001, 32768), (0x40110001, 8192), (0x40120001, 8192), (0x40130001, 640),
  (0x40140001, 4096), (0x40150001, 1024), (0x40160001, 512), (0x40170001, 64),
  (0x40100000, 256), (0x40110000, 2048), (0x40120000, 4096), (0x40130000, 65536),
  (0x40140000, 65536), (0x40150000, 262144), (0x40160000, 1048576), (0x40170000, 4194304)]

end Sys2Proof.Machine
end

