-- ==== Sys2Proof/Machine/Params.lean ====
section
/-!
DEFINITION. Parameter numbers of the object dictionary (R9, R40), by the names of the spec. A per-instance parameter is named
by the number of its first instance.
-/

namespace Sys2Proof.Machine.P

abbrev device_part : Nat := 0x00000000
abbrev device_stepping : Nat := 0x00000001
abbrev serial_number : Nat := 0x00000002
abbrev device_uid : Nat := 0x00000003
abbrev mgt_mac_addr : Nat := 0x00000004
abbrev manufacture_date : Nat := 0x00000005
abbrev fw_active_slot : Nat := 0x00010000
abbrev fw_version : Nat := 0x00010001
abbrev fw_image_digest : Nat := 0x00010002
abbrev rom_version : Nat := 0x00010003
abbrev hxv_current : Nat := 0x00020000
abbrev hxv_previous : Nat := 0x00020001
abbrev mpv_current : Nat := 0x00020002
abbrev mpv_previous : Nat := 0x00020003
abbrev fpv_current : Nat := 0x00020004
abbrev fpv_previous : Nat := 0x00020005
abbrev dsv_current : Nat := 0x00020006
abbrev dsv_previous : Nat := 0x00020007
abbrev civ_current : Nat := 0x00020008
abbrev civ_previous : Nat := 0x00020009
abbrev mgt_ipv4_addr : Nat := 0x10000000
abbrev mgt_ipv4_prefix : Nat := 0x10000001
abbrev mgt_ipv4_gateway : Nat := 0x10000002
abbrev mgt_ipv6_addr : Nat := 0x10000003
abbrev mgt_ipv6_prefix : Nat := 0x10000004
abbrev mgt_ipv6_gateway : Nat := 0x10000005
abbrev mgt_udp_port : Nat := 0x10000006
abbrev mgt_vlan_id : Nat := 0x10000007
abbrev mgt_apply : Nat := 0x10000008
abbrev session_max : Nat := 0x10010000
abbrev session_idle_timeout_s : Nat := 0x10010001
abbrev handshake_rate_per_s : Nat := 0x10010002
abbrev handshake_timeout_ms : Nat := 0x10010003
abbrev sessions_open : Nat := 0x10010004
abbrev handshakes_refused : Nat := 0x10010005
abbrev version_refusals : Nat := 0x10010006
abbrev subs_per_session_max : Nat := 0x10010007
abbrev notify_min_interval_ms : Nat := 0x10010008
abbrev session_close_all : Nat := 0x10010009
abbrev window_enable : Nat := 0x1001000A
abbrev session_revalidate : Nat := 0x1001000B
abbrev mgt_discards : Nat := 0x1001000C
abbrev sess_state : Nat := 0x11000000
abbrev sess_level : Nat := 0x11000001
abbrev sess_peer_addr : Nat := 0x11000002
abbrev sess_peer_port : Nat := 0x11000003
abbrev sess_cert_digest : Nat := 0x11000004
abbrev sess_dsv : Nat := 0x11000005
abbrev sess_age_s : Nat := 0x11000006
abbrev sess_requests : Nat := 0x11000007
abbrev sess_subscriptions : Nat := 0x11000008
abbrev sess_notify_seq : Nat := 0x11000009
abbrev sess_close : Nat := 0x1100000A
abbrev sess_dropped : Nat := 0x1100000B
abbrev mode_ : Nat := 0x20000000
abbrev mode_request : Nat := 0x20000001
abbrev power_on : Nat := 0x20000002
abbrev power_off : Nat := 0x20000003
abbrev auto_on : Nat := 0x20000004
abbrev fatal_restart : Nat := 0x20000005
abbrev fatal_restart_max : Nat := 0x20000006
abbrev min_off_ms : Nat := 0x20000007
abbrev quiesce_timeout_s : Nat := 0x20000008
abbrev degraded_causes : Nat := 0x20000009
abbrev last_off_trigger : Nat := 0x2000000A
abbrev mode_changes : Nat := 0x2000000B
abbrev fatal_stops : Nat := 0x2000000C
abbrev unsaved_pending : Nat := 0x2000000D
abbrev feed_uv_mv : Nat := 0x20010000
abbrev feed_ok_mv : Nat := 0x20010001
abbrev feed_ov_mv : Nat := 0x20010002
abbrev feed_confirm_us : Nat := 0x20010003
abbrev feed_settle_ms : Nat := 0x20010004
abbrev feeds_present : Nat := 0x20010005
abbrev feed_losses : Nat := 0x20010006
abbrev hold_mv : Nat := 0x20010007
abbrev hold_ma : Nat := 0x20010008
abbrev power_mw : Nat := 0x20010009
abbrev cap_test : Nat := 0x20020000
abbrev cap_test_interval_h : Nat := 0x20020001
abbrev cap_test_drop_mv : Nat := 0x20020002
abbrev cap_test_max_ms : Nat := 0x20020003
abbrev cap_mf : Nat := 0x20020004
abbrev cap_first_mf : Nat := 0x20020005
abbrev cap_result_hours : Nat := 0x20020006
abbrev cap_tests_deferred : Nat := 0x20020007
abbrev cap_tests_failed : Nat := 0x20020008
abbrev sns_ratio_milli : Nat := 0x20030000
abbrev sns_value : Nat := 0x20030001
abbrev rail_state : Nat := 0x20040000
abbrev rail_mv : Nat := 0x20040001
abbrev rail_ma : Nat := 0x20040002
abbrev rail_fault_us : Nat := 0x20040003
abbrev rail_ramp_timeout_ms : Nat := 0x20040004
abbrev rail_settle_us : Nat := 0x20040005
abbrev rail_failures : Nat := 0x20040006
abbrev ramp_failures : Nat := 0x20040007
abbrev pmbus_rail : Nat := 0x20050000
abbrev pmbus_state : Nat := 0x20050001
abbrev pmbus_status_word : Nat := 0x20050002
abbrev pmbus_poll_ms : Nat := 0x20050003
abbrev pmbus_errors : Nat := 0x20050004
abbrev pmbus_alerts : Nat := 0x20050005
abbrev power_log : Nat := 0x20060000
abbrev power_log_next : Nat := 0x20060001
abbrev refclk_ok : Nat := 0x30000000
abbrev root_locked : Nat := 0x30000001
abbrev ethref_ppm : Nat := 0x30000002
abbrev clk_mc_div : Nat := 0x30000003
abbrev clk_status : Nat := 0x30000004
abbrev domain_gated : Nat := 0x30010000
abbrev domain_fenced : Nat := 0x30010001
abbrev domain_freq_khz : Nat := 0x30010002
abbrev domain_clock_faults : Nat := 0x30010003
abbrev domain_resets : Nat := 0x30010004
abbrev reset_cause : Nat := 0x30020000
abbrev cold_start_ms : Nat := 0x30020001
abbrev core_start_ms : Nat := 0x30020002
abbrev core_restart : Nat := 0x30020003
abbrev port_reset : Nat := 0x30020004
abbrev sys_rst_events : Nat := 0x30020005
abbrev lgm_option_state : Nat := 0x30020006
abbrev regions_valid : Nat := 0x40000000
abbrev desc_cache_hits : Nat := 0x40000001
abbrev desc_cache_misses : Nat := 0x40000002
abbrev access_violations : Nat := 0x40000003
abbrev violation_by_kind : Nat := 0x40000004
abbrev no_buffer_rnr_code : Nat := 0x40000005
abbrev revoke_drain_timeout_ms : Nat := 0x40000006
abbrev region_register : Nat := 0x40010000
abbrev region_rekey : Nat := 0x40010001
abbrev region_deregister : Nat := 0x40010002
abbrev region_desc : Nat := 0x40010003
abbrev pd_regions : Nat := 0x40020000
abbrev pd_qps : Nat := 0x40020001
abbrev pool_buf_size : Nat := 0x40100000
abbrev pool_count : Nat := 0x40100001
abbrev pool_free : Nat := 0x40100002
abbrev pool_low_water : Nat := 0x40100003
abbrev pool_fallbacks : Nat := 0x40100004
abbrev pool_no_buffer : Nat := 0x40100005
abbrev pool_bad_frees : Nat := 0x40100006
abbrev pool_bad_free_status : Nat := 0x40100007
abbrev dirty_segments : Nat := 0x50000000
abbrev device_dirty_segments : Nat := 0x50000001
abbrev reserved_segments : Nat := 0x50000002
abbrev budget_occupancy_pct : Nat := 0x50000003
abbrev budget_rnr : Nat := 0x50000004
abbrev budget_exceeded : Nat := 0x50000005
abbrev hold_vmin_mv : Nat := 0x50100000
abbrev hold_efficiency_pct : Nat := 0x50100001
abbrev save_power_w : Nat := 0x50100002
abbrev save_margin_pct : Nat := 0x50100003
abbrev in_cap_mf : Nat := 0x50100004
abbrev in_hold_mv : Nat := 0x50100005
abbrev in_save_rate_mbps : Nat := 0x50100006
abbrev in_save_power_w : Nat := 0x50100007
abbrev in_save_area_mib : Nat := 0x50100008
abbrev budget_energy_gib : Nat := 0x50100009
abbrev budget_limit : Nat := 0x5010000A
abbrev budget_area_gib : Nat := 0x5010000B
abbrev budget_permitted_gib : Nat := 0x50200000
abbrev budget_decreases : Nat := 0x50200001
abbrev budget_raise_hold_s : Nat := 0x50200002
abbrev save_reserve_mib : Nat := 0x50200003
abbrev dirty_budget_gib : Nat := 0x50200004
abbrev save_fixed_ms : Nat := 0x50200005
abbrev drain_min_age_ms : Nat := 0x50300000
abbrev drain_urgent_pct : Nat := 0x50300001
abbrev device_drain_pct : Nat := 0x50300002
abbrev drain_segments : Nat := 0x50300003
abbrev drain_bytes_in : Nat := 0x50300004
abbrev drain_bytes_stored : Nat := 0x50300005
abbrev drain_redirty : Nat := 0x50300006
abbrev drain_rate_mbps : Nat := 0x50300007
abbrev drain_raw_segments : Nat := 0x50300008
abbrev save_slot_gib : Nat := 0x50400000
abbrev save_seq : Nat := 0x50400001
abbrev save_rate_test : Nat := 0x50400002
abbrev save_record : Nat := 0x50400004
abbrev last_save_ms : Nat := 0x50400005
abbrev last_restore_ms : Nat := 0x50400006
abbrev restore_incomplete_segments : Nat := 0x50400007
abbrev refill_pending_segments : Nat := 0x50400008
abbrev refill_gbps : Nat := 0x50400009
abbrev regions_lost : Nat := 0x50500000
abbrev region_lost : Nat := 0x50500001
abbrev region_lost_clear : Nat := 0x50500002
abbrev awg_redo_mib : Nat := 0x50600000
abbrev awg_commits : Nat := 0x50600001
abbrev awg_redo_full : Nat := 0x50600002
abbrev awg_recovered : Nat := 0x50600003
abbrev awg_unrecoverable : Nat := 0x50600004
abbrev awg_rate_limit_per_s : Nat := 0x50600005
abbrev twin_member : Nat := 0x60000000
abbrev mpv_negotiated : Nat := 0x60000001
abbrev caller_member : Nat := 0x60000002
abbrev lease_us : Nat := 0x60000003
abbrev renew_us : Nat := 0x60000004
abbrev lease_guard_ns : Nat := 0x60000005
abbrev budget_takeover_ns : Nat := 0x60000006
abbrev budget_solo_ns : Nat := 0x60000007
abbrev caller_rtt_ns : Nat := 0x60000008
abbrev lease_budget_ok : Nat := 0x60000009
abbrev mirror_ack_timeout_us : Nat := 0x6000000A
abbrev mirror_retx_us : Nat := 0x6000000B
abbrev mirror_credit_kib : Nat := 0x6000000C
abbrev resync_rate_gbps : Nat := 0x6000000D
abbrev echo_interval_ms : Nat := 0x6000000E
abbrev lease_dscp : Nat := 0x6000000F
abbrev rejoin_wait_ms : Nat := 0x60000010
abbrev caller_quiet_us : Nat := 0x60000011
abbrev mirror_frames : Nat := 0x60000012
abbrev mirror_retx : Nat := 0x60000013
abbrev mnak_received : Nat := 0x60000014
abbrev mpv_refusals : Nat := 0x60000015
abbrev pdd_malformed : Nat := 0x60000016
abbrev twin_reads : Nat := 0x60000017
abbrev caller_pairs : Nat := 0x60000018
abbrev caller_takeovers : Nat := 0x60000019
abbrev group_pair : Nat := 0x60010000
abbrev group_unpair : Nat := 0x60010001
abbrev group_switchover : Nat := 0x60010002
abbrev group_force_solo : Nat := 0x60010003
abbrev group_resync_full : Nat := 0x60010004
abbrev tp_delay_ns : Nat := 0x60100000
abbrev tp_hello_state : Nat := 0x60100001
abbrev tp_window_kib : Nat := 0x60100002
abbrev tp_groups : Nat := 0x60100003
abbrev grp_role : Nat := 0x61000000
abbrev grp_paired : Nat := 0x61000001
abbrev grp_in_sync : Nat := 0x61000002
abbrev grp_epoch : Nat := 0x61000003
abbrev grp_sync_epoch : Nat := 0x61000004
abbrev grp_mirror_seq : Nat := 0x61000005
abbrev grp_acked_seq : Nat := 0x61000006
abbrev grp_credit_pct : Nat := 0x61000007
abbrev grp_divergent_segments : Nat := 0x61000008
abbrev grp_resync_remaining : Nat := 0x61000009
abbrev grp_lease_remaining_ns : Nat := 0x6100000A
abbrev grp_role_changes : Nat := 0x6100000B
abbrev qp_max : Nat := 0x70000000
abbrev plaintext_allowed : Nat := 0x70000001
abbrev rnr_code : Nat := 0x70000002
abbrev wait_rnr_code : Nat := 0x70000003
abbrev wait_timeout_ms : Nat := 0x70000004
abbrev violation_to_error : Nat := 0x70000005
abbrev inherit_window_ms : Nat := 0x70000006
abbrev qp_close_timeout_ms : Nat := 0x70000007
abbrev transport_area_bytes : Nat := 0x70000008
abbrev rx_unknown_qp : Nat := 0x70000010
abbrev rx_bad_icrc : Nat := 0x70000011
abbrev rx_esp_icv_fail : Nat := 0x70000012
abbrev rx_esp_replay : Nat := 0x70000013
abbrev rx_malformed : Nat := 0x70000014
abbrev dup_reacked : Nat := 0x70000015
abbrev old_duplicates : Nat := 0x70000016
abbrev rnr_naks : Nat := 0x70000017
abbrev seq_naks : Nat := 0x70000018
abbrev qcc_hits : Nat := 0x70000019
abbrev qcc_misses : Nat := 0x7000001A
abbrev qcc_all_pinned : Nat := 0x7000001B
abbrev hxv_refusals : Nat := 0x7000001C
abbrev inherit_matches : Nat := 0x7000001D
abbrev qps_ready : Nat := 0x7000001E
abbrev qps_error : Nat := 0x7000001F
abbrev qp_create : Nat := 0x70010000
abbrev qp_destroy : Nat := 0x70010001
abbrev qp_force_error : Nat := 0x70010002
abbrev qp_context : Nat := 0x70010003
abbrev cq_create : Nat := 0x70010004
abbrev cq_destroy : Nat := 0x70010005
abbrev cq_context : Nat := 0x70010006
abbrev qp_lowest_free : Nat := 0x70010007
abbrev cq_lowest_free : Nat := 0x70010008
abbrev port_link_up : Nat := 0x70100000
abbrev port_mac_addr : Nat := 0x70100001
abbrev port_ipv4_addr : Nat := 0x70100002
abbrev port_ipv6_addr : Nat := 0x70100003
abbrev port_fec_corrected : Nat := 0x70100004
abbrev port_fec_uncorrected : Nat := 0x70100005
abbrev port_rx_frames : Nat := 0x70100006
abbrev port_rx_dropped : Nat := 0x70100007
abbrev port_link_downs : Nat := 0x70100008
abbrev ecn_enable : Nat := 0x80000000
abbrev cnp_interval_us : Nat := 0x80000001
abbrev cnp_dscp : Nat := 0x80000002
abbrev mark_low_pct : Nat := 0x80000003
abbrev mark_high_pct : Nat := 0x80000004
abbrev mark_ramp_max_pct : Nat := 0x80000005
abbrev wreg_sat_pct : Nat := 0x80000006
abbrev wreg_mark_pct : Nat := 0x80000007
abbrev mirror_mark_pct : Nat := 0x80000008
abbrev fwd_backlog_mark_kib : Nat := 0x80000009
abbrev cnp_sent : Nat := 0x80000010
abbrev cnp_suppressed : Nat := 0x80000011
abbrev ce_received : Nat := 0x80000012
abbrev endpoint_marks : Nat := 0x80000013
abbrev mark_fraction_pct : Nat := 0x80000014
abbrev gov_enable : Nat := 0x80010000
abbrev gov_cut_pct : Nat := 0x80010001
abbrev gov_cut_hold_us : Nat := 0x80010002
abbrev gov_step_us : Nat := 0x80010003
abbrev gov_ai_mbps : Nat := 0x80010004
abbrev gov_rate_min_mbps : Nat := 0x80010005
abbrev cnp_received : Nat := 0x80010010
abbrev gov_cuts : Nat := 0x80010011
abbrev pfc_enable : Nat := 0x80020000
abbrev pfc_priority : Nat := 0x80020001
abbrev pfc_xoff_kib : Nat := 0x80020002
abbrev pfc_xon_kib : Nat := 0x80020003
abbrev pfc_watchdog_ms : Nat := 0x80020004
abbrev pfc_frames_sent : Nat := 0x80020010
abbrev pfc_watchdog_trips : Nat := 0x80020011
abbrev tier_dram_gib : Nat := 0x90000000
abbrev tier_shared_frames : Nat := 0x90000001
abbrev tier_window_frames : Nat := 0x90000002
abbrev tier_free_frames : Nat := 0x90000003
abbrev cache_free_low_pct : Nat := 0x90000004
abbrev cache_free_high_pct : Nat := 0x90000005
abbrev tier_no_frame : Nat := 0x90000006
abbrev read_deadline_us : Nat := 0x90010000
abbrev fallback_rate_limit_per_s : Nat := 0x90010001
abbrev fallbacks : Nat := 0x90010002
abbrev fallback_wins : Nat := 0x90010003
abbrev fallback_limited : Nat := 0x90010004
abbrev promotions : Nat := 0x90020000
abbrev promote_bytes_flash : Nat := 0x90020001
abbrev evictions : Nat := 0x90020002
abbrev evict_deferred : Nat := 0x90020003
abbrev evict_cancelled : Nat := 0x90020004
abbrev prefetches : Nat := 0x90020005
abbrev prefetch_hits : Nat := 0x90020006
abbrev standby_merges : Nat := 0x90020007
abbrev cmp_skip_after : Nat := 0x90030000
abbrev cmp_skip_count : Nat := 0x90030001
abbrev cmp_skipped : Nat := 0x90030002
abbrev recovery_records_max : Nat := 0x90040000
abbrev recoveries : Nat := 0x90040001
abbrev recovered_parity : Nat := 0x90040002
abbrev recovered_twin : Nat := 0x90040003
abbrev poisoned_segments : Nat := 0x90040004
abbrev tier_poison_clear : Nat := 0x90040005
abbrev tier_capacity_gib : Nat := 0x90050000
abbrev tier_provisioned_gib : Nat := 0x90050001
abbrev tier_provision_pct : Nat := 0x90050002
abbrev tier_stored_gib : Nat := 0x90050003
abbrev tier_overcommit : Nat := 0x90050004
abbrev tier_evict : Nat := 0x90060000
abbrev member_id : Nat := 0xA0000000
abbrev member_id_pref : Nat := 0xA0000001
abbrev member_state : Nat := 0xA0000002
abbrev member_id_bound : Nat := 0xA0000003
abbrev member_id_release : Nat := 0xA0000004
abbrev fpv_refusals : Nat := 0xA0000005
abbrev fabric_udp_port : Nat := 0xA0000006
abbrev hello_interval_ms : Nat := 0xA0000007
abbrev adjacencies : Nat := 0xA0000008
abbrev adjacency_state : Nat := 0xA0000009
abbrev fabric_rx_dropped : Nat := 0xA000000A
abbrev route_max_hops : Nat := 0xA0010000
abbrev route_update_ms : Nat := 0xA0010001
abbrev route_holddown_ms : Nat := 0xA0010002
abbrev members_reachable : Nat := 0xA0010003
abbrev route_ : Nat := 0xA0010004
abbrev relay_packets : Nat := 0xA0010005
abbrev relay_dropped_hops : Nat := 0xA0010006
abbrev fabric_qp_slots : Nat := 0xA0020000
abbrev fabric_retry_count : Nat := 0xA0020001
abbrev fabric_ack_timeout_us : Nat := 0xA0020002
abbrev fabric_qp_idle_s : Nat := 0xA0020003
abbrev forwarded_requests : Nat := 0xA0020004
abbrev fabric_qps_open : Nat := 0xA0020005
abbrev fabric_data_dscp : Nat := 0xA0020006
abbrev caller_lost_ms : Nat := 0xA0030000
abbrev caller_enable : Nat := 0xA0030001
abbrev caller_designations : Nat := 0xA0030002
abbrev fabric_config_epoch : Nat := 0xA0040000
abbrev fabric_digest : Nat := 0xA0040001
abbrev cfg_agree_members : Nat := 0xA0040002
abbrev cfg_disagree_members : Nat := 0xA0040003
abbrev cfg_disagree_map : Nat := 0xA0040004
abbrev fabric_name : Nat := 0xA0040005
abbrev ptp_enable : Nat := 0xA0050000
abbrev ptp_domain : Nat := 0xA0050001
abbrev ptp_priority1 : Nat := 0xA0050002
abbrev ptp_state : Nat := 0xA0050003
abbrev ptp_offset_ns : Nat := 0xA0050004
abbrev ptp_time_ns : Nat := 0xA0050005
abbrev dram_speed_mts : Nat := 0xB0000000
abbrev dram_dpc : Nat := 0xB0000001
abbrev dram_channels : Nat := 0xB0000002
abbrev dram_bytes : Nat := 0xB0000003
abbrev dram_sets : Nat := 0xB0000004
abbrev dram_train_state : Nat := 0xB0000005
abbrev dram_retrain : Nat := 0xB0000006
abbrev scrub_period_h : Nat := 0xB0000007
abbrev scrub_progress_pct : Nat := 0xB0000008
abbrev scrub_passes : Nat := 0xB0000009
abbrev retire_ce_threshold : Nat := 0xB000000A
abbrev retire_enable : Nat := 0xB000000B
abbrev pages_retired : Nat := 0xB000000C
abbrev ppr_pending : Nat := 0xB000000D
abbrev ppr_done : Nat := 0xB000000E
abbrev ue_total : Nat := 0xB000000F
abbrev ppr_per_train : Nat := 0xB0000010
abbrev poisoned_lines : Nat := 0xB0000011
abbrev line_repairs : Nat := 0xB0000012
abbrev ca_retry_limit : Nat := 0xB0000013
abbrev ca_replays : Nat := 0xB0000014
abbrev page_retire : Nat := 0xB0000015
abbrev retire_impossible : Nat := 0xB0000016
abbrev ue_fence_count : Nat := 0xB0000017
abbrev mc_fence : Nat := 0xB0000018
abbrev mc_state : Nat := 0xB0100000
abbrev mc_spd : Nat := 0xB0100001
abbrev mc_capacity_gib : Nat := 0xB0100002
abbrev mc_ce : Nat := 0xB0100003
abbrev mc_ue : Nat := 0xB0100004
abbrev mc_remap_used : Nat := 0xB0100005
abbrev mc_temp_c : Nat := 0xB0100006
abbrev mc_err_status : Nat := 0xB0100007
abbrev mc_first_err_loc : Nat := 0xB0100008
abbrev mc_train_margin_ps : Nat := 0xB0100009
abbrev rq_rate_gbps : Nat := 0xB0300000
abbrev rq_burst_kib : Nat := 0xB0300001
abbrev rq_bytes : Nat := 0xB0300002
abbrev rq_empty_pct : Nat := 0xB0300003
abbrev carriers_ready : Nat := 0xC0000000
abbrev stripe_width : Nat := 0xC0000001
abbrev deep_usable_gib : Nat := 0xC0000002
abbrev deep_stored_gib : Nat := 0xC0000003
abbrev write_amp_milli : Nat := 0xC0000004
abbrev save_area_low : Nat := 0xC0000005
abbrev exposed_segments : Nat := 0xC0000006
abbrev spare_pct : Nat := 0xC0000007
abbrev verify_interval : Nat := 0xC0000008
abbrev verify_max_bits : Nat := 0xC0000009
abbrev gc_free_low_pct : Nat := 0xC000000A
abbrev wear_spread_max : Nat := 0xC000000B
abbrev read_disturb_limit : Nat := 0xC000000C
abbrev flash_patrol_days : Nat := 0xC000000D
abbrev relocate_retry_level : Nat := 0xC000000E
abbrev erase_suspend_max : Nat := 0xC000000F
abbrev erase_suspend_total_ms : Nat := 0xC0000010
abbrev prog_suspend_max : Nat := 0xC0000011
abbrev prog_suspend_total_us : Nat := 0xC0000012
abbrev units_rebuilt : Nat := 0xC0000013
abbrev units_unrecovered : Nat := 0xC0000014
abbrev map_corruptions : Nat := 0xC0000015
abbrev program_rejects : Nat := 0xC0000016
abbrev suspend_forced : Nat := 0xC0000017
abbrev raw_read : Nat := 0xC0000018
abbrev deep_map_lookup : Nat := 0xC0000019
abbrev car_state : Nat := 0xC0100000
abbrev car_refuse_reason : Nat := 0xC0100001
abbrev car_option_area : Nat := 0xC0100002
abbrev car_civ : Nat := 0xC0100003
abbrev car_raw_gib : Nat := 0xC0100004
abbrev car_spare_blocks : Nat := 0xC0100005
abbrev car_retired_blocks : Nat := 0xC0100006
abbrev car_wear_pct : Nat := 0xC0100007
abbrev car_max_pe : Nat := 0xC0100008
abbrev car_slot_usable_mib : Nat := 0xC0100009
abbrev car_channels_fenced : Nat := 0xC010000A
abbrev car_err_status : Nat := 0xC010000B
abbrev car_bytes_programmed : Nat := 0xC010000C
abbrev carrier_format : Nat := 0xC010000D
abbrev carrier_detach : Nat := 0xC010000E
abbrev lc_state : Nat := 0xD0000000
abbrev lc_transition : Nat := 0xD0000001
abbrev lc_wipe_progress_pct : Nat := 0xD0000002
abbrev lc_transitions : Nat := 0xD0000003
abbrev kill_fused : Nat := 0xD0000004
abbrev sa_wrap_key : Nat := 0xD0010000
abbrev fabric_key : Nat := 0xD0010001
abbrev fabric_key_tx : Nat := 0xD0010002
abbrev twin_sak : Nat := 0xD0010003
abbrev twin_tx_an : Nat := 0xD0010004
abbrev device_pubkey : Nat := 0xD0020000
abbrev device_cert : Nat := 0xD0020001
abbrev device_cert_len : Nat := 0xD0020002
abbrev trust_anchor : Nat := 0xD0020003
abbrev trust_anchor_level : Nat := 0xD0020004
abbrev cert_deny : Nat := 0xD0020005
abbrev fw_update_chunk : Nat := 0xD0030000
abbrev fw_update_commit : Nat := 0xD0030001
abbrev fw_rollback_commit : Nat := 0xD0030002
abbrev fw_min_security : Nat := 0xD0030003
abbrev fw_slot_state : Nat := 0xD0030004
abbrev boot_failures : Nat := 0xD0030005
abbrev entropy_failures : Nat := 0xD0040000
abbrev faults_ce : Nat := 0xE0000000
abbrev faults_ucc : Nat := 0xE0000001
abbrev faults_ftl : Nat := 0xE0000002
abbrev blocks_captured : Nat := 0xE0000003
abbrev last_fatal : Nat := 0xE0000004
abbrev fences_in_force : Nat := 0xE0000005
abbrev fault_counters_reset : Nat := 0xE0000006
abbrev sticky_counts : Nat := 0xE0010000
abbrev evt_min_severity : Nat := 0xE0020000
abbrev evt_rate_per_s : Nat := 0xE0020001
abbrev evt_burst : Nat := 0xE0020002
abbrev evt_limit_override : Nat := 0xE0020003
abbrev evt_last_seq : Nat := 0xE0020004
abbrev evt_records_valid : Nat := 0xE0020005
abbrev evt_priv_records : Nat := 0xE0020006
abbrev evt_dropped : Nat := 0xE0020007
abbrev evt_suppressed : Nat := 0xE0020008
abbrev evt_torn : Nat := 0xE0020009
abbrev evt_fetch : Nat := 0xE002000A
abbrev evt_write_limit_per_s : Nat := 0xE002000B
abbrev operating_hours : Nat := 0xE002000C
abbrev power_cycles : Nat := 0xE002000D
abbrev blk_fault_status : Nat := 0xE4000000
abbrev blk_fault_state : Nat := 0xE4000001
abbrev blk_first_error : Nat := 0xE4000002
abbrev blk_faults : Nat := 0xE4000003
abbrev tj_c : Nat := 0xF0000000
abbrev tj_max_c : Nat := 0xF0000001
abbrev tj_peak_c : Nat := 0xF0000002
abbrev tj_life_avg_c : Nat := 0xF0000003
abbrev tj_hours_above_95 : Nat := 0xF0000004
abbrev thermtrip_events : Nat := 0xF0000005

end Sys2Proof.Machine.P
end

