-- ==== Sys2Proof/Machine/Table.lean ====
section
/-!
DEFINITION. Sparse tables: lists of (key, entry) pairs with strictly rising keys. An absent key reads as the default that
the reader names, which is the reset value of that entry.
-/

namespace Sys2Proof.Machine

/-- A table keyed by natural numbers, keys strictly rising. -/
abbrev Tbl (α : Type) := List (Nat × α)

namespace Tbl

variable {α : Type}

/-- The entry at a key. -/
def find? : Tbl α → Nat → Option α
  | [], _ => none
  | (i, a) :: t, k => if i == k then some a else find? t k

/-- The entry at a key, or the default of the table. -/
def getD (t : Tbl α) (k : Nat) (d : α) : α := (find? t k).getD d

/-- Is there an entry at this key? -/
def has (t : Tbl α) (k : Nat) : Bool := (find? t k).isSome

/-- Write the entry at a key. -/
def set : Tbl α → Nat → α → Tbl α
  | [], k, a => [(k, a)]
  | (i, b) :: t, k, a =>
    if k < i then (k, a) :: (i, b) :: t
    else if i == k then (k, a) :: t
    else (i, b) :: set t k a

/-- Remove the entry at a key. -/
def del : Tbl α → Nat → Tbl α
  | [], _ => []
  | (i, b) :: t, k => if i == k then t else (i, b) :: del t k

/-- Change the entry at a key, starting from the default where there is none. -/
def upd (t : Tbl α) (k : Nat) (d : α) (f : α → α) : Tbl α := set t k (f (getD t k d))

/-- Apply a function to every entry. -/
def mapVals (t : Tbl α) (f : Nat → α → α) : Tbl α := List.map (fun p => (p.1, f p.1 p.2)) t

/-- Keys of the entries that satisfy a predicate, in rising order. -/
def keysWhere (t : Tbl α) (q : Nat → α → Bool) : List Nat := (List.filter (fun p => q p.1 p.2) t).map (·.1)

/-- Number of entries that satisfy a predicate. -/
def countWhere (t : Tbl α) (q : Nat → α → Bool) : Nat := List.countP (fun p => q p.1 p.2) t

end Tbl

end Sys2Proof.Machine
end

