-- ==== Sys2Proof/Machine/StateFabric.lean ====
section
/-!
DEFINITION. State of the fabric and of Caller designation (chapter 10). Defaults are the reset values.
-/

namespace Sys2Proof.Machine

/-- Adjacency states (Table 10.3). -/
inductive AdjState | down | init | full | held | frozen | refused
  deriving DecidableEq, Repr

/-- An adjacency of a host port. -/
structure Adj where
  state : AdjState := .down
  mac : BitVec 48 := 0
  uid : BitVec 128 := 0
  member : Nat := 0
  nonce : BitVec 64 := 0
  lastSeq : Nat := 0
  offers : List (BitVec 16) := []
  fpv : Nat := 0
  configEpoch : Nat := 0
  digest : BitVec 256 := 0
  callerOk : Bool := false
  /-- TIME of the last HELLO, the interval that it carried, in ms, and the neighbour's own number of its port. -/
  lastHello : Nat := 0
  helloMs : Nat := 0
  port : Nat := 0
  /-- Key slot of the fabric key under which the neighbour tags. -/
  keySlot : Nat := 0
  /-- The neighbour's nonce was echoed: SA pair derived. -/
  saUp : Bool := false
  /-- Datagrams sent under the SA pair. -/
  espSeq : Nat := 0
  /-- Members whose route entry has changed and awaits a triggered update, and TIME of the last one. -/
  changed : List Nat := []
  lastTriggered : Option Nat := none
  /-- Last update_seq sent. -/
  updateSeq : Nat := 0
  deriving DecidableEq, Repr

/-- A next hop: host port and adjacency slot. -/
structure Hop where
  port : Nat
  slot : Nat
  deriving DecidableEq, Repr

/-- Route to a member (R268). -/
structure Route where
  metric : Nat := 15
  primary : Option Hop := none
  secondary : Option Hop := none
  secMetric : Nat := 15
  uidTag : BitVec 32 := 0
  configEpoch : BitVec 64 := 0
  digestTag : BitVec 64 := 0
  tentative : Bool := false
  callerOk : Bool := false
  /-- TIME of the last refresh. -/
  refreshed : Nat := 0
  /-- In hold-down: the former primary, which alone may reinstate the route. -/
  former : Option Hop := none
  /-- Another uid_tag advertised for this identifier, and the TIME at which it was last seen (R266). -/
  rival : Option (BitVec 32 × Nat) := none
  deriving DecidableEq, Repr

/-- Member state (Table 10.4). -/
inductive MemberState | isolated | probing | joined | conflict
  deriving DecidableEq, Repr

/-- PTP state. -/
inductive PtpState | disabled | listening | master | slave
  deriving DecidableEq, Repr

/-- Ordinary clock of one host port's domain (R281). -/
structure Ptp where
  state : PtpState := .disabled
  offsetNs : Int := 0
  /-- PTP time minus TIME, ns. -/
  baseNs : Int := 0
  /-- Port × 16 + slot of the neighbour that is its master. -/
  parent : Nat := 0
  /-- Data set of the master's grandmaster, as Announce orders it. -/
  master : Nat := 0
  syncRx : Nat := 0
  /-- Origin stamp of the last Follow_Up. -/
  origin : Nat := 0
  delayTx : Nat := 0
  pathNs : Int := 0
  deriving DecidableEq, Repr

/-- FAB (chapter 10). -/
structure Fab where
  started : Bool := false
  member : Nat := 0xFFFF
  /-- Identifier bound in LGM. -/
  bound : Bool := false
  state : MemberState := .isolated
  nonce : BitVec 64 := 0
  /-- hello_seq of the last HELLO under the nonce. -/
  helloSeq : Nat := 0
  /-- Adjacencies by port × 16 + slot. -/
  adjs : Tbl Adj := []
  routes : Tbl Route := []
  /-- Own route entry is advertised. -/
  advertise : Bool := false
  ptp : Ptp := {}
  deriving DecidableEq, Repr

/-- Where a designation stands (R277). -/
inductive DesigStage | offering | adopting | starting | releasing
  deriving DecidableEq, Repr

/-- A designation run by the designator. -/
structure Desig where
  stage : DesigStage
  /-- Candidates still to be tried, first the one being tried. -/
  candidates : List Nat := []
  candidate : Nat := 0
  seq : Nat := 0
  /-- TIME at which the release of the old Caller began. -/
  since : Nat := 0
  deriving DecidableEq, Repr

/-- Caller designation of this member's own pair. -/
structure Designation where
  /-- Adopted Caller, 0xFFFF none. -/
  caller : Nat := 0xFFFF
  /-- In CHANGE: the new Caller. -/
  change : Option Nat := none
  run : Option Desig := none
  seq : Nat := 0
  deriving DecidableEq, Repr

end Sys2Proof.Machine
end

