-- ==== Sys2Proof/Machine/StateManagement.lean ====
section
/-!
DEFINITION. State of the dictionary, of fault collection and of the event recorder (chapters 2 and 14), and of security
(chapter 13). Defaults are the reset values.
-/

namespace Sys2Proof.Machine

/-! ### Dictionary -/

/-- Session states (Table 2.12). -/
inductive SessState | free | handshake | established | open_ | closing
  deriving DecidableEq, Repr

/-- A request and its kept response (R49). -/
structure Kept where
  tag : BitVec 32
  request : Bytes
  response : Bytes
  deriving DecidableEq, Repr

/-- A session slot. -/
structure Session where
  state : SessState := .free
  level : Nat := 0
  peerAddr : BitVec 128 := 0
  peerPort : BitVec 16 := 0
  certDigest : Bytes := []
  chain : Option ClientChain := none
  /-- Negotiated DSV word. -/
  dsv : Nat := 0
  /-- TIME at which it opened or, before, at which the handshake began. -/
  since : Nat := 0
  requests : Nat := 0
  notifySeq : Nat := 0
  dropped : Nat := 0
  /-- TIME of the last authenticated record. -/
  lastRecord : Nat := 0
  kept : List Kept := []
  /-- Records received and sent under the present keys (R31). -/
  rxRecords : Nat := 0
  txRecords : Nat := 0
  /-- Cluster whose core opened a window session. -/
  cluster : Nat := 0
  deriving DecidableEq, Repr

/-- A subscription (R51). -/
structure Sub where
  slot : Nat
  subId : Nat
  param : Nat
  index : Nat
  periodic : Bool
  intervalMs : Nat
  periodMs : Nat
  lastValue : Bytes := []
  lastSent : Option Nat := none
  deriving DecidableEq, Repr

/-- Result-object states (R55). -/
inductive ResState | idle | pending | done | failed | aborted
  deriving DecidableEq, Repr

/-- Result object of a CMD parameter. -/
structure Result where
  state : ResState := .idle
  opSeq : Nat := 0
  data : Bytes := []
  /-- Session slot that started it. -/
  slot : Nat := 0
  arg : Bytes := []
  deriving DecidableEq, Repr

/-- DXE (chapter 2). -/
structure Dxe where
  sessions : Tbl Session := []
  subs : List Sub := []
  nextSub : Nat := 1
  results : Tbl Result := []
  /-- op_seq counters by CMD parameter, in LGM (R54). -/
  opSeqs : Tbl Nat := []
  /-- TIMEs of the handshakes completed in the last second (R32). -/
  handshakes : List Nat := []
  /-- Request and response buffers of the windows, by slot: the last message (R62). -/
  winReq : Tbl Bytes := []
  winResp : Tbl Bytes := []
  deriving DecidableEq, Repr

/-! ### Faults and events -/

/-- A captured fault message (Table 14.2). -/
structure Capture where
  address : BitVec 64 := 0
  time : Nat := 0
  detail : BitVec 32 := 0
  master : BitVec 8 := 0
  access : BitVec 4 := 0
  cls : FaultClass := .ce
  addrValid : Bool := false
  merges : Nat := 0
  code : Nat := 0
  inst : Nat := 0
  seq : Nat := 0
  /-- Instances fenced while this capture stands: of DXE, MIR and FAB there may be several (R368). -/
  units : List Nat := []
  deriving DecidableEq, Repr

/-- FCO (chapter 14). -/
structure Fco where
  seq : Nat := 0
  /-- Captures by block × 256 + instance; listed: CAPTURED. -/
  captures : Tbl Capture := []
  /-- Fences in force by block × 256 + instance. -/
  fences : List Nat := []
  /-- Last fatal message and whether it has been read since the cold start after it (LGM). -/
  lastFatal : Option Capture := none
  /-- A cold start has followed it; it has been read since. -/
  lastFatalCold : Bool := false
  lastFatalRead : Bool := false
  deriving DecidableEq, Repr

/-- An event record (Table 14.8). -/
structure EvtRec where
  seq : Nat
  code : Nat
  inst : Nat
  sev : Nat
  priv : Bool
  fault : Bool := false
  suppressed : Nat := 0
  args : List Nat := []
  cycle : Nat := 0
  ms : Nat := 0
  hours : Nat := 0
  torn : Bool := false
  deriving DecidableEq, Repr

/-- A token bucket: millionths of a token it lacks, with the TIME of the last fill. -/
structure Bucket where
  /-- Tokens × 10^9. -/
  level : Nat := 0
  at_ : Nat := 0
  /-- Records suppressed since the last one recorded. -/
  suppressed : Nat := 0
  deriving DecidableEq, Repr

/-- EVR (chapter 14). -/
structure Evr where
  reserved : List EvtRec := []
  general : List EvtRec := []
  lastSeq : Nat := 0
  /-- Buckets by event code; an unlisted code's bucket is full. -/
  buckets : Tbl Bucket := []
  /-- Device-wide bucket; none: full. -/
  wide : Option Bucket := none
  /-- Records dropped since the last EVENTS_DROPPED, per partition. -/
  droppedRes : Nat := 0
  droppedGen : Nat := 0
  hours : Nat := 0
  /-- TIME at which the present operating hour began, less the ms carried over. -/
  hourStart : Nat := 0
  cycles : Nat := 0
  deriving DecidableEq, Repr

end Sys2Proof.Machine
end

