-- ==== Sys2Proof/Machine/StatePersistence.lean ====
section
/-!
DEFINITION. State of the persistence domain and of the memory tiers (chapters 7 and 9). Defaults are the reset values.
-/

namespace Sys2Proof.Machine

/-- Drain state of a DRAM segment (Table 7.2). -/
inductive Drained | clean | dirty | draining | redirty | absent
  deriving DecidableEq, Repr

/-- What PDE keeps of a DRAM segment of the domain. -/
structure Seg where
  state : Drained := .clean
  /-- Last-write time, in ms of TIME (R177). -/
  lastMs : Nat := 0
  /-- CLEAN, but outside the save set because its flash copy lost a carrier (R319). -/
  exposed : Bool := false
  deriving DecidableEq, Repr

/-- Which term limits the budget (R182). -/
inductive BudgetLimit | configured | energy | area | noMeasurement
  deriving DecidableEq, Repr

/-- The permitted budget and its inputs (R182, R183). -/
structure Budget where
  permittedGib : Nat := 0
  energyGib : Int := 0
  areaGib : Int := 0
  limit : BudgetLimit := .noMeasurement
  areaMib : Nat := 0
  /-- Capacitance used, mF. -/
  capMf : Nat := 0
  holdMv : Nat := 0
  rateMbps : Nat := 56000
  powerW : Nat := 0
  /-- Candidate has exceeded permitted by 1 GiB or more since this TIME. -/
  raiseSince : Option Nat := none
  /-- The permitted budget has been set once since the POWER reset. -/
  firstSet : Bool := false
  deriving DecidableEq, Repr

/-- State of a save record (Table 7.3). -/
inductive RecState | empty | writing | complete | incomplete | obsolete
  deriving DecidableEq, Repr

/-- Save record (Table 7.3); reset: both words all zero, EMPTY. -/
structure SaveRec where
  state : RecState := .empty
  partsClosed : BitVec 8 := 0
  partsFailed : BitVec 8 := 0
  durationMs : Nat := 0
  doneEntries : Nat := 0
  slot : Nat := 0
  trigger : Nat := 0
  partsPlanned : BitVec 8 := 0
  budgetGib : Nat := 0
  saveSeq : Nat := 0
  dramBytes : Nat := 0
  t0Cycle : Nat := 0
  t0Ms : Nat := 0
  t0Hours : Nat := 0
  planEntries : Nat := 0
  keyId : Nat := 0
  deriving DecidableEq, Repr

/-- Kind of a stored segment (Tables 7.4 and 12.6); `planned` is NONE in the deep-store map. -/
inductive StoreKind | zstd | raw | zero | planned
  deriving DecidableEq, Repr

/-- Save directory entry (Table 7.4), with the segment contents its units hold. -/
structure DirEntry where
  lsn : Nat
  part : Nat
  startUnit : Nat := 0
  storedLen : Nat := 0
  kind : StoreKind := .planned
  seqLo : Nat := 0
  /-- CRC-32C of the plaintext; 0 when PLANNED. -/
  segCrc : Nat := 0
  /-- Plaintext held by the units: (offset, byte) pairs, bytes that are not listed are zero. -/
  content : List Host.Cell := []
  deriving DecidableEq, Repr

/-- What a save fixes at t0 (R188, Table 7.3): TIME, the timestamp, the carriers that are ready and the permitted budget. -/
structure SaveStart where
  time : Nat := 0
  cycle : Nat := 0
  ms : Nat := 0
  hours : Nat := 0
  parts : List Nat := []
  budgetGib : Nat := 0
  deriving DecidableEq, Repr

/-- A save in progress. -/
structure SaveRun where
  slot : Nat := 0
  trigger : Nat := 0
  t0 : SaveStart := {}
  /-- Parts that have failed before the record was written (R193). -/
  failed : BitVec 8 := 0
  shed : Bool := false
  frozen : Bool := false
  planned : Bool := false
  /-- Units used so far in each part. -/
  used : Tbl Nat := []
  /-- First entry that no part had room for: it and every later one stay PLANNED (R188). -/
  full : Option Nat := none
  /-- A DRAM rail has failed, and the data phase is over (R193). -/
  stopped : Bool := false
  /-- TIME at which the data phase began, and of the last segment programmed. -/
  dataFrom : Nat := 0
  dataTo : Nat := 0
  deriving DecidableEq, Repr

/-- Steps of restore (R194). -/
structure RestoreRun where
  /-- Slot of the selected record; none when both are EMPTY. -/
  slot : Option Nat := none
  start : Nat := 0
  /-- LSNs restored from the save. -/
  restored : List Nat := []
  /-- Incomplete segments. -/
  incomplete : List Nat := []
  /-- An entry could not be named, so every other segment is incomplete (R190). -/
  unnamed : Bool := false
  deriving DecidableEq, Repr

/-- State of an atomic write group in PDE (R198, Table 7.7). `left`: its record stands as COMMITTED, but a restore that found no save
has passed it over (step 1 of R194). -/
inductive AwgState | staging | staged | committed | applied | left
  deriving DecidableEq, Repr

/-- An atomic write group from admission to APPLIED; `seqNo` is its commit number. -/
structure Awg where
  qpn : Nat
  msg : Nat
  group : Nat
  epoch : Nat := 0
  /-- Extents: descriptor index, offset in the region, data. -/
  extents : List (Nat × Nat × Bytes) := []
  /-- Extent list and data as staged in the redo ring. -/
  stream : Bytes := []
  redoOffset : Nat := 0
  redoLen : Nat := 0
  state : AwgState := .staging
  seqNo : Nat := 0
  /-- Its apply has been issued on RQ0. -/
  issued : Bool := false
  twin : Bool := false
  mirrorSeq : Nat := 0
  deriving DecidableEq, Repr

/-- A segment that the storage pipeline drains: the kind and the length it is stored under, the plaintext read, and the units that it
is being written to (superblock, row and column of the first); none where flash has no room for it. -/
structure DrainJob where
  lsn : Nat
  kind : StoreKind := .zero
  len : Nat := 0
  content : List Host.Cell := []
  place : Option (Nat × Nat × Nat) := none
  deriving DecidableEq, Repr

/-- Persistence (chapter 7). -/
structure Pde where
  segs : Tbl Seg := []
  /-- State of a segment that `segs` does not list: CLEAN, or ABSENT after step 7 of R194. -/
  restAbsent : Bool := false
  /-- Sum of the dirty charges reserved and not yet marked dirty. -/
  reserved : Nat := 0
  budget : Budget := {}
  /-- Segments being drained by the storage pipeline, oldest first. -/
  drains : List DrainJob := []
  /-- Segment being refilled in the background. -/
  refills : List Nat := []
  recs : Tbl SaveRec := []
  /-- Save directories of slot 0 and slot 1. -/
  dir0 : List DirEntry := []
  dir1 : List DirEntry := []
  saveSeq : Nat := 0
  run : Option SaveRun := none
  restore : Option RestoreRun := none
  /-- save_rate_test running. -/
  rateTest : Bool := false
  /-- Rates measured by the last save and by the last save_rate_test, MB/s (R182); kept across resets. -/
  savedRate : Option Nat := none
  testedRate : Option Nat := none
  lastSaveMs : Nat := 0
  lastRestoreMs : Nat := 0
  restoreIncomplete : Nat := 0
  awgs : List Awg := []
  /-- Next commit number. -/
  awgSeq : Nat := 0
  redoHead : Nat := 0
  awgRecovered : Nat := 0
  /-- TIMEs of the commits admitted in the last second (R199). -/
  awgAdmits : List Nat := []
  /-- TIME and stored bytes of the drains of the last 60 s. -/
  drainLog : List (Nat × Nat) := []
  deriving DecidableEq, Repr

/-! ### Tiers (chapter 9) -/

/-- Migration state (Table 9.2). -/
inductive MState | absent | promoting | resident | evicting | recovering | poisoned
  deriving DecidableEq, Repr

/-- Segment map entry (Table 9.2); reset all zero. RESYNC_WAIT is the segment's place in `ResyncTarget.awaiting` of its group; the 16
bytes at the descriptor's backing hold all of it. -/
structure MapEntry where
  home : Nat := 0
  frame : Nat := 0
  divergent : Bool := false
  mstate : MState := .absent
  deriving DecidableEq, Repr

/-- A frame in use: the segment it holds, its reference bit, and whether it was borrowed or belongs to a window. -/
structure Frame where
  idx : Nat
  seg : Nat
  ref : Bool := false
  /-- Taken from the window of region `idx` (STREAM); otherwise from the shared cache. -/
  window : Bool := false
  /-- Read by a prefetch and not yet by an access. -/
  prefetched : Bool := false
  /-- Last access, a running number. -/
  used : Nat := 0
  deriving DecidableEq, Repr

/-- Stage of a recovery record (R252). -/
inductive RecoverStage | parity | twin | poison
  deriving DecidableEq, Repr

/-- A recovery record (R251). -/
structure RecoverRec where
  idx : Nat
  seg : Nat
  stage : RecoverStage := .parity
  deriving DecidableEq, Repr

/-- A merge mask of R246: lines placed into a PROMOTING segment. -/
structure MergeMask where
  idx : Nat
  seg : Nat
  lines : List Nat := []
  deriving DecidableEq, Repr

/-- A READ_REQ outstanding at the twin (R233, R247): for a tier segment or, for a line repair, a DRAM line. -/
structure TwinRead where
  reqId : Nat
  idx : Nat
  seg : Nat
  /-- DRAM line address of a repair; none for a promotion or recovery. -/
  line : Option Nat := none
  got : List (Nat × Bytes) := []
  deriving DecidableEq, Repr

/-- A fetch of a segment from flash in progress, and the contents it will deliver. -/
structure Fetch where
  key : FetchKey
  content : List Host.Cell := []
  bytes : Nat := 0
  /-- Blocks whose units are being rebuilt from parity. -/
  rebuild : List Nat := []
  /-- Flash cannot deliver it: the twin has been asked for a DRAM segment. -/
  failed : Bool := false
  /-- Every unit has been decoded, or none is needed: the contents wait to be placed. -/
  ready : Bool := false
  /-- The twin copy was placed first; the result is discarded (R247). -/
  overtaken : Bool := false
  deriving DecidableEq, Repr

/-- A frame reserved for a segment of a message (R241). -/
structure FrameResv where
  qpn : Nat
  msg : Nat
  idx : Nat
  seg : Nat
  /-- No frame is free for it yet: the first that comes free is its (R242). -/
  waiting : Bool := true
  deriving DecidableEq, Repr

/-- Allemande (chapter 9). -/
structure Tmv where
  /-- Segment maps by region index × 2^32 + segment. -/
  maps : Tbl MapEntry := []
  /-- Frames in use by frame number 0 … tier frames − 1. -/
  frames : Tbl Frame := []
  /-- Effective tier_dram_gib divided into frames at the last reset of TMV. -/
  totalFrames : Nat := 0
  resv : List FrameResv := []
  /-- Clock hand over the shared frames. -/
  hand : Nat := 0
  useClock : Nat := 0
  masks : List MergeMask := []
  records : List RecoverRec := []
  reads : List TwinRead := []
  fetches : List Fetch := []
  nextReqId : Nat := 0
  /-- TIMEs of the READ_REQs of the last second (R247). -/
  fallbackLog : List Nat := []
  /-- Home LSNs in use. -/
  homes : List Nat := []
  /-- Per region: consecutive RAW drains and drains still to be skipped (R250). -/
  rawRuns : Tbl (Nat × Nat) := []
  /-- Segments whose next mirrored frame is refused (R246). -/
  refuseNext : List (Nat × Nat) := []
  capacity : Nat := 0
  provisioned : Nat := 0
  stored : Nat := 0
  overcommit : Bool := false
  /-- Over-provisioned Warning recorded and still standing. -/
  overProv : Bool := false
  deriving DecidableEq, Repr

end Sys2Proof.Machine
end

