-- ==== Sys2Proof/Machine/StateMedia.lean ====
section
/-!
DEFINITION. State of the DRAM subsystem and of the flash (chapters 11 and 12). Defaults are the reset values.
-/

namespace Sys2Proof.Machine

/-- State of a DRAM channel (Table 11.6). -/
inductive McState | absent | training | inService | fenced
  deriving DecidableEq, Repr

/-- A page being copied or remapped (R306): channel page number → spare page; copied back or final. -/
structure Remap where
  page : Nat
  spare : Nat
  final : Bool := false
  /-- The row of the page has been repaired, and the copy back is running (R308). -/
  back : Bool := false
  deriving DecidableEq, Repr

/-- A DRAM channel. -/
structure Mc where
  state : McState := .absent
  capacityGib : Nat := 0
  spd0 : Bytes := []
  spd1 : Bytes := []
  tempC0 : Nat := 0
  tempC1 : Nat := 0
  doubleRefresh : Bool := false
  marginPs : Nat := 0
  /-- Training steps of Table 11.2 completed. -/
  steps : Nat := 0
  firstErrLoc : BitVec 64 := 0
  remaps : List Remap := []
  /-- CA alerts in a row without a retirement (R304). -/
  alerts : Nat := 0
  /-- TIMEs of the new uncorrected lines of the last second (R310). -/
  ueLog : List Nat := []
  /-- The fence of this channel stands until retrain and clear (R310). -/
  fenced : Bool := false
  deriving DecidableEq, Repr

/-- Result of training (Table 11.5). -/
inductive TrainState | notRun | running | passed | passedFenced | failed
  deriving DecidableEq, Repr

/-- DRAM (chapter 11). -/
structure Dram where
  /-- Contents of the DRAM byte address space, canonical; a byte that is not listed reads as 0 (see assumption 3). -/
  mem : List Host.Cell := []
  /-- 64-byte lines that hold the poison encoding, by line address ÷ 64, rising. -/
  poison : List Nat := []
  speedMts : Nat := 0
  dpc : Nat := 0
  channels : Nat := 0
  /-- Usable capacity per channel, Cu of R287. -/
  cu : Nat := 0
  train : TrainState := .notRun
  mcs : Tbl Mc := []
  /-- Rows waiting for repair, oldest first: channel and page (LGM). -/
  pprPending : List (Nat × Nat) := []
  /-- Rows repaired by sPPR, which every TRAIN applies again. -/
  softRows : List (Nat × Nat) := []
  /-- Lines waiting for repair by firmware (R303). -/
  repairs : List Nat := []
  /-- Corrected errors of the last 24 hours: 4 KiB page of the DRAM byte address space, and TIME (R307). -/
  ceLog : List (Nat × Nat) := []
  /-- Next line of the patrol, and the pass's share done. -/
  scrubLine : Nat := 0
  /-- Next 64-byte word of the LGM patrol rewrite, and the words rewritten. -/
  lgmWord : Nat := 0
  /-- Share of the last 10 µs with an empty bucket, per requester port. -/
  emptyPct : Tbl Nat := []
  /-- The contents survived the last reset (self-refresh); cold otherwise. -/
  warm : Bool := false
  deriving DecidableEq, Repr

/-! ### Flash -/

/-- Carrier states (Table 12.8). -/
inductive CarState
  | empty | attaching | refused | foreign | formatting | inService | retiring | evacuating | detached | offline
  deriving DecidableEq, Repr

/-- A carrier position. -/
structure Carrier where
  state : CarState := .empty
  /-- Level of CARn_PRSNT_N: seated. -/
  present : Bool := false
  pgood : Bool := false
  pwren : Bool := false
  attn : Bool := false
  wp : Bool := false
  refuseReason : Nat := 0
  /-- Option area as read: 192 bytes, all zero before. -/
  option : Bytes := []
  civ : Nat := 0
  fenced : BitVec 4 := 0
  spareBlocks : Nat := 0
  retiredBlocks : Nat := 0
  maxPe : Nat := 0
  goodBlocks : Nat := 0
  erasedSlot0 : Bool := false
  erasedSlot1 : Bool := false
  /-- Usable capacity of its share of each slot, MiB. -/
  usableMib : Nat := 0
  /-- media_key_tag of the carrier's media key, and the number of the draw that gave the key; 0: no key of it is held. -/
  keyTag : BitVec 64 := 0
  keyDraw : Nat := 0
  /-- State before EVACUATING, and units relocated so far. -/
  prior : CarState := .inService
  relocated : Nat := 0
  timeouts : List (Nat × Nat) := []
  deriving DecidableEq, Repr

/-- Block states (R327). -/
inductive BlkState | free | open_ | full | erasing | bad
  deriving DecidableEq, Repr

/-- A flash block; an unlisted block is FREE with pointer 0. -/
structure Blk where
  state : BlkState := .free
  pointer : Nat := 0
  suspect : Bool := false
  /-- Times it became SUSPECT. -/
  suspects : Nat := 0
  erases : Nat := 0
  reads : Nat := 0
  /-- Fill under verification after SUSPECT, with all passes so far. -/
  verifying : Bool := false
  /-- Erase suspended by entry to SAVE. -/
  suspended : Bool := false
  lastPatrol : Nat := 0
  deriving DecidableEq, Repr

/-- Deep-store map entry (Table 12.6), with the plaintext its units hold. An LSN without an entry is kind NONE. -/
structure DeepEntry where
  kind : StoreKind := .planned
  storedLen : Nat := 0
  superblock : Nat := 0
  row : Nat := 0
  column : Nat := 0
  content : List Host.Cell := []
  deriving DecidableEq, Repr

/-- A superblock: the channels (0–31) that are its members, and the unit positions used so far. -/
structure Superblock where
  channels : List Nat := []
  used : Nat := 0
  full : Bool := false
  /-- Block number on each member channel. -/
  blocks : List Nat := []
  deriving DecidableEq, Repr

/-- A page held in the paired-page holding area (R329): the block and the page, and where in the area it lies, in 16 KiB. -/
structure Hold where
  blk : Nat
  page : Nat
  at_ : Nat := 0
  size : Nat := 1
  deriving DecidableEq, Repr

/-- Flash (chapter 12). -/
structure Flash where
  cars : Tbl Carrier := []
  blks : Tbl Blk := []
  deep : Tbl DeepEntry := []
  sbs : Tbl Superblock := []
  nextSb : Nat := 0
  /-- Journal records since the last directory update, and the map pages that they touch. The map directory: superblock, row and column
  of each map page that has been written. -/
  journal : Nat := 0
  dirtyPages : List Nat := []
  mapDir : Tbl (Nat × Nat × Nat) := []
  holds : List Hold := []
  /-- 1 from reset: not yet measured (R341). -/
  saveAreaLow : Bool := true
  measured : Bool := false
  /-- Data units programmed and units written by Promenade and TMV, of the last 24 h: TIME, how many of each. -/
  unitLog : List (Nat × Nat × Nat) := []
  deriving DecidableEq, Repr

end Sys2Proof.Machine
end

