-- ==== Sys2Proof/Machine/StateMirror.lean ====
section
/-!
DEFINITION. State of the twin mirror and of the Caller (chapter 8). Defaults are the reset values.
-/

namespace Sys2Proof.Machine

/-- Role of a region group (Table 8.18). -/
inductive Role | active | standby | solo | fenced
  deriving DecidableEq, Repr

/-- A WRITE frame issued and not covered (R209, R210): its number, port, size, the TIME it was first sent, and its body. -/
structure OutFrame where
  seq : Nat
  idx : Nat
  off : Nat
  /-- Data; none until an atomic has produced its line. -/
  data : Option Bytes := none
  unit : Bool := false
  unitSeq : Nat := 0
  unitLen : Nat := 0
  extents : Nat := 0
  last : Bool := false
  resync : Bool := false
  bytes : Nat := 0
  port : Nat := 0
  sentAt : Option Nat := none
  /-- Sent again once already (R209). -/
  retx : Bool := false
  /-- A RESYNC_END of the source, which takes a number as WRITE frames do (R207). -/
  fin : Option ResyncBody := none
  deriving DecidableEq, Repr

/-- A frame at the standby that is not placed yet: behind a gap, or waiting for its segment (R208). -/
structure HeldFrame where
  seq : Nat
  epoch : Nat
  body : WriteBody
  data : Bytes
  /-- Lines of the placement that DRAM cannot read, by number from its first line. -/
  bad : List Nat := []
  fin : Option ResyncBody := none
  last : Bool := false
  unit : Bool := false
  resync : Bool := false
  deriving DecidableEq, Repr

/-- The lease request that a group waits on, repeated every renew_us where R221 says so. -/
structure LeaseReq where
  op : Nat
  epoch : Nat
  /-- TIME of the first transmission, and command parameter number that waits on it (0: none). -/
  since : Nat := 0
  cmd : Nat := 0
  inSync : Bool := false
  deriving DecidableEq, Repr

/-- Resync at the source (R231). -/
structure ResyncSource where
  /-- Segments still to send: descriptor index and segment. -/
  todo : List (Nat × Nat) := []
  /-- Segments refused by the target, sent once more at the end. -/
  again : List (Nat × Nat) := []
  /-- Runs reported by the target. -/
  runs : List (Nat × Nat) := []
  full : Bool := false
  baseEpoch : Nat := 0
  runsExpected : Nat := 0
  runsGot : Nat := 0
  /-- CONFIG SYNC still to be acknowledged. -/
  started : Bool := false
  /-- mirror_seq of the last resync data frame. -/
  lastData : Nat := 0
  endSeq : Nat := 0
  endSent : Bool := false
  resentOnce : Bool := false
  deriving DecidableEq, Repr

/-- Resync at the target (R231). -/
structure ResyncTarget where
  /-- RESYNC_BEGIN of the source has arrived. -/
  answered : Bool := false
  awaiting : List (Nat × Nat) := []
  full : Bool := false
  /-- Run entries announced by the source's RESYNC_BEGIN, and received. -/
  runsExpected : Nat := 0
  runsGot : Nat := 0
  /-- Segments of which a frame could not be placed since their first frame. -/
  bad : List (Nat × Nat) := []
  /-- Descriptors received by CONFIG SYNC. -/
  synced : List Nat := []
  endSeq : Option Nat := none
  /-- A new resync opens at this TIME. -/
  retryAt : Option Nat := none
  deriving DecidableEq, Repr

/-- Phase of a group_switchover (R228). -/
inductive Switchover | waiting | handing
  deriving DecidableEq, Repr

/-- A region group 0–254; reset FENCED, unpaired, epoch 0. -/
structure Grp where
  role : Role := .fenced
  paired : Bool := false
  inSync : Bool := false
  epoch : Nat := 0
  syncEpoch : Nat := 0
  /-- Last mirror_seq issued, last placed, and acked_seq. -/
  issued : Nat := 0
  placed : Nat := 0
  acked : Nat := 0
  soloPending : Bool := false
  /-- Lease end of the holder, TIME. -/
  leaseEnd : Option Nat := none
  /-- End of the twin grant given as STANDBY, TIME. -/
  twinGrantEnd : Option Nat := none
  lastRenew : Option Nat := none
  /-- TAKEOVER sent and not answered. -/
  takeoverSent : Bool := false
  /-- TAKEOVER granted with this epoch and lease end; applied once the own twin grant has ended. -/
  takeover : Option (Nat × Nat) := none
  req : Option LeaseReq := none
  frames : List OutFrame := []
  held : List HeldFrame := []
  /-- Number of a live frame that was refused: it counts as not placed (R209). -/
  refused : Option Nat := none
  source : Option ResyncSource := none
  target : Option ResyncTarget := none
  switchover : Option Switchover := none
  /-- Command parameter number of a switchover, unpair or force in progress. -/
  cmd : Nat := 0
  fullNext : Bool := false
  /-- UNIT frames staged at the standby: unit_seq and stream bytes. -/
  unitSeq : Nat := 0
  unitData : Bytes := []
  /-- Restore left incomplete segments in this group: RESUME waits rejoin_wait_ms (R232). -/
  incomplete : Bool := false
  /-- The member held SOLO when it stopped (Table 7.6). -/
  soloStop : Bool := false
  /-- Settled for the resync-complete report (R232). -/
  settled : Bool := false
  /-- MACK due since the last one; the last one carried window 0. -/
  mackDue : Bool := false
  windowZero : Bool := false
  /-- FENCED by the last restart, and no role held since: RESUME may be sent (R232). -/
  restarted : Bool := false
  deriving DecidableEq, Repr

/-- Hello state of a twin port (Table 8.17). -/
inductive HelloState | down | hello | up | refused
  deriving DecidableEq, Repr

/-- A twin port. -/
structure TwinPort where
  linkUp : Bool := false
  state : HelloState := .down
  /-- Last window_kib received on the port since its link came up. -/
  windowKib : Option Nat := none
  /-- One-way delays measured in the last second: TIME and ns. -/
  delays : List (Nat × Nat) := []
  echoId : Nat := 0
  fenced : Bool := false
  deriving DecidableEq, Repr

/-- A CONFIG waiting for its CONFIG_ACK (R216). -/
structure PendingConfig where
  group : Nat
  op : Nat
  idx : Nat
  image : Bytes := []
  sentAt : Nat := 0
  /-- Epoch that its frames carry. -/
  epoch : Nat := 0
  /-- Command parameter number that waits on it (0: resync or none). -/
  cmd : Nat := 0
  deriving DecidableEq, Repr

/-- The answer given to a CONFIG, kept for its repeats (R216). -/
structure ConfigResult where
  group : Nat
  op : Nat
  idx : Nat
  image : Bytes := []
  result : Nat := 0
  /-- TIME at which it was applied. -/
  at_ : Nat := 0
  deriving DecidableEq, Repr

/-- Pas de deux (chapter 8). -/
structure Mir where
  groups : Tbl Grp := []
  ports : Tbl TwinPort := []
  /-- Negotiated MPV word; 0x0000 when no session. -/
  mpv : Nat := 0
  /-- Effective twin member, 0xFFFF none: changes at a reset whose scope includes MIR. -/
  twinMember : Nat := 0xFFFF
  /-- The twin's fabric digest and roles, from its last HELLO. -/
  twinDigest : BitVec 256 := 0
  twinRoles : List (Fin 4) := []
  /-- The twin's free dirty budget in segments (R181); none before the first MACK. -/
  twinFree : Option Nat := none
  configs : List PendingConfig := []
  /-- Results of received CONFIGs: the last one of each index of a group. -/
  configResults : List ConfigResult := []
  renewSeq : Nat := 0
  /-- Round trips to the Caller in the last second: TIME and ns. -/
  rtts : List (Nat × Nat) := []
  twinRtt : Nat := 0
  lastTwinRenew : Option Nat := none
  budgetTakeoverNs : Nat := 0
  budgetSoloNs : Nat := 0
  budgetOk : Bool := false
  /-- Divergence bits of DRAM segments by LSN (R230). -/
  divergent : List Nat := []
  /-- TIME at which HELLO started after restore. -/
  helloStart : Option Nat := none
  /-- The twin counts as unreachable after restore (R232). -/
  twinUnreachable : Bool := false
  /-- READ_REQ that wait for a frame or a segment (R233): port, group, body, and the lines that DRAM cannot read. -/
  waitReads : List (Nat × Nat × ReadBody × List Nat) := []
  /-- Caller replies taken, newest first: replier and renew_seq. The reply that the other route brings is discarded (R217). -/
  answered : List (Nat × Nat) := []
  /-- CLAIMs were sent in the Caller's present quiet period (R221). -/
  claimed : Bool := false
  /-- Resync complete reported to PWR. -/
  resyncDone : Bool := false
  deriving DecidableEq, Repr

/-! ### The Caller -/

/-- A request that the Caller holds (R220). -/
structure HeldReq where
  msg : LeaseMsg
  since : Nat
  deriving DecidableEq, Repr

/-- Caller record of a group: holder, epoch and SOLO in LGM; the rest volatile. -/
structure CallerRec where
  holder : Nat := 0
  epoch : Nat := 0
  solo : Bool := false
  grantEnd : Option Nat := none
  takeover : Option HeldReq := none
  /-- First RESUME of the other member: TIME and its rejoin_wait_ms, and last RESUME of the holder. -/
  otherResume : Option (Nat × Nat) := none
  holderResume : Option Nat := none
  deriving DecidableEq, Repr

/-- A pair that this member serves, or has reserved, as Caller. -/
structure CallerPairState where
  /-- Reserved by an OFFER and not yet started: lease requests are answered NOT_CALLER. -/
  serving : Bool := false
  recs : Tbl CallerRec := []
  /-- End of the quiet period, TIME. -/
  quietUntil : Option Nat := none
  deriving DecidableEq, Repr

end Sys2Proof.Machine
end

