-- ==== Sys2Proof/Machine/StatePower.lean ====
section
/-!
DEFINITION. State of security, power, reset, boot, clocks, temperature and pins (chapters 13, 15, 16 and 17). Defaults are the
reset values; what a cold start of CD39 keeps (LGM, fuses, boot NOR) is named in each docstring.
-/

namespace Sys2Proof.Machine

/-- Device modes, in the numbering of R59. -/
inductive Mode
  | off | standby | ramp | train | restore | resync | service | degraded | quiesce | save | maint | sealed
  deriving DecidableEq, Repr

/-- Mode number (R59). -/
def Mode.code : Mode → Nat
  | .off => 0 | .standby => 1 | .ramp => 2 | .train => 3 | .restore => 4 | .resync => 5
  | .service => 6 | .degraded => 7 | .quiesce => 8 | .save => 9 | .maint => 10 | .sealed => 11

/-! ### Security -/

/-- Life-cycle states (Table 13.5). -/
inductive LcState | blank | provisioned | deployed | returned | decommissioned
  deriving DecidableEq, Repr

/-- Transition record in LGM (R359): target, session slot, and the step reached. -/
structure LcRecord where
  from_ : LcState
  dest : LcState
  slot : Nat
  /-- TIME of the commit point. -/
  since : Nat := 0
  zeroed : Bool := false
  erased : Bool := false
  deriving DecidableEq, Repr

/-- Image-slot states (Table 13.7). -/
inductive SlotState | empty | valid | invalid | writing
  deriving DecidableEq, Repr

/-- An image slot of the boot NOR: its state, its bytes written since the last erase (offset, byte), and what its header
says once BOOT has checked it. -/
structure ImageSlot where
  state : SlotState := .empty
  written : List (Nat × Nat) := []
  bytes : Tbl Byte := []
  deriving DecidableEq, Repr

/-- Security (chapter 13). Keys themselves never leave the device in the clear; a key is kept by the number of the draw
that made it (0: none, overwritten or zero), or by the octets that the operator wrote. -/
structure Sec where
  lc : LcState := .blank
  lcRecord : Option LcRecord := none
  killFused : Bool := false
  wipeZero : Nat := 0
  wipeErase : Nat := 0
  /-- Draw number of key_seed; 0: zero. -/
  keySeed : Nat := 0
  /-- KEK and CWK registers of CD39 hold derived keys. -/
  kekReady : Bool := false
  /-- Media keys held in LGM: number of the draw, and the position whose carrier was formatted under it. Draw number of each save
  slot's key. -/
  mediaKeys : Tbl Nat := []
  saveKeys : Tbl Nat := []
  /-- Elements of `twin_sak` ever written. -/
  sakWritten : List Nat := []
  /-- Next packet number of each association of a twin port, by port × 2 + AN, from 1; it never starts again under one key. -/
  twinPn : Tbl Nat := []
  /-- DRBG: draws so far, requests since the reseed, and stopped by a failed health test. -/
  draws : Nat := 0
  sinceReseed : Nat := 0
  drbgStopped : Bool := false
  slotA : ImageSlot := {}
  slotB : ImageSlot := {}
  /-- Preferred slot (LGM) and active slot: false A, true B. -/
  preferred : Bool := false
  active : Bool := false
  /-- Fuses blown in the anti-rollback thermometer. -/
  minSecurity : Nat := 0
  /-- Digest and version of the running image, as its header gives them. -/
  imageDigest : Bytes := []
  imageVersion : Bytes := []
  runningSecurity : Nat := 0
  deriving DecidableEq, Repr

/-! ### Power -/

/-- Rail states (Table 15.10). -/
inductive RailState | unused | off | ramping | up | failed
  deriving DecidableEq, Repr

/-- A rail. -/
structure Rail where
  state : RailState := .unused
  mv : Nat := 0
  ma : Nat := 0
  deriving DecidableEq, Repr

/-- PMBus entry states. -/
inductive PmbusState | unused | ok | refused | lost
  deriving DecidableEq, Repr

structure PmbusEntry where
  state : PmbusState := .unused
  statusWord : BitVec 16 := 0
  failedInRow : Nat := 0
  deriving DecidableEq, Repr

/-- Power-log record (Table 15.5). -/
structure PowerRec where
  saveSeq : Nat
  time : Nat
  cycle : Nat
  ms : Nat
  hours : Nat
  railMv : Nat := 0
  rail : Nat := 0xFF
  mode : Nat
  trigger : Nat
  kind : Nat
  step : Nat
  feeds : Nat
  holdMv : Nat
  capMf : Nat
  deriving DecidableEq, Repr

/-- What stopped the device last (`last_off_trigger`). -/
inductive OffTrigger | feedLoss | orderly | commanded | fatal | rampAbort | offNoSave | lcTransition
  deriving DecidableEq, Repr

/-- Phase of the capacitance test (R401). -/
inductive CapPhase | idle | settling | discharging
  deriving DecidableEq, Repr

/-- Where a power-down leads. -/
inductive DownGoal | standby | sealed
  deriving DecidableEq, Repr

/-- PWR (chapter 15). -/
structure Pwr where
  /-- MAINT was entered from TRAIN. -/
  maintFromTrain : Bool := false
  lastOff : OffTrigger := .feedLoss
  /-- TIMEs of the fatal stops since the cold start, newest first. -/
  fatalTimes : List Nat := []
  unsavedPending : Bool := false
  /-- An orderly off is pending since this TIME. -/
  offPending : Option Nat := none
  /-- An on request is held under R391; a SYS_RST_N request waits for STANDBY (R410). -/
  onHeld : Bool := false
  resetHeld : Bool := false
  /-- mode_request MAINT held by MIR (R228), and a mode_request in progress. -/
  maintHeld : Bool := false
  /-- TIME at which the last sequenced rail went off; none while any is raised. -/
  railsOff : Option Nat := none
  /-- The last power-down was for feed loss or a cold start: auto_on applies (R403). -/
  autoEligible : Bool := true
  /-- This stop was fatal: automatic restart on reaching STANDBY. -/
  fatalStop : Bool := false
  rails : Tbl Rail := []
  /-- SEQ_EN outputs driven high. -/
  seqEn : BitVec 8 := 0
  /-- Highest step raised; the step now rising, or falling. -/
  step : Nat := 0
  rising : Bool := false
  falling : Bool := false
  goal : DownGoal := .standby
  /-- Steps 1 and 2 raised in STANDBY or SEALED for LGM and xSPI, last access TIME. -/
  lgmAccess : Option Nat := none
  /-- RAMP is to be aborted when its step ends (R390). -/
  rampAbort : Bool := false
  firstFailLogged : Bool := false
  /-- MODE_CHANGE trigger of the change that ends the power-down. -/
  downTrig : Nat := 0
  /-- Power log by slot (LGM), and the slot to be written next. -/
  log : Tbl PowerRec := []
  logNext : Nat := 0
  deriving DecidableEq, Repr

/-- Feeds, energy store, PMBus and capacitance test (chapter 15). -/
structure Store where
  feedA : Bool := false
  feedB : Bool := false
  feedAMv : Nat := 0
  feedBMv : Nat := 0
  /-- HOLD_BUS readings of the last second: TIME and mV; latest mV and mA. -/
  holdLog : List (Nat × Nat) := []
  holdMv : Nat := 0
  holdMa : Int := 0
  /-- Sense values by input. -/
  sense : Tbl Int := []
  powerMw : Nat := 0
  pmbus : Tbl PmbusEntry := []
  pmbusFenced : Bool := false
  capPhase : CapPhase := .idle
  capCmd : Bool := false
  v1 : Nat := 0
  t1 : Nat := 0
  holdTestEn : Bool := false
  capMf : Nat := 0
  capFirstMf : Nat := 0
  capHours : Nat := 0
  /-- A deferred test is checked again at this TIME. -/
  capRetry : Option Nat := none
  /-- Last present feed crossed out of its window (t0 of R191). -/
  crossed : Option SaveStart := none
  deriving DecidableEq, Repr

/-! ### Reset, boot, clocks -/

/-- Cold-start phases (Table 16.2). -/
inductive ColdPhase | held | rom | locked | done
  deriving DecidableEq, Repr

/-- Why the last COLD reset happened. -/
inductive ResetCause | vddAon | sysRst | cd39Ftl
  deriving DecidableEq, Repr

/-- Phase of an image load (Table 16.3). -/
inductive LoadPhase | header | body | started
  deriving DecidableEq, Repr

/-- An image load by BOOT. -/
structure ImageLoad where
  /-- Slot being loaded: false A, true B. -/
  slot : Bool
  phase : LoadPhase := .header
  /-- The other slot has failed, with these steps of R355. -/
  second : Bool := false
  failA : Nat := 0
  failB : Nat := 0
  /-- Started by core_restart. -/
  restart : Bool := false
  since : Nat := 0
  deriving DecidableEq, Repr

/-- `lgm_option_state`. -/
inductive OptState | ok | repaired | failed
  deriving DecidableEq, Repr

/-- CLK, BOOT and CPX (chapter 16). -/
structure Rst where
  vddAon : Bool := false
  cold : ColdPhase := .held
  cause : ResetCause := .vddAon
  coldStartMs : Nat := 0
  coreStartMs : Nat := 0
  option : OptState := .ok
  refclkOk : Bool := false
  rootLocked : Bool := false
  ethrefPpm : Int := 0
  mcDiv : Nat := 0
  /-- Domains fenced. -/
  fenced : List Nat := []
  /-- Domains fenced for a clock fault (bit 4 of `clk_status`). -/
  clkFenced : List Nat := []
  freqKhz : Tbl Nat := []
  /-- TIME of the last clock fault of a domain. -/
  lastFault : Tbl Nat := []
  /-- Domains in a PORT, XPT, DOMAIN or CLUSTER reset; 39: the MGT MAC within CD39. -/
  inReset : List Nat := []
  load : Option ImageLoad := none
  /-- Core 0 has been released and the image runs; clusters held in reset. -/
  coresUp : Bool := false
  heldClusters : List Nat := []
  /-- Image copied to the CPX working area, staging SRAM given to BPM. -/
  copied : Bool := false
  /-- Cluster-watchdog restarts: cluster, TIME. -/
  restarts : List (Nat × Nat) := []
  /-- TIME of the accepted on request. -/
  onAt : Nat := 0
  deriving DecidableEq, Repr

/-- Die temperature (R440–R443). -/
structure Thermal where
  /-- Sensor readings in °C. -/
  sensors : List (BitVec 8) := []
  /-- Highest `tj_max_c` since the cold start; none before the first sample. -/
  peak : Option Int := none
  /-- Sum of `tj_max_c` over the samples, whose mean is `tj_life_avg_c`. -/
  lifeSum : Int := 0
  samples : Nat := 0
  hotMs : Nat := 0
  tripped : Bool := false
  /-- Every sensor below 110 °C since this TIME. -/
  coolSince : Option Nat := none
  deriving DecidableEq, Repr

end Sys2Proof.Machine
end

