-- ==== Sys2Proof/Machine/StateTransport.lean ====
section
/-!
DEFINITION. State of regions, buffers, queue pairs and completion queues (chapters 3 to 6). Every default value below is the
value at reset.
-/

namespace Sys2Proof.Machine

/-! ### Region descriptors (Table 3.3) and the commands in progress on them -/

inductive DescState | free | valid | draining
  deriving DecidableEq, Repr

/-- The six rights of Table 3.3. -/
structure Rights where
  forward : Bool := false
  awg : Bool := false
  durable : Bool := false
  atomic : Bool := false
  write : Bool := false
  read : Bool := false
  deriving DecidableEq, Repr

/-- Region descriptor (Table 3.3): reset FREE, generation 1, every other field 0. -/
structure Desc where
  cookie : BitVec 64 := 0
  tierAttr : BitVec 32 := 0
  /-- DRAM byte address of the backing or of the segment map. -/
  backing : Nat := 0
  lengthSeg : Nat := 0
  /-- Offset of the first byte in the owner's offset space. -/
  base : Nat := 0
  group : Nat := 0
  pd : BitVec 16 := 0
  gen : Nat := 1
  /-- Class code of Table 3.2. -/
  cls : Nat := 0
  state : DescState := .free
  dereg : Bool := false
  rights : Rights := {}
  deriving DecidableEq, Repr

/-- A revocation in progress on a descriptor (R83–R86). -/
structure Drain where
  /-- Generation that was revoked. -/
  oldGen : Nat := 0
  /-- Parameter number of the command that waits on it. -/
  cmd : Nat := 0
  refused : Nat := 0
  aborted : Nat := 0
  /-- The local drain of R84 is complete. -/
  drained : Bool := false
  /-- CONFIG has been sent to the twin and not yet been answered. -/
  configOut : Bool := false
  /-- CONFIG_ACK has arrived, or no CONFIG is needed. -/
  configDone : Bool := true
  deriving DecidableEq, Repr

/-- A region_register that waits for the twin or for Reel's zero fill (R86, R447). -/
structure PendingReg where
  idx : Nat := 0
  desc : Desc := {}
  waitTwin : Bool := false
  waitZero : Bool := false
  deriving DecidableEq, Repr

/-- A buffer pool of BPM (Table 3.10): owners of the HELD buffers by buffer number, the round-robin pointer of R89 and the
fewest free buffers since reset, where that is less than all. Every buffer is FREE at reset. -/
structure Pool where
  held : Tbl (Fin 8) := []
  ptr : Nat := 0
  fewest : Option Nat := none
  deriving DecidableEq, Repr

/-- What a buffer is held for outside an open message: the drain of a segment, the fetch of one, mirror frames of a group up to a
number, or a frame that the standby holds (R90). -/
inductive BufUse
  | drain (lsn : Nat)
  | fetch (key : FetchKey)
  | frames (group seq : Nat)
  | held (group seq : Nat)
  deriving DecidableEq, Repr

/-- A buffer held for such a use: its pool and its number. -/
structure BufHold where
  use : BufUse
  pool : Nat
  buf : Nat
  deriving DecidableEq, Repr

/-- Regions and buffers (chapter 3). -/
structure Regions where
  /-- Region table; an unlisted index holds the reset descriptor. -/
  descs : Tbl Desc := []
  /-- Indexes in the descriptor cache, most recently used first (R76). -/
  cache : List Nat := []
  drains : Tbl Drain := []
  pendingReg : Option PendingReg := none
  pools : Tbl Pool := []
  holds : List BufHold := []
  /-- Jobs that have met NO_BUFFER and wait for the next free buffer (Table 3.11). -/
  bufWaits : List BufUse := []
  /-- Descriptor indexes marked LOST (R196). -/
  lost : List Nat := []
  deriving DecidableEq, Repr

/-! ### Queue pairs (Table 4.3) -/

inductive QpState | free | ready | error | closing | retained
  deriving DecidableEq, Repr

/-- Queue-pair context (Table 4.3), less the receive-ring, wait and counter groups below. -/
structure QpCtx where
  cookie : BitVec 64 := 0
  /-- SA key material as CRY wrapped it under CWK (R349). -/
  saIn : BitVec 384 := 0
  saOut : BitVec 384 := 0
  predQpn : BitVec 18 := 0
  psnOut : Nat := 0
  vlanEn : Bool := false
  pcp : BitVec 3 := 0
  vid : BitVec 12 := 0
  peerMac : BitVec 48 := 0
  hopLimit : BitVec 8 := 0
  udpSport : BitVec 16 := 0
  trafficClass : BitVec 8 := 0
  destQpn : BitVec 24 := 0
  localIp : BitVec 128 := 0
  peerIp : BitVec 128 := 0
  spiOut : BitVec 32 := 0
  spiIn : BitVec 32 := 0
  cqBound : Bool := false
  cq : BitVec 18 := 0
  mtu : BitVec 3 := 0
  pd : BitVec 16 := 0
  inherit : Bool := false
  ipsec : Bool := false
  kind : BitVec 2 := 0
  deriving DecidableEq, Repr

/-- Receive-ring group of Table 4.3. -/
structure RecvRing where
  gga : BitVec 64 := 0
  ak : BitVec 32 := 0
  log2 : Nat := 0
  consumer : Nat := 0
  producerCached : Nat := 0
  deriving DecidableEq, Repr

/-- Wait group of Table 4.3. -/
structure WaitCtx where
  active : Bool := false
  cq : Nat := 0
  threshold : Nat := 0
  /-- TIME in ns. -/
  deadline : Nat := 0
  deriving DecidableEq, Repr

/-- ESP group of Table 4.3. -/
structure EspCtx where
  /-- 128-bit anti-replay bitmap; bit 0 is the highest number accepted. -/
  replay : BitVec 128 := 0
  seqIn : Nat := 0
  seqOut : Nat := 0
  deriving DecidableEq, Repr

/-- Counters of Table 4.3. -/
structure QpCounters where
  violations : Nat := 0
  rnrNaks : Nat := 0
  naks : Nat := 0
  dupPackets : Nat := 0
  rxPackets : Nat := 0
  deriving DecidableEq, Repr

/-- Response-log record (R102): one per completed message, at the PSN of its acknowledging packet. -/
structure LogRec where
  psn : Nat
  syndrome : Nat
  status : Nat := 0
  durability : Nat := 0
  group : Nat := 0
  tag : Nat := 0
  result : Nat := 0
  /-- Opcode of the answer: 0x11, 0x12, 0xC1 or 0xE0. -/
  answer : Nat := 0x11
  deriving DecidableEq, Repr

/-- Kind of an admitted message. -/
inductive MsgKind
  | send | write | writeImm | read | tread | cswap | fadd | dwrite | flush | cas16 | awg | wait | hxv | refused
  deriving DecidableEq, Repr

/-- What a placement writes. Atomics hold their operands; the line is computed when it executes (R147). -/
inductive JobOp
  | write (data : Bytes)
  | cswap (swap compare : BitVec 64)
  | fadd (add : BitVec 64)
  | cas16 (compare swap : BitVec 128)
  /-- The place in RQ0's order of the apply of a committed atomic write group, by its commit number (R16). -/
  | awg (n : Nat)
  deriving DecidableEq, Repr

/-- A placement of a message: region index, byte offset within the region, and what is written. -/
structure Job where
  qpn : Nat
  msg : Nat
  idx : Nat
  off : Nat
  op : JobOp
  /-- Mirror sequence number of the frame that copies it, when an atomic is mirrored. -/
  seq : Option Nat := none
  /-- Frames that copy it have been issued. -/
  mirrored : Bool := false
  /-- Bytes that must have arrived before it is issued: a piece of a message that covers its whole segment is placed as one. -/
  need : Nat := 0
  deriving DecidableEq, Repr

/-- A read of an open message waiting on RQ1. -/
structure ReadJob where
  qpn : Nat
  msg : Nat
  idx : Nat
  off : Nat
  len : Nat
  deriving DecidableEq, Repr

/-- The answer fixed for a message before its normal completion. -/
inductive Verdict
  /-- NAK with this AETH syndrome. -/
  | nak (syndrome : Nat)
  /-- GX_RESPONSE with this status, durability and result. -/
  | gx (status durability result : Nat)
  deriving DecidableEq, Repr

/-- What a message writes to the completion queue. -/
structure CqeReq where
  tag : Nat := 0
  gga : Nat := 0
  imm : Nat := 0
  deriving DecidableEq, Repr

/-- What the FRH of a forwarded request carries for its message: the host queue pair's PD, and REDIRECTED. -/
structure Fwd where
  pd : BitVec 16
  redirected : Bool
  deriving DecidableEq, Repr

/-- A message admitted or refused and not yet answered (R111). -/
structure OpenMsg where
  id : Nat
  kind : MsgKind
  opcode : Nat
  firstPsn : Nat
  /-- PSN of the last packet seen, or the last PSN the request consumes. -/
  lastPsn : Nat
  ended : Bool := false
  /-- Protection domain it is checked under, and whether it was forwarded to this owner (R270). -/
  pd : BitVec 16 := 0
  forwarded : Bool := false
  /-- It arrived with REDIRECTED set (R274). -/
  redirected : Bool := false
  tag : Nat := 0
  gga : Nat := 0
  ak : Nat := 0
  /-- Message length in bytes, once known. -/
  len : Nat := 0
  /-- Octets that its packets carry after their headers, where its first packet says so: of a group, its extent list and data. -/
  total : Nat := 0
  /-- Bytes received; of a read, bytes whose DRAM read has been issued. -/
  rcvd : Nat := 0
  /-- Descriptor index and byte offset in the region of the message's first byte. -/
  idx : Nat := 0
  off : Nat := 0
  /-- Length of the receive buffer of a SEND. -/
  bufLen : Nat := 0
  group : Nat := 255
  cls : Nat := 1
  /-- Descriptor index and generation of each region it was admitted under. -/
  keys : List (Nat × Nat) := []
  noSolo : Bool := false
  dur : Bool := false
  deadlineUs : Nat := 0
  /-- Placements or reads issued and not complete. -/
  outstanding : Nat := 0
  /-- Placements not yet issued. -/
  jobs : List Job := []
  /-- It has passed the check at the issue of its first DRAM read (R80). -/
  checked : Bool := false
  /-- The first DRAM read of a read or atomic has been issued. -/
  issued : Bool := false
  /-- A duplicate of a read, served again (R112): its answer changes neither `msn` nor the log. -/
  dup : Bool := false
  /-- Last mirror sequence number given to a frame of this message, and its group was ACTIVE then. -/
  lastSeq : Nat := 0
  mirrored : Bool := false
  /-- Dirty charge reserved and not yet turned into dirty marks (R137). -/
  charge : Nat := 0
  failLine : Option Nat := none
  verdict : Option Verdict := none
  /-- Original value of an atomic, or the chosen version of an offer. -/
  result : Nat := 0
  /-- CAS16 whose compare did not match. -/
  mismatch : Bool := false
  cqe : Option CqeReq := none
  /-- Data of a read. -/
  data : Bytes := []
  /-- Placed atomically as an AWG: commit number once committed, applied flag. -/
  awgDone : Bool := false
  /-- Forwarded over this FABRIC queue pair (R270), and the owner has answered. -/
  via : Option Nat := none
  remote : Bool := false
  /-- Response body that the owner, or the inherited log, gives. -/
  grb : Option Grb := none
  /-- Staging buffers held for the message: pool and buffer number. -/
  bufs : List (Nat × Nat) := []
  /-- NAKs of later packets that leave once this message has been answered: PSN and syndrome (R111). -/
  after : List (Nat × Nat) := []
  deriving DecidableEq, Repr

/-- A write-type message that the next FLUSH covers (R144). -/
structure Cover where
  id : Nat
  group : Nat
  cls : Nat
  /-- Forwarded to another member: its level is known here as far as the owner's answer gives it. -/
  via : Bool := false
  level : Nat := 0
  placed : Bool := false
  lastSeq : Nat := 0
  mirrored : Bool := false
  fenced : Bool := false
  deriving DecidableEq, Repr

/-- Body of a RoCEv2 packet that XPT sends. -/
inductive RoceBody
  /-- ACK, NAK or RNR NAK (0x11). -/
  | ack (psn syndrome msn : Nat)
  /-- Read response 0x0D–0x10. -/
  | readResponse (opcode psn msn : Nat) (data : Bytes)
  /-- ATOMIC ACK (0x12). -/
  | atomicAck (psn msn orig : Nat)
  /-- GX_RESPONSE (0xE0). -/
  | gx (psn msn : Nat) (grb : Grb)
  /-- HXV_ANSWER (0xC1). -/
  | hxvAnswer (psn msn chosen current previous : Nat)
  /-- CNP (0x81). -/
  | cnp
  /-- A request re-issued over a FABRIC queue pair (R270). -/
  | request (psn : Nat) (op : ReqOp)
  deriving DecidableEq, Repr

/-- A packet of a queue pair on its way out. Of a request on a FABRIC queue pair: the PD and REDIRECTED of its FRH. -/
structure OutPkt where
  body : RoceBody
  pd : BitVec 16 := 0
  redirected : Bool := false
  deriving DecidableEq, Repr

/-- Sender-side governor of a queue pair (R167, R168), rates in Mb/s. -/
structure Governor where
  rc : Nat := 800000
  rt : Nat := 800000
  /-- What the token bucket lacks to be full, in 1/8000 octet, at the TIME `filled`. -/
  spent : Nat := 0
  filled : Nat := 0
  /-- Governed packets that wait for tokens, oldest first. -/
  queue : List OutPkt := []
  /-- TIME of the last cut and of the last CNP sent; none before the first. -/
  lastCut : Option Nat := none
  lastCnp : Option Nat := none
  deriving DecidableEq, Repr

/-- A request that this member sent as requester on a FABRIC queue pair and that is not yet acknowledged (R272). -/
structure FabReq where
  firstPsn : Nat
  lastPsn : Nat
  op : ReqOp
  pd : BitVec 16
  hostQpn : Nat
  hostMsg : Nat
  /-- REDIRECTED stands in its datagram (R274). -/
  redirected : Bool := false
  /-- Its message is answered; the packet only keeps its PSN until a later answer covers it. -/
  done : Bool := false
  deriving DecidableEq, Repr

/-- Requester side of a FABRIC queue pair (R271, R273). -/
structure FabSide where
  peer : Nat := 0
  /-- OPEN sent and not answered. -/
  opening : Bool := false
  reqs : List FabReq := []
  retries : Nat := 0
  lastUse : Nat := 0
  /-- An RNR timer runs. -/
  rnrWait : Bool := false
  deriving DecidableEq, Repr

/-- A queue pair. The reset queue pair is FREE with every field 0. -/
structure Qp where
  state : QpState := .free
  ctx : QpCtx := {}
  /-- Host port, from `local_ip`. -/
  port : Nat := 0
  ring : RecvRing := {}
  wait : WaitCtx := {}
  esp : EspCtx := {}
  cnt : QpCounters := {}
  epsn : Nat := 0
  msn : Nat := 0
  /-- PSN of the answer to the last completed message (R111). -/
  lastDone : Option Nat := none
  seqNaked : Bool := false
  errPending : Bool := false
  errorCause : Nat := 0
  hxvSet : Bool := false
  hxv : Nat := 0
  inheritDeadline : Nat := 0
  /-- Bytes and opcode of the message in progress; its packets follow on the expected PSNs. -/
  inProgress : Option Nat := none
  /-- Discard packets of a refused message until its last one. -/
  discarding : Bool := false
  /-- First and last PSN of the remaining packets of a refused message over which `epsn` has advanced (R123). -/
  skip : Option (Nat × Nat) := none
  log : List LogRec := []
  msgs : List OpenMsg := []
  covers : List Cover := []
  nextId : Nat := 0
  gov : Governor := {}
  fab : FabSide := {}
  /-- The log cannot be inherited (Table 11.4, Table 7.6). -/
  logDead : Bool := false
  deriving DecidableEq, Repr

/-! ### Completion queues (Table 4.8) -/

inductive CqState | free | ready | error
  deriving DecidableEq, Repr

/-- A completion entry that waits for a slot, less its phase (Table 4.12). -/
structure CqEntry where
  tag : Nat := 0
  gga : Nat := 0
  imm : Nat := 0
  byteCount : Nat := 0
  psn : Nat := 0
  status : Nat := 0
  opcode : Nat := 0
  vkind : Nat := 0
  qpn : Nat := 0
  deriving DecidableEq, Repr

/-- Completion-queue context (Table 4.8), with its pending entries and the slots reserved under R119. -/
structure Cq where
  state : CqState := .free
  cookie : BitVec 64 := 0
  lost : Nat := 0
  count : Nat := 0
  boundQps : Nat := 0
  consumerCached : Nat := 0
  producer : Nat := 0
  log2 : Nat := 0
  ringGga : BitVec 64 := 0
  ringAk : BitVec 32 := 0
  reserved : Nat := 0
  pending : List CqEntry := []
  deriving DecidableEq, Repr

/-- A slot of the queue-context cache (R104): the queue pair it holds, and whether it is modified. -/
structure QccSlot where
  qpn : Nat
  modified : Bool := false
  deriving DecidableEq, Repr

/-- A packet that waits for a context or a descriptor fill. -/
structure WaitPkt where
  qpn : Nat
  /-- Descriptor index it waits for; none: the context. -/
  idx : Option Nat
  psn : Nat
  ackReq : Bool
  op : ReqOp
  /-- Arrived in a DATA datagram, whose FRH carries this pd. -/
  fwd : Option Fwd := none
  deriving DecidableEq, Repr

/-- Host port state (Table 4.17, R171, R172). -/
structure HostPort where
  linkUp : Bool := false
  rxBufKib : Nat := 0
  xoff : Bool := false
  /-- Paused since and until, TIME in ns. -/
  pausedSince : Option Nat := none
  pausedUntil : Option Nat := none
  /-- PFC frames are ignored after a watchdog trip. -/
  ignoring : Bool := false
  deriving DecidableEq, Repr

/-- Transport (chapters 4 to 6). -/
structure Xpt where
  qps : Tbl Qp := []
  cqs : Tbl Cq := []
  /-- QCC slots, most recently used first; at most 16,384. -/
  qcc : List QccSlot := []
  waiting : List WaitPkt := []
  /-- Placements issued on RQ0, oldest first. -/
  rq0 : List Job := []
  /-- Reads issued on RQ1, oldest first. -/
  rq1 : List ReadJob := []
  ports : Tbl HostPort := []
  /-- The marking fraction f_budget of R163, as a numerator and a denominator. -/
  fNum : Nat := 0
  fDen : Nat := 1
  /-- The marking fraction f_wreg of R164, in percent. -/
  fWreg : Nat := 0
  /-- Occupancy u, in percent, saturating at 65,535. -/
  occupancyPct : Nat := 0
  deriving DecidableEq, Repr

end Sys2Proof.Machine
end

