-- ==== Sys2Proof/Machine/State.lean ====
section
/-!
DEFINITION. The state of the TG8140, its faults and refusals, and the state after reset.
-/

namespace Sys2Proof.Machine

/-! ### What leaves the device -/

/-- What a twin-port frame carries in front of its body (R203, Tables 8.1 and 13.1): the addresses, the association, SSCI and packet
number that MACsec protects it under, and the Pas de deux header. -/
structure TwinTx where
  port : Nat
  dst : BitVec 48
  src : BitVec 48
  an : Nat
  ssci : Nat
  pn : Nat
  type_ : Nat
  retx : Bool
  last : Bool
  unit : Bool
  resync : Bool
  group : Nat
  sender : Nat
  bodyLen : Nat
  epoch : Nat
  seq : Nat
  time : Nat
  deriving DecidableEq, Repr

/-- Body of a Pas de deux frame that MIR sends. -/
inductive TwinBody
  | hello (body : HelloBody)
  | echo (t1 echoId : Nat)
  | echoReply (t1 t2 t3 echoId : Nat)
  | lease (m : LeaseMsg)
  | write (body : WriteBody) (data : Bytes) (retx last unit resync : Bool)
  | mack (acked free windowKib : Nat)
  | mnak (acked free windowKib reason frameSeq : Nat)
  | readReq (body : ReadBody)
  | readResp (body : ReadBody) (status : Nat) (data : Bytes) (last : Bool)
  | resyncBegin (b : ResyncBody)
  | resyncMap (runs : List ResyncRun)
  | resyncEnd (b : ResyncBody) (retx : Bool)
  | config (op idx : Nat) (image : Bytes) (retx : Bool)
  | configAck (op idx result : Nat)
  deriving DecidableEq, Repr

/-- Body of a fabric datagram that FAB sends. -/
inductive FabBody
  | hello (b : FabHello)
  | route (updateSeq : Nat) (full : Bool) (entries : List RouteEntry)
  | session (op : Nat) (b : SessionBody)
  | callerOffer (b : CallerBody)
  | callerAnswer (b : CallerBody)
  | callerNote (note : Nat) (b : CallerBody)
  | lease (m : LeaseMsg)
  | data (qpn : Nat) (body : RoceBody)
  /-- A datagram relayed unread. -/
  | relayed
  deriving DecidableEq, Repr

/-- Where a fabric datagram goes and how (R258–R260, R351): its addresses, the UDP port, the DSCP and ECN fields, the PCP of its 802.1Q
tag while it carries one, the SPI and number of the SA that protects it, or the key slot and the tag of a HELLO, and its header with
kind and LINK. -/
structure FabTx where
  port : Nat
  /-- Adjacency slot; none where the datagram is multicast. -/
  slot : Option Nat
  src : Nat
  dst : Nat
  udp : Nat
  dscp : Nat
  ecn : Nat
  pcp : Option Nat
  esp : Option (Nat × Nat)
  tag : Option (Nat × BitVec 128)
  kind : Nat
  link : Bool
  frh : Frh
  deriving DecidableEq, Repr

/-- Kind of a datagram (Table 10.1); one that is relayed keeps its own, which the relay does not act on. -/
def FabBody.kind : FabBody → Nat
  | .hello _ => 0x01 | .route .. => 0x02 | .session .. => 0x03 | .callerOffer _ => 0x04 | .callerAnswer _ => 0x05 | .callerNote .. => 0x06
  | .lease _ => 0x10 | .data .. => 0x20 | .relayed => 0

/-- LINK: HELLO and ROUTE are for the neighbour only. -/
def FabBody.link : FabBody → Bool
  | .hello _ | .route .. => true
  | _ => false

/-- Something the device sends across its boundary. -/
inductive Out
  /-- Answer to ARP, neighbour discovery or echo on MGT. -/
  | mgtReply (k : MgtFrame)
  /-- HelloRetryRequest with a cookie. -/
  | helloRetry (peerAddr : BitVec 128) (peerPort : BitVec 16)
  /-- A handshake flight of a slot, sent or sent again. -/
  | flight (slot : Nat)
  | alert (slot : Nat)
  | closeNotify (slot : Nat)
  | keyUpdate (slot : Nat)
  /-- A dictionary message to a session. -/
  | dict (slot : Nat) (msg : Bytes)
  /-- A RoCEv2 packet: port, queue pair, DSCP, ECN field, PCP and VLAN identifier of its 802.1Q tag where it has one, ESP sequence
  number where protected. -/
  | roce (port qpn dscp ecn : Nat) (tag : Option (BitVec 3 × BitVec 12)) (esp : Option Nat) (body : RoceBody)
  /-- Answer to ARP or neighbour discovery for an address of a host port. -/
  | neighbour (port : Nat) (addr : BitVec 128)
  /-- A PFC frame of a host port. -/
  | pfc (port priority quanta : Nat)
  /-- A twin-port frame. -/
  | twin (h : TwinTx) (body : TwinBody)
  /-- A fabric datagram. -/
  | fab (h : FabTx) (body : FabBody)
  /-- An IEEE 1588 message of the ordinary clock: its type, the domain, priority1. -/
  | ptp (port kind domain priority1 : Nat)
  /-- A PMBus command to an entry. -/
  | pmbus (entry command value : Nat)
  /-- ZQ Calibration Short on every flash channel in service. -/
  | zqShort
  /-- Reset of a LUN. -/
  | lunReset (b : BlkAddr)
  /-- An option-area dynamic part written to a carrier. -/
  | optionWrite (carrier : Nat) (bytes : Bytes)
  deriving DecidableEq, Repr

/-- The state of the TG8140. Every default is the value at reset: the device before VDD_AON, mode OFF, with the LGM, the fuses,
the boot NOR and the flash as they leave manufacture. -/
structure State where
  /-- TIME in ns since the last cold start of CD39. -/
  now : Nat := 0
  /-- Commands waiting, first in, first out. -/
  pending : List Instr := []
  /-- What the device has sent, newest first. -/
  out : List Out := []
  /-- RoCEv2 packets that wait for the end of a PFC pause, oldest first (R172). -/
  paused : List Out := []
  /-- Counter of free values (the model's own; see assumption 2). -/
  freeCount : Nat := 0
  /-- Device mode. -/
  mode : Mode := .off
  /-- Effective parameter values that differ from their defaults, by number × 2^20 + index (LGM configuration store). -/
  cfg : Tbl Nat := []
  /-- Staged values of RWR parameters (LGM). -/
  staged : Tbl Nat := []
  /-- Values pending in the STANDBY store of CD39 (R48), each with a mark of an RWR parameter (its value is staged). -/
  standby : Tbl (Bool × Nat) := []
  /-- Occurrence counters by parameter number × 2^20 + index: the number of occurrences since the counter was last 0, from
  which the saturating value is read. -/
  ctr : Tbl Nat := []
  /-- STICKY flags by parameter number (R372). -/
  sticky : Tbl Nat := []
  /-- Occurrence counters of STICKY bits by parameter number × 32 + bit (R373), saturating when read. -/
  stickyCtr : Tbl Nat := []
  dxe : Dxe := {}
  reg : Regions := {}
  xpt : Xpt := {}
  pde : Pde := {}
  tmv : Tmv := {}
  mir : Mir := {}
  /-- Pairs served as Caller, by lower × 4096 + higher. -/
  callerPairs : Tbl CallerPairState := []
  fab : Fab := {}
  desig : Designation := {}
  dram : Dram := {}
  flash : Flash := {}
  sec : Sec := {}
  fco : Fco := {}
  evr : Evr := {}
  pwr : Pwr := {}
  store : Store := {}
  rst : Rst := {}
  thermal : Thermal := {}
  deriving DecidableEq, Repr

/-- Why the device model stops: an address the spec says does not exist. -/
inductive Fault
  /-- An address operand outside the DRAM byte address space of R287. Raised by the DRAM commands that name a line
  (DRAM_UNCORRECTED_READ, LINE_REPAIR, SCRUB_READ). Safe: the model stops where the hardware has no such line. -/
  | noSuchAddress
  deriving DecidableEq, Repr

/-- Why a command has no meaning here. -/
inductive Refusal
  /-- Raised by the dispatcher for a command whose meaning is not written. Safe: the model stops. -/
  | notModelled (mnemonic : String)
  deriving DecidableEq, Repr

/-- The device at reset: no supply, mode OFF, no command waiting. -/
def State.reset : State := {}

end Sys2Proof.Machine
end

