-- ==== Sys2Proof/Machine/Ops.lean ====
section
/-!
DEFINITION. The named operations over the state that every family uses: parameter values, counters, what leaves the device,
free values, and the bytes of DRAM.
-/

namespace Sys2Proof.Machine

/-! ### Time -/

/-- Nanoseconds of TIME in a microsecond, a millisecond and a second. -/
abbrev usNs : Nat := 1000
abbrev msNs : Nat := 1000000
abbrev secNs : Nat := 1000000000

/-! ### Parameters (R9, R40, R47, R48) -/

/-- Key of a parameter element in the stores. -/
def pkey (num idx : Nat) : Nat := num * 2 ^ 20 + idx

/-- Is this an instance of a block that Table 14.1 gives a per-instance block of area E? -/
def blockInstance (block inst : Nat) : Bool :=
  match block with
  | 0x01 | 0x02 | 0x03 | 0x04 | 0x06 | 0x07 | 0x08 | 0x20 | 0x21 | 0x25 | 0x26 | 0x27 | 0x28 | 0x29 => inst == 0
  | 0x09 => inst < 40
  | 0x10 => inst < 16
  | 0x22 => inst < 8
  | 0x23 => inst < 10
  | 0x24 => inst < 4
  | 0x30 => inst < 4
  | 0x31 => inst < 2
  | 0x40 => inst < 16
  | 0x50 => inst < 32
  | _ => false

/-- Block and instance whose per-instance block of area E has this number less 0x400 (Table 14.11). Block 0x09 has 40 instances,
which reach into the range of identifier 0x0A (R364). -/
def faultBlockOf (n : Nat) : Nat × Nat :=
  if 0x140 ≤ n ∧ n < 0x148 then (0x09, n - 0x120) else (n / 32, n % 32)

/-- Does the parameter entry cover this number? -/
def Param.covers (p : Param) (num : Nat) : Bool :=
  p.num ≤ num && num < p.num + p.inst * 65536 && (num - p.num) % 65536 == 0 &&
  (p.inst != 2592 || let b := faultBlockOf ((num - p.num) / 65536); blockInstance b.1 b.2)

/-- The catalogue entry of a parameter number; bits 31:28 of a number are its area. -/
def findParam (num : Nat) : Option Param := (areaCatalogue (num / 2 ^ 28)).find? (·.covers num)

/-- Default of a parameter (R63). -/
def defaultOf (num : Nat) : Nat :=
  match instanceDefaults.lookup num with
  | some v => v
  | none => match findParam num with
    | some p => p.dflt
    | none => 0

/-- Effective value of an element: the value pending in the STANDBY store for an RW parameter, else the stored value, else the
default (R46–R48). -/
def State.param (s : State) (num : Nat) (idx : Nat := 0) : Nat :=
  match s.standby.find? (pkey num idx) with
  | some (false, v) => v
  | _ => match s.cfg.find? (pkey num idx) with
    | some v => v
    | none => defaultOf num

/-- A BOOL parameter. -/
def State.paramOn (s : State) (num : Nat) (idx : Nat := 0) : Bool := s.param num idx != 0

/-- Staged value of an RWR element, if one is staged (R47). -/
def State.stagedParam (s : State) (num : Nat) (idx : Nat := 0) : Option Nat :=
  match s.standby.find? (pkey num idx) with
  | some (true, v) => some v
  | _ => s.staged.find? (pkey num idx)

/-- Store an effective value in the LGM configuration store. -/
def State.setCfg (s : State) (num idx v : Nat) : State := { s with cfg := s.cfg.set (pkey num idx) v }

/-- Make the staged values of the parameters that satisfy a test effective, at a reset of their owner (R47). One that the STANDBY
store holds becomes effective there, and goes to LGM with the store (R48). -/
def State.applyStaged (s : State) (q : Nat → Bool) : State :=
  let due := s.staged.filter fun e => q (e.1 / 2 ^ 20)
  { s with
    cfg := due.foldl (fun t e => t.set e.1 e.2) s.cfg
    staged := s.staged.filter fun e => !q (e.1 / 2 ^ 20)
    standby := s.standby.mapVals fun k e => if q (k / 2 ^ 20) then (false, e.2) else e }

/-! ### Counters (R63, R65) -/

/-- Advance the counter of a parameter element. -/
def State.bump (s : State) (num : Nat) (idx : Nat := 0) (n : Nat := 1) : State :=
  { s with ctr := s.ctr.upd (pkey num idx) 0 (· + n) }

/-- Advance a counter when a condition holds. -/
def State.bumpIf (s : State) (c : Bool) (num : Nat) (idx : Nat := 0) : State := if c then s.bump num idx else s

/-- Occurrences counted by a counter. -/
def State.count (s : State) (num : Nat) (idx : Nat := 0) : Nat := s.ctr.getD (pkey num idx) 0

/-- Number of a per-instance parameter, from the number of its first instance (R9). -/
def perInst (num i : Nat) : Nat := num + i * 65536

/-- Bytes through a requester port. -/
def State.rqCount (s : State) (q n : Nat) : State := s.bump (perInst P.rq_bytes q) 0 n

/-- A frame reaches port n (0–3 host, 4–5 twin): frames and codewords are counted, and a frame with a codeword beyond correction is
counted as dropped (R97). -/
def State.portFrame (s : State) (n : Nat) (f : Fec) : State :=
  let s := ((s.bump (perInst P.port_rx_frames n)).bump (perInst P.port_fec_corrected n) f.corrected).bump
    (perInst P.port_fec_uncorrected n) f.uncorrectable
  s.bumpIf (f.uncorrectable != 0) (perInst P.port_rx_dropped n)

/-! ### Addresses (R30, R96, R258) -/

/-- The IPv6 link-local address formed from the MAC address by modified EUI-64. -/
def linkLocal (mac : Nat) : Nat :=
  place 112 0xFE80 + place 40 (bits mac 47 24 ^^^ 0x020000) + place 24 0xFFFE + bits mac 23 0

/-- An IPv4 address as an IPv4-mapped IPv6 address. -/
def mappedIpv4 (a : Nat) : Nat := place 32 0xFFFF + a
def isMapped (a : Nat) : Bool := a / 2 ^ 32 == 0xFFFF

/-- Host port whose IPv4 or IPv6 address is this one (R96). -/
def State.portOfIp (s : State) (ip : Nat) : Option Nat :=
  (List.range 4).find? fun p =>
    let v4 := octetSwap 4 (s.param (perInst P.port_ipv4_addr p))
    let v6 := octetSwap 16 (s.param (perInst P.port_ipv6_addr p))
    (v4 != 0 && ip == mappedIpv4 v4) || (v6 != 0 && ip == v6)

/-- An address of a host port: its own, or the link-local one that it forms from its MAC address. -/
def State.portHasIp (s : State) (p ip : Nat) : Bool := s.portOfIp ip == some p || ip == linkLocal (Config.portMac p).toNat

/-! ### Versions (R12, R13) -/

/-- Version that a partner's offers give: of the majors shared, the highest, at the lower of the two highest minors; 0 with none. -/
def versionChoice (own : List Nat) (offers : List (BitVec 16)) : Nat :=
  let shared := (own.filter (· != 0)).filterMap fun w =>
    let minors := (offers.filter fun o => o ≠ 0 ∧ o.toNat / 256 = w / 256).map (·.toNat % 256)
    if minors.isEmpty then none else some (w / 256 * 256 + min (w % 256) (minors.foldl max 0))
  shared.foldl max 0

/-! ### What leaves the device, and free values -/

/-- Send something across the boundary. -/
def State.emit (s : State) (o : Out) : State := { s with out := o :: s.out }

/-- Send several things, in order. -/
def State.emits (s : State) (os : List Out) : State := os.foldl State.emit s

/-- Take the next free value: the counter advances (assumption 2). -/
def State.tick (s : State) : State := { s with freeCount := s.freeCount + 1 }

/-- The free 64-bit random word that the DRBG draws now. -/
def State.draw (s : State) : BitVec 64 := Config.randomWord s.freeCount

/-! ### Field groups -/

def State.modDxe (s : State) (f : Dxe → Dxe) : State := { s with dxe := f s.dxe }
def State.modReg (s : State) (f : Regions → Regions) : State := { s with reg := f s.reg }
def State.modXpt (s : State) (f : Xpt → Xpt) : State := { s with xpt := f s.xpt }
def State.modPde (s : State) (f : Pde → Pde) : State := { s with pde := f s.pde }
def State.modTmv (s : State) (f : Tmv → Tmv) : State := { s with tmv := f s.tmv }
def State.modMir (s : State) (f : Mir → Mir) : State := { s with mir := f s.mir }
def State.modFab (s : State) (f : Fab → Fab) : State := { s with fab := f s.fab }
def State.modDesig (s : State) (f : Designation → Designation) : State := { s with desig := f s.desig }
def State.modDram (s : State) (f : Dram → Dram) : State := { s with dram := f s.dram }
def State.modFlash (s : State) (f : Flash → Flash) : State := { s with flash := f s.flash }
def State.modSec (s : State) (f : Sec → Sec) : State := { s with sec := f s.sec }
def State.modFco (s : State) (f : Fco → Fco) : State := { s with fco := f s.fco }
def State.modEvr (s : State) (f : Evr → Evr) : State := { s with evr := f s.evr }
def State.modPwr (s : State) (f : Pwr → Pwr) : State := { s with pwr := f s.pwr }
def State.modStore (s : State) (f : Store → Store) : State := { s with store := f s.store }
def State.modRst (s : State) (f : Rst → Rst) : State := { s with rst := f s.rst }
def State.modThermal (s : State) (f : Thermal → Thermal) : State := { s with thermal := f s.thermal }

/-! ### Rails and steps (Table 15.1, Table 15.7, R388, R389) -/

def State.pmbusEntry (s : State) (n : Nat) : Nat := s.param P.pmbus_rail n

namespace PmbusField

def valid (v : Nat) : Bool := bit v 40
def shed (v : Nat) : Bool := bit v 42
def noPmbus (v : Nat) : Bool := bit v 44
/-- Enabled by a SEQ_EN output in place of OPERATION (USE_EN or NO_PMBUS), and by which. -/
def byPin (v : Nat) : Bool := bit v 43 || bit v 44
def enPin (v : Nat) : Nat := bits v 39 32
def sets (v : Nat) : Nat := bits v 59 56
def sense (v : Nat) : Nat := bits v 55 52
def role (v : Nat) : Nat := bits v 27 24
def rail (v : Nat) : Nat := bits v 23 16
def page (v : Nat) : Nat := bits v 15 8
/-- Step of an appliance rail; DIMM_BULK is raised with VDDQ_MEM. -/
def step (v : Nat) : Nat := if role v = 1 then 7 else bits v 31 28

end PmbusField

/-- Device rails of a step. -/
def deviceRails (step : Nat) : List Nat := [[], [1], [2, 3], [4], [5], [6], [7], [8], [9], []].getD step []

/-- Rails of a step: the device's own and the appliance's. -/
def State.stepRails (s : State) (n : Nat) : List Nat :=
  deviceRails n ++ ((List.range 32).filter fun i =>
    let v := s.pmbusEntry i
    PmbusField.valid v && PmbusField.role v != 0 && PmbusField.step v == n).map (32 + ·)

def State.rail (s : State) (r : Nat) : Rail := s.pwr.rails.getD r {}
def State.setRail (s : State) (r : Nat) (st : RailState) : State :=
  s.modPwr fun p => { p with rails := p.rails.upd r {} fun x => { x with state := st } }

/-- Entries that supply a rail. -/
def State.entriesOf (s : State) (r : Nat) : List Nat :=
  if r ≥ 32 then [r - 32]
  else (List.range 32).filter fun i =>
    let v := s.pmbusEntry i
    PmbusField.valid v && PmbusField.role v == 0 && PmbusField.rail v == r

/-- A rail that fails its step: bound to no entry or to several, or supplied by a REFUSED entry (R397). -/
def State.railUnbound (s : State) (r : Nat) : Bool :=
  match s.entriesOf r with
  | [i] => (s.store.pmbus.getD i {}).state = .refused
  | _ => true

/-- Drive a SEQ_EN output. -/
def State.driveSeq (s : State) (pin : Nat) (on : Bool) : State :=
  s.modPwr fun p => { p with seqEn := if on then p.seqEn ||| (1#8 <<< pin) else p.seqEn &&& ~~~(1#8 <<< pin) }

/-- Switch an entry: OPERATION 0x80 or 0x40 after PAGE, or its SEQ_EN output (R388, R389). -/
def State.operation (s : State) (i v : Nat) : State :=
  let e := s.pmbusEntry i
  if PmbusField.byPin e then s.driveSeq (PmbusField.enPin e) (v == 0x80)
  else s.emits [.pmbus i 0x00 (PmbusField.page e), .pmbus i 0x01 v]

/-- Raise a step in STANDBY: its rails that have their supply come up. -/
def State.raiseStep (s : State) (n : Nat) : State :=
  let s := (s.stepRails n).foldl (fun s r =>
    let s := (s.entriesOf r).foldl (fun s i => s.operation i 0x80) s
    if (s.rail r).state = .failed || s.railUnbound r then s else s.setRail r .up) s
  s.modPwr fun p => { p with step := n }

/-- Lower a step that was raised in STANDBY. -/
def State.lowerStep (s : State) (n : Nat) : State :=
  let s := (s.stepRails n).foldl (fun s r =>
    let s := (s.entriesOf r).foldl (fun s i => s.operation i 0x40) s
    if (s.rail r).state = .failed then s else s.setRail r .off) s
  s.modPwr fun p => { p with step := n - 1 }

/-- An access to LGM or to the boot NOR, or a frame to send on MGT. In STANDBY, steps 1 and 2 are raised for it where they are down (R389). -/
def State.touchLgm (s : State) : State :=
  if s.mode = .standby then
    let s := if s.pwr.lgmAccess.isNone && s.pwr.step == 0 && !s.pwr.falling then (s.raiseStep 1).raiseStep 2 else s
    s.modPwr fun p => { p with lgmAccess := some s.now }
  else s

/-- Send on MGT: in STANDBY its pads need the supplies of steps 1 and 2 (R433). -/
def State.emitMgt (s : State) (o : Out) : State := s.touchLgm.emit o

/-- No access for 1 s: steps 2 and 1 are lowered (R389). -/
def State.lgmIdle (s : State) : State :=
  if s.mode = .standby ∧ s.pwr.lgmAccess.isSome then
    let s := if s.pwr.falling then s else (s.lowerStep 2).lowerStep 1
    s.modPwr fun p => { p with lgmAccess := none }
  else s

/-! ### Bytes of an address space held as cells -/

/-- A list of cells in canonical form: addresses strictly rising, no byte that an unlisted address reads as (0). -/
def Memory.wf : List Host.Cell → Bool
  | [] => true
  | [c] => c.2 != 0
  | c :: d :: t => c.2 != 0 && c.1 < d.1 && Memory.wf (d :: t)

/-- Read a byte: an address that is not listed reads as 0 (assumption 3). -/
def Memory.readByte : List Host.Cell → Nat → Byte
  | [], _ => 0
  | c :: t, a => if c.1 == a then c.2 else Memory.readByte t a

/-- Write a byte, keeping the canonical form: writing 0 removes the entry. -/
def Memory.writeByte : List Host.Cell → Nat → Byte → List Host.Cell
  | [], a, v => if v == 0 then [] else [(a, v)]
  | c :: t, a, v =>
    if a < c.1 then (if v == 0 then c :: t else (a, v) :: c :: t)
    else if c.1 == a then (if v == 0 then t else (a, v) :: t)
    else c :: Memory.writeByte t a v

/-- Read `n` bytes from an address. -/
def Memory.read (m : List Host.Cell) (a : Nat) : Nat → Bytes
  | 0 => []
  | n + 1 => Memory.readByte m a :: Memory.read m (a + 1) n

/-- Write octets from an address. -/
def Memory.write (m : List Host.Cell) (a : Nat) : Bytes → List Host.Cell
  | [] => m
  | b :: t => Memory.write (Memory.writeByte m a b) (a + 1) t

/-- Zero `n` bytes from an address: the entries of the range go. -/
def Memory.zero (m : List Host.Cell) (a n : Nat) : List Host.Cell := m.filter fun c => c.1 < a || a + n ≤ c.1

/-- The cells of a range, moved to start at 0. -/
def Memory.extract (m : List Host.Cell) (a n : Nat) : List Host.Cell :=
  (m.filter fun c => a ≤ c.1 && c.1 < a + n).map fun c => (c.1 - a, c.2)

/-- Write cells (offsets from an address), leaving other bytes of the space as they are. -/
def Memory.overlay (m : List Host.Cell) (a : Nat) (cs : List Host.Cell) : List Host.Cell :=
  cs.foldl (fun t c => Memory.writeByte t (a + c.1) c.2) m

/-- Replace `n` bytes from an address by cells: a byte that no cell gives becomes 0. -/
def Memory.replace (m : List Host.Cell) (a n : Nat) (cs : List Host.Cell) : List Host.Cell :=
  Memory.overlay (Memory.zero m a n) a (cs.filter fun c => c.1 < n)

/-! ### DRAM -/

def State.dramWrite (s : State) (a : Nat) (b : Bytes) : State :=
  s.modDram fun d => { d with mem := Memory.write d.mem a b }

def State.dramRead (s : State) (a n : Nat) : Bytes := Memory.read s.dram.mem a n

def State.dramZero (s : State) (a n : Nat) : State :=
  s.modDram fun d => { d with mem := Memory.zero d.mem a n, poison := d.poison.filter fun l => l * 64 + 64 ≤ a || a + n ≤ l * 64 }

/-- Insert into a strictly rising list. -/
def insertNat (x : Nat) : List Nat → List Nat
  | [] => [x]
  | y :: t => if x < y then x :: y :: t else if x == y then y :: t else y :: insertNat x t

end Sys2Proof.Machine
end

