-- ==== Sys2Proof/Machine/Flags.lean ====
section
/-!
DEFINITION. Flags and records: sticky flags and their occurrence counters (R372–R374), and the event recorder (R375–R382).
-/

namespace Sys2Proof.Machine

/-! ### Sticky flags -/

/-- Flags of a STICKY parameter. -/
def State.flags (s : State) (num : Nat) : Nat := s.sticky.getD num 0

/-- Hardware sets a bit of a STICKY parameter: its counter advances by 1 and by the merges (R372, R373). -/
def State.setFlag (s : State) (num b : Nat) (merges : Nat := 0) : State :=
  { s with
    sticky := s.sticky.upd num 0 (· ||| 2 ^ b)
    stickyCtr := s.stickyCtr.upd (num * 32 + b) 0 (· + (1 + merges)) }

/-- Set a bit when a condition holds. -/
def State.setFlagIf (s : State) (c : Bool) (num b : Nat) (merges : Nat := 0) : State :=
  if c then s.setFlag num b merges else s

/-- A WRITE clears exactly the bits written as 1 (R372). -/
def State.clearFlags (s : State) (num v : Nat) : State :=
  { s with sticky := s.sticky.upd num 0 (fun f => f - (f &&& v)) }

/-- Occurrence counter of a bit, 16 bits saturating (R373). -/
def State.flagCount (s : State) (num b : Nat) : Nat := min (s.stickyCtr.getD (num * 32 + b) 0) 0xFFFF

/-! ### Event catalogue (Table 14.9) -/

/-- Severity and privilege of an event code. -/
def eventClass (code : Nat) : Nat × Bool :=
  match code with
  | 0x0140 => (1, false) | 0x0240 => (3, false) | 0x0340 => (3, false) | 0x0341 => (7, false)
  | 0x0440 => (2, true) | 0x0441 => (4, true) | 0x0442 => (2, true) | 0x0443 => (5, true)
  | 0x0444 => (2, true) | 0x0445 => (6, true) | 0x0640 => (5, false) | 0x0641 => (7, true)
  | 0x1040 => (3, false) | 0x1041 => (4, false) | 0x2040 => (2, false) | 0x2041 => (3, false)
  | 0x2042 => (2, false) | 0x2540 => (3, false) | 0x2541 => (3, false) | 0x2542 => (5, true)
  | 0x2543 => (4, true) | 0x2544 => (2, true) | 0x2545 => (5, true) | 0x2546 => (2, true)
  | 0x2547 => (5, true) | 0x2548 => (7, true) | 0x2549 => (7, true) | 0x2640 => (3, false)
  | 0x2641 => (3, false) | 0x2642 => (2, true) | 0x2643 => (5, true) | 0x2740 => (4, true)
  | 0x2741 => (3, false) | 0x2742 => (5, false) | 0x2840 => (3, false) | 0x2841 => (3, false)
  | 0x2842 => (3, false) | 0x2843 => (5, false) | 0x2844 => (2, false) | 0x3040 => (2, false)
  | 0x3041 => (3, false) | 0x3140 => (2, false) | 0x4040 => (3, false) | 0x4041 => (3, false)
  | 0x4042 => (2, false) | 0x4043 => (5, false) | 0x4044 => (5, false) | 0x5040 => (2, false)
  | 0x5041 => (3, false) | 0x5042 => (3, false) | 0x5043 => (5, false) | 0x5044 => (5, false)
  | 0x5045 => (5, false) | 0x5046 => (1, false)
  | _ => (0, false)

/-! ### Event recorder -/

/-- Slots of the reserved and of the general partition (R378). -/
abbrev reservedSlots : Nat := 65536
abbrev generalSlots : Nat := 983040

/-- The list without its first record whose severity is at or below `sev`: the lowest seq of those, the list being in ascending
seq. A torn slot counts as never written (R380), so it is taken first. -/
def dropOldest (sev : Nat) : List EvtRec → Option (List EvtRec)
  | [] => none
  | r :: t => if r.torn || r.sev ≤ sev then some t else (dropOldest sev t).map (r :: ·)

/-- A torn record is overwritten before any other (R380). -/
def dropTorn : List EvtRec → Option (List EvtRec)
  | [] => none
  | r :: t => if r.torn then some t else (dropTorn t).map (r :: ·)

/-- Steps 2 and 3 of R378 in a partition of `slots` slots. -/
def placeRecord (slots : Nat) (l : List EvtRec) (r : EvtRec) : Option (List EvtRec) :=
  if l.length < slots then some (l ++ [r])
  else match dropTorn l with
    | some t => some (t ++ [r])
    | none => (dropOldest r.sev l).map (· ++ [r])

/-- Drop a record (step 5 of R378). A dropped record takes a seq too: a reader sees it as a gap (R381). -/
def State.dropRecord (s : State) (priv : Bool) : State :=
  (s.bump P.evt_dropped).modEvr fun e =>
    { e with
      lastSeq := e.lastSeq + 1
      droppedRes := e.droppedRes + (if priv then 1 else 0)
      droppedGen := e.droppedGen + (if priv then 0 else 1) }

/-- Place a record under R378. -/
def State.placeEvent (s : State) (r : EvtRec) : State :=
  let s := s.touchLgm
  let r := { r with seq := s.evr.lastSeq + 1 }
  let general := fun (s : State) =>
    match placeRecord generalSlots s.evr.general r with
    | some l => s.modEvr fun e => { e with general := l, lastSeq := e.lastSeq + 1 }
    | none => s.dropRecord r.priv
  if r.priv then
    match placeRecord reservedSlots s.evr.reserved r with
    | some l => s.modEvr fun e => { e with reserved := l, lastSeq := e.lastSeq + 1 }
    | none => general s
  else general s

/-- Level of a bucket now, in thousand-millionths of a token: it fills continuously and holds at most `burst` tokens (R379). -/
def Bucket.levelAt (b : Bucket) (now rate burst : Nat) : Nat := min (b.level + rate * (now - b.at_)) (burst * 1000000000)

/-- Rate and burst of a code: an override entry replaces both (R379, R383). -/
def State.codeLimit (s : State) (code : Nat) : Nat × Nat :=
  let entry := (List.range 64).map (fun i => s.param P.evt_limit_override i) |>.find? (fun v => bits v 31 16 == code)
  match entry with
  | some v => (bits v 15 8, bits v 7 0)
  | none => (s.param P.evt_rate_per_s, s.param P.evt_burst)

/-- A full bucket. -/
def fullBucket (now burst : Nat) : Bucket := { level := burst * 1000000000, at_ := now }

/-- Timestamp of a record (R376): cycle, ms within the hour, hours. -/
def State.stamp (s : State) : Nat × Nat × Nat :=
  (s.evr.cycles, min ((s.now - s.evr.hourStart) / msNs) 3599999, s.evr.hours)

/-- Offer a record to the recorder: a privileged one is placed; any other passes the severity check, its code's bucket and the
device-wide bucket (R379). -/
def State.recordWith (s : State) (code inst sev : Nat) (priv fault : Bool) (args : List Nat) : State :=
  let st := s.stamp
  let r : EvtRec := { seq := 0, code := code, inst := inst, sev := sev, priv := priv, fault := fault, args := args,
                      cycle := st.1, ms := st.2.1, hours := st.2.2 }
  if priv then s.placeEvent r
  else if sev < s.param P.evt_min_severity then s
  else
    let lim := s.codeLimit code
    let b := s.evr.buckets.getD code (fullBucket s.now lim.2)
    let level := b.levelAt s.now lim.1 lim.2
    if lim.1 == 0 || level < 1000000000 then
      (s.bump P.evt_suppressed).modEvr fun e =>
        { e with buckets := e.buckets.set code { level := level, at_ := s.now, suppressed := b.suppressed + 1 } }
    else
      let wide := s.evr.wide.getD (fullBucket s.now 200000)
      let wlevel := wide.levelAt s.now (defaultOf P.evt_write_limit_per_s) 200000
      if wlevel < 1000000000 then
        (s.modEvr fun e =>
          { e with buckets := e.buckets.set code { b with level := level - 1000000000, at_ := s.now }
                   wide := some { level := wlevel, at_ := s.now } }).dropRecord false
      else
        (s.modEvr fun e =>
          { e with buckets := e.buckets.set code { level := level - 1000000000, at_ := s.now, suppressed := 0 }
                   wide := some { level := wlevel - 1000000000, at_ := s.now } }).placeEvent
          { r with suppressed := min b.suppressed 0xFFFF }

/-- Record an event of Table 14.9. -/
def State.event (s : State) (code inst : Nat) (args : List Nat) : State :=
  let c := eventClass code
  s.recordWith code inst c.1 c.2 false args

/-- Octets of an event record (Table 14.8); the crc covers bytes 4–63. -/
def EvtRec.encode (r : EvtRec) : Bytes :=
  let arg i := leBytes 8 (r.args.getD i 0 % 2 ^ 64)
  let mid := place 96 (flag r.fault * 2) + place 98 (flag r.priv) + place 99 r.sev + place 102 r.inst +
    place 110 r.suppressed + place 126 (r.hours % 2 ^ 20) + place 146 (r.ms % 2 ^ 22) + place 168 (r.cycle % 2 ^ 24) +
    place 80 r.code
  let tail := (leBytes 24 mid).drop 4 ++ arg 3 ++ arg 2 ++ arg 1 ++ arg 0 ++ leBytes 8 (r.seq % 2 ^ 64)
  leBytes 4 (crc32c tail) ++ tail

end Sys2Proof.Machine
end

