-- ==== Sys2Proof/Machine/Operands.lean ====
section
/-!
DEFINITION. Operand forms of the dictionary: request messages, items, value records, responses, the refusals common to every
request, and the start and end of a COMMAND (chapter 2).
-/

namespace Sys2Proof.Machine

/-! ### Status values (Table 2.5) and message types (Table 2.4) -/

namespace Status

abbrev ok : Nat := 0x00
abbrev pending : Nat := 0x01
abbrev noSuchParam : Nat := 0x02
abbrev accessDenied : Nat := 0x03
abbrev notWritable : Nat := 0x04
abbrev outOfRange : Nat := 0x05
abbrev wrongMode : Nat := 0x06
abbrev length : Nat := 0x07
abbrev busy : Nat := 0x08
abbrev version : Nat := 0x09
abbrev malformed : Nat := 0x0A
abbrev tooLarge : Nat := 0x0B
abbrev limit : Nat := 0x0C
abbrev staleSequence : Nat := 0x0D
abbrev unavailable : Nat := 0x0E
abbrev tagReuse : Nat := 0x0F
abbrev wrongKind : Nat := 0x10
abbrev acceptedStaged : Nat := 0x11

end Status

/-- Message types. -/
inductive MsgType
  | read | write | multiRead | subscribe | unsubscribe | command | digest | notify | describe | hello
  deriving DecidableEq, Repr

/-- Type code. -/
def MsgType.code : MsgType → Nat
  | .read => 0x01 | .write => 0x02 | .multiRead => 0x03 | .subscribe => 0x04 | .unsubscribe => 0x05
  | .command => 0x06 | .digest => 0x07 | .notify => 0x08 | .describe => 0x09 | .hello => 0x0A

/-- Octets of a message (Table 2.3): header and body. -/
def message (ty status major minor tag opSeq : Nat) (staged resp : Bool) (bodyLen : Nat) (body : Bytes) : Bytes :=
  leBytes 16 (ty + place 8 (flag resp) + place 9 (flag staged) + place 16 status + place 32 minor + place 40 major +
    place 48 bodyLen + place 64 tag + place 96 opSeq) ++ body

/-- Item of Table 2.6 at the start of a body: parameter number and index. -/
def itemAt (b : Bytes) (o : Nat := 0) : Nat × Nat := (leAt b o 4, leAt b (o + 4) 4)

end Sys2Proof.Machine

namespace Sys2Proof

open Machine

/-- Octets of a request as it arrived. -/
def Req.octets (r : Req) (ty : MsgType) : Bytes :=
  message (match r.otherType with | some t => t.toNat | none => ty.code) 0 r.dsvMajor.toNat r.dsvMinor.toNat r.tag.toNat r.opSeq.toNat r.staged false r.bodyLen.toNat r.body

/-- What a request carries after its item: a value or arguments. -/
def Req.args (r : Req) : Bytes := r.body.drop 8

/-- Is a request well formed for its type (R37, R38, Table 2.4, R51, R53, R57, R60)? One whose tag is 0 is not (Table 2.3), nor is one
whose header names a type that is no request. -/
def Req.wellFormed (r : Req) (ty : MsgType) : Bool :=
  let n := r.body.length
  r.otherType.isNone && r.bodyLen.toNat == n && n ≤ 1264 && r.tag != 0 &&
  match ty with
  | .read | .describe => n == 8
  | .write | .command => 8 ≤ n
  | .multiRead => n % 8 == 0 && 8 ≤ n && n ≤ 256
  | .subscribe => n == 16 && (leAt r.body 8 1 == 1 || leAt r.body 8 1 == 2)
  | .unsubscribe => n == 4
  | .digest => n == 4 && (leAt r.body 2 1 ≤ 1 || (leAt r.body 2 1 == 2 && leAt r.body 0 2 == 0))
  | .hello => n % 2 == 0 && 2 ≤ n && n ≤ 8
  | .notify => false

end Sys2Proof

namespace Sys2Proof.Machine

/-- Session slot of a request. -/
def State.session (s : State) (slot : Nat) : Session := s.dxe.sessions.getD slot {}

def State.modSession (s : State) (slot : Nat) (f : Session → Session) : State :=
  s.modDxe fun d => { d with sessions := d.sessions.upd slot {} f }

/-! ### Schema of a session (R61) -/

/-- A type of message that the negotiated minor does not have (R61). -/
def typeUnknown (dsv : Nat) (ty : MsgType) : Bool :=
  dsv / 256 == 2 && decide (dsv % 256 < 4 ∧ dsv % 256 < Config.typeAddedInMinor ty.code)

/-- An enumerator that the negotiated minor does not have (R61). -/
def enumUnknown (dsv : Nat) (p : Param) (num v : Nat) : Bool :=
  p.ty == .enum8 && dsv / 256 == 2 && decide (dsv % 256 < 4 ∧ dsv % 256 < Config.enumAddedInMinor num v)

/-- Number in the current numbering that a session's item names; a number that the previous major does not have gives 2^32, which no
parameter has. -/
def schemaNum (dsv num : Nat) : Nat := if dsv / 256 == 1 then (Config.previousSchema.lookup num).getD (2 ^ 32) else num

/-- The parameter that a session's item names, if the negotiated schema has it with this index: the minor 4 of the current major and the
minor 7 of the previous one have every parameter of their numberings (R60, R61). -/
def State.schemaParam (s : State) (slot num idx : Nat) : Option Param :=
  let dsv := (s.session slot).dsv
  let n := schemaNum dsv num
  match findParam n with
  | none => none
  | some p =>
    if dsv / 256 == 2 && dsv % 256 < 4 && Config.addedInMinor n > dsv % 256 then none
    else if dsv / 256 == 1 && dsv % 256 < 7 && Config.previousAddedInMinor num > dsv % 256 then none
    else if p.count == 0 then
      match findParam idx with
      | some q => if bit q.flags 3 then some p else none
      | none => none
    else if idx < p.count then some p else none

/-- FW-served (R29). -/
def Param.fw (p : Param) : Bool := bit p.flags 0

/-- The parameter is served by firmware and no core runs. -/
def State.fwBlocked (s : State) (p : Param) : Bool := p.fw && !s.rst.coresUp

/-! ### Value records (R42) -/

/-- A value record. -/
def valueRecord (num idx status code : Nat) (v : Bytes) : Bytes :=
  leBytes 4 num ++ leBytes 4 idx ++ leBytes 1 status ++ leBytes 1 code ++ leBytes 2 v.length ++ v ++
  List.replicate ((4 - v.length % 4) % 4) 0

/-! ### Refusals common to every request -/

/-- A record of an MGT session, received or sent: a KeyUpdate follows 2^24 records under the present keys in either direction (R31). -/
def State.countRecord (s : State) (slot : Nat) (rx : Bool) : State :=
  let t := s.session slot
  let r := t.rxRecords + (if rx then 1 else 0)
  let w := t.txRecords + (if rx then 0 else 1)
  if r ≥ 2 ^ 24 ∨ w ≥ 2 ^ 24 then
    (s.emitMgt (.keyUpdate slot)).modSession slot fun t => { t with rxRecords := 0, txRecords := 0 }
  else s.modSession slot fun t => { t with rxRecords := r, txRecords := w }

/-- Send a dictionary message to a session: a record on MGT; a window's response buffer holds it. -/
def State.sendDict (s : State) (slot : Nat) (msg : Bytes) : State :=
  let s := if slot < 16 then s.emitMgt (.dict slot msg) else s.emit (.dict slot msg)
  if 16 ≤ slot then s.modDxe fun d => { d with winResp := d.winResp.set slot msg } else s.countRecord slot false

/-- Send a response on a slot and keep it by its tag: the last 32 (R49). DESIGN CHOICE (the spec is silent): the
response to a request whose tag is kept already (TAG_REUSE, VERSION, MALFORMED) is sent and not kept; it neither
replaces nor joins the kept response of that tag. -/
def State.respond (s : State) (r : Req) (ty : MsgType) (status opSeq : Nat) (staged : Bool) (body : Bytes) : State :=
  let ss := s.session r.slot
  let dsv := if ty = .hello then 0 else ss.dsv
  let msg := message ty.code status (dsv / 256) (dsv % 256) r.tag.toNat opSeq staged true body.length body
  let keep := !ss.kept.any (·.tag == r.tag)
  (s.sendDict r.slot msg).modSession r.slot fun t =>
    { t with kept := if keep then (⟨r.tag, r.octets ty, msg⟩ :: t.kept).take 32 else t.kept }

/-- Respond with a status and no body. -/
def State.refuse (s : State) (r : Req) (ty : MsgType) (status : Nat) : State := s.respond r ty status 0 false []

/-- An authenticated record arrives: idle time starts again, and the record is counted (R31, R36). -/
def State.takeRecord (s : State) (slot : Nat) : State :=
  let s := s.modSession slot fun t => { t with requests := t.requests + 1, lastRecord := s.now }
  if slot < 16 then s.countRecord slot true else s

/-- A request arrives; a window's request buffer holds it. -/
def State.arrive (s : State) (r : Req) (ty : MsgType) : State :=
  let s := s.takeRecord r.slot
  if 16 ≤ r.slot.val then s.modDxe fun d => { d with winReq := d.winReq.set r.slot.val (r.octets ty) } else s

/-- The MGT MAC runs: it is not held in reset, and its supply has not failed (Tables 14.6 and 15.3). -/
def State.mgtUp (s : State) : Bool := !s.rst.inReset.contains 39 && !s.fco.fences.contains 0x0700

/-- A message that does not reach the dictionary: one on MGT while its MAC is down, or in a record of more than 1,344 bytes of plaintext
(R31). -/
def State.unheard (s : State) (r : Req) : Bool := decide (r.slot.val < 16) && (!s.mgtUp || decide (1344 < 16 + r.body.length))

/-- A request that arrives while 8 of its session are unanswered is discarded and counted (R49). -/
def State.discard (s : State) (slot : Nat) : State := (s.takeRecord slot).modSession slot fun t => { t with dropped := t.dropped + 1 }

/-- Take a request other than HELLO: nothing is served before the session is ESTABLISHED; a repeat is answered from its kept
response; then MALFORMED, VERSION and TAG_REUSE in the order of R446; otherwise `f` runs. While both copies of the option area are
bad, DXE serves only areas 0, 3 and E (R413): see `State.served`. -/
def State.request (s : State) (r : Req) (ty : MsgType) (f : State → State) : State :=
  let ss := s.session r.slot
  if (ss.state ≠ .established ∧ ss.state ≠ .open_) ∨ s.unheard r = true then s
  else if 8 ≤ r.unanswered then s.discard r.slot
  else
    let s := s.arrive r ty
    match ss.kept.find? (·.tag == r.tag) with
    | some k =>
      if k.request = r.octets ty then s.sendDict r.slot k.response
      else if !r.wellFormed ty || typeUnknown ss.dsv ty then s.refuse r ty Status.malformed
      else if ss.state = .established ∨ (r.dsvMajor.toNat, r.dsvMinor.toNat) ≠ (ss.dsv / 256, ss.dsv % 256) then
        s.refuse r ty Status.version
      else s.refuse r ty Status.tagReuse
    | none =>
      if !r.wellFormed ty || typeUnknown ss.dsv ty then s.refuse r ty Status.malformed
      else if ss.state = .established ∨ (r.dsvMajor.toNat, r.dsvMinor.toNat) ≠ (ss.dsv / 256, ss.dsv % 256) then
        s.refuse r ty Status.version
      else f s

/-- With both copies of the option area bad, DXE serves only areas 0, 3 and E (R413). -/
def State.served (s : State) (num : Nat) : Bool :=
  s.rst.option ≠ .failed || num / 2 ^ 28 == 0 || num / 2 ^ 28 == 3 || num / 2 ^ 28 == 0xE

/-! ### Commands and result objects (R54–R56) -/

/-- Result object of a CMD parameter. -/
def State.result (s : State) (num : Nat) : Result := s.dxe.results.getD num {}

/-- End an operation that runs: DONE, FAILED or ABORTED with result data. -/
def State.finish (s : State) (num : Nat) (st : ResState) (data : Bytes) : State :=
  s.modDxe fun d =>
    { d with results := d.results.upd num {} fun r => if r.state = .pending then { r with state := st, data := data } else r }

def State.done (s : State) (num : Nat) (data : Bytes := []) : State := s.finish num .done data

/-- FAILED with a reason code. -/
def State.failed (s : State) (num reason : Nat) : State := s.finish num .failed (leBytes 1 reason)

def State.aborted (s : State) (num : Nat) : State := s.finish num .aborted []

/-- Is an operation of this parameter running? -/
def State.running (s : State) (num : Nat) : Bool := (s.result num).state = .pending

/-- Range of `pool_count` of a pool (Table 3.13), by its number. -/
def poolCountRange (num : Nat) : Nat × Nat := if (num - P.pool_count) / 65536 < 4 then (16, 393216) else (0, 65536)

/-- Is a value in one of the ranges of a parameter (R41, R63)? -/
def Param.inRange (p : Param) (v : Nat) : Bool :=
  match p.ty with
  | .bytes | .str | .key => true
  | _ => p.ranges.any fun r => r.1 ≤ v && v ≤ r.2

/-- Next op_seq of a parameter: 32 bits, skipping 0 (R54). -/
def nextOpSeq (n : Nat) : Nat := if n + 1 ≥ 2 ^ 32 then 1 else n + 1

/-- Record a WRITE or COMMAND accepted at Custodian or Factory level (Table 14.9). -/
def State.levelWrite (s : State) (slot num idx : Nat) : State :=
  let l := (s.session slot).level
  if l ≥ 2 then s.event 0x0341 slot [num, idx, slot, l] else s

/-- First refusal of a COMMAND on a parameter of the schema, in the order of R446. `own`: the session may start it at any level
(R66). `argsOk`: the range checks that a rule states for the arguments. -/
def State.commandRefusal (s : State) (r : Req) (p : Param) (num : Nat) (own argsOk : Bool) : Option Nat :=
  if p.access ≠ .cmd then some Status.wrongKind
  else if (s.session r.slot).level < p.level ∧ !own then some Status.accessDenied
  else if !bit p.modes s.mode.code then some Status.wrongMode
  else if r.args.length ≠ p.len then some Status.length
  else if !p.inRange (leNat r.args) || enumUnknown (s.session r.slot).dsv p num (leNat r.args) || !argsOk then some Status.outOfRange
  else if s.fwBlocked p then some Status.unavailable
  else if s.running num then some Status.busy
  else none

/-- A COMMAND on the parameter `first`, or on one of its instances: refused, or answered with the new op_seq, after which `run`
carries the operation out on the parameter's number and its arguments. A message that names another CMD parameter is another row's
command. -/
def State.command (s : State) (r : Req) (first : Nat) (run : Nat → Bytes → State → State)
    (own : Nat → Bool := fun _ => false) (argsOk : Bytes → Bool := fun _ => true) : State :=
  s.request r .command fun s =>
    let item := itemAt r.body
    let num := schemaNum (s.session r.slot).dsv item.1
    match s.schemaParam r.slot item.1 item.2 with
    | none => s.refuse r .command Status.noSuchParam
    | some p =>
      if !s.served num then s.refuse r .command Status.noSuchParam
      else if p.num ≠ first then (if p.access = .cmd then s else s.refuse r .command Status.wrongKind)
      else match s.commandRefusal r p num (own num) (argsOk r.args) with
        | some st => s.refuse r .command st
        | none =>
          let q := nextOpSeq (s.dxe.opSeqs.getD num 0)
          let s := s.touchLgm.modDxe fun d =>
            { d with
              opSeqs := d.opSeqs.set num q
              results := d.results.set num { state := .pending, opSeq := q, slot := r.slot, arg := r.args } }
          run num r.args ((s.respond r .command Status.ok q false []).levelWrite r.slot num item.2)

/-- Session slot and argument of the operation that runs. -/
def State.cmdSlot (s : State) (num : Nat) : Nat := (s.result num).slot
def State.cmdArg (s : State) (num : Nat) : Bytes := (s.result num).arg

end Sys2Proof.Machine
end

