-- ==== Sys2Proof/Machine/Sha256.lean ====
section
/-!
DEFINITION. SHA-256 over octet strings, which R57, R266, R268 and R276 name as the digest of the device. The
constants are computed: a constant is the first 32 fractional bits of the square or cube root of a small prime.
-/

namespace Sys2Proof.Machine.Sha256

/-- The primes below 312: the first 64. -/
def primes : List Nat := (List.range 312).filter fun n => 2 ≤ n ∧ ∀ d ∈ List.range 18, d < 2 ∨ n ≤ d ∨ n % d ≠ 0

/-- The largest number of `acc` with `bits` low bits added whose `e`-th power is at most `n`. -/
def rootFrom (e n : Nat) : Nat → Nat → Nat
  | 0, acc => acc
  | bits + 1, acc => rootFrom e n bits (if (acc + 2 ^ bits) ^ e ≤ n then acc + 2 ^ bits else acc)

/-- 32 fractional bits of the `e`-th root of `p`. -/
def rootBits (e p : Nat) : BitVec 32 := BitVec.ofNat 32 (rootFrom e (p * 2 ^ (32 * e)) 37 0)

/-- The constants of the 64 rounds, from cube roots. -/
def roundConstants : List (BitVec 32) := primes.map (rootBits 3)

/-- The chaining value before the first block, from the square roots of the first eight primes. -/
def start : List (BitVec 32) := (primes.take 8).map (rootBits 2)

/-- Exclusive or of three rotations to the right. -/
def stir (x : BitVec 32) (r : Nat × Nat × Nat) : BitVec 32 :=
  x.rotateRight r.1 ^^^ x.rotateRight r.2.1 ^^^ x.rotateRight r.2.2

/-- Exclusive or of two rotations and one shift to the right. -/
def smear (x : BitVec 32) (r : Nat × Nat × Nat) : BitVec 32 :=
  x.rotateRight r.1 ^^^ x.rotateRight r.2.1 ^^^ (x >>> r.2.2)

/-- The message schedule extended by `n` words, newest first. -/
def extend (w : List (BitVec 32)) : Nat → List (BitVec 32)
  | 0 => w
  | n + 1 =>
    let back (i : Nat) := w.getD (i - 1) 0
    extend ((smear (back 2) (17, 19, 10) + back 7 + smear (back 15) (7, 18, 3) + back 16) :: w) n

/-- The eight working words after one round, which takes the sum of its constant and its schedule word. -/
def turn (v : List (BitVec 32)) (kw : BitVec 32) : List (BitVec 32) :=
  match v with
  | [a, b, c, d, e, f, g, h] =>
    let carry := h + kw + stir e (6, 11, 25) + (g ^^^ (e &&& (f ^^^ g)))
    [carry + stir a (2, 13, 22) + ((a &&& (b ||| c)) ||| (b &&& c)), a, b, c, d + carry, e, f, g]
  | _ => v

/-- The chaining value after one block of 64 octets. -/
def absorb (v : List (BitVec 32)) (b : Bytes) : List (BitVec 32) :=
  let first := (List.range 16).map fun i => BitVec.ofNat 32 (beAt b (4 * (15 - i)) 4)
  let sums := List.zipWith (· + ·) roundConstants (extend first 48).reverse
  List.zipWith (· + ·) v (sums.foldl turn v)

/-- The chaining value after `n` blocks. -/
def absorbAll (v : List (BitVec 32)) (b : Bytes) : Nat → List (BitVec 32)
  | 0 => v
  | n + 1 => absorbAll (absorb v (b.take 64)) (b.drop 64) n

/-- The octets that complete a message of `n` octets to whole blocks: one set bit, zeros, the length in bits. -/
def padding (n : Nat) : Bytes := 0x80 :: List.replicate ((119 - n % 64) % 64) 0 ++ beBytes 8 (8 * n)

end Sys2Proof.Machine.Sha256

namespace Sys2Proof.Machine

/-- SHA-256 of an octet string, 32 octets. -/
def sha256 (b : Bytes) : Bytes :=
  (Sha256.absorbAll Sha256.start (b ++ Sha256.padding b.length) ((b.length + 72) / 64)).flatMap fun w =>
    beBytes 4 w.toNat

end Sys2Proof.Machine
end

