-- ==== Sys2Proof/Machine/DigestOps.lean ====
section
/-!
DEFINITION. Configuration digests (R57, R278).
-/

namespace Sys2Proof.Machine

/-- What DIGEST hashes of one value: number, index, type code, length, and the unpadded value. -/
def digestItem (p : Param) (num idx v : Nat) : Bytes :=
  leBytes 4 num ++ leBytes 4 idx ++ leBytes 1 p.ty.code ++ leBytes 2 p.len ++ leBytes p.len v

/-- The fabric-scope set, in ascending order. -/
def fabricScope : List Nat := [
  P.lease_dscp, P.ecn_enable, P.pfc_enable, P.pfc_priority, P.fabric_udp_port, P.hello_interval_ms, P.route_max_hops, P.route_update_ms
  , P.route_holddown_ms, P.fabric_retry_count, P.fabric_ack_timeout_us, P.fabric_data_dscp, P.caller_lost_ms, P.fabric_name
  , P.ptp_enable, P.ptp_domain]

/-- `fabric_digest`. -/
def State.fabricDigest (s : State) : Bytes :=
  sha256 ((fabricScope.flatMap fun n =>
    match findParam n with
    | some p => digestItem p n 0 (s.param n)
    | none => []) ++ leBytes 8 (s.param P.fabric_config_epoch))

/-- The digest as the 256 bits of a HELLO body, first octet highest. -/
def State.digestWord (s : State) : BitVec 256 := BitVec.ofNat 256 (beNat s.fabricDigest)

end Sys2Proof.Machine
end

