-- ==== Sys2Proof/Machine/RegionOps.lean ====
section
/-!
DEFINITION. Regions, access keys and the placement check (chapter 3).
-/

namespace Sys2Proof.Machine

/-! ### Sizes -/

/-- Bytes of a segment. -/
abbrev segBytes : Nat := 65536

/-! ### Global addresses and access keys (Tables 3.1 and 3.4) -/

def ggaMember (gga : Nat) : Nat := bits gga 63 52
def ggaOffset (gga : Nat) : Nat := bits gga 51 0
def ggaOf (member offset : Nat) : Nat := place 52 member + offset
def akIndex (ak : Nat) : Nat := bits ak 31 8
def akGen (ak : Nat) : Nat := bits ak 7 0
def akOf (idx gen : Nat) : Nat := place 8 idx + gen

/-- The generation after a rekey or a deregistration (R79). -/
def nextGen (g : Nat) : Nat := if g ≥ 255 then 1 else g + 1

/-! ### Descriptors -/

/-- Number of descriptors of the region table. -/
abbrev maxRegions : Nat := 1048576

def State.desc (s : State) (idx : Nat) : Desc := s.reg.descs.getD idx {}

/-- Class codes of Table 3.2. -/
abbrev clsMirrored : Nat := 0
abbrev clsLocal : Nat := 1
abbrev clsScratch : Nat := 2
abbrev clsExtended : Nat := 3
abbrev clsStream : Nat := 4

/-- EXTENDED or STREAM. -/
def Desc.tiered (d : Desc) : Bool := d.cls == clsExtended || d.cls == clsStream

/-- Segment map entries lie in these many segments from `backing` (R239). -/
def Desc.mapSegs (d : Desc) : Nat := ceilDiv (16 * d.lengthSeg) segBytes

/-- Rights as the six bits of Table 3.6, R_READ lowest. -/
def Rights.code (r : Rights) : Nat :=
  flag r.read + 2 * flag r.write + 4 * flag r.atomic + 8 * flag r.durable + 16 * flag r.awg + 32 * flag r.forward

def rightsOf (v : Nat) : Rights :=
  { read := bit v 0, write := bit v 1, atomic := bit v 2, durable := bit v 3, awg := bit v 4, forward := bit v 5 }

/-- Does a descriptor carry every right that is needed? -/
def Rights.covers (have_ need : Rights) : Bool :=
  (have_.read || !need.read) && (have_.write || !need.write) && (have_.atomic || !need.atomic) &&
  (have_.durable || !need.durable) && (have_.awg || !need.awg) && (have_.forward || !need.forward)

def DescState.code : DescState → Nat
  | .free => 0 | .valid => 1 | .draining => 2

def descStateOf : Nat → DescState
  | 1 => .valid | 2 => .draining | _ => .free

/-- A descriptor as the number its 64 octets spell (Table 3.3). -/
def Desc.word (d : Desc) : Nat :=
  place 448 d.cookie.toNat + place 416 d.tierAttr.toNat + place 360 d.backing + place 328 d.lengthSeg + place 264 d.base +
  place 256 d.group + place 240 d.pd.toNat + place 232 d.gen + place 229 d.cls + place 227 d.state.code +
  place 226 (flag d.dereg) + place 218 d.rights.code

/-- The descriptor that 64 octets spell. -/
def descOf (w : Nat) : Desc :=
  { cookie := BitVec.ofNat 64 (bits w 511 448), tierAttr := BitVec.ofNat 32 (bits w 447 416), backing := bits w 403 360
    lengthSeg := bits w 359 328, base := bits w 315 264, group := bits w 263 256, pd := BitVec.ofNat 16 (bits w 255 240)
    gen := bits w 239 232, cls := bits w 231 229, state := descStateOf (bits w 228 227), dereg := bit w 226
    rights := rightsOf (bits w 223 218) }

/-! ### Roles -/

def State.grp (s : State) (g : Nat) : Grp := s.mir.groups.getD g {}

def State.modGrp (s : State) (g : Nat) (f : Grp → Grp) : State :=
  s.modMir fun m => { m with groups := m.groups.upd g {} f }

/-- Group 255, or a group that holds ACTIVE or SOLO (R73, R74). -/
def State.servesGroup (s : State) (g : Nat) : Bool :=
  g == 255 || (s.grp g).role = .active || (s.grp g).role = .solo

/-- ACTIVE with its twin STANDBY: the group is mirrored and its durable point is at the twin (Table 5.8). A group that leaves this
condition becomes SOLO or FENCED. -/
def State.twinActive (s : State) (g : Nat) : Bool := g != 255 && (s.grp g).role = .active

/-! ### Placement check (Table 3.5) -/

/-- Violation kinds. -/
abbrev vBadIndex : Nat := 1
abbrev vStale : Nat := 2
abbrev vPd : Nat := 3
abbrev vRights : Nat := 4
abbrev vBounds : Nat := 5
abbrev vNotActive : Nat := 6

/-- What an access presents to the check: PD, key, address, length, and the right it needs. -/
structure Access where
  pd : BitVec 16
  ak : Nat
  gga : Nat
  len : Nat
  need : Rights
  deriving DecidableEq, Repr

/-- The first check of Table 3.5 that fails, in its order. -/
def State.placementCheck (s : State) (a : Access) : Option Nat :=
  let d := s.desc (akIndex a.ak)
  let off := ggaOffset a.gga
  if akIndex a.ak ≥ maxRegions ∨ d.state = .free then some vBadIndex
  else if akGen a.ak ≠ d.gen then some vStale
  else if a.pd ≠ d.pd then some vPd
  else if !d.rights.covers a.need then some vRights
  else if off < d.base ∨ d.base + segBytes * d.lengthSeg < off + a.len then some vBounds
  else if !s.servesGroup d.group then some vNotActive
  else none

/-- Count a refusal (R81). A refusal of the previous generation while the descriptor drains counts in the revoking command's
refused count (Table 3.8). -/
def State.countViolation (s : State) (ak kind : Nat) : State :=
  let s := (s.bump P.access_violations).bump P.violation_by_kind kind
  match s.reg.drains.find? (akIndex ak) with
  | some dr =>
    if kind = vStale ∧ akGen ak = dr.oldGen then
      s.modReg fun g => { g with drains := g.drains.set (akIndex ak) { dr with refused := dr.refused + 1 } }
    else s
  | none => s

/-! ### Descriptor cache (R76) -/

/-- Descriptors that the cache holds. -/
abbrev descCacheSize : Nat := 131072

/-- Is a descriptor cached? -/
def State.descCached (s : State) (idx : Nat) : Bool := s.reg.cache.contains idx

/-- Use a descriptor: it is now the most recently used. DESIGN CHOICE (the spec does not name the replacement order):
least recently used. -/
def State.descTouch (s : State) (idx : Nat) : State :=
  s.modReg fun g => { g with cache := (idx :: g.cache.filter (· != idx)).take descCacheSize }

/-! ### Address layout (R287, R288; the place of each device area is the model's, assumption 5) -/

/-- Bytes and segments of an interleave set, and the number of sets. -/
def State.setBytes (s : State) : Nat := 4 * s.dram.cu
def State.setSegs (s : State) : Nat := s.setBytes / segBytes
def State.nsets (s : State) : Nat := s.dram.channels / 4

/-- A channel of an interleave set is fenced, so that the set is out of service (R310). -/
def State.setFenced (s : State) (k : Nat) : Bool := s.dram.mcs.any fun e => e.1 / 4 == k && e.2.state = .fenced
def State.anySetFenced (s : State) : Bool := s.dram.mcs.any fun e => e.2.state = .fenced

/-- Capacity of the DRAM byte address space. -/
def State.dramBytes (s : State) : Nat := s.dram.channels * s.dram.cu

/-- Segments of the region table, of the transport area, of the redo area, of the paired-page holding area and of the divergence
bitmap; then of the DRAM pool area, which is outside the domain. -/
abbrev tableSegs : Nat := 1024
def State.transportSegs (s : State) : Nat := 2304 + s.param P.qp_max / 2
/-- Segments kept for the transport area, whatever `qp_max` is, so that nothing else moves with it. -/
abbrev transportRoom : Nat := 133376
abbrev redoSegs : Nat := 512
abbrev holdSegs : Nat := 1024
abbrev bitmapSegs : Nat := 512
abbrev poolAreaSegs : Nat := 73728

/-- First area segment of each area. -/
def State.transportAt (_ : State) : Nat := tableSegs
def State.redoAt (_ : State) : Nat := tableSegs + transportRoom
def State.holdAt (s : State) : Nat := s.redoAt + redoSegs
def State.bitmapAt (s : State) : Nat := s.holdAt + holdSegs
def State.poolAt (s : State) : Nat := s.bitmapAt + bitmapSegs
def State.framesAt (s : State) : Nat := s.poolAt + poolAreaSegs

/-- LSN of area segment n: the areas are divided evenly among the sets, from the bottom of each. -/
def State.areaLsn (s : State) (n : Nat) : Nat :=
  if s.nsets = 0 then n else (n % s.nsets) * s.setSegs + n / s.nsets

/-- Area segment of an LSN, whatever area it falls in. -/
def State.areaOf (s : State) (lsn : Nat) : Nat :=
  if s.nsets = 0 ∨ s.setSegs = 0 then lsn else (lsn % s.setSegs) * s.nsets + lsn / s.setSegs

/-- LSN of tier frame f. -/
def State.frameLsn (s : State) (f : Nat) : Nat := s.areaLsn (s.framesAt + f)

/-- Interleave set of an LSN. -/
def State.setOf (s : State) (lsn : Nat) : Nat := if s.setSegs = 0 then 0 else lsn / s.setSegs

/-- Channel that serves a byte address (R287). -/
def State.channelOf (s : State) (a : Nat) : Nat :=
  if s.setBytes = 0 then 0 else 4 * (a / s.setBytes) + (a % s.setBytes / 4096) % 4

/-- Address within its channel (R287). -/
def State.chAddr (s : State) (a : Nat) : Nat :=
  if s.setBytes = 0 then a else (a % s.setBytes / 4096) / 4 * 4096 + a % 4096

/-- Byte address of a channel address: the inverse of the map of R287. -/
def State.addrOf (s : State) (ch addr : Nat) : Nat :=
  (ch / 4) * s.setBytes + ((addr / 4096) * 4 + ch % 4) * 4096 + addr % 4096

/-- A device area of the domain (R176): the areas above, or the segment map of an EXTENDED or STREAM region. -/
def State.inMap (s : State) (lsn : Nat) : Option Nat :=
  (s.reg.descs.keysWhere fun _ d =>
    d.state ≠ .free && d.tiered && d.backing / segBytes ≤ lsn && lsn < d.backing / segBytes + d.mapSegs).head?

def State.isDevice (s : State) (lsn : Nat) : Bool :=
  s.areaOf lsn < tableSegs + s.transportSegs || (s.redoAt ≤ s.areaOf lsn && s.areaOf lsn < s.poolAt) || (s.inMap lsn).isSome

/-- The MIRRORED, LOCAL or SCRATCH region whose backing holds an LSN. -/
def State.regionOfLsn (s : State) (lsn : Nat) : Option Nat :=
  (s.reg.descs.keysWhere fun _ d =>
    d.state ≠ .free && !d.tiered && d.backing / segBytes ≤ lsn && lsn < d.backing / segBytes + d.lengthSeg).head?

/-- The frame number of an LSN that lies in the tier DRAM. -/
def State.frameOfLsn (s : State) (lsn : Nat) : Option Nat :=
  let n := s.areaOf lsn
  if s.framesAt ≤ n ∧ n < s.framesAt + s.tmv.totalFrames then some (n - s.framesAt) else none

/-! ### The region table -/

/-- The range of a registration overlaps a region of this member, or one whose registration is in progress (R68). -/
def State.overlapsRegion (s : State) (d : Desc) : Bool :=
  let meets := fun (e : Desc) => e.base < d.base + segBytes * d.lengthSeg && d.base < e.base + segBytes * e.lengthSeg
  s.reg.descs.any (fun e => e.2.state ≠ .free && meets e.2) ||
  match s.reg.pendingReg with
  | some p => meets p.desc
  | none => false

/-- The index is FREE, and no registration in progress has chosen it. -/
def State.idxFree (s : State) (idx : Nat) : Bool :=
  (s.desc idx).state = .free &&
  match s.reg.pendingReg with
  | some p => p.idx != idx
  | none => true

/-- The DRAM that a registration in progress has been given holds an LSN. -/
def State.pendingHolds (s : State) (lsn : Nat) : Bool :=
  match s.reg.pendingReg with
  | some p =>
    let n := if p.desc.tiered then p.desc.mapSegs else p.desc.lengthSeg
    p.desc.backing / segBytes ≤ lsn && lsn < p.desc.backing / segBytes + n
  | none => false

/-- Is a DRAM segment inside the persistence domain (R174)? -/
def State.inDomain (s : State) (lsn : Nat) : Bool :=
  (lsn * segBytes < s.dramBytes) && !(s.poolAt ≤ s.areaOf lsn && s.areaOf lsn < s.framesAt) &&
  match s.regionOfLsn lsn with
  | some i => (s.desc i).cls != clsScratch
  | none => true

end Sys2Proof.Machine
end

