-- ==== Sys2Proof/Machine/BpmOps.lean ====
section
/-!
DEFINITION. Buffer pools (R87–R90): allocation with fallback, frees and handover.
-/

namespace Sys2Proof.Machine

/-- Buffer size of a pool (Table 3.10). -/
def poolSize (p : Nat) : Nat := [256, 2048, 4096, 65536, 65536, 262144, 1048576, 4194304].getD p 0

def State.poolCount (s : State) (p : Nat) : Nat := s.param (perInst P.pool_count p)
def State.pool (s : State) (p : Nat) : Pool := s.reg.pools.getD p {}
/-- A DRAM pool buffer that is withdrawn: buffer b lies in set b mod the number of sets (R310, assumption 5). -/
def State.bufOut (s : State) (p b : Nat) : Bool := 4 ≤ p && s.nsets > 0 && s.setFenced (b % s.nsets)
/-- FREE buffers of a pool that are withdrawn. -/
def State.poolOut (s : State) (p : Nat) : Nat :=
  if 4 ≤ p && s.anySetFenced then (List.range (s.poolCount p)).countP fun b => s.bufOut p b && !(s.pool p).held.has b else 0
def State.poolFree (s : State) (p : Nat) : Nat := s.poolCount p - (s.pool p).held.length - s.poolOut p

def State.setPool (s : State) (p : Nat) (q : Pool) : State := s.modReg fun g => { g with pools := g.pools.set p q }

/-- The lowest buffer number from `n` on, among the next `k`, that is FREE and not withdrawn. DESIGN CHOICE (the spec
does not say which FREE buffer is taken): the lowest number. -/
def State.freeBufFrom (s : State) (p : Nat) : Nat → Nat → Nat
  | 0, n => n
  | k + 1, n => if (s.pool p).held.has n || s.bufOut p n then s.freeBufFrom p k (n + 1) else n

/-- Note how few buffers of a pool are free (`pool_low_water`). -/
def State.notePool (s : State) (p : Nat) : State :=
  let n := s.poolFree p
  let q := s.pool p
  if n < q.fewest.getD (s.poolCount p) then s.setPool p { q with fewest := some n } else s

/-- Take a buffer of a pool: its tag is the agent's, and the pointer moves past the winner (R89, R90). -/
def State.takeBuf (s : State) (agent : Fin 8) (p : Nat) : State × (Nat × Nat) :=
  let q := s.pool p
  let n := s.freeBufFrom p (s.poolCount p) 0
  ((s.setPool p { q with held := q.held.set n agent, ptr := (agent.val + 1) % 8 }).notePool p, (p, n))

/-- Search the pools in order from the first whose buffers are large enough (R88). -/
def State.allocFrom (s : State) (agent : Fin 8) (n : Nat) : List Nat → State × Option (Nat × Nat)
  | [] => (s, none)
  | p :: t =>
    if poolSize p < n then s.allocFrom agent n t
    else if s.poolFree p > 0 then
      let r := s.takeBuf agent p
      (if 4 ≤ p then r.1.rqCount 8 n else r.1, some r.2)
    else if p = 7 then (s.bump (perInst P.pool_no_buffer 7), none)
    else (s.bump (perInst P.pool_fallbacks p)).allocFrom agent n t

/-- Allocate for `n` bytes, 1 to 4 MiB; none is NO_BUFFER. -/
def State.alloc (s : State) (agent : Fin 8) (n : Nat) : State × Option (Nat × Nat) :=
  s.allocFrom agent n [0, 1, 2, 3, 4, 5, 6, 7]

/-- Free a buffer. -/
def State.freeBuf (s : State) (b : Nat × Nat) : State :=
  let q := s.pool b.1
  s.setPool b.1 { q with held := q.held.del b.2 }

def State.freeBufs (s : State) (l : List (Nat × Nat)) : State := l.foldl State.freeBuf s

/-- A held buffer is handed to another agent: its tag is rewritten (R90). -/
def State.handOver (s : State) (agent : Fin 8) (b : Nat × Nat) : State :=
  let q := s.pool b.1
  s.setPool b.1 { q with held := q.held.set b.2 agent }

def State.handOvers (s : State) (agent : Fin 8) (l : List (Nat × Nat)) : State := l.foldl (fun s b => s.handOver agent b) s

/-- Note what a buffer is held for. -/
def State.noteHold (s : State) (u : BufUse) (b : Nat × Nat) : State :=
  s.modReg fun g => { g with holds := g.holds ++ [{ use := u, pool := b.1, buf := b.2 }] }

/-- A buffer is free in a pool that can take `n` octets. -/
def State.anyBuf (s : State) (n : Nat) : Bool := (List.range 8).any fun p => n ≤ poolSize p && s.poolFree p > 0

/-- Take a buffer for a job of an agent; with NO_BUFFER the job waits for the next free one (Table 3.11), and asks once only. -/
def State.holdFor (s : State) (agent : Fin 8) (n : Nat) (u : BufUse) : State × Bool :=
  if s.reg.bufWaits.contains u && !s.anyBuf n then (s, false)
  else
    let r := s.alloc agent n
    match r.2 with
    | some b => ((r.1.noteHold u b).modReg fun g => { g with bufWaits := g.bufWaits.filter (· != u) }, true)
    | none => (r.1.modReg fun g => { g with bufWaits := g.bufWaits.filter (· != u) ++ [u] }, false)

/-- The job, the frames or the held frame that a buffer is held for has ended. -/
def State.useEnded (s : State) : BufUse → Bool
  | .drain lsn => !s.pde.drains.any fun d => d.lsn == lsn
  | .fetch k => !s.tmv.fetches.any fun f => f.key == k
  | .frames g q => (s.mir.groups.getD g {}).frames.all fun f => q < f.seq
  | .held g q => (s.mir.groups.getD g {}).held.all fun f => f.seq != q

/-- Free the buffers whose use has ended. -/
def State.sweepBufs (s : State) : State :=
  let ended := s.reg.holds.filter fun h => s.useEnded h.use
  (s.freeBufs (ended.map fun h => (h.pool, h.buf))).modReg fun g => { g with holds := g.holds.filter fun h => !s.useEnded h.use }

/-- A read of the buffer is still to complete: a drain's segment is being programmed, a fetched one is being placed, or a frame has
not left (R90). -/
def State.useReads (s : State) : BufUse → Bool
  | .drain _ => true
  | .fetch k => s.tmv.fetches.any fun f => f.key == k && f.ready
  | .frames g q => (s.mir.groups.getD g {}).frames.any fun f => f.seq ≤ q && f.sentAt.isNone
  | .held .. => true

/-- BPM answers NO_BUFFER for MIR (agent tag 1) for a full frame. -/
def State.mirNoBuffer (s : State) : Bool := (List.range 8).all fun p => poolSize p < 4096 || s.poolFree p == 0

/-! ### Buffer addresses (R87, R91; the place of each pool is the model's, assumption 5) -/

/-- Number of sets over which the DRAM pools are divided. -/
def State.poolSets (s : State) : Nat := max 1 s.nsets

/-- Buffers of a DRAM pool that lie in one set, at most. -/
def State.poolPerSet (s : State) (p : Nat) : Nat := ceilDiv (s.poolCount p) s.poolSets

/-- Base address of a pool. The on-chip pools lie one after the other from 2^63. The DRAM pools lie in the lower 4 GiB of the pool area,
divided evenly among the sets (R288): each has a base in every set. -/
def State.poolBase (s : State) (p set : Nat) : Nat :=
  if p < 4 then 2 ^ 63 + ((List.range p).map fun q => s.poolCount q * poolSize q).sum
  else set * s.setBytes + s.poolAt / s.poolSets * segBytes + ((List.range (p - 4)).map fun q => s.poolPerSet (4 + q) * poolSize (4 + q)).sum

/-- Octets of a pool from its base in a set. -/
def State.poolSpan (s : State) (p : Nat) : Nat := if p < 4 then s.poolCount p * poolSize p else s.poolPerSet p * poolSize p

/-- The pool and the set that an address lies in. -/
def State.poolOf (s : State) (a : Nat) : Option (Nat × Nat) :=
  (((List.range 4).map fun p => (p, 0)) ++ (List.range 4).flatMap fun p => (List.range s.poolSets).map fun k => (4 + p, k)).find? fun e =>
    s.poolBase e.1 e.2 ≤ a && a < s.poolBase e.1 e.2 + s.poolSpan e.1

/-- Number of the buffer at an offset from a pool's base in a set. -/
def State.bufAt (s : State) (p set off : Nat) : Nat := if p < 4 then off / poolSize p else off / poolSize p * s.poolSets + set

end Sys2Proof.Machine
end

