-- ==== Sys2Proof/Machine/PdeOps.lean ====
section
/-!
DEFINITION. The persistence domain: drain states of segments, the dirty count, the budget tests (R137, R163, R175–R181), and the
copies that the deep store holds.
-/

namespace Sys2Proof.Machine

/-! ### Drain states (Table 7.2) -/

/-- Drain state of a DRAM segment. -/
def State.segState (s : State) (lsn : Nat) : Drained :=
  match s.pde.segs.find? lsn with
  | some g => g.state
  | none => if s.pde.restAbsent && s.inDomain lsn && (s.frameOfLsn lsn).isNone && !s.isDevice lsn then .absent else .clean

/-- DIRTY, DRAINING or REDIRTY: the charge is taken. -/
def Drained.charged : Drained → Bool
  | .dirty | .draining | .redirty => true
  | _ => false

def State.setSeg (s : State) (lsn : Nat) (g : Seg) : State := s.modPde fun p => { p with segs := p.segs.set lsn g }

def State.setSegState (s : State) (lsn : Nat) (d : Drained) : State :=
  s.modPde fun p => { p with segs := p.segs.upd lsn {} fun g => { g with state := d } }

/-- A write to a segment (rows "Write" of Table 7.2): the last-write time is kept in ms. A segment outside the domain has no
drain state. -/
def State.dirtySeg (s : State) (lsn : Nat) : State :=
  if s.inDomain lsn then
    let d : Drained := match s.segState lsn with
      | .draining | .redirty => .redirty
      | _ => .dirty
    s.setSeg lsn { state := d, lastMs := s.now / msNs }
  else s

/-- A write to a segment has completed (R177): only one that has changed the contents makes it dirty; any other renews the last-write
time of a segment that is dirty. A write that covers an ABSENT segment brings it contents. -/
def State.wroteSeg (s : State) (lsn : Nat) (changed : Bool) : State :=
  if changed || s.segState lsn = .absent then s.dirtySeg lsn
  else if (s.segState lsn).charged then
    s.modPde fun p => { p with segs := p.segs.upd lsn {} fun g => { g with lastMs := s.now / msNs } }
  else s

def State.dirtySegs (s : State) (l : List Nat) : State := l.foldl State.dirtySeg s

/-- A write to a device area at these octets of the area that starts at area segment `at_`. -/
def State.dirtyArea (s : State) (at_ off : Nat) : State := s.dirtySeg (s.areaLsn (at_ + off / segBytes))

/-- Write a descriptor through the cache and the table in one step (R76). -/
def State.setDesc (s : State) (idx : Nat) (d : Desc) : State :=
  (((s.modReg fun g => { g with descs := g.descs.set idx d }).descTouch idx).rqCount 2 64).wroteSeg (s.areaLsn (64 * idx / segBytes))
    (s.desc idx != d)

/-! ### The dirty count and the budget (R163, R180, R137, R181) -/

/-- H: charged segments of region data; D: the same for the device areas. -/
def State.dirtyH (s : State) : Nat := s.pde.segs.countWhere fun lsn g => g.state.charged && !s.isDevice lsn
def State.dirtyD (s : State) : Nat := s.pde.segs.countWhere fun lsn g => g.state.charged && s.isDevice lsn

/-- Save reserve in segments (1,280 MiB). -/
abbrev saveReserve : Nat := 20480

/-- The count that R163 calls dirty. -/
def State.dirtyCount (s : State) : Nat := s.dirtyH + (s.dirtyD - saveReserve)

/-- Permitted dirty budget in segments. -/
def State.permitted (s : State) : Nat := s.pde.budget.permittedGib * 16384

/-- Does u reach a share of 1, in percent? -/
def State.occAtLeast (s : State) (pct : Nat) : Bool :=
  let n := s.dirtyCount + s.pde.reserved
  if s.permitted = 0 then n > 0 else 100 * n ≥ pct * s.permitted

/-- Free budget for a message to a group (R181). -/
def State.freeBudget (s : State) (g : Nat) : Nat :=
  let own := s.permitted - (s.dirtyCount + s.pde.reserved)
  if s.twinActive g then
    match s.mir.twinFree with
    | some f => min own f
    | none => own
  else own

/-- Outcome of the two tests of R137. -/
inductive BudgetTest | fits | exceeded | short
  deriving DecidableEq, Repr

/-- The tests of R137. While u exceeds 1 every write-type admission is deferred, a charge of 0 too (R184). -/
def State.budgetTest (s : State) (g charge : Nat) : BudgetTest :=
  if s.permitted > 0 ∧ 2 * charge > s.permitted then .exceeded
  else if s.freeBudget g < charge ∨ s.permitted < s.dirtyCount + s.pde.reserved then .short
  else .fits

/-- Reserve and release dirty charge. -/
def State.reserveCharge (s : State) (n : Nat) : State := s.modPde fun p => { p with reserved := p.reserved + n }
def State.releaseCharge (s : State) (n : Nat) : State := s.modPde fun p => { p with reserved := p.reserved - n }

/-! ### Deep-store copies (R175, R197, Table 12.6) -/

/-- Deep-store map entry of an LSN; kind NONE is `planned`. -/
def State.deepOf (s : State) (lsn : Nat) : DeepEntry := s.flash.deep.getD lsn {}

/-- A copy that needs no flash read: kind ZERO or NONE. -/
def DeepEntry.noRead (e : DeepEntry) : Bool := e.kind = .zero || e.kind = .planned

/-- Write the plaintext of a segment to DRAM: every byte that the cells do not list is zero. -/
def State.fillSegment (s : State) (lsn : Nat) (cells : List Host.Cell) : State :=
  let s := s.dramZero (lsn * segBytes) segBytes
  s.modDram fun d => { d with mem := Memory.overlay d.mem (lsn * segBytes) (cells.filter (·.1 < segBytes)) }

/-- Plaintext of a DRAM segment as it stands. -/
def State.segmentCells (s : State) (lsn : Nat) : List Host.Cell := Memory.extract s.dram.mem (lsn * segBytes) segBytes

/-- Do the contents of a segment, with the poison in it, differ from what another state holds there? -/
def State.segDiffers (s t : State) (lsn : Nat) : Bool :=
  s.segmentCells lsn != t.segmentCells lsn ||
    (s.dram.poison.filter fun l => l / 1024 == lsn) != t.dram.poison.filter fun l => l / 1024 == lsn

/-- A fetch of this key is in progress. -/
def State.fetching (s : State) (k : FetchKey) : Bool := s.tmv.fetches.any (·.key == k)

def State.addFetch (s : State) (f : Fetch) : State := s.modTmv fun t => { t with fetches := t.fetches ++ [f] }
def State.dropFetch (s : State) (k : FetchKey) : State :=
  s.modTmv fun t => { t with fetches := t.fetches.filter (·.key != k) }
def State.fetchOf (s : State) (k : FetchKey) : Option Fetch := s.tmv.fetches.find? (·.key == k)
def State.modFetch (s : State) (k : FetchKey) (f : Fetch → Fetch) : State :=
  s.modTmv fun t => { t with fetches := t.fetches.map fun x => if x.key = k then f x else x }

/-- Start the fetch of an ABSENT DRAM segment; with no buffer for it PDE waits (Table 3.11). -/
def State.fetchDram (s : State) (lsn : Nat) : State :=
  if s.fetching (.dram lsn) then s
  else
    let e := s.deepOf lsn
    let r := s.holdFor 2 segBytes (.fetch (.dram lsn))
    if !r.2 then r.1
    else r.1.addFetch { key := .dram lsn, content := if e.kind = .planned then [] else e.content, bytes := e.storedLen, ready := e.noRead }

/-- Fill an ABSENT segment on RQ6 with the contents that its fetch delivers. -/
def State.fillAbsent (s : State) (lsn : Nat) (cells : List Host.Cell) : State :=
  ((s.fillSegment lsn cells).setSegState lsn .clean).rqCount 6 segBytes

/-- Is a segment's content in DRAM? An ABSENT segment of kind ZERO or NONE is filled at once (R197); any other ABSENT segment is
fetched, and the access waits. -/
def State.accessDram (s : State) (lsn : Nat) (whole : Bool) : State × Bool :=
  if s.setFenced (s.setOf lsn) then (s, false)
  else if s.segState lsn ≠ .absent ∨ whole then (s, true)
  else if (s.deepOf lsn).noRead then (s.fillAbsent lsn [], true)
  else (s.fetchDram lsn, false)

/-- An on-demand fetch carried out at once, for the rings that XPT itself reads and writes: the segment is CLEAN with its deep-store
contents. -/
def State.fetchNow (s : State) (lsn : Nat) : State :=
  if s.segState lsn = .absent then
    (s.fillAbsent lsn (if (s.deepOf lsn).kind = .planned then [] else (s.deepOf lsn).content)).dropFetch (.dram lsn)
  else s

/-- First ABSENT segment from `lsn` on that no refill has taken. -/
def State.firstAbsent (s : State) : Nat → Nat → Option Nat
  | 0, _ => none
  | n + 1, lsn => if s.segState lsn = .absent ∧ !s.pde.refills.contains lsn then some lsn else s.firstAbsent n (lsn + 1)

/-- Number of ABSENT segments of the domain (`refill_pending_segments`). -/
def State.absentCount (s : State) : Nat :=
  let listed := s.pde.segs.countWhere fun _ g => g.state = .absent
  if s.pde.restAbsent then
    let scratch := (s.reg.descs.map fun e => if e.2.state ≠ .free && e.2.cls == clsScratch then e.2.lengthSeg else 0).sum
    let maps := (s.reg.descs.map fun e => if e.2.state ≠ .free && e.2.tiered then e.2.mapSegs else 0).sum
    let areas := tableSegs + s.transportSegs + redoSegs + holdSegs + bitmapSegs
    let domain := s.dramBytes / segBytes - poolAreaSegs - areas - maps - scratch - s.tmv.totalFrames
    domain - (s.pde.segs.countWhere fun lsn g =>
      g.state ≠ .absent && s.inDomain lsn && (s.frameOfLsn lsn).isNone && !s.isDevice lsn)
  else listed

end Sys2Proof.Machine
end

