-- ==== Sys2Proof/Machine/TierOps.lean ====
section
/-!
DEFINITION. Tiers: frames, segment maps, promotion and eviction (chapter 9), and the bytes of a region wherever its segments lie.
-/

namespace Sys2Proof.Machine

/-! ### tier_attr (Table 9.1) -/

/-- Window frames of a STREAM region (R238). -/
def Desc.window (d : Desc) : Nat := min (max 16 (bits d.tierAttr.toNat 31 16)) d.lengthSeg

/-- Stride in segments, two's complement. -/
def Desc.stride (d : Desc) : Int := (BitVec.ofNat 8 (bits d.tierAttr.toNat 15 8)).toInt

def Desc.depth (d : Desc) : Nat := bits d.tierAttr.toNat 7 4
def Desc.noCompress (d : Desc) : Bool := bit d.tierAttr.toNat 0

/-! ### Segment map (Table 9.2) -/

/-- Key of a segment in the segment maps. -/
def mapKey (idx seg : Nat) : Nat := idx * 2 ^ 32 + seg

def State.entry (s : State) (idx seg : Nat) : MapEntry := s.tmv.maps.getD (mapKey idx seg) {}

def MState.code : MState → Nat
  | .absent => 0 | .promoting => 1 | .resident => 2 | .evicting => 3 | .recovering => 4 | .poisoned => 5

/-- The segment awaits resync at this member (R231). -/
def State.resyncWait (s : State) (idx seg : Nat) : Bool :=
  match (s.grp (s.desc idx).group).target with
  | some t => t.awaiting.contains (idx, seg)
  | none => false

/-- The 16 octets of a segment's map entry (Table 9.2). -/
def State.entryOctets (s : State) (idx seg : Nat) : Bytes :=
  let e := s.entry idx seg
  leBytes 16 (e.home % 2 ^ 32 * 2 ^ 96 + e.frame % 2 ^ 28 * 2 ^ 64 + (if s.resyncWait idx seg then 64 else 0) + (if e.divergent then 32 else 0) +
    e.mstate.code)

/-- Write the map entry of a segment as it stands to the map at the descriptor's backing, in one write on RQ7 (R239). -/
def State.writeEntry (s : State) (idx seg : Nat) : State :=
  let at_ := (s.desc idx).backing + 16 * seg
  let t := (s.dramWrite at_ (s.entryOctets idx seg)).rqCount 7 16
  t.wroteSeg (at_ / segBytes) (t.segDiffers s (at_ / segBytes))

/-- Write a map entry whole (R239); the map is a device area. -/
def State.setEntry (s : State) (idx seg : Nat) (e : MapEntry) : State :=
  (s.modTmv fun t => { t with maps := t.maps.set (mapKey idx seg) e }).writeEntry idx seg

def State.modEntry (s : State) (idx seg : Nat) (f : MapEntry → MapEntry) : State := s.setEntry idx seg (f (s.entry idx seg))

/-! ### Frames (R236) -/

/-- Window frames of the registered STREAM regions. -/
def State.windowFrames (s : State) : Nat :=
  (s.reg.descs.map fun e => if e.2.state ≠ .free && e.2.cls == clsStream then e.2.window else 0).sum

/-- Frames that lie in an interleave set out of service (R310). -/
def State.lostFrames (s : State) : Nat :=
  if s.anySetFenced then (List.range s.tmv.totalFrames).countP fun f => s.setFenced (s.setOf (s.frameLsn f)) else 0
def State.sharedFrames (s : State) : Nat := s.tmv.totalFrames - s.lostFrames - s.windowFrames

/-- Frames in use of the shared cache and of a window. -/
def State.sharedUsed (s : State) : Nat := s.tmv.frames.countWhere fun _ f => !f.window
def State.windowUsed (s : State) (idx : Nat) : Nat := s.tmv.frames.countWhere fun _ f => f.window && f.idx == idx

/-- The lowest frame number from `n` on, among the next `k`, that is not in use and not out of service. -/
def State.freeFrameFrom (s : State) : Nat → Nat → Option Nat
  | 0, _ => none
  | k + 1, n =>
    if s.tmv.frames.has n || s.setFenced (s.setOf (s.frameLsn n)) then s.freeFrameFrom k (n + 1) else some n

/-- Does an open message still read or place bytes of a segment (R240)? -/
def OpenMsg.holdsSeg (m : OpenMsg) (idx seg : Nat) : Bool :=
  let within := fun (first n : Nat) => 0 < n && first / segBytes ≤ seg && seg ≤ (first + n - 1) / segBytes
  m.via.isNone && m.verdict.isNone && m.idx == idx && match m.kind with
  | .read | .tread => within (m.off + m.rcvd) (m.len - m.rcvd)
  | .send | .write | .writeImm | .dwrite => !(m.ended && m.jobs.isEmpty) && within m.off (if m.ended then m.len else max m.len m.bufLen)
  | .cswap | .fadd | .cas16 => !m.jobs.isEmpty && within m.off 16
  | _ => false

/-- Is a reference held on a segment: by an access that is issued or admitted, or by a READ_REQ of the twin or to it (R240)? -/
def State.referenced (s : State) (idx seg : Nat) : Bool :=
  let at_ := (s.desc idx).base + seg * segBytes
  s.xpt.rq0.any (fun j => j.idx == idx && j.off / segBytes == seg) ||
  s.xpt.rq1.any (fun r => r.idx == idx && r.off / segBytes ≤ seg && seg ≤ (r.off + r.len - 1) / segBytes) ||
  s.xpt.qps.any (fun q => q.2.msgs.any fun m => m.holdsSeg idx seg) ||
  s.mir.waitReads.any (fun r =>
    let b := r.2.2.1
    b.index.toNat == idx && b.offset.toNat < at_ + segBytes && at_ < b.offset.toNat + b.length.toNat) ||
  s.tmv.reads.any (fun r => r.idx == idx && r.seg == seg)

/-- A RESIDENT, CLEAN, unreferenced frame. -/
def State.evictable (s : State) (n : Nat) (f : Frame) : Bool :=
  (s.entry f.idx f.seg).mstate = .resident && s.segState (s.frameLsn n) = .clean && !s.referenced f.idx f.seg

/-- Free a frame. -/
def State.freeFrame (s : State) (n : Nat) : State :=
  (s.modTmv fun t => { t with frames := t.frames.del n }).setSegState (s.frameLsn n) .clean

/-- Unmapping begins: RESIDENT to EVICTING. -/
def State.beginEvict (s : State) (f : Frame) : State := s.modEntry f.idx f.seg fun e => { e with mstate := .evicting }

/-- The unmapping write completes: the entry is ABSENT, the frame is free. -/
def State.endEvict (s : State) (idx seg : Nat) : State :=
  let e := s.entry idx seg
  match s.frameOfLsn e.frame with
  | some n => ((s.setEntry idx seg { e with mstate := .absent, frame := 0 }).freeFrame n).bump P.evictions
  | none => s.setEntry idx seg { e with mstate := .absent, frame := 0 }

/-- One turn of the clock over shared frames (R242): the victim, and the frames passed whose reference bit is cleared. -/
def clockVictim (ok : Nat → Frame → Bool) : Tbl Frame → List Nat → Option Nat × List Nat
  | [], cleared => (none, cleared)
  | (n, f) :: t, cleared =>
    if f.ref ∧ !cleared.contains n then clockVictim ok t (n :: cleared)
    else if ok n f then (some n, cleared)
    else clockVictim ok t cleared

/-- Choose a victim of the shared cache: the clock goes round from the hand, at most twice, clearing reference bits as it passes, and
stops behind the victim. `keep`: segments that must not be evicted. -/
def State.sharedVictim (s : State) (keep : Nat → Nat → Bool := fun _ _ => false) : State × Option Nat :=
  let shared := s.tmv.frames.filter fun e => !e.2.window
  let order := shared.filter (fun e => s.tmv.hand ≤ e.1) ++ shared.filter (fun e => e.1 < s.tmv.hand)
  let r := clockVictim (fun n f => s.evictable n f && !keep f.idx f.seg) (order ++ order) []
  (s.modTmv fun t =>
    { t with
      frames := t.frames.mapVals fun n f => if r.2.contains n then { f with ref := false } else f
      hand := match r.1 with
        | some n => n + 1
        | none => t.hand }, r.1)

/-- How far a frame's segment lies from the accessed one, against the stride direction; for stride 0, how long it has not been
used (R248). -/
def State.windowScore (s : State) (d : Desc) (seg : Nat) (f : Frame) : Int :=
  if d.stride = 0 then (s.tmv.useClock : Int) - f.used
  else if d.stride > 0 then (seg : Int) - f.seg
  else (f.seg : Int) - seg

/-- The entry with the highest score; the first of equals. -/
def bestBy {α : Type} (score : α → Int) : List α → Option α
  | [] => none
  | a :: t => match bestBy score t with
    | some b => if score b > score a then some b else some a
    | none => some a

def State.windowVictim (s : State) (idx seg : Nat) (keep : Nat → Nat → Bool) : Option Nat :=
  let l := s.tmv.frames.filter fun e => e.2.window && e.2.idx == idx && s.evictable e.1 e.2 && !keep idx e.2.seg
  (bestBy (fun e => s.windowScore (s.desc idx) seg e.2) l).map (·.1)

/-! ### Pools of frames, and reservations (R241, R242, R248)

A pool is the window of a STREAM region, or the shared cache (`none`). -/

def State.framePool (s : State) (idx : Nat) : Option Nat := if (s.desc idx).cls == clsStream then some idx else none

/-- Frames of a pool that hold no segment. -/
def State.freeFrames (s : State) : Option Nat → Nat
  | some i => (s.desc i).window - s.windowUsed i
  | none => s.sharedFrames - s.sharedUsed

/-- Reservations in a pool that satisfy a test. -/
def State.resvIn (s : State) (p : Option Nat) (q : FrameResv → Bool) : Nat := s.tmv.resv.countP fun r => s.framePool r.idx == p && q r

/-- Evict a victim of a pool for a segment: one more of its frames is free. The second component says whether there was one. -/
def State.evictOne (s : State) (p : Option Nat) (seg : Nat) (keep : Nat → Nat → Bool) : State × Bool :=
  let v := match p with
    | some i => (s, s.windowVictim i seg keep)
    | none => s.sharedVictim keep
  match v.2.bind v.1.tmv.frames.find? with
  | some f => ((v.1.beginEvict f).endEvict f.idx f.seg, true)
  | none => (v.1, false)

/-- Is there a frame of a pool for a segment: one reserved for it; else a free one that no reservation has taken, or that of a victim,
while no reservation waits? -/
def State.frameRoom (s : State) (p : Option Nat) (idx seg : Nat) (keep : Nat → Nat → Bool) : State × Bool :=
  let mine := s.tmv.resv.any fun r => r.idx == idx && r.seg == seg && !r.waiting
  if mine && 0 < s.freeFrames p then (s, true)
  else if !mine && s.resvIn p (·.waiting) > 0 then (s, false)
  else if !mine && s.resvIn p (fun _ => true) < s.freeFrames p then (s, true)
  else s.evictOne p seg keep

/-- Put a segment into the lowest free frame, of the window or of the shared cache. -/
def State.fillFrame (s : State) (idx seg : Nat) (window : Bool) : State × Option Nat :=
  match s.freeFrameFrom s.tmv.totalFrames 0 with
  | none => (s, none)
  | some n =>
    let s := s.modTmv fun t =>
      { t with
        frames := t.frames.set n { idx := idx, seg := seg, ref := true, window := window, used := t.useClock }
        useClock := t.useClock + 1
        resv := t.resv.filter fun r => !(r.idx == idx && r.seg == seg) }
    (s.setSegState (s.frameLsn n) .clean, some n)

/-- Take a frame for a segment: a free one of its window or of the shared cache, else that of a victim, which is evicted first.
`borrow`: at a STANDBY, a window without a frame borrows one from the shared cache (R248). `keep`: segments that must not be
evicted (R249). -/
def State.takeFrame (s : State) (idx seg : Nat) (borrow : Bool := false) (keep : List Nat := []) : State × Option Nat :=
  let p := s.framePool idx
  let kept := fun (i g : Nat) => i == idx && keep.contains g
  let r := s.frameRoom p idx seg kept
  if r.2 then r.1.fillFrame idx seg p.isSome
  else if borrow && p.isSome then
    let r := r.1.frameRoom none idx seg kept
    if r.2 then r.1.fillFrame idx seg false else (r.1, none)
  else (r.1, none)

/-- Free and evictable frames that reservations have not taken, for a region (R241); segments that `keep` names are not evicted. -/
def State.framesFor (s : State) (idx : Nat) (keep : Nat → Nat → Bool) : Nat :=
  let p := s.framePool idx
  let mine := fun (f : Frame) => match p with
    | some i => f.window && f.idx == i
    | none => !f.window
  s.freeFrames p + (s.tmv.frames.countWhere fun n f => mine f && s.evictable n f && !keep f.idx f.seg) - s.resvIn p fun _ => true

/-- A free frame goes to a reservation that waits, or that of a victim does. -/
def State.grantFrame (s : State) (keep : Nat → Nat → Bool) (r : FrameResv) : State :=
  let p := s.framePool r.idx
  let got := if s.resvIn p (fun r => !r.waiting) < s.freeFrames p then (s, true) else s.evictOne p r.seg keep
  if got.2 then got.1.modTmv fun t => { t with resv := t.resv.map fun x => if x = r then { x with waiting := false } else x }
  else got.1

/-- The reservations that wait take what frames there are, the oldest first (R242). -/
def State.grantFrames (s : State) (keep : Nat → Nat → Bool := fun _ _ => false) : State :=
  (s.tmv.resv.filter (·.waiting)).foldl (fun s r => s.grantFrame keep r) s

/-- Reserve a frame for each of these segments of a message (R241). -/
def State.reserveFrames (s : State) (qpn msg idx : Nat) (segs : List Nat) (keep : Nat → Nat → Bool) : State :=
  if segs.isEmpty then s
  else (s.modTmv fun t => { t with resv := t.resv ++ segs.map fun g => { qpn := qpn, msg := msg, idx := idx, seg := g } }).grantFrames keep

/-- The window frames of a STREAM region are taken from the shared cache at its registration: victims leave it until it keeps within
what is left to it (R236, R248). -/
def State.shrinkShared (s : State) (window : Nat) : Nat → State
  | 0 => s
  | n + 1 =>
    if s.sharedUsed + window ≤ s.sharedFrames then s
    else
      let r := s.evictOne none 0 fun _ _ => false
      if r.2 then r.1.shrinkShared window n else r.1

/-! ### Promotion (R240) -/

/-- Begin the promotion of an ABSENT segment; it waits while no buffer (Table 3.11) or no frame can be had. -/
def State.promote (s : State) (idx seg : Nat) (prefetch : Bool := false) (keep : List Nat := []) : State :=
  let b := s.holdFor 3 segBytes (.fetch (.tier (BitVec.ofNat 20 idx) seg))
  if !b.2 then b.1
  else match b.1.takeFrame idx seg false keep with
  | (s, none) => s
  | (s, some n) =>
    let e := s.entry idx seg
    let deep := s.deepOf e.home
    let s := s.setEntry idx seg { e with mstate := .promoting, frame := s.frameLsn n }
    let s := s.modTmv fun t => { t with frames := t.frames.upd n { idx := idx, seg := seg } fun f => { f with prefetched := prefetch } }
    let none_ := e.home = 0 || deep.noRead
    let key : FetchKey := .tier (BitVec.ofNat 20 idx) seg
    ((s.dropFetch key).addFetch
      { key := key, content := if none_ then [] else deep.content, bytes := if none_ then 0 else deep.storedLen, ready := none_ }).bump P.promotions

/-- How an access finds its segment. -/
inductive Avail | ready | wait | poison
  deriving DecidableEq, Repr

/-- Note a use of the frame that holds a segment: its reference bit is set. -/
def State.useFrame (s : State) (idx seg : Nat) (read : Bool) : State :=
  match s.frameOfLsn (s.entry idx seg).frame with
  | some n => match s.tmv.frames.find? n with
    | some f =>
      (s.bumpIf (read && f.prefetched) P.prefetch_hits).modTmv fun t =>
        { t with
          frames := t.frames.set n { f with ref := true, used := t.useClock, prefetched := f.prefetched && !read }
          useClock := t.useClock + 1 }
    | none => s
  | none => s

/-- A write that covers the whole of an ABSENT or POISONED segment has a frame, and is still to be placed in it. -/
def State.wholeHeld (s : State) (idx seg : Nat) : Bool := s.tmv.frames.any fun e => e.2.idx == idx && e.2.seg == seg

/-- A write that covers the whole of an ABSENT or POISONED segment takes its frame (Table 9.3). -/
def State.wholeFrame (s : State) (idx seg : Nat) : State × Avail :=
  if s.wholeHeld idx seg then (s, .ready)
  else
    let r := s.takeFrame idx seg
    (r.1, if r.2.isSome then .ready else .wait)

/-- An access to a segment: the transition that Tables 7.2 and 9.3 give it, and whether its bytes are there. `whole`: a write that
covers the whole segment. -/
def State.accessSeg (s : State) (idx seg : Nat) (whole read : Bool) : State × Avail :=
  let d := s.desc idx
  if !d.tiered then
    if d.cls == clsScratch then (s, .ready)
    else
      let r := s.accessDram (d.backing / segBytes + seg) whole
      (r.1, if r.2 then .ready else .wait)
  else match (s.entry idx seg).mstate with
    | .absent => if whole then s.wholeFrame idx seg else if s.wholeHeld idx seg then (s, .wait) else (s.promote idx seg, .wait)
    | .promoting | .recovering => (s, .wait)
    | .resident => (s.useFrame idx seg read, .ready)
    | .evicting =>
      (((s.modEntry idx seg fun e => { e with mstate := .resident }).bump P.evict_cancelled).useFrame idx seg read, .ready)
    | .poisoned => if whole then s.wholeFrame idx seg else (s, .poison)

/-- The flash copy or the twin copy of a segment is placed: lines of the merge mask keep what mirrored placements put there
(R246). -/
def State.placeCopy (s : State) (idx seg : Nat) (cells : List Host.Cell) : State :=
  let lsn := (s.entry idx seg).frame
  let mask := match s.tmv.masks.find? (fun m => m.idx == idx && m.seg == seg) with
    | some m => m.lines
    | none => []
  let base := lsn * segBytes
  let clear := fun (a : Nat) => !mask.contains ((a - base) / 64)
  s.modDram fun d =>
    { d with
      mem := Memory.overlay (d.mem.filter fun c => c.1 < base || base + segBytes ≤ c.1 || !clear c.1) base
        (cells.filter fun c => c.1 < segBytes && !mask.contains (c.1 / 64))
      poison := d.poison.filter fun l => l * 64 < base || base + segBytes ≤ l * 64 || !clear (l * 64) }

/-- A promotion or a recovery ends: RESIDENT, the fetch and the mask go. -/
def State.residentNow (s : State) (idx seg : Nat) (dirty : Bool) : State :=
  let e := s.entry idx seg
  let s := s.setEntry idx seg { e with mstate := .resident }
  let s := s.modTmv fun t =>
    { t with masks := t.masks.filter (fun m => !(m.idx == idx && m.seg == seg))
             records := t.records.filter (fun m => !(m.idx == idx && m.seg == seg)) }
  if dirty then s.dirtySeg e.frame else s

/-- Every source fails: the frame is freed, the entry becomes POISONED, and the tier-poison event is recorded once (R253). -/
def State.poisonSeg (s : State) (idx seg member : Nat) : State :=
  let e := s.entry idx seg
  let s := match s.frameOfLsn e.frame with
    | some n => s.freeFrame n
    | none => s
  let s := s.setEntry idx seg { e with mstate := .poisoned, frame := 0 }
  let s := s.modTmv fun t =>
    { t with masks := t.masks.filter (fun m => !(m.idx == idx && m.seg == seg))
             records := t.records.filter (fun m => !(m.idx == idx && m.seg == seg)) }
  let d := s.desc idx
  s.event 0x2740 0 [ggaOf member (d.base + seg * segBytes), e.home]

/-! ### Bytes of a region -/

/-- LSN at which the bytes of a segment stand now, if they are in DRAM. -/
def State.lsnOf (s : State) (idx seg : Nat) : Option Nat :=
  let d := s.desc idx
  if d.tiered then
    match (s.entry idx seg).mstate with
    | .promoting | .resident | .evicting => some (s.entry idx seg).frame
    | _ => none
  else some (d.backing / segBytes + seg)

/-- DRAM byte address of a byte of a region. -/
def State.addrIn (s : State) (idx off : Nat) : Option Nat :=
  (s.lsnOf idx (off / segBytes)).map fun l => l * segBytes + off % segBytes

/-- Segments that a range touches. -/
def segsOf (off len : Nat) : List Nat :=
  if len = 0 then [] else (List.range ((off + len - 1) / segBytes - off / segBytes + 1)).map (· + off / segBytes)

/-- A range cut at segment boundaries: (offset, length) pieces. -/
def pieces (off len : Nat) : List (Nat × Nat) :=
  (segsOf off len).map fun g =>
    let a := max off (g * segBytes)
    (a, min (off + len) ((g + 1) * segBytes) - a)

/-- The segments of a range of a LOCAL region are in DRAM. -/
def State.present (s : State) (idx off len : Nat) : State :=
  let d := s.desc idx
  if d.tiered || d.cls == clsScratch then s
  else (segsOf off len).foldl (fun s g => s.fetchNow (d.backing / segBytes + g)) s

/-- Read bytes of a region; a segment that is not in DRAM reads as zeros here, so callers check first. -/
def State.regionRead (s : State) (idx off len : Nat) : Bytes :=
  (pieces off len).flatMap fun p =>
    match s.addrIn idx p.1 with
    | some a => s.dramRead a p.2
    | none => List.replicate p.2 0

/-- The segments of a range of a region that a write has reached since `old`. SCRATCH has no drain state. -/
def State.wroteRange (s old : State) (idx off len : Nat) : State :=
  if (s.desc idx).cls == clsScratch then s
  else (segsOf off len).foldl (fun s g => match s.lsnOf idx g with
    | some l => s.wroteSeg l (s.segDiffers old l)
    | none => s) s

/-- Write bytes of a region. -/
def State.regionWrite (s : State) (idx off : Nat) (b : Bytes) : State :=
  (pieces off b.length).foldl (fun s p =>
    match s.addrIn idx p.1 with
    | some a => s.dramWrite a (slice b (p.1 - off) p.2)
    | none => s) s

/-- Dirty charge of a list of segments: those not already dirty; nothing for SCRATCH (R137). -/
def State.chargeOf (s : State) (l : List (Nat × Nat)) : Nat :=
  l.countP fun p =>
    (s.desc p.1).cls != clsScratch && match s.lsnOf p.1 p.2 with
      | some lsn => !(s.segState lsn).charged
      | none => true

end Sys2Proof.Machine
end

