-- ==== Sys2Proof/Machine/MirOps.lean ====
section
/-!
DEFINITION. The twin link and the lease messages: delays, credit, frames in order, divergence bits, requests to the Caller
(R204–R210, R215, R217, R230).
-/

namespace Sys2Proof.Machine

/-! ### Twin ports -/

def State.tport (s : State) (n : Nat) : TwinPort := s.mir.ports.getD n {}
def State.modTport (s : State) (n : Nat) (f : TwinPort → TwinPort) : State :=
  s.modMir fun m => { m with ports := m.ports.upd n {} f }

/-- A twin port that has completed HELLO and is not fenced. -/
def State.tportUp (s : State) (n : Nat) : Bool := (s.tport n).state = .up && !(s.tport n).fenced

/-- Port that carries a group (R204); none while no port is up. -/
def State.groupPort (s : State) (g : Nat) : Option Nat :=
  let own := if g = 255 then 0 else g % 2
  if s.tportUp own then some own
  else if s.tportUp (1 - own) then some (1 - own)
  else none

/-- One-way delay of a port: the largest of the last second (R215). -/
def State.portDelay (s : State) (n : Nat) : Nat :=
  ((s.tport n).delays.filter fun d => s.now < d.1 + secNs).foldl (fun a d => max a d.2) 0

/-- p, in ns: the larger of the two ports' values. -/
def State.pDelay (s : State) : Nat := max (s.portDelay 0) (s.portDelay 1)

/-- Type of a frame (Table 8.2). -/
def TwinBody.code : TwinBody → Nat
  | .hello _ => 0x01 | .echo .. => 0x02 | .echoReply .. => 0x03 | .lease _ => 0x04
  | .write .. => 0x10 | .mack .. => 0x11 | .mnak .. => 0x12 | .readReq _ => 0x20 | .readResp .. => 0x21
  | .resyncBegin _ => 0x30 | .resyncMap _ => 0x31 | .resyncEnd .. => 0x32 | .config .. => 0x40 | .configAck .. => 0x41

/-- Octets of a body, with its data (Tables 8.3, 8.4, 8.6–8.8, 8.10–8.12, R216). -/
def TwinBody.octets : TwinBody → Nat
  | .hello _ => 64
  | .lease _ => 96
  | .write _ data .. | .readResp _ _ data _ => 32 + data.length
  | .resyncMap runs => 16 * runs.length
  | .config .. => 80
  | .configAck .. => 16
  | _ => 32

/-- Flags RETX, LAST, UNIT and RESYNC of a frame. -/
def TwinBody.flags : TwinBody → Bool × Bool × Bool × Bool
  | .write _ _ retx last unit resync => (retx, last, unit, resync)
  | .readResp _ _ _ last => (false, last, false, false)
  | .resyncEnd _ retx | .config _ _ _ retx => (retx, false, false, false)
  | _ => (false, false, false, false)

/-- Octets of a frame with this body: addresses, SecTAG with SCI, EtherType, header, body, ICV and FCS (R203). -/
def twinOctets (bodyLen : Nat) : Nat := 12 + 16 + 2 + 32 + bodyLen + 16 + 4

/-- Send a frame on a twin port, under the association that `twin_tx_an` names and its next packet number (R203, R352). -/
def State.emitTwin (s : State) (p g epoch seq : Nat) (body : TwinBody) : State :=
  let an := s.param P.twin_tx_an p
  let pn := s.sec.twinPn.getD (2 * p + an) 1
  let fl := body.flags
  (s.modSec fun x => { x with twinPn := x.twinPn.set (2 * p + an) (pn + 1) }).emit (.twin
    { port := p, dst := Config.twinMac p, src := Config.portMac (4 + p), an := an
      ssci := if s.fab.member < s.mir.twinMember then 1 else 2, pn := pn, type_ := body.code
      retx := fl.1, last := fl.2.1, unit := fl.2.2.1, resync := fl.2.2.2, group := g, sender := s.fab.member, bodyLen := body.octets
      epoch := epoch, seq := seq, time := s.now } body)

/-- Send a frame on the port of its group; with no port up nothing leaves. -/
def State.twinSend (s : State) (g epoch seq : Nat) (body : TwinBody) : State :=
  match s.groupPort g with
  | some p => s.emitTwin p g epoch seq body
  | none => s

/-- MPV 2 or later is negotiated. -/
def State.mpv2 (s : State) : Bool := s.mir.mpv / 256 ≥ 2

/-! ### HELLO and ECHO (R211, R212, R215) -/

def Role.fin : Role → Fin 4
  | .active => 0 | .standby => 1 | .solo => 2 | .fenced => 3

/-- Send HELLO on a port; the roles stand in it as assumption 21 says. -/
def State.sendHello (s : State) (p : Nat) (reply : Bool) (chosen : Nat) : State :=
  s.emitTwin p 255 0 0 (.hello
    { offers := [BitVec.ofNat 16 (defaultOf P.mpv_current), BitVec.ofNat 16 (defaultOf P.mpv_previous), 0, 0]
      deviceUid := Config.deviceUid, member := BitVec.ofNat 12 s.fab.member, port := BitVec.ofNat 8 p, reply := reply
      fabricDigest := s.digestWord, chosen := BitVec.ofNat 16 chosen
      roles := (List.range 255).map fun g => (s.grp g).role.fin })

/-- HELLO starts on a port whose link is up. -/
def State.helloStarts (s : State) (p : Nat) : State :=
  if (s.tport p).linkUp && (s.tport p).state = .down then (s.modTport p fun t => { t with state := .hello }).sendHello p false 0 else s

/-- Send ECHO on a port. -/
def State.sendEcho (s : State) (p : Nat) : State :=
  let id := ((s.tport p).echoId + 1) % 2 ^ 32
  (s.modTport p fun t => { t with echoId := id }).emitTwin p 255 0 0 (.echo s.now id)

/-! ### Credit (R210, R165) -/

def sumBytes (l : List OutFrame) : Nat := (l.map (·.bytes)).sum

/-- Frame data of a group: uncovered, and of numbered frames that are still to be sent. -/
def Grp.uncovered (g : Grp) : Nat := sumBytes g.frames

/-- Frame data of a port, likewise. -/
def State.portUncovered (s : State) (p : Nat) : Nat :=
  (s.mir.groups.map fun e => sumBytes (e.2.frames.filter (·.port == p))).sum

/-- Is this much uncovered data within the last window received on the port? None received bounds nothing. -/
def State.inWindow (s : State) (p n : Nat) : Bool :=
  match (s.tport p).windowKib with
  | some w => n ≤ 1024 * w
  | none => true

/-- A frame that has been sent. -/
def OutFrame.out (f : OutFrame) : Bool := f.sentAt.isSome

/-- Can a numbered frame of these bytes go: is the frame data sent and uncovered, of its group and of its port, within R210? -/
def State.sendRoom (s : State) (g n : Nat) : Bool :=
  let room := sumBytes ((s.grp g).frames.filter (·.out)) + n ≤ 1024 * s.param P.mirror_credit_kib
  match s.groupPort g with
  | none => room
  | some p => room && s.inWindow p ((s.mir.groups.map fun e => sumBytes (e.2.frames.filter fun f => f.out && f.port == p)).sum + n)

/-- Share of the group's transmit credits in use, in percent, rounded down. -/
def State.creditPct (s : State) (g : Nat) : Nat :=
  100 * sumBytes ((s.grp g).frames.filter (·.out)) / (1024 * s.param P.mirror_credit_kib)

/-- Are write-type placements of a group mirrored (R141)? ACTIVE, SOLO pending included; or SOLO with a resync target. -/
def State.mirrors (s : State) (g : Nat) : Bool :=
  g != 255 && ((s.grp g).role = .active ||
    (s.grp g).role = .solo && (match (s.grp g).source with | some r => r.started | none => false))

/-- Is there credit for these frame bytes: of the group, and of the port that carries it (R210)? -/
def State.hasCredit (s : State) (g n : Nat) : Bool :=
  let room := (s.grp g).uncovered + n ≤ 1024 * s.param P.mirror_credit_kib
  match s.groupPort g with
  | none => room
  | some p => room && s.inWindow p (s.portUncovered p + n)

/-! ### WRITE frames (R206, R207, R209) -/

/-- Body of a frame as it goes out. -/
def OutFrame.body (f : OutFrame) (base : Nat) (retx : Bool) : TwinBody :=
  let data := f.data.getD []
  .write { offset := BitVec.ofNat 64 (base + f.off), index := BitVec.ofNat 24 (if f.unit then 0 else f.idx)
           length := BitVec.ofNat 16 data.length, unitSeq := BitVec.ofNat 64 f.unitSeq
           unitLen := BitVec.ofNat 32 f.unitLen, extents := BitVec.ofNat 16 f.extents }
    data retx f.last f.unit f.resync

/-- What a frame is sent as: a WRITE, or a numbered RESYNC_END. -/
def OutFrame.sent (f : OutFrame) (base : Nat) (retx : Bool) : TwinBody :=
  match f.fin with
  | some b => .resyncEnd b retx
  | none => f.body base retx

/-- Transmit a frame that has its data. The offset of a UNIT frame is in the unit's redo stream, of any other frame in the owner's
offset space (Table 8.3). -/
def State.transmit (s : State) (g : Nat) (f : OutFrame) (retx : Bool) : State :=
  let base := if f.unit then 0 else (s.desc f.idx).base
  match s.groupPort g with
  | none => s
  | some p =>
    let s := (s.emitTwin p g (s.grp g).epoch f.seq (f.sent base retx)).bump
      (if retx then P.mirror_retx else P.mirror_frames)
    s.modGrp g fun gr =>
      { gr with frames := gr.frames.map fun x =>
          if x.seq = f.seq then { x with port := p, sentAt := some (x.sentAt.getD s.now), retx := x.retx || retx } else x }

/-- Transmit, in order, the frames of a group that have their data and have not been sent, while the credit of R210 lasts; an atomic
whose line is still to come keeps the frames behind it. -/
def State.pumpFrames (s : State) (g : Nat) : State :=
  let due := (s.grp g).frames.takeWhile (fun f => f.out || f.data.isSome)
  ((due.filter fun f => !f.out).foldl (fun (r : State × Bool) f =>
    if r.2 && (f.bytes == 0 || r.1.sendRoom g f.bytes) then (r.1.transmit g f false, true) else (r.1, false)) (s, true)).1

/-- Give the next mirror sequence number to a frame and issue it. -/
def State.issueFrame (s : State) (g : Nat) (f : OutFrame) : State × Nat :=
  let q := (s.grp g).issued + 1
  let port := (s.groupPort g).getD 0
  let s := s.modGrp g fun gr => { gr with issued := q, frames := gr.frames ++ [{ f with seq := q, port := port }] }
  (s.pumpFrames g, q)

/-- Give a frame that waited for its line its data. -/
def State.frameData (s : State) (g seq : Nat) (data : Bytes) : State :=
  (s.modGrp g fun gr =>
    { gr with frames := gr.frames.map fun f => if f.seq = seq then { f with data := some data, bytes := data.length } else f }).pumpFrames g

/-- The frames of an AWG unit take consecutive numbers over its redo stream (R207), and leave as credit comes (R210). -/
def State.issueUnit (s : State) (g : Nat) (stream : Bytes) (redoLen extents : Nat) : State × Nat × Nat :=
  let first := (s.grp g).issued + 1
  let n := ceilDiv stream.length 4096
  let s := (List.range n).foldl (fun s i =>
    (s.issueFrame g { seq := 0, idx := 0, off := 4096 * i, data := some (slice stream (4096 * i) 4096), unit := true
                      unitSeq := first, unitLen := redoLen, extents := extents, last := i + 1 == n
                      bytes := (slice stream (4096 * i) 4096).length }).1) s
  (s, first, first + n - 1)

/-! ### Divergence bits (R230) -/

/-- Set the bit of a segment: in the bitmap for DRAM segments, in the segment map for tier segments. -/
def State.setDivergent (s : State) (idx seg : Nat) : State :=
  let d := s.desc idx
  if d.tiered then
    if (s.entry idx seg).divergent then s else s.modEntry idx seg fun e => { e with divergent := true }
  else
    let lsn := d.backing / segBytes + seg
    if s.mir.divergent.contains lsn then s
    else (s.modMir fun m => { m with divergent := insertNat lsn m.divergent }).dirtyArea s.bitmapAt (lsn / 8)

def State.clearDivergent (s : State) (idx seg : Nat) : State :=
  let d := s.desc idx
  if d.tiered then
    if (s.entry idx seg).divergent then s.modEntry idx seg fun e => { e with divergent := false } else s
  else
    let lsn := d.backing / segBytes + seg
    if s.mir.divergent.contains lsn then
      (s.modMir fun m => { m with divergent := m.divergent.filter (· != lsn) }).dirtyArea s.bitmapAt (lsn / 8)
    else s

def State.isDivergent (s : State) (idx seg : Nat) : Bool :=
  let d := s.desc idx
  if d.tiered then (s.entry idx seg).divergent else s.mir.divergent.contains (d.backing / segBytes + seg)

/-- Segments of the data of a group, as (descriptor, segment), in ascending order. -/
def State.groupSegs (s : State) (g : Nat) : List (Nat × Nat) :=
  (s.reg.descs.filter fun e => e.2.state ≠ .free && e.2.group == g).flatMap fun e => (List.range e.2.lengthSeg).map fun i => (e.1, i)

/-- The divergent segments of a group. -/
def State.divergentOf (s : State) (g : Nat) : List (Nat × Nat) := (s.groupSegs g).filter fun p => s.isDivergent p.1 p.2

/-! ### Segments that await resync (R231, Table 9.2) -/

/-- What awaits resync at a target. -/
def awaitedBy : Option ResyncTarget → List (Nat × Nat)
  | some t => t.awaiting
  | none => []

/-- Set what a group keeps of a resync as target; RESYNC_WAIT follows in the segment maps. -/
def State.setTarget (s : State) (g : Nat) (t : Option ResyncTarget) : State :=
  let old := awaitedBy (s.grp g).target
  let new := awaitedBy t
  (((old.filter fun p => !new.contains p) ++ new.filter fun p => !old.contains p).filter fun p => (s.desc p.1).tiered).foldl
    (fun s p => s.writeEntry p.1 p.2) (s.modGrp g fun x => { x with target := t })

/-! ### Requests to the Caller (R217, R218) -/

/-- Frame routing header of a datagram from this member; pd 0 in datagrams without one. -/
def State.frh (s : State) (dst cls : Nat) (pd : BitVec 16) (redirected : Bool) : Frh :=
  { hopsLeft := BitVec.ofNat 4 (s.param P.route_max_hops), cls := BitVec.ofNat 2 cls, redirected := redirected, dst := BitVec.ofNat 12 dst
    src := BitVec.ofNat 12 s.fab.member, pd := pd }

/-- Traffic class of control, lease and data datagrams (Table 10.1). -/
abbrev clsControl : Nat := 0
abbrev clsLease : Nat := 1
abbrev clsData : Nat := 2

/-- Two uid_tags are advertised for an identifier: an advertisement stands for 3 × `route_update_ms` (R266, R268). -/
def State.twoTags (s : State) (r : Route) : Bool :=
  match r.rival with
  | some v => s.now < v.2 + 3 * s.param P.route_update_ms * msNs
  | none => false

/-- Reachable next hops of a member: the primary, then the secondary. -/
def State.hopsTo (s : State) (m : Nat) : List Hop :=
  match s.fab.routes.find? m with
  | some r => if r.metric < 15 && !s.twoTags r then r.primary.toList ++ r.secondary.toList else []
  | none => []

/-! ### Host ports and the datagrams that leave on them (R157, R170, R172, R258) -/

def State.port (s : State) (n : Nat) : HostPort := s.xpt.ports.getD n {}
def State.modPort (s : State) (n : Nat) (f : HostPort → HostPort) : State :=
  s.modXpt fun x => { x with ports := x.ports.upd n {} f }

/-- Transmission of `pfc_priority` is paused on a port. -/
def State.paused? (s : State) (n : Nat) : Bool :=
  match (s.port n).pausedUntil with
  | some t => s.now < t && !(s.port n).ignoring
  | none => false

/-- The link-scope multicast group of HELLO (R261). -/
abbrev helloGroup : Nat := 0xFF02 * 2 ^ 112 + 0x5348

/-- Send a fabric datagram on a host port: a HELLO under its tag, any other under the SA of the adjacency, whose SPI names the port that
receives it (R259, R351). It carries the tag of R170 while `pfc_enable` is true, and then waits out a pause. -/
def State.sendFab (s : State) (port : Nat) (slot : Option Nat) (dscp ecn : Nat) (f : Frh) (b : FabBody) : State :=
  let pfc := s.paramOn P.pfc_enable
  let k := 16 * port + slot.getD 0
  let a := s.fab.adjs.getD k {}
  let hello := match b with
    | .hello h => some h
    | _ => none
  let key := s.param P.fabric_key_tx
  let s := if hello.isNone && slot.isSome then s.modFab fun x => { x with adjs := x.adjs.upd k {} fun a => { a with espSeq := a.espSeq + 1 } } else s
  let o := Out.fab
    { port := port, slot := slot, src := linkLocal (Config.portMac port).toNat
      dst := if slot.isSome then linkLocal a.mac.toNat else helloGroup, udp := s.param P.fabric_udp_port, dscp := dscp, ecn := ecn
      pcp := if pfc then some (s.param P.pfc_priority) else none
      esp := if hello.isNone then some (0x100 + a.port, a.espSeq + 1) else none
      tag := hello.map fun h => (key, Config.helloTag (s.param P.fabric_key key) h.nonce h.helloSeq)
      kind := b.kind, link := b.link, frh := f } b
  if pfc && s.paused? port then { s with paused := s.paused ++ [o] } else s.emit o

/-- Send a lease message to a member over at most two routes. -/
def State.sendLease (s : State) (dst : Nat) (m : LeaseMsg) : State :=
  (s.hopsTo dst).foldl (fun s h =>
    s.sendFab h.port (some h.slot) (s.param P.lease_dscp) 0 (s.frh dst clsLease 0 false) (.lease m)) s

/-- Send a lease request to the adopted Caller; in CHANGE, to the old and to the new one (R277). -/
def State.sendCallers (s : State) (m : LeaseMsg) : State :=
  let s := s.sendLease s.desig.caller m
  match s.desig.change with
  | some c => if c = s.desig.caller then s else s.sendLease c m
  | none => s

/-- Bit map of the groups that satisfy a test. -/
def groupMap (q : Nat → Bool) : BitVec 256 :=
  (List.range 255).foldl (fun a g => if q g then a ||| (1#256 <<< g) else a) 0#256

/-- Largest round trip to the Caller of the last second (R222). -/
def State.callerRtt (s : State) : Nat :=
  (s.mir.rtts.filter fun d => s.now < d.1 + secNs).foldl (fun a d => max a d.2) 0

/-- A lease request of this member. -/
def State.leaseMsg (s : State) (op g epoch : Nat) (inSync unpair : Bool) (mapA mapB : BitVec 256) (residence : Nat) : LeaseMsg :=
  { renewSeq := BitVec.ofNat 64 s.mir.renewSeq, mapB := mapB, mapA := mapA, tSend := BitVec.ofNat 64 s.now
    residenceNs := BitVec.ofNat 32 residence, epoch := BitVec.ofNat 32 epoch, twin := BitVec.ofNat 12 s.mir.twinMember
    member := BitVec.ofNat 12 s.fab.member, unpair := unpair, inSync := inSync, reply := false
    group := BitVec.ofNat 8 g, result := 0, op := BitVec.ofNat 8 op }

/-- Ops of Table 8.9. -/
abbrev opRenew : Nat := 1
abbrev opSolo : Nat := 2
abbrev opTakeover : Nat := 3
abbrev opActive : Nat := 4
abbrev opHandover : Nat := 5
abbrev opResume : Nat := 6
abbrev opClaim : Nat := 7
abbrev opRelease : Nat := 8
abbrev opProbe : Nat := 9
abbrev opForce : Nat := 10
abbrev opPair : Nat := 11

/-- Send a single-group request to the Caller; `renew_seq` advances. -/
def State.callerRequest (s : State) (op g epoch : Nat) (inSync unpair : Bool) (mapB : BitVec 256) (residence : Nat) : State :=
  let s := s.modMir fun m => { m with renewSeq := m.renewSeq + 1 }
  s.sendCallers (s.leaseMsg op g epoch inSync unpair 0#256 mapB residence)

/-- Send a request and keep it, so that it is repeated until it is answered (R221). -/
def State.openRequest (s : State) (op g epoch : Nat) (inSync : Bool) (residence cmd : Nat) : State :=
  (s.callerRequest op g epoch inSync false 0#256 residence).modGrp g fun gr =>
    { gr with req := some { op := op, epoch := epoch, since := s.now, cmd := cmd, inSync := inSync } }

/-- The group leaves ACTIVE for SOLO: answers are held and SOLO is sent to the Caller (Table 8.14). -/
def State.declareSolo (s : State) (g : Nat) : State :=
  let gr := s.grp g
  if gr.role = .active ∧ !gr.soloPending then
    (s.openRequest opSolo g gr.epoch false 0 0).modGrp g fun gr => { gr with soloPending := true }
  else s

/-! ### Role changes (R223) -/

def Role.code : Role → Nat
  | .active => 0 | .standby => 1 | .solo => 2 | .fenced => 3

/-- Take a role and an epoch: both are written to LGM, the change is recorded and counted. -/
def State.setRole (s : State) (g : Nat) (r : Role) (epoch : Nat) : State :=
  let gr := s.grp g
  let s := s.modGrp g fun gr => { gr with role := r, epoch := epoch, restarted := gr.restarted && r = .fenced }
  if gr.role = r then s
  else (s.event 0x2642 0 [g, gr.role.code, r.code, epoch]).bump (perInst P.grp_role_changes g)

/-- Send CONFIG to the twin under an epoch and await its answer (R216). -/
def State.sendConfigAt (s : State) (g epoch op idx : Nat) (image : Bytes) (cmd : Nat) : State :=
  (s.twinSend g epoch 0 (.config op idx image false)).modMir fun m =>
    { m with configs := m.configs ++ [{ group := g, op := op, idx := idx, image := image, sentAt := s.now, epoch := epoch, cmd := cmd }] }

/-- Send CONFIG under the group's own epoch. -/
def State.sendConfig (s : State) (g op idx : Nat) (image : Bytes) (cmd : Nat) : State :=
  s.sendConfigAt g (s.grp g).epoch op idx image cmd

/-- Send READ_REQ for a segment (R233), for a promotion or recovery, or for the repair of a line. -/
def State.twinRead (s : State) (idx seg : Nat) (line : Option Nat) : State :=
  let d := s.desc idx
  let gr := s.grp d.group
  let id := s.tmv.nextReqId
  let s := (s.bump P.twin_reads).modTmv fun t =>
    { t with nextReqId := (id + 1) % 2 ^ 32, reads := t.reads ++ [{ reqId := id, idx := idx, seg := seg, line := line }] }
  s.twinSend d.group gr.epoch 0
    (.readReq { offset := BitVec.ofNat 64 (d.base + seg * segBytes), index := BitVec.ofNat 24 idx, length := 65536#32
                afterSeq := BitVec.ofNat 64 gr.issued, reqId := BitVec.ofNat 32 id })

/-- The twin can supply data of a group: it is STANDBY with IN_SYNC 1, as ACTIVE without SOLO pending says (R223), and READ_REQ
exists (R214). -/
def State.twinSource (s : State) (g : Nat) : Bool := s.twinActive g && !(s.grp g).soloPending && s.mpv2

/-- CONFIG ops. -/
abbrev cfgRegister : Nat := 1
abbrev cfgRekey : Nat := 2
abbrev cfgDeregister : Nat := 3
abbrev cfgSync : Nat := 4
abbrev cfgPair : Nat := 5
abbrev cfgUnpair : Nat := 6

end Sys2Proof.Machine
end

