-- ==== Sys2Proof/Machine/FabOps.lean ====
section
/-!
DEFINITION. FAB: hello datagrams, adjacencies, the member identifier, routes, and the designation of the pair's Caller (R258–R269,
R275–R280).
-/

namespace Sys2Proof.Machine

/-! ### Neighbours (R261–R264) -/

/-- FAB works in these modes (R261). -/
def Mode.fabric : Mode → Bool
  | .restore | .resync | .service | .degraded | .quiesce | .maint => true
  | _ => false

def State.fabOn (s : State) : Bool := s.mode.fabric && s.fab.started

/-- Adjacency slots of a host port (R262), and the key of one. -/
abbrev portSlots : Nat := 16
def adjKey (port slot : Nat) : Nat := portSlots * port + slot
def Hop.key (h : Hop) : Nat := adjKey h.port h.slot
def hopOf (k : Nat) : Hop := ⟨k / portSlots, k % portSlots⟩

def State.adj (s : State) (k : Nat) : Adj := s.fab.adjs.getD k {}
def State.modAdj (s : State) (k : Nat) (f : Adj → Adj) : State := s.modFab fun x => { x with adjs := x.adjs.upd k {} f }

def AdjState.code : AdjState → Nat
  | .down => 0 | .init => 1 | .full => 2 | .held => 3 | .frozen => 4 | .refused => 5

/-- Datagrams other than HELLO are taken from a neighbour in these states (R259). -/
def AdjState.usable : AdjState → Bool
  | .full | .held | .frozen => true
  | _ => false

/-- ROUTE datagrams are exchanged in these states (R268). -/
def AdjState.routed : AdjState → Bool
  | .full | .frozen => true
  | _ => false

/-- uid_tag of a device UID: the first four octets of its SHA-256, big-endian (R265). -/
def uidTagOf (uid : BitVec 128) : Nat := beNat ((sha256 (beBytes 16 uid.toNat)).take 4)
def ownTag : Nat := uidTagOf Config.deviceUid

/-- First eight octets of the own digest (Table 10.5). -/
def State.digestTag (s : State) : Nat := s.digestWord.toNat / 2 ^ 192

/-- CALLER_OK of this member (R275). -/
def State.callerOk (s : State) : Bool :=
  s.paramOn P.caller_enable && decide (s.callerPairs.length < 64) && (s.mode = .resync || s.mode = .service || s.mode = .degraded)

/-- FPV versions of this member. -/
def fpvOwn : List Nat := [defaultOf P.fpv_current, defaultOf P.fpv_previous]

/-- Send HELLO: multicast, or to one neighbour with its nonce echoed. -/
def State.sendFabHello (s : State) (port : Nat) (slot : Option Nat) (echo : Option (BitVec 64)) : State :=
  let seq := s.fab.helloSeq + 1
  (s.modFab fun f => { f with helloSeq := seq }).sendFab port slot (s.param P.cnp_dscp) 0 (s.frh 0 clsControl 0 false) (.hello
    { offers := [BitVec.ofNat 16 (defaultOf P.fpv_current), BitVec.ofNat 16 (defaultOf P.fpv_previous), 0, 0]
      deviceUid := Config.deviceUid, member := BitVec.ofNat 12 s.fab.member, tentative := s.fab.state = .probing
      conflict := s.fab.state = .conflict, callerOk := s.callerOk, echo := echo.isSome, port := BitVec.ofNat 2 port
      helloIntervalMs := BitVec.ofNat 16 (s.param P.hello_interval_ms)
      configEpoch := BitVec.ofNat 64 (s.param P.fabric_config_epoch), digest := s.digestWord, nonce := s.fab.nonce
      echoNonce := echo.getD 0, helloSeq := BitVec.ofNat 32 seq })

/-! ### Routes (R267, R268) -/

def State.fabRoute (s : State) (m : Nat) : Route := s.fab.routes.getD m {}

/-- The entry of a member has changed: each neighbour that exchanges routes is owed a triggered update. -/
def State.routeChanged (s : State) (m : Nat) : State :=
  s.modFab fun f => { f with adjs := f.adjs.mapVals fun _ a => if a.state.routed then { a with changed := insertNat m a.changed } else a }

def State.modRoute (s : State) (m : Nat) (f : Route → Route) : State :=
  (s.modFab fun x => { x with routes := x.routes.upd m {} f }).routeChanged m

/-- Own entry: metric 0, or 15 while it is withdrawn. -/
def State.ownEntry (s : State) : RouteEntry :=
  { member := BitVec.ofNat 12 s.fab.member, metric := if s.fab.advertise then 0 else 15, tentative := s.fab.state = .probing
    callerOk := s.callerOk, uidTag := BitVec.ofNat 32 ownTag, configEpoch := BitVec.ofNat 64 (s.param P.fabric_config_epoch)
    digestTag := BitVec.ofNat 64 s.digestTag }

/-- Entry of a member as neighbour `k` is told it: metric 15 where that neighbour is its primary next hop, and for an identifier with two
uid_tags. -/
def State.entryFor (s : State) (k m : Nat) : RouteEntry :=
  if m = s.fab.member then s.ownEntry
  else
    let r := s.fabRoute m
    let back : Bool := s.twoTags r || match r.primary with
      | some h => h.key == k
      | none => true
    { member := BitVec.ofNat 12 m, metric := BitVec.ofNat 4 (if back then 15 else r.metric), tentative := r.tentative
      callerOk := r.callerOk, uidTag := r.uidTag, configEpoch := r.configEpoch, digestTag := r.digestTag }

/-- Send entries to a neighbour, 128 in a datagram. -/
def State.sendRoutes (s : State) (k : Nat) (full : Bool) (l : List RouteEntry) : State :=
  (List.range (ceilDiv l.length 128)).foldl (fun s i =>
    let seq := (s.adj k).updateSeq + 1
    (s.modAdj k fun a => { a with updateSeq := seq }).sendFab
      (hopOf k).port (some (hopOf k).slot) (s.param P.cnp_dscp) 0 (s.frh 0 clsControl 0 false)
        (.route seq full ((l.drop (128 * i)).take 128))) s

/-- Full update to a neighbour: the own entry, once FAB has an identifier, and every route. -/
def State.fullUpdate (s : State) (k : Nat) : State :=
  s.sendRoutes k true (s.ownEntry :: (s.fab.routes.filter fun e => e.1 != s.fab.member).map fun e => s.entryFor k e.1)

/-- A route is set to 15: a secondary below 15 is promoted at once, otherwise the route is held down. -/
def State.routeTo15 (s : State) (m : Nat) : State :=
  s.modRoute m fun r =>
    if r.secondary.isSome ∧ r.secMetric < 15 then { r with metric := r.secMetric, primary := r.secondary, secondary := none, secMetric := 15 }
    else
      { r with
        metric := 15, primary := none, secondary := none, secMetric := 15
        former := if s.param P.route_holddown_ms = 0 then none else match r.primary with
          | some h => some h
          | none => r.former }

/-- The routes through a neighbour are set to 15. -/
def State.loseHop (s : State) (k : Nat) : State :=
  let uses := fun (h : Option Hop) => match h with
    | some h => h.key == k
    | none => false
  let s := (s.fab.routes.keysWhere fun _ r => uses r.secondary).foldl
    (fun s m => s.modFab fun f => { f with routes := f.routes.upd m {} fun r => { r with secondary := none, secMetric := 15 } }) s
  (s.fab.routes.keysWhere fun _ r => uses r.primary).foldl State.routeTo15 s

/-- An adjacency goes DOWN: its routes are lost and its SA pair is erased. -/
def State.dropAdj (s : State) (k : Nat) : State :=
  if s.fab.adjs.has k then (s.loseHop k).modFab fun f => { f with adjs := f.adjs.del k } else s

/-- The adjacencies of a port whose link goes down. -/
def State.dropPortAdjs (s : State) (p : Nat) : State :=
  (s.fab.adjs.keysWhere fun k _ => k / portSlots == p).foldl State.dropAdj s

/-- No common FPV: the adjacency is REFUSED (R263). -/
def State.refuseAdj (s : State) (k : Nat) : State :=
  let a := s.adj k
  let words := a.offers.foldl (fun n w => n * 65536 + w.toNat) 0
  (((s.loseHop k).modAdj k fun a => { a with state := .refused, saUp := false, fpv := 0 }).bump P.fpv_refusals).event 0x2840 0
    [(hopOf k).port, uidTagOf a.uid, words]

/-- The configuration-mismatch Warning, once for each entry to HELD or FROZEN. -/
def State.configMismatch (s : State) (k : Nat) (st : AdjState) : State :=
  let a := s.adj k
  (s.modAdj k fun a => { a with state := st }).event 0x2841 0 [a.member, st.code, a.configEpoch]

/-- Judge an adjacency by Table 10.3: the version first, then the digest and config_epoch. `echo`: the neighbour has echoed the own
nonce. -/
def State.judgeAdj (s : State) (k : Nat) (echo : Bool) : State :=
  let a := s.adj k
  let v := versionChoice fpvOwn a.offers
  let same := a.configEpoch == s.param P.fabric_config_epoch && a.digest == s.digestWord
  match a.state with
  | .init =>
    if v = 0 then s.refuseAdj k
    else if !echo then s
    else
      let s := s.modAdj k fun a => { a with fpv := v, saUp := true, espSeq := 0 }
      if same then (s.modAdj k fun a => { a with state := .full }).fullUpdate k else s.configMismatch k .held
  | .full => if v = 0 then s.refuseAdj k else if same then s else s.configMismatch k .frozen
  | .held | .frozen =>
    if v = 0 then s.refuseAdj k
    else if same then (s.modAdj k fun a => { a with state := .full }).fullUpdate k
    else s
  | .down | .refused => s

/-- The own digest or config_epoch has changed: every adjacency is compared again, and the own entry has changed (R264, R278). -/
def State.rejudge (s : State) : State :=
  ((s.fab.adjs.map (·.1)).foldl (fun s k => s.judgeAdj k false) s).routeChanged s.fab.member

/-! ### Member identifiers (R265, R266) -/

/-- An identifier that a route entry or a HELLO shows in use. -/
def State.idUsed (s : State) (m : Nat) : Bool :=
  (match s.fab.routes.find? m with | some r => decide (r.metric < 15) | none => false) ||
    s.fab.adjs.any fun e => e.2.member == m

/-- Candidate of R265; `avoid`: identifier just seen in use. -/
def State.candidateId (s : State) (avoid : Option Nat) : Nat :=
  let used := fun m => avoid == some m || s.idUsed m
  let pref := s.param P.member_id_pref
  if pref ≠ 0xFFFF ∧ !used pref then pref
  else
    let base := ownTag % 4096
    match (List.range 4096).find? fun i => !used ((base + i) % 4096) with
    | some i => (base + i) % 4096
    | none => base

/-- The next candidate of a probing member. -/
def State.nextCandidate (s : State) : State :=
  let old := s.fab.member
  let s := if old = s.param P.member_id_pref then s.event 0x2842 0 [old] else s
  let m := s.candidateId (some old)
  (s.modFab fun f => { f with member := m }).routeChanged m

/-- Another member shows itself with an identifier: Table 10.4. `uid`: its device UID, where a HELLO gives it. -/
def State.seenMember (s : State) (m tag : Nat) (uid : Option Nat) (tentative : Bool) : State :=
  let other := tag != ownTag || (match uid with | some u => u != Config.deviceUid.toNat | none => false)
  if m ≠ s.fab.member ∨ !other then s
  else match s.fab.state with
    | .probing =>
      let lower := decide (tag < ownTag) || (tag == ownTag && match uid with | some u => decide (u < Config.deviceUid.toNat) | none => false)
      if !tentative || lower then s.nextCandidate else s
    | .joined =>
      if tentative then s
      else ((s.modFab fun f => { f with state := .conflict, advertise := false }).event 0x2843 0 [m, tag]).routeChanged m
    | _ => s

/-! ### Designation of the pair's Caller (R275–R277) -/

/-- The pair of this member, and whether this member is its designator. -/
def State.lowerTwin (s : State) : Nat := min s.fab.member s.mir.twinMember
def State.higherTwin (s : State) : Nat := max s.fab.member s.mir.twinMember
def State.designator (s : State) : Bool := s.mir.twinMember != 0xFFFF && decide (s.fab.member < s.mir.twinMember)

/-- Order of a candidate: the first eight octets of SHA-256 over the lower member, the higher member and the candidate. -/
def candidateOrder (lower higher c : Nat) : Nat := beNat ((sha256 (leBytes 2 lower ++ leBytes 2 higher ++ leBytes 2 c)).take 8)

/-- Put a candidate in its place in descending order. -/
def insertBy (score : Nat → Nat) (c : Nat) : List Nat → List Nat
  | [] => [c]
  | d :: t => if score d < score c then c :: d :: t else d :: insertBy score c t

/-- Is a member a candidate? -/
def State.isCandidate (s : State) (m : Nat) (r : Route) : Bool :=
  !(s.hopsTo m).isEmpty && !r.tentative && r.callerOk && m != s.fab.member && m != s.mir.twinMember &&
    decide (r.metric ≤ s.param P.route_max_hops) && r.configEpoch.toNat == s.param P.fabric_config_epoch && r.digestTag.toNat == s.digestTag

/-- The candidates in the order in which they are tried. -/
def State.candidates (s : State) : List Nat :=
  (s.fab.routes.keysWhere s.isCandidate).foldr (insertBy (candidateOrder s.lowerTwin s.higherTwin)) []

/-- Send a control message to a member on its primary route. -/
def State.sendControl (s : State) (dst : Nat) (b : FabBody) : State :=
  match s.hopsTo dst with
  | h :: _ => s.sendFab h.port (some h.slot) (s.param P.cnp_dscp) 0 (s.frh dst clsControl 0 false) b
  | [] => s

/-- Body of a message of this designator about its pair. -/
def State.desigBody (s : State) (caller : Nat) : CallerBody :=
  { lower := BitVec.ofNat 12 s.lowerTwin, higher := BitVec.ofNat 12 s.higherTwin, caller := BitVec.ofNat 12 caller, result := 0
    desigSeq := BitVec.ofNat 64 s.desig.seq }

/-- Offer the pair to the next candidate; with none left the designation ends. -/
def State.offerNext (s : State) (l : List Nat) : State :=
  match l with
  | [] => s.modDesig fun d => { d with run := none }
  | c :: t =>
    (s.modDesig fun d => { d with run := some { stage := .offering, candidates := t, candidate := c, seq := d.seq } }).sendControl c
      (.callerOffer (s.desigBody c))

/-- The designator designates a Caller. -/
def State.designate (s : State) : State :=
  if !s.fabOn || !s.designator || s.desig.run.isSome || s.desig.change.isSome then s
  else
    let s := s.modDesig fun d => { d with seq := d.seq + 1 }
    s.offerNext s.candidates

/-- The adopted Caller is reachable and has stopped advertising CALLER_OK (R276). -/
def State.checkCaller (s : State) : State :=
  if s.desig.caller ≠ 0xFFFF ∧ !(s.hopsTo s.desig.caller).isEmpty ∧ !(s.fabRoute s.desig.caller).callerOk then s.designate else s

end Sys2Proof.Machine
end

