-- ==== Sys2Proof/Machine/Cipher.lean ====
section
/-!
DEFINITION. The XTS lanes of CRY: data-unit numbers, byte lengths, the key that is refused, and a unit as flash holds it (R322, R345,
R346, R348).
-/

namespace Sys2Proof.Machine

/-- What the XTS lanes encrypt (Table 13.2): unit u of the segment of an LSN, a map page, unit j of a part of a save. -/
inductive XtsUnit
  | deep (lsn u : Nat)
  | page (m : Nat)
  | save (j : Nat)
  deriving DecidableEq, Repr

/-- Data-unit number. -/
def XtsUnit.number : XtsUnit → Nat
  | .deep lsn u => lsn * 16 + u
  | .page m => (2 ^ 32 + m) * 16
  | .save j => j * 16

/-- The tweak as it travels: 128 bits, little-endian. -/
def XtsUnit.tweak (t : XtsUnit) : Bytes := leBytes 16 t.number

/-- CRY refuses a key whose two halves are equal. -/
def xtsRefused (key : BitVec 512) : Bool := key.extractLsb' 0 256 == key.extractLsb' 256 256

/-- Part key k of the save whose key has a draw number. -/
def partKeyOf (draw k : Nat) : BitVec 512 := Config.partKey (Config.drawnKey draw) k

/-- Does CRY refuse the part key? -/
def partRefused (draw k : Nat) : Bool := xtsRefused (partKeyOf draw k)

/-- The ciphertext of a data unit (R346): as long as the plaintext, which is padded to one block where it is shorter. -/
def xtsEncrypt (key : BitVec 512) (t : XtsUnit) (data : Bytes) : Bytes :=
  let d := takePad (max 16 data.length) data
  takePad d.length (Config.aesXts key t.tweak d)

/-- `media_key_tag`: the first 8 bytes of SHA-256("tg8140 media" ‖ media key ‖ `device_uid`). -/
def mediaTag (draw : Nat) : BitVec 64 :=
  let label : Bytes := [0x74, 0x67, 0x38, 0x31, 0x34, 0x30, 0x20, 0x6D, 0x65, 0x64, 0x69, 0x61]
  BitVec.ofNat 64 (leNat ((sha256 (label ++ beBytes 64 (Config.drawnKey draw).toNat ++ beBytes 16 Config.deviceUid.toNat)).take 8))

/-- Units of a copy, and the bytes of unit u that are encrypted. -/
def DeepEntry.units (e : DeepEntry) : Nat := ceilDiv e.storedLen 4096
def DeepEntry.unitLen (e : DeepEntry) (u : Nat) : Nat := min 4096 (e.storedLen - 4096 * u)

/-- Stored bytes of a copy: the segment itself, or its Zstandard frame. -/
def DeepEntry.stored (e : DeepEntry) : Bytes :=
  if e.kind = .raw then e.content.foldl (fun b c => b.set c.1 c.2) (List.replicate 65536 0)
  else takePad e.storedLen (Config.zstdFrame e.content e.storedLen)

/-- Data bytes of unit u of the copy of an LSN as flash holds them: the ciphertext, and zeros after it. -/
def DeepEntry.unitImage (e : DeepEntry) (lsn : Nat) (key : BitVec 512) (u : Nat) : Bytes :=
  takePad 4096 (xtsEncrypt key (.deep lsn u) (slice e.stored (4096 * u) (e.unitLen u)))

end Sys2Proof.Machine
end

