-- ==== Sys2Proof/Machine/QpOps.lean ====
section
/-!
DEFINITION. Queue pairs: contexts and their cache, packets that leave, the response log, revocation drains, completion queues, and
the entry to ERROR and to FREE (R83–R86, R104–R109, R111, R117–R121, R157).
-/

namespace Sys2Proof.Machine

/-! ### Contexts and their cache (R104, R178) -/

def State.qp (s : State) (n : Nat) : Qp := s.xpt.qps.getD n {}
def State.cq (s : State) (n : Nat) : Cq := s.xpt.cqs.getD n {}

/-- Area segments of a context, of a completion-queue context and of a response log (R102). -/
def State.ctxSeg (s : State) (qpn : Nat) : Nat := s.areaLsn (s.transportAt + qpn / 128)
def State.cqSeg (s : State) (cqn : Nat) : Nat := s.areaLsn (s.transportAt + 2048 + cqn / 1024)
def State.logSeg (s : State) (qpn : Nat) : Nat := s.areaLsn (s.transportAt + 2304 + qpn / 2)

def State.qccHas (s : State) (qpn : Nat) : Bool := s.xpt.qcc.any (·.qpn == qpn)

/-- Octets of a slot: a context and the 32 newest records of its log. Both stand once in the model, in the queue pair that the slot
names: the cache never holds a value that differs from them. -/
abbrev qccSlotBytes : Nat := 1536

/-- A slot of the cache is modified: its home segments become DIRTY when it first is; in QUIESCE it is written back at once. A
context that is not cached is written in DRAM. -/
def State.qccModify (s : State) (qpn : Nat) : State :=
  match s.xpt.qcc.find? (·.qpn == qpn) with
  | some sl =>
    if sl.modified then s
    else
      let now := s.mode = .quiesce
      let s := s.modXpt fun x => { x with qcc := x.qcc.map fun t => if t.qpn = qpn then { t with modified := !now } else t }
      ((if now then s.rqCount 3 qccSlotBytes else s).dirtySeg (s.ctxSeg qpn)).dirtySeg (s.logSeg qpn)
  | none => (s.dirtySeg (s.ctxSeg qpn)).dirtySeg (s.logSeg qpn)

/-- Do two states of a queue pair agree in its context (Table 4.3) and its response log? The messages that XPT has open, the FLUSHes
that wait, the governor and the duties of a FABRIC queue pair are XPT's own. -/
def Qp.sameContext (a b : Qp) : Bool :=
  { a with msgs := b.msgs, covers := b.covers, nextId := b.nextId, gov := b.gov, fab := b.fab, skip := b.skip
           discarding := b.discarding } == b

/-- Change a queue pair: its slot is modified where its context or its log changes. -/
def State.modQp (s : State) (n : Nat) (f : Qp → Qp) : State :=
  let t := s.modXpt fun x => { x with qps := x.qps.upd n {} f }
  if (t.qp n).sameContext (s.qp n) then t else t.qccModify n

/-- Change a completion queue: its context is written where it changes. The slots that XPT has reserved and the entries that wait are no
part of the context. -/
def State.modCq (s : State) (n : Nat) (f : Cq → Cq) : State :=
  let old := s.cq n
  let new := f old
  let t := s.modXpt fun x => { x with cqs := x.cqs.set n new }
  if { new with reserved := old.reserved, pending := old.pending } = old then t else t.dirtySeg (s.cqSeg n)

/-- QCC writes back its modified slots (R106, R178). -/
def State.qccWriteBack (s : State) : State :=
  (s.rqCount 3 (qccSlotBytes * (s.xpt.qcc.countP (·.modified)))).modXpt fun x => { x with qcc := x.qcc.map fun t => { t with modified := false } }

/-- Slots of the cache, and whether a queue pair's slot is pinned (R105). -/
abbrev qccSlots : Nat := 16384

def Qp.pinned (q : Qp) : Bool := q.inProgress.isSome || !q.msgs.isEmpty || q.wait.active || q.errPending || q.state = .closing

/-- The least recently used slot that is not pinned: the last of the list. -/
def State.qccVictim (s : State) : Option Nat := (s.xpt.qcc.reverse.find? fun t => !(s.qp t.qpn).pinned).map (·.qpn)

/-- Path MTU in bytes. -/
def QpCtx.mtuBytes (c : QpCtx) : Nat := 128 * 2 ^ c.mtu.toNat

/-! ### Packets that leave (R96, R111, R157, R172) -/

/-- XPT accepts RoCEv2 packets in these modes (Table 5.11). -/
def Mode.traffic : Mode → Bool
  | .resync | .service | .degraded | .quiesce | .maint => true
  | _ => false

/-- Octets of the payload that a request packet carries. -/
def opData : ReqOp → Bytes
  | .send _ _ d | .write _ _ _ d | .dwrite _ _ d | .awg _ _ d => d
  | _ => []

/-- Payload octets of a packet, which its token bucket must hold (R167). -/
def RoceBody.octets : RoceBody → Nat
  | .readResponse _ _ _ d => d.length
  | .request _ op => (opData op).length
  | _ => 0

/-- Governed traffic of Table 6.1: read responses, and the requests of a FABRIC queue pair. -/
def RoceBody.governed : RoceBody → Bool
  | .readResponse .. | .request .. => true
  | _ => false

/-- ECN field of a RoCEv2 packet (R157). -/
def State.ecnOf (s : State) (b : RoceBody) : Nat := if s.paramOn P.ecn_enable && !(b matches .cnp) then 2 else 0

/-- A packet of a queue pair leaves: of a HOST queue pair on the port whose address its `local_ip` is, of a FABRIC queue pair in a DATA
datagram to its peer. While the port's link is down nothing leaves (R98); a paused priority waits (R172). An ESP sequence number never
wraps: at 2^64 − 1 the queue pair sends nothing further (R344). -/
def State.sendNow (s : State) (qpn : Nat) (p : OutPkt) : State :=
  let q := s.qp qpn
  if q.ctx.kind == 1 then
    match s.hopsTo q.fab.peer with
    | h :: _ => s.sendFab h.port (some h.slot) (s.param P.fabric_data_dscp) (s.ecnOf p.body)
        (s.frh q.fab.peer clsData p.pd p.redirected) (.data q.ctx.destQpn.toNat p.body)
    | [] => s
  else match s.portOfIp q.ctx.localIp.toNat with
    | none => s
    | some n =>
      if !(s.port n).linkUp || (q.ctx.ipsec && 2 ^ 64 - 1 ≤ q.esp.seqOut) then s
      else
        let dscp := if p.body matches .cnp then s.param P.cnp_dscp else q.ctx.trafficClass.toNat / 4
        let tag := if q.ctx.vlanEn then some (q.ctx.pcp, q.ctx.vid) else none
        let esp := if q.ctx.ipsec then some q.esp.seqOut else none
        let s := if q.ctx.ipsec then s.modQp qpn fun q => { q with esp := { q.esp with seqOut := q.esp.seqOut + 1 } } else s
        let o := Out.roce n qpn dscp (s.ecnOf p.body) tag esp p.body
        if s.paused? n && s.paramOn P.pfc_enable && q.ctx.vlanEn && q.ctx.pcp.toNat == s.param P.pfc_priority then
          { s with paused := s.paused ++ [o] }
        else s.emit o

/-- The bucket fills at the current rate: Rc Mb/s is Rc/8000 octets a ns. -/
def Governor.fill (g : Governor) (now : Nat) : Governor := { g with spent := g.spent - g.rc * (now - g.filled), filled := now }

/-- Packets that a bucket of `cap` lets go, with what it lacks after them, and those that go on waiting. -/
def takeTokens (cap : Nat) : Nat → List OutPkt → Nat × List OutPkt × List OutPkt
  | spent, [] => (spent, [], [])
  | spent, p :: t =>
    let n := min (8000 * p.body.octets) cap
    if n + spent ≤ cap then
      let r := takeTokens cap (spent + n) t
      (r.1, p :: r.2.1, r.2.2)
    else (spent, [], p :: t)

def State.modGov (s : State) (qpn : Nat) (f : Governor → Governor) : State :=
  s.modXpt fun x => { x with qps := x.qps.upd qpn {} fun q => { q with gov := f q.gov } }

/-- The governed packets of a queue pair for which there are tokens leave, in order; all of them while the governor is off (R167). -/
def State.pumpGov (s : State) (qpn : Nat) : State :=
  let q := s.qp qpn
  let g := q.gov.fill s.now
  let r := if s.paramOn P.gov_enable then takeTokens (8000 * q.ctx.mtuBytes) g.spent g.queue else (g.spent, g.queue, [])
  r.2.1.foldl (fun s p => s.sendNow qpn p) (s.modGov qpn fun _ => { g with spent := r.1, queue := r.2.2 })

/-- The governors of all queue pairs with a packet waiting. -/
def State.pumpGovs (s : State) : State :=
  (s.xpt.qps.keysWhere fun _ q => !q.gov.queue.isEmpty).foldl State.pumpGov s

/-- Send a packet of a queue pair: a governed one takes its turn behind those that wait, any other goes ahead of them. In the modes
without RoCEv2 traffic nothing is sent (Table 5.11). -/
def State.sendPkt (s : State) (qpn : Nat) (p : OutPkt) : State :=
  if !s.mode.traffic then s
  else if p.body.governed && (s.paramOn P.gov_enable || !(s.qp qpn).gov.queue.isEmpty) then
    (s.modGov qpn fun g => { g with queue := g.queue ++ [p] }).pumpGov qpn
  else s.sendNow qpn p

def State.sendQp (s : State) (qpn : Nat) (body : RoceBody) : State := s.sendPkt qpn { body := body }

/-- Does this leave on a host port? -/
def Out.onPort (p : Nat) : Out → Bool
  | .roce q .. => q == p
  | .fab h _ => h.port == p
  | _ => false

/-- The pause of a port ends: what waited leaves, in order (R172). -/
def State.resumePort (s : State) (p : Nat) : State :=
  let s := s.modPort p fun h => { h with pausedSince := none, pausedUntil := none }
  let due := s.paused.filter (Out.onPort p)
  ({ s with paused := s.paused.filter fun o => !o.onPort p }).emits due

/-- A NAK with an AETH syndrome at a PSN. -/
def State.nak (s : State) (qpn psn syndrome : Nat) : State :=
  let s := (s.modQp qpn fun q => { q with cnt := { q.cnt with naks := q.cnt.naks + 1 } }).bumpIf (syndrome == 0x60) P.seq_naks
  s.sendQp qpn (.ack psn syndrome (s.qp qpn).msn)

/-- Answer a packet that follows messages not yet answered: its NAK leaves after their answers, in PSN order (R111). -/
def State.inOrder (s : State) (qpn psn syndrome : Nat) : State :=
  match ((s.qp qpn).msgs.filter (·.ended)).getLast? with
  | none => s.sendQp qpn (.ack psn syndrome (s.qp qpn).msn)
  | some m => s.modQp qpn fun q =>
    { q with msgs := q.msgs.map fun x => if x.id = m.id then { x with after := x.after ++ [(psn, syndrome)] } else x }

/-- A NAK in PSN order, of a packet that leaves the queue pair's state alone. -/
def State.nakLater (s : State) (qpn psn syndrome : Nat) : State :=
  ((s.modQp qpn fun q => { q with cnt := { q.cnt with naks := q.cnt.naks + 1 } }).bumpIf (syndrome == 0x60) P.seq_naks).inOrder qpn
    psn syndrome

/-- An RNR NAK with a timer code. -/
def State.rnr (s : State) (qpn psn code : Nat) : State :=
  ((s.modQp qpn fun q => { q with cnt := { q.cnt with rnrNaks := q.cnt.rnrNaks + 1 } }).bump P.rnr_naks).inOrder qpn psn (0x20 + code)

/-! ### Response log (R102) -/

/-- Write a record at its position, PSN mod 1,024; the newest record stands first. -/
def State.logRecord (s : State) (qpn : Nat) (r : LogRec) : State :=
  s.modQp qpn fun q => { q with log := r :: q.log.filter (fun x => x.psn % 1024 != r.psn % 1024) }

/-! ### Revocation drains (R84–R86) -/

/-- Open messages admitted under a generation of a descriptor. -/
def State.openUnder (s : State) (idx gen : Nat) : Nat :=
  (s.xpt.qps.map fun e => e.2.msgs.countP fun m => m.keys.contains (idx, gen)).sum

/-- Frames of a group that copy a placement in a region are not covered: plain ones, and those of a unit with an extent there. -/
def State.framesOf (s : State) (g idx : Nat) : Bool :=
  (s.grp g).frames.any fun f => if f.unit then
      s.pde.awgs.any fun a => a.group == g && !a.twin && a.mirrorSeq == f.unitSeq && a.extents.any (·.1 == idx)
    else f.idx == idx

/-- Release what a region holds: frames, homes and their deep-store copies, LOST (R196, R237). -/
def State.releaseRegion (s : State) (idx : Nat) : State :=
  let mine := fun (k : Nat) => k / 2 ^ 32 == idx
  let homes := (s.tmv.maps.filter fun e => mine e.1).map (·.2.home)
  let lsns := (s.tmv.frames.filter fun e => e.2.idx == idx).map fun e => s.frameLsn e.1
  let s := lsns.foldl (fun s n => s.setSegState n .clean) (s.modPde fun p => { p with drains := p.drains.filter fun d => !lsns.contains d.lsn })
  { s with
    tmv := { s.tmv with
      maps := s.tmv.maps.filter fun e => !mine e.1
      frames := s.tmv.frames.filter fun e => e.2.idx != idx
      fetches := s.tmv.fetches.filter fun f => match f.key with
        | .tier i _ => i.toNat != idx
        | .dram _ => true
      masks := s.tmv.masks.filter fun m => m.idx != idx
      records := s.tmv.records.filter fun m => m.idx != idx
      reads := s.tmv.reads.filter fun r => r.idx != idx
      resv := s.tmv.resv.filter fun r => r.idx != idx
      rawRuns := s.tmv.rawRuns.filter fun r => r.1 != idx
      refuseNext := s.tmv.refuseNext.filter fun r => r.1 != idx
      homes := s.tmv.homes.filter fun h => !homes.contains h }
    flash := { s.flash with deep := s.flash.deep.filter fun e => e.1 < 0x10000000 || !homes.contains e.1 }
    reg := { s.reg with lost := s.reg.lost.filter (· != idx) } }

/-- The drain of a descriptor is complete: it becomes VALID, or FREE with its backing released; the command reports DONE (R83). -/
def State.endDrain (s : State) (idx : Nat) (dr : Drain) : State :=
  let d := s.desc idx
  let s := if d.dereg then (s.releaseRegion idx).setDesc idx { gen := d.gen } else s.setDesc idx { d with state := .valid }
  let s := s.modReg fun g => { g with drains := g.drains.del idx }
  if dr.cmd = 0 then s
  else s.done dr.cmd
    (leBytes 4 (if d.dereg then 0 else akOf idx d.gen) ++ leBytes 4 dr.refused ++ leBytes 4 dr.aborted)

/-- Look at one drain: once the last open message of the old generation has ended, a deregistration of a mirrored group sends
CONFIG when every frame of the region is covered, and the drain completes when nothing is owed by the twin. -/
def State.checkDrain (s : State) (idx : Nat) : State :=
  match s.reg.drains.find? idx with
  | none => s
  | some dr =>
    let d := s.desc idx
    if s.openUnder idx dr.oldGen > 0 then s
    else
      let s := s.modReg fun g => { g with drains := g.drains.set idx { dr with drained := true } }
      if !s.twinActive d.group then s.endDrain idx dr
      else if d.dereg ∧ !dr.configOut then
        if s.framesOf d.group idx then s
        else
          (s.modReg fun g => { g with drains := g.drains.set idx { dr with drained := true, configOut := true, configDone := false } }).sendConfig
            d.group cfgDeregister idx (leBytes 64 d.word) dr.cmd
      else if dr.configDone then s.endDrain idx dr
      else s

def State.checkDrains (s : State) : State := s.reg.drains.foldl (fun s e => s.checkDrain e.1) s

/-! ### What a message holds -/

/-- The staging buffers of a message are freed; while frames that copy its placements are not covered they are handed to MIR, which
frees them with the last of those frames (R90). -/
def State.letBufsGo (s : State) (m : OpenMsg) : State :=
  if m.mirrored && (s.grp m.group).frames.any (fun f => f.seq ≤ m.lastSeq) then
    m.bufs.foldl (fun s b => (s.handOver 1 b).noteHold (.frames m.group m.lastSeq) b) s
  else s.freeBufs m.bufs

/-- Release what a message reserved or holds: charge, frames, staging buffers, the slot of its completion entry, and, before the
commit, its atomic write group. -/
def State.releaseMsg (s : State) (qpn : Nat) (m : OpenMsg) : State :=
  let s := (s.releaseCharge m.charge).letBufsGo m
  let s := s.modTmv fun t => { t with resv := t.resv.filter fun r => !(r.qpn == qpn && r.msg == m.id) }
  let q := s.qp qpn
  let s := if m.cqe.isSome && q.ctx.cqBound then
      s.modCq q.ctx.cq.toNat fun c => { c with reserved := c.reserved - 1 }
    else s
  s.modPde fun p =>
    { p with awgs := p.awgs.filter fun a => !(a.qpn == qpn && a.msg == m.id && (a.state = .staging || a.state = .staged)) }

/-! ### Leaving the cache, the log and the queue pair -/

/-- A queue pair becomes FREE: its log goes and its completion queue loses a binding. -/
def State.freeQp (s : State) (qpn : Nat) : State :=
  let q := s.qp qpn
  let s := q.msgs.foldl (fun s m => s.releaseMsg qpn m) s
  let s := if q.ctx.cqBound then s.modCq q.ctx.cq.toNat fun c => { c with boundQps := c.boundQps - 1 } else s
  let s := (s.dirtySeg (s.ctxSeg qpn)).dirtySeg (s.logSeg qpn)
  let s := s.modXpt fun x => { x with qps := x.qps.del qpn, qcc := x.qcc.filter (·.qpn != qpn), waiting := x.waiting.filter (·.qpn != qpn) }
  s.checkDrains

/-- A successor's inheritance ends, and its RETAINED predecessor becomes FREE (R109, R114, Table 4.7). -/
def State.endInherit (s : State) (qpn : Nat) : State :=
  let q := s.qp qpn
  if !q.ctx.inherit then s
  else
    let p := q.ctx.predQpn.toNat
    let s := s.modQp qpn fun q => { q with inheritDeadline := 0, ctx := { q.ctx with inherit := false } }
    if (s.qp p).state = .retained then s.freeQp p else s

/-! ### ERROR (R108) -/

namespace Cause

abbrev oldDuplicate : Nat := 0x01
abbrev invalidRequest : Nat := 0x02
abbrev length : Nat := 0x03
abbrev rqFault : Nat := 0x04
abbrev cqFault : Nat := 0x05
abbrev waitTimeout : Nat := 0x06
abbrev revokeAbort : Nat := 0x07
abbrev violation : Nat := 0x08
abbrev channelHalt : Nat := 0x09
abbrev portFenced : Nat := 0x0A
abbrev forced : Nat := 0x0B
abbrev restart : Nat := 0x0C
abbrev retryExceeded : Nat := 0x0D

end Cause

/-- A READY queue pair enters ERROR: its messages end, the cause is kept, ERR_PENDING is set. The QP_ERROR entry is written by
`State.enterError`. -/
def State.errorCore (s : State) (qpn cause : Nat) : State :=
  let q := s.qp qpn
  if q.state ≠ .ready then s
  else
    let s := q.msgs.foldl (fun s m => s.releaseMsg qpn m) s
    let s := s.modQp qpn fun q =>
      { q with state := .error, errorCause := cause, errPending := true, msgs := [], covers := [], inProgress := none
               discarding := false, wait := {}, gov := { q.gov with queue := [] } }
    let s := (s.event 0x2042 0 [qpn, cause]).endInherit qpn
    s.checkDrains

/-! ### Completion queues (R117–R120) -/

/-- Look a descriptor up for an access of XPT's own: a miss fills it on RQ2 (R76). DESIGN CHOICE (the spec gives the time only): the
fill is taken at once, where a packet does not wait for it. -/
def State.descUse (s : State) (idx : Nat) : State :=
  if idx ≥ maxRegions ∨ (s.desc idx).state = .free then s
  else if s.descCached idx then (s.bump P.desc_cache_hits).descTouch idx
  else ((s.bump P.desc_cache_misses).rqCount 2 64).descTouch idx

/-- Descriptor index and offset of a range that a ring names, when the key and the bounds hold (Table 3.5; a ring has no PD of its
own). -/
def State.ringAt (s : State) (gga ak len : Nat) : Option (Nat × Nat) :=
  let d := s.desc (akIndex ak)
  let off := ggaOffset gga
  if akIndex ak < maxRegions ∧ d.state ≠ .free ∧ akGen ak = d.gen ∧ d.base ≤ off ∧
      off + len ≤ d.base + segBytes * d.lengthSeg ∧ s.servesGroup d.group then
    some (akIndex ak, off - d.base)
  else none

/-- The ring and its control line lie wholly inside a VALID LOCAL or SCRATCH region of this member. -/
def State.ringRegion (s : State) (gga ak len : Nat) : Bool :=
  let d := s.desc (akIndex ak)
  (s.ringAt gga ak len).isSome && d.state = .valid && (d.cls == clsLocal || d.cls == clsScratch) &&
  ggaMember gga == s.fab.member

/-- XPT writes into a ring: placed, and its segment marked dirty. -/
def State.ringWrite (s : State) (idx off : Nat) (b : Bytes) : State :=
  let s := s.present idx off b.length
  ((s.regionWrite idx off b).rqCount 0 b.length).wroteRange s idx off b.length

def Cq.size (c : Cq) : Nat := 2 ^ c.log2

/-- Reread the control line; a value ahead of the producer or behind the last consumer is ignored. -/
def State.cqReread (s : State) (cqn : Nat) : State :=
  let c := s.cq cqn
  match s.ringAt c.ringGga.toNat c.ringAk.toNat (32 * c.size + 64) with
  | none => s
  | some (idx, off) =>
    let s := (s.present idx (off + 32 * c.size) 4).rqCount 1 64
    let v := leNat (s.regionRead idx (off + 32 * c.size) 4)
    let seen := (v + 2 ^ 32 - c.consumerCached % 2 ^ 32) % 2 ^ 32
    if seen ≤ c.producer - c.consumerCached then s.modCq cqn fun c => { c with consumerCached := c.consumerCached + seen } else s

/-- Slots neither written and unconsumed nor reserved. -/
def Cq.room (c : Cq) : Nat := c.size - (c.producer - c.consumerCached) - c.reserved

/-- Octets of a completion entry (Table 4.12). -/
def CqEntry.encode (e : CqEntry) (phase : Nat) : Bytes :=
  leBytes 32 (place 192 e.tag + place 128 e.gga + place 96 e.imm + place 64 e.byteCount + place 40 e.psn + place 32 e.status +
    place 24 e.opcode + place 21 e.vkind + place 1 e.qpn + phase)

/-- A wait ends when the count reaches its threshold (R121). -/
def State.wakeWaits (s : State) (cqn : Nat) : State :=
  let c := s.cq cqn
  let due := s.xpt.qps.keysWhere fun _ q => q.wait.active && q.wait.cq == cqn && q.wait.threshold ≤ c.count
  due.foldl (fun s n => s.modQp n fun q => { q with wait := { q.wait with active := false } }) s

/-- The CQ enters ERROR, and every bound queue pair with it, cause CQ_FAULT (R119). -/
def State.cqError (s : State) (cqn : Nat) : State :=
  let s := s.modCq cqn fun c => { c with state := .error }
  let bound := s.xpt.qps.keysWhere fun _ q => q.ctx.cqBound && q.ctx.cq.toNat == cqn
  bound.foldl (fun s n => s.errorCore n Cause.cqFault) s

/-- Write an entry in the next slot: `count` advances as it is written. In SAVE nothing is written (R156). -/
def State.cqWrite (s : State) (cqn : Nat) (e : CqEntry) : State :=
  let c := s.cq cqn
  if c.state ≠ .ready ∨ s.mode = .save then s
  else
    let s := s.descUse (akIndex c.ringAk.toNat)
    match s.ringAt c.ringGga.toNat c.ringAk.toNat (32 * c.size + 64) with
    | none => s.cqError cqn
    | some (idx, off) =>
      let phase := if (c.producer / c.size) % 2 = 0 then 1 else 0
      let s := s.ringWrite idx (off + 32 * (c.producer % c.size)) (e.encode phase)
      (s.modCq cqn fun c => { c with producer := c.producer + 1, count := c.count + 1 }).wakeWaits cqn

/-- The QP_ERROR entry of a queue pair has been written. -/
def State.clearErrPending (s : State) (qpn : Nat) : State :=
  if s.xpt.qps.has qpn then s.modQp qpn fun q => { q with errPending := false } else s

/-- Write pending entries, in the order in which they became pending, while the consumer index shows free slots (R119). Every pending
entry is a QP_ERROR entry. -/
def State.cqFlush (s : State) (cqn : Nat) : Nat → State
  | 0 => s
  | n + 1 =>
    match (s.cq cqn).pending with
    | [] => s
    | e :: t =>
      if (s.cq cqn).room > 0 then
        let w := s.cqWrite cqn e
        if (w.cq cqn).count = (s.cq cqn).count then w
        else ((w.modCq cqn fun c => { c with pending := t }).clearErrPending e.qpn).cqFlush cqn n
      else s

/-- Reread the control line; the slots that it frees take the pending entries first. -/
def State.cqRefresh (s : State) (cqn : Nat) : State := (s.cqReread cqn).cqFlush cqn (s.cq cqn).pending.length

/-- A slot is free, after rereading the control line when the ring is full of written entries (R117). -/
def State.cqRoom (s : State) (cqn : Nat) : State × Bool :=
  let c := s.cq cqn
  if c.room > 0 then (s, true)
  else if c.producer - c.consumerCached = c.size then
    let s := s.cqRefresh cqn
    (s, (s.cq cqn).room > 0)
  else (s, false)

/-- An entry for a message whose slot was reserved at admission (R118, R119). -/
def State.cqMessage (s : State) (cqn : Nat) (e : CqEntry) : State :=
  (s.modCq cqn fun c => { c with reserved := c.reserved - 1 }).cqWrite cqn e

/-- A violation or HXV refusal entry: dropped and counted in `lost` when the ring is full. -/
def State.cqNotice (s : State) (cqn : Nat) (e : CqEntry) : State :=
  let r := s.cqRoom cqn
  if r.2 then r.1.cqWrite cqn e else r.1.modCq cqn fun c => { c with lost := c.lost + 1 }

/-- A QP_ERROR entry: pending, under ERR_PENDING, while the ring is full. ERR_PENDING is cleared once the entry is written. -/
def State.cqQpError (s : State) (cqn qpn cause : Nat) : State :=
  let e : CqEntry := { imm := cause, status := 0x02, qpn := qpn }
  let r := s.cqRoom cqn
  if (r.1.cq cqn).state ≠ .ready then r.1
  else if r.2 then
    let w := r.1.cqWrite cqn e
    if (w.cq cqn).count = (r.1.cq cqn).count then w else w.clearErrPending qpn
  else r.1.modCq cqn fun c => { c with pending := c.pending ++ [e] }

/-- Enter ERROR and write the QP_ERROR entry (R108). -/
def State.enterError (s : State) (qpn cause : Nat) : State :=
  if (s.qp qpn).state ≠ .ready then s
  else
    let s := s.errorCore qpn cause
    let q := s.qp qpn
    if q.ctx.cqBound then s.cqQpError q.ctx.cq.toNat qpn cause else s

end Sys2Proof.Machine
end

