-- ==== Sys2Proof/Machine/PipeOps.lean ====
section
/-!
DEFINITION. From admission to answer: the issue of placements and reads in order, their completion, and the answers in PSN order
(R111, R133–R154, R198).
-/

namespace Sys2Proof.Machine

/-! ### Messages of a queue pair -/

def State.modMsg (s : State) (qpn id : Nat) (f : OpenMsg → OpenMsg) : State :=
  s.modQp qpn fun q => { q with msgs := q.msgs.map fun m => if m.id = id then f m else m }

def Qp.msg (q : Qp) (id : Nat) : Option OpenMsg := q.msgs.find? (·.id == id)

/-- Fix the answer of a message: what it has not issued is dropped. -/
def State.verdict (s : State) (qpn id : Nat) (v : Verdict) : State :=
  s.modMsg qpn id fun m => if m.verdict.isSome then m else { m with verdict := some v, jobs := [] }

/-- Is this an extension operation, answered with GX_RESPONSE? -/
def MsgKind.ext : MsgKind → Bool
  | .dwrite | .flush | .cas16 | .awg | .tread => true
  | _ => false

def MsgKind.isRead : MsgKind → Bool
  | .read | .tread => true
  | _ => false

def MsgKind.isAtomic : MsgKind → Bool
  | .cswap | .fadd | .cas16 => true
  | _ => false

/-- A message that places data (R166, R137). -/
def MsgKind.writes : MsgKind → Bool
  | .send | .write | .writeImm | .dwrite | .awg | .cswap | .fadd | .cas16 => true
  | _ => false

/-- Refuse with a status for an extension operation, with NAK 0x63 for a standard one (R137, R154, R253). -/
def OpenMsg.refusal (m : OpenMsg) (status result : Nat) : Verdict :=
  if m.kind.ext then .gx status 0 result else .nak 0x63

/-- Report an access violation at the device end (R81, R123); at an owner only counters and event (R124). -/
def State.reportViolation (s : State) (qpn : Nat) (m : OpenMsg) (kind : Nat) : State :=
  let s := s.countViolation m.ak kind
  let s := s.event 0x2040 0 [m.gga, place 32 m.ak + kind, qpn, m.pd.toNat]
  if m.forwarded then s
  else
    let s := s.modQp qpn fun q => { q with cnt := { q.cnt with violations := q.cnt.violations + 1 } }
    let q := s.qp qpn
    if q.ctx.cqBound then
      s.cqNotice q.ctx.cq.toNat
        { tag := m.tag, gga := m.gga, imm := m.ak, byteCount := m.len, psn := m.firstPsn, status := 0x01
          opcode := m.opcode, vkind := kind, qpn := qpn }
    else s

/-! ### Levels of durability (Table 5.8, R134, R144) -/

/-- Has the twin acknowledged every frame of a message, where the group still has a twin? -/
def State.covered (s : State) (g seq : Nat) (mirrored : Bool) : Bool :=
  !s.twinActive g || !mirrored || seq ≤ (s.grp g).acked

/-- Level that data of a message has reached. While the group is ACTIVE with its twin STANDBY, what was placed there without a frame
stands at the twin too: it changed nothing, or a resync has carried it (R231). -/
def State.levelOf (s : State) (g cls seq : Nat) (mirrored : Bool) : Nat :=
  if cls = clsScratch then 0
  else if s.twinActive g && (!mirrored || seq ≤ (s.grp g).acked) then 2
  else 1

def State.isSolo (s : State) (g : Nat) : Bool := g != 255 && (s.grp g).role = .solo

/-- Has a covered message reached the highest level it can (R144)? -/
def State.coverSettled (s : State) (c : Cover) : Bool :=
  c.fenced || c.via || (!(s.grp c.group).soloPending && s.covered c.group c.lastSeq c.mirrored)

/-- R142 is in force. -/
def State.areaLow (s : State) : Bool := s.flash.saveAreaLow

/-- The durable point of a class and group is local only (R142). -/
def State.localOnly (s : State) (g : Nat) : Bool := g == 255 || s.isSolo g

/-- Status and durability of FLUSH over its covered messages (R144). -/
def State.flushAnswer (s : State) (cs : List Cover) : Nat × Nat :=
  let solo := cs.any fun c => !c.via && s.isSolo c.group
  let status :=
    if cs.any (·.fenced) then 0x49
    else if s.areaLow && cs.any (fun c => !c.via && c.cls != clsScratch && s.localOnly c.group) then 0x42
    else if solo then 0x40
    else 0
  let levels := (cs.filter fun c => c.cls != clsScratch).map fun c =>
    if c.fenced then 0 else if c.via then c.level else s.levelOf c.group c.cls c.lastSeq c.mirrored
  let level := match levels with
    | [] => 0
    | a :: t => t.foldl min a
  (status, if status = 0x49 then 0 else if status = 0x40 then min level 1 else level)

/-! ### Acknowledgement points (Table 5.7) -/

/-- Has a message reached the point at which it is answered? -/
def State.pointReached (s : State) (q : Qp) (m : OpenMsg) : Bool :=
  match m.verdict with
  | some (.nak _) => m.via.isNone || m.ended
  | some (.gx ..) => m.ended
  | none =>
    if m.via.isSome then m.remote
    else m.ended && !(m.group != 255 && (s.grp m.group).soloPending) &&
      match m.kind with
      | .send | .write | .writeImm => m.jobs.isEmpty && m.outstanding == 0
      | .cswap | .fadd => m.issued && m.outstanding == 0
      | .dwrite => m.jobs.isEmpty && m.outstanding == 0 && s.covered m.group m.lastSeq m.mirrored
      | .cas16 => m.issued && m.outstanding == 0 && (!(m.dur || m.mismatch) || s.covered m.group m.lastSeq m.mirrored)
      | .awg => m.awgDone && s.covered m.group m.lastSeq m.mirrored
      | .flush => q.covers.all fun c => m.id ≤ c.id || s.coverSettled c
      | .wait | .hxv => true
      | .read | .tread => m.issued && m.len ≤ m.data.length
      | .refused => true

/-- GRB of an extension operation that completes (Tables 5.5 and 5.6). -/
def State.grbOf (s : State) (q : Qp) (m : OpenMsg) : Grb :=
  if let some g := m.grb then g else
  let major2 := q.hxv / 256 ≥ 2
  let sdr : Nat × Nat × Nat := match m.verdict with
    | some (.gx st dur res) => (st, dur, res)
    | _ =>
      let level := s.levelOf m.group m.cls m.lastSeq m.mirrored
      if m.kind = .flush then
        let a := s.flushAnswer (q.covers.filter fun c => c.id < m.id)
        (a.1, a.2, 0)
      else match m.failLine with
        | some gga => (0x44, if level = 2 && m.mirrored && m.kind != .cas16 then 2 else 0, place 64 gga)
        | none =>
          let res := if m.kind = .cas16 then m.result else 0
          if s.isSolo m.group then
            if m.mismatch then (0x41, level, res)
            else if m.noSolo && !(m.mirrored && m.lastSeq ≤ (s.grp m.group).acked) then (0x43, 1, 0)
            else (0x40, min level 1, res)
          else (if m.mismatch then 0x41 else 0, level, res)
  let own := m.kind != .flush
  { tag := BitVec.ofNat 64 m.tag, result := BitVec.ofNat 128 sdr.2.2
    epoch := BitVec.ofNat 32 (if major2 && own && m.group != 255 then (s.grp m.group).epoch else 0)
    status := BitVec.ofNat 8 sdr.1, durability := BitVec.ofNat 8 sdr.2.1
    regionGroup := BitVec.ofNat 8 (if major2 && own then m.group else 0) }

/-- Read response packets over consecutive PSNs. -/
def readResponses (psn msn mtu : Nat) (data : Bytes) : List RoceBody :=
  let n := max 1 (ceilDiv data.length mtu)
  (List.range n).map fun i =>
    let op := if n = 1 then 0x10 else if i = 0 then 0x0D else if i + 1 = n then 0x0F else 0x0E
    .readResponse op (psnAdd psn i) msn (slice data (mtu * i) mtu)

/-- PSNs that a read consumes. -/
def readPsns (len mtu : Nat) : Nat := max 1 (ceilDiv len mtu)

/-- Packets that answer a message, with `msn` already advanced, and its log record. -/
def State.answerOf (s : State) (q : Qp) (m : OpenMsg) : List RoceBody × Option LogRec :=
  let msn := q.msn
  match m.verdict with
  | some (.nak syn) => ([.ack m.firstPsn syn msn], some { psn := m.firstPsn, syndrome := syn, tag := m.tag })
  | v =>
    let gx := fun (_ : Unit) =>
      let g := s.grbOf q m
      ([RoceBody.gx m.lastPsn msn g],
        some ({ psn := m.lastPsn, syndrome := 0x1F, status := g.status.toNat, durability := g.durability.toNat,
                group := g.regionGroup.toNat, tag := m.tag, result := g.result.toNat, answer := 0xE0 } : LogRec))
    if m.kind.ext && (v.isSome || m.kind != .tread) then gx ()
    else if m.failLine.isSome then
      ([.ack m.firstPsn 0x63 msn], some { psn := m.firstPsn, syndrome := 0x63, tag := m.tag })
    else match m.kind with
      | .read | .tread =>
        (readResponses m.firstPsn msn q.ctx.mtuBytes m.data,
          some { psn := m.lastPsn, syndrome := 0x1F, group := m.group, tag := m.tag, answer := 0x10 })
      | .cswap | .fadd =>
        ([.atomicAck m.lastPsn msn m.result], some { psn := m.lastPsn, syndrome := 0x1F, result := m.result, answer := 0x12 })
      | .hxv =>
        ([.hxvAnswer m.lastPsn msn q.hxv (defaultOf P.hxv_current) (defaultOf P.hxv_previous)],
          some { psn := m.lastPsn, syndrome := 0x1F, result := q.hxv, answer := 0xC1 })
      | _ => ([.ack m.lastPsn 0x1F msn], some { psn := m.lastPsn, syndrome := 0x1F, tag := m.tag })

/-- Completion entry of a message that reaches its acknowledgement point. -/
def State.cqeOf (s : State) (q : Qp) (qpn : Nat) (m : OpenMsg) (c : CqeReq) : CqEntry :=
  { tag := c.tag, gga := c.gga, imm := c.imm, byteCount := m.len, psn := m.firstPsn
    status := if m.kind.ext && m.kind != .tread then (s.grbOf q m).status.toNat else 0
    opcode := m.opcode, qpn := qpn }

/-- Its answer is a NAK. -/
def OpenMsg.naked (m : OpenMsg) : Bool :=
  match m.verdict with
  | some (.nak _) => true
  | _ => m.failLine.isSome && !m.kind.ext

/-- It was refused before it had any effect, so a later FLUSH does not cover it. -/
def OpenMsg.refusedWhole (m : OpenMsg) : Bool := m.verdict.isSome && !m.issued

/-- A duplicate read that has been served is answered: nothing else of the queue pair changes (R112). -/
def State.answerDup (s : State) (qpn : Nat) (m : OpenMsg) : State :=
  let a := s.answerOf (s.qp qpn) m
  let s := (s.modQp qpn fun x => { x with msgs := x.msgs.filter (·.id != m.id) }).releaseMsg qpn m
  let s := if m.naked then s.modQp qpn fun x => { x with cnt := { x.cnt with naks := x.cnt.naks + 1 } } else s
  a.1.foldl (fun s b => s.sendQp qpn b) (s.bump P.dup_reacked)

/-- Answer the message at the head of a queue pair: its completion entry first, then the packets, the log record and the
release of what it held. -/
def State.answerHead (s : State) (qpn : Nat) (m : OpenMsg) : State :=
  let q := s.qp qpn
  let posted := m.verdict.isNone && m.failLine.isNone || m.verdict.isNone && m.kind.ext
  let s := match m.cqe with
    | some c => if posted && q.ctx.cqBound then
        (s.cqMessage q.ctx.cq.toNat (s.cqeOf q qpn m c)).modMsg qpn m.id fun x => { x with cqe := none }
      else s
    | none => s
  let q := s.qp qpn
  if q.state = .error then s
  else
    let q := { q with msn := psnAdd q.msn 1 }
    let a := s.answerOf q m
    let held := { m with cqe := if posted then none else m.cqe }
    let s := s.modQp qpn fun x =>
      { x with
        msn := q.msn
        lastDone := if m.naked then x.lastDone else some m.lastPsn
        msgs := x.msgs.filter (·.id != m.id)
        covers := if m.kind = .flush then x.covers.filter (fun c => m.id ≤ c.id)
          else (x.covers.filter fun c => c.id != m.id || c.fenced || !m.refusedWhole).map fun c =>
            if c.id = m.id then
              let far := match m.via, m.verdict with
                | some _, some (.gx st d _) => (st == 0x49, d)
                | _, _ => (false, 0)
              { c with placed := true, lastSeq := m.lastSeq, mirrored := m.mirrored, fenced := c.fenced || far.1, level := far.2 }
            else c }
    let s := s.releaseMsg qpn held
    let s := match a.2 with
      | some r => s.logRecord qpn r
      | none => s
    let s := if m.naked then s.modQp qpn fun x => { x with cnt := { x.cnt with naks := x.cnt.naks + 1 } } else s
    let s := a.1.foldl (fun s b => s.sendQp qpn b) s
    let s := m.after.foldl (fun s a => s.sendQp qpn (.ack a.1 a.2 (s.qp qpn).msn)) s
    if m.failLine.isSome ∧ m.verdict.isNone then s.enterError qpn Cause.channelHalt
    else if (m.verdict == some (Verdict.nak 0x62) && s.paramOn P.violation_to_error && !m.forwarded && m.grb.isNone) = true then s.enterError qpn Cause.violation
    else s

/-- Answer messages in PSN order while the first has reached its point (R111). -/
def State.releaseN (s : State) (qpn : Nat) : Nat → State
  | 0 => s
  | n + 1 =>
    let q := s.qp qpn
    match q.msgs with
    | [] => s
    | m :: _ =>
      if s.pointReached q m then (if m.dup then s.answerDup qpn m else s.answerHead qpn m).releaseN qpn n else s

/-- Answer what can be answered; a CLOSING queue pair whose last message has ended becomes FREE, and `qp_destroy` reports no
message aborted. -/
def State.release (s : State) (qpn : Nat) : State :=
  let s := (s.releaseN qpn ((s.qp qpn).msgs.length)).checkDrains
  let q := s.qp qpn
  if q.state = .closing ∧ q.msgs.isEmpty ∧ q.inProgress.isNone then
    let mine := leNat (s.cmdArg P.qp_destroy) == qpn && s.running P.qp_destroy
    let s := s.freeQp qpn
    if mine then s.done P.qp_destroy (leBytes 4 0) else s
  else s

/-! ### Issue (R145, R146, R198, R210) -/

/-- Do two ranges of a region share a line? -/
def sameLine (o1 l1 o2 l2 : Nat) : Bool := l1 > 0 && l2 > 0 && o1 / 64 ≤ (o2 + l2 - 1) / 64 && o2 / 64 ≤ (o1 + l1 - 1) / 64

def JobOp.len : JobOp → Nat
  | .write d => d.length
  | .cas16 .. => 16
  | .awg _ => 0
  | _ => 8

/-- A committed group of another message holds every placement that overlaps one of its extents (R198). -/
def State.awgHolds (s : State) (j : Job) : Bool :=
  s.pde.awgs.any fun a => a.state = .committed && !(a.qpn == j.qpn && a.msg == j.msg && !a.twin) &&
    a.extents.any fun e => e.1 == j.idx && e.2.1 < j.off + j.op.len && j.off < e.2.1 + e.2.2.length

/-- A read of this queue pair that covers a line of the range has been issued and has not returned. -/
def State.readBusy (s : State) (qpn idx off len : Nat) : Bool :=
  s.xpt.rq1.any fun r => r.qpn == qpn && r.idx == idx && sameLine r.off r.len off len

/-- A holder applies every COMMITTED group of its former source before it serves the group (R200). -/
def State.oweTwin (s : State) (g : Nat) : Bool := s.pde.awgs.any fun a => a.twin && a.group == g && a.state = .committed

/-- Does the message cover the whole segment that holds an offset? -/
def OpenMsg.wholeSeg (m : OpenMsg) (off : Nat) : Bool :=
  let g := off / segBytes
  m.kind != .send && m.off ≤ g * segBytes && (g + 1) * segBytes ≤ m.off + m.len

/-- Issue a write placement: its frames take their numbers in its order (R141, R207), then RQ0 takes it. -/
def State.issueWrite (s : State) (qpn : Nat) (m : OpenMsg) (j : Job) : State :=
  let mir := s.mirrors m.group
  let data := match j.op with
    | .write d => d
    | _ => []
  let s := if mir then
      (List.range (ceilDiv data.length 4096)).foldl (fun s i =>
        let c := slice data (4096 * i) 4096
        (s.issueFrame m.group { seq := 0, idx := j.idx, off := j.off + 4096 * i, data := some c, bytes := c.length }).1) s
    else s
  let last := (s.grp m.group).issued
  (s.modXpt fun x => { x with rq0 := x.rq0 ++ [{ j with mirrored := mir }] }).modMsg qpn m.id fun x =>
    { x with jobs := x.jobs.drop 1, outstanding := x.outstanding + 1, issued := true
             lastSeq := if mir then last else x.lastSeq, mirrored := x.mirrored || mir }

/-- Issue an atomic: the frame of its line takes its number now and its data when the line is known. -/
def State.issueAtomic (s : State) (qpn : Nat) (m : OpenMsg) (j : Job) : State :=
  let mir := s.mirrors m.group
  let r := if mir then
      let r := s.issueFrame m.group { seq := 0, idx := j.idx, off := j.off / 64 * 64, bytes := 64 }
      (r.1, some r.2)
    else (s, none)
  (r.1.modXpt fun x => { x with rq0 := x.rq0 ++ [{ j with seq := r.2, mirrored := mir }] }).modMsg qpn m.id fun x =>
    { x with jobs := [], outstanding := x.outstanding + 1, issued := true
             lastSeq := r.2.getD x.lastSeq, mirrored := x.mirrored || mir }

/-- Promotions ahead of a read of a STREAM region (R249). -/
def State.prefetch (s : State) (idx seg : Nat) : State :=
  let d := s.desc idx
  if d.cls != clsStream ∨ d.stride = 0 then s
  else
    let near : List Int := (List.range d.depth).map fun (k : Nat) => (seg : Int) + ((k : Int) + 1) * d.stride
    let targets : List Nat := (near.filter fun (t : Int) => 0 ≤ t && t < (d.lengthSeg : Int)).map Int.toNat
    targets.foldl (fun s g =>
      if (s.entry idx g).mstate = .absent then
        let before := s.count P.promotions
        let s := s.promote idx g true (seg :: targets)
        s.bumpIf (s.count P.promotions > before) P.prefetches
      else s) s

/-- Check a read or an atomic at the issue of its first DRAM read, once (R80, R154): the state, and whether it goes on. Passed, the
message is open under the descriptor's present generation, at the place that the descriptor gives it. -/
def State.checkAtIssue (s : State) (qpn : Nat) (m : OpenMsg) : State × Bool :=
  let need : Rights :=
    if m.kind.isRead then { read := true, forward := m.forwarded }
    else { atomic := true, durable := m.dur, forward := m.forwarded }
  let s := if s.descCached (akIndex m.ak) then s else s.descUse (akIndex m.ak)
  match s.placementCheck { pd := m.pd, ak := m.ak, gga := m.gga, len := m.len, need := need } with
  | some k => ((s.reportViolation qpn m k).verdict qpn m.id (.nak 0x62), false)
  | none =>
    let idx := akIndex m.ak
    if s.reg.lost.contains idx then (s.verdict qpn m.id (m.refusal 0x46 0), false)
    else
      let d := s.desc idx
      let off := ggaOffset m.gga - d.base
      (s.modMsg qpn m.id fun x =>
        { x with checked := true, idx := idx, off := off, keys := [(idx, d.gen)], group := d.group, cls := d.cls
                 jobs := x.jobs.map fun j => { j with idx := idx, off := off } }, true)

/-- GGA of a byte of a region, as the message named it. -/
def OpenMsg.ggaAt (m : OpenMsg) (off : Nat) : Nat := m.gga + (off - m.off)

/-- Issue the next piece of a read; the second component says whether anything was issued or settled. -/
def State.issueRead (s : State) (qpn : Nat) (m : OpenMsg) : State × Bool :=
  let r := if m.checked then (s, true) else s.checkAtIssue qpn m
  if !r.2 then (r.1, true)
  else
    let s := r.1
    let m := ((s.qp qpn).msg m.id).getD m
    if m.len = 0 then (s.modMsg qpn m.id fun x => { x with issued := true }, true)
    else if s.oweTwin m.group then (s, false)
    else
      let off := m.off + m.rcvd
      let n := min (m.len - m.rcvd) (segBytes - off % segBytes)
      let a := s.accessSeg m.idx (off / segBytes) false true
      match a.2 with
      | .wait => (a.1, false)
      | .poison => (a.1.verdict qpn m.id (m.refusal 0x45 (place 64 (m.ggaAt off / 64 * 64))), true)
      | .ready =>
        let s := (a.1.prefetch m.idx (off / segBytes)).modXpt fun x =>
          { x with rq1 := x.rq1 ++ [{ qpn := qpn, msg := m.id, idx := m.idx, off := off, len := n }] }
        (s.modMsg qpn m.id fun x => { x with issued := true, rcvd := x.rcvd + n, outstanding := x.outstanding + 1 }, true)

/-- Try to issue a placement; the second component says whether anything was issued or settled. -/
def State.tryPlace (s : State) (qpn : Nat) (m : OpenMsg) (j : Job) : State × Bool :=
  let atomic := m.kind.isAtomic
  let r := if atomic ∧ !m.checked then s.checkAtIssue qpn m else (s, true)
  if !r.2 then (r.1, true)
  else
    let s := r.1
    let m := ((s.qp qpn).msg m.id).getD m
    let j := if atomic then m.jobs.headD j else j
    let n := j.op.len
    if n < j.need ∨ s.oweTwin m.group ∨ s.awgHolds j ∨ s.readBusy qpn j.idx j.off n then (s, false)
    else if s.mirrors m.group ∧ !s.hasCredit m.group (if atomic then 64 else n) then (s, false)
    else
      let a := s.accessSeg j.idx (j.off / segBytes) (n == segBytes) false
      match a.2 with
      | .wait => (a.1, false)
      | .poison => (a.1.verdict qpn m.id (m.refusal 0x45 (place 64 (m.ggaAt j.off / 64 * 64))), true)
      | .ready => (if atomic then a.1.issueAtomic qpn m j else a.1.issueWrite qpn m j, true)

/-! ### Atomic write groups on RQ0 (R16, R145, R146, R153, R198) -/

/-- Change the atomic write groups that satisfy a test. -/
def State.modAwgs (s : State) (q : Awg → Bool) (f : Awg → Awg) : State :=
  s.modPde fun p => { p with awgs := p.awgs.map fun a => if q a then f a else a }

/-- Is this the same group? -/
def Awg.same (a b : Awg) : Bool := a.qpn == b.qpn && a.msg == b.msg && a.twin == b.twin && a.redoOffset == b.redoOffset

/-- Do two groups share a byte? -/
def Awg.overlaps (a b : Awg) : Bool :=
  a.extents.any fun e => b.extents.any fun f => e.1 == f.1 && e.2.1 < f.2.1 + f.2.2.length && f.2.1 < e.2.1 + e.2.2.length

/-- Does a range share a line with an extent of the group? -/
def Awg.covers (a : Awg) (idx off len : Nat) : Bool := a.extents.any fun e => e.1 == idx && sameLine e.2.1 e.2.2.length off len

/-- A frame of the group's unit has had no credit yet (R210). -/
def State.unitUnsent (s : State) (a : Awg) : Bool :=
  !a.twin && (s.groupPort a.group).isSome && (s.grp a.group).frames.any fun f => f.unit && f.unitSeq == a.mirrorSeq && !f.out

/-- PDE issues the apply of a committed group on RQ0, once the groups that committed before it and overlap it have been applied, the
reads of its queue pair have left its lines, its frames have been sent, and its segments are in DRAM; the second component says whether it was issued. -/
def State.issueAwg (s : State) (a : Awg) : State × Bool :=
  let behind := s.pde.awgs.any fun b => b.state = .committed && b.seqNo < a.seqNo && b.overlaps a
  let busy := !a.twin && s.xpt.rq1.any fun r => r.qpn == a.qpn && a.covers r.idx r.off r.len
  if behind || busy || s.unitUnsent a then (s, false)
  else
    let r := (a.extents.flatMap fun e => (segsOf e.2.1 e.2.2.length).map fun g => (e.1, g)).foldl
      (fun (r : State × Bool) p =>
        let x := r.1.accessSeg p.1 p.2 false false
        (x.1, r.2 && x.2 != .wait)) (s, true)
    if !r.2 then (r.1, false)
    else
      let s := r.1.modAwgs (fun b => b.state = .committed && b.seqNo == a.seqNo) fun b => { b with issued := true }
      let s := s.modXpt fun x =>
        { x with rq0 := x.rq0 ++ [{ qpn := if a.twin then 2 ^ 18 else a.qpn, msg := a.msg, idx := maxRegions, off := 0, op := .awg a.seqNo }] }
      (if a.twin then s else s.modMsg a.qpn a.msg fun m => { m with issued := true }, true)

/-- Issue the committed groups that no open message carries: those of the twin, and those whose queue pair has left. -/
def State.issueAwgs (s : State) : State :=
  if s.mode = .save then s else
  (s.pde.awgs.filter fun a => a.state = .committed && !a.issued && (a.twin || ((s.qp a.qpn).msg a.msg).isNone)).foldl
    (fun s a => (s.issueAwg a).1) s

/-- Walk the messages in admission order and issue the first thing that may be issued. `placed`: every earlier placement has
completed. `reads`: ranges of earlier reads that have not been issued. -/
def State.walk (s : State) (qpn : Nat) : List OpenMsg → Bool → List (Nat × Nat × Nat) → State × Bool
  | [], _, _ => (s, false)
  | m :: t, placed, reads =>
    if m.verdict.isSome || m.via.isSome then s.walk qpn t (placed && m.outstanding == 0) reads
    else if m.kind.isRead then
      if m.issued && m.rcvd ≥ m.len then s.walk qpn t placed reads
      else if placed then
        let r := s.issueRead qpn m
        if r.2 then r else r.1.walk qpn t placed ((m.idx, m.off + m.rcvd, m.len - m.rcvd) :: reads)
      else s.walk qpn t placed ((m.idx, m.off + m.rcvd, m.len - m.rcvd) :: reads)
    else if m.kind = .awg then
      if m.awgDone then s.walk qpn t placed reads
      else match s.pde.awgs.find? (fun a => a.qpn == qpn && a.msg == m.id && !a.twin && a.state = .committed) with
        | some a =>
          if a.issued then s.walk qpn t false reads
          else if reads.any (fun r => a.covers r.1 r.2.1 r.2.2) then (s, false)
          else s.issueAwg a
        | none => (s, false)
    else match m.jobs with
      | j :: _ =>
        if reads.any (fun r => r.1 == j.idx && sameLine r.2.1 r.2.2 j.off j.op.len) || (m.kind.isAtomic && !placed) then (s, false)
        else s.tryPlace qpn m j
      | [] => s.walk qpn t (placed && m.outstanding == 0) reads

/-- Issue what may be issued, one thing at a time. -/
def State.issueN (s : State) (qpn : Nat) : Nat → State
  | 0 => s
  | n + 1 =>
    let r := s.walk qpn (s.qp qpn).msgs true []
    if r.2 then r.1.issueN qpn n else r.1

/-- Pieces of a queue pair still to issue. -/
def Qp.work (q : Qp) : Nat := (q.msgs.map fun m => m.jobs.length + (if m.kind.isRead then m.len / segBytes + 3 else 1)).sum

/-- Issue and answer whatever can be. -/
def State.advance (s : State) (qpn : Nat) : State := (s.issueN qpn ((s.qp qpn).work + 1)).release qpn

def State.advanceAll (s : State) : State :=
  let s := s.grantFrames
  let s := (s.xpt.qps.map (·.1)).foldl (fun s n => s.advance n) s
  s.issueAwgs

/-- Answers that wait on a group, after its acked_seq or its role has changed. -/
def State.advanceGroup (s : State) (_g : Nat) : State := s.advanceAll.checkDrains

/-! ### Completion of placements -/

/-- Lines of a placement, by number from its first line, that are written only in part: the MC reads them first (R299). -/
def partialLine (off len i : Nat) : Bool :=
  let a := (off / 64 + i) * 64
  a < off || off + len < a + 64

/-- Execute an atomic on 8 or 16 bytes: the value found, and the value written if one is written. -/
def JobOp.run (op : JobOp) (old : Bytes) : Nat × Option Bytes :=
  match op with
  | .write d => (0, some d)
  | .cswap swap compare =>
    let v := leNat old
    (v, if v = compare.toNat then some (leBytes 8 swap.toNat) else none)
  | .fadd add => (leNat old, some (leBytes 8 ((leNat old + add.toNat) % 2 ^ 64)))
  | .cas16 compare swap =>
    let v := beNat old
    (v, if v = compare.toNat then some (beBytes 16 swap.toNat) else none)
  | .awg _ => (0, none)

/-- A segment that a whole write is about to fill: ABSENT or POISONED. -/
def State.wholeDue (s : State) (idx seg : Nat) : Bool :=
  (s.desc idx).tiered && ((s.entry idx seg).mstate = .absent || (s.entry idx seg).mstate = .poisoned)

/-- The frame that a whole-segment write took at its issue, else one taken now, becomes the segment's (rows ABSENT and POISONED of
Table 9.3). -/
def State.frameForWhole (s : State) (idx seg : Nat) : State :=
  let e := s.entry idx seg
  if s.wholeDue idx seg then
    let r := match (s.tmv.frames.keysWhere fun _ f => f.idx == idx && f.seg == seg).head? with
      | some n => (s, some n)
      | none => s.takeFrame idx seg true
    match r.2 with
    | some n => r.1.setEntry idx seg { e with mstate := .resident, frame := r.1.frameLsn n }
    | none => r.1
  else s

/-- Place a job in DRAM: the lines that fail become poisoned and keep nothing of the placement; the segment is marked dirty, and
the charge reserved for it becomes its mark (R137, R177, R138). An atomic whose line fails has no resulting line: its frame carries no
octets, so that the twin's copy stands (R20; DESIGN CHOICE, assumption 191). Returns the byte addresses of newly poisoned lines. -/
def State.placeJob (s : State) (j : Job) (bad : List Nat) : State × List Nat :=
  let seg := j.off / segBytes
  let fresh := s.wholeDue j.idx seg
  let s := s.frameForWhole j.idx seg
  match s.lsnOf j.idx seg with
  | none => (s, [])
  | some lsn =>
    let base := lsn * segBytes + j.off % segBytes
    let first := base / 64
    let old := s.regionRead j.idx j.off j.op.len
    let res := j.op.run old
    let data := res.2
    let n := match data with
      | some d => d.length
      | none => j.op.len
    let lines := (base + n - 1) / 64 - first + 1
    let isOp := match j.op with
      | .write _ => false
      | _ => true
    let was := fun (i : Nat) => s.dram.poison.contains (first + i)
    let fails := (List.range lines).filter fun i => (isOp || partialLine base n i) && (was i || bad.contains i)
    let new := (fails.filter fun i => !was i).map (· + first)
    let d := s.desc j.idx
    let m := (s.qp j.qpn).msg j.msg
    let charged := (s.segState lsn).charged
    let before := s
    let s := match data with
      | some b =>
        let keep := (List.range n).filter fun k => !fails.contains ((base + k) / 64 - first)
        s.modDram fun r =>
          { r with
            mem := keep.foldl (fun t k => Memory.writeByte t (base + k) (b.getD k 0)) r.mem
            poison := (new.foldl (fun l x => insertNat x l) r.poison).filter fun l =>
              !(first ≤ l && l < first + lines && !fails.contains (l - first)) }
      | none => s.modDram fun r => { r with poison := new.foldl (fun l x => insertNat x l) r.poison }
    let changed := fresh || s.segDiffers before lsn || (data.isSome && !fails.isEmpty)
    let s := if d.cls == clsScratch then s else s.wroteSeg lsn changed
    let s := if s.isSolo d.group && !j.mirrored then s.setDivergent j.idx seg else s
    let s := match m with
      | some m =>
        let used := if charged || !(s.segState lsn).charged then 0 else min 1 m.charge
        (s.releaseCharge used).modMsg j.qpn j.msg fun x =>
          { x with
            outstanding := x.outstanding - 1
            charge := x.charge - used
            result := if isOp then res.1 else x.result
            mismatch := x.mismatch || (isOp && res.2.isNone && x.kind = .cas16)
            lastSeq := if isOp && res.2.isNone && x.kind = .cas16 then (s.grp d.group).issued else x.lastSeq
            failLine := match x.failLine, fails with
              | none, i :: _ =>
                let gga := if x.kind = .awg then ggaOf s.fab.member (d.base + j.off) else x.gga + (j.off - x.off)
                some (gga / 64 * 64 + 64 * i)
              | f, _ => f }
      | none => s
    let s := match j.seq with
      | some q => s.frameData d.group q (if fails.isEmpty then s.regionRead j.idx (j.off / 64 * 64) 64 else [])
      | none => s
    (s, new.map (· * 64))

/-- The oldest placement on RQ0 completes: answers and later placements follow. The apply of an atomic write group at the head of RQ0
completes by a command of its own. -/
def State.placementDone (s : State) (bad : List Nat) : State × List Nat :=
  match s.xpt.rq0 with
  | [] => (s, [])
  | j :: t =>
    if j.op matches .awg _ then (s, [])
    else
      let r := (s.modXpt fun x => { x with rq0 := t }).placeJob j bad
      (r.1.advanceAll, r.2)

/-! ### Completion of reads -/

/-- A read has returned a segment: one more of its later ABSENT segments is reserved (R241). -/
def State.reserveLater (s : State) (qpn msg : Nat) : State :=
  match (s.qp qpn).msg msg with
  | none => s
  | some m =>
    let held := s.tmv.resv.countP fun r => r.qpn == qpn && r.msg == msg
    if !(s.desc m.idx).tiered || m.verdict.isSome || held ≥ 16 then s
    else
      let next := (segsOf (m.off + m.rcvd) (m.len - m.rcvd)).find? fun g =>
        (s.entry m.idx g).mstate = .absent && !(s.tmv.resv.any fun r => r.qpn == qpn && r.msg == msg && r.seg == g)
      s.reserveFrames qpn msg m.idx next.toList fun _ _ => false

/-- The oldest read on RQ1 returns: `bad` and the lines that hold the poison encoding carry no data (R154). Returns the byte
addresses of newly poisoned lines. -/
def State.readDone (s : State) (bad : List Nat) : State × List Nat :=
  match s.xpt.rq1 with
  | [] => (s, [])
  | r :: t =>
    let s := s.modXpt fun x => { x with rq1 := t }
    let lines := if r.len = 0 then 0 else (r.off + r.len - 1) / 64 - r.off / 64 + 1
    let lineAt := fun (i : Nat) => (s.addrIn r.idx ((r.off / 64 + i) * 64)).getD 0 / 64
    let was := fun (i : Nat) => s.dram.poison.contains (lineAt i)
    let fails := (List.range lines).filter fun i => was i || bad.contains i
    let new := (fails.filter fun i => !was i).map lineAt
    let s := s.modDram fun d => { d with poison := new.foldl (fun l x => insertNat x l) d.poison }
    let data := s.regionRead r.idx r.off r.len
    match (s.qp r.qpn).msg r.msg with
    | none => (s, new.map (· * 64))
    | some m =>
      let s := match fails with
        | i :: _ => s.verdict r.qpn r.msg (m.refusal 0x45 (place 64 (m.ggaAt r.off / 64 * 64 + 64 * i)))
        | [] => s.modMsg r.qpn r.msg fun x => { x with data := x.data ++ data }
      (((s.modMsg r.qpn r.msg fun x => { x with outstanding := x.outstanding - 1 }).reserveLater r.qpn r.msg).advanceAll, new.map (· * 64))

end Sys2Proof.Machine
end

