-- ==== Sys2Proof/Machine/AdmitOps.lean ====
section
/-!
DEFINITION. From a received packet to an admitted or refused message: discards, marks, the sequence classes, the order of R448, and
forwarding (R94–R95, R110–R116, R121–R127, R130–R132, R137, R140–R151, R158–R166, R270, R448).
-/

namespace Sys2Proof.Machine

/-! ### Facts of an operation -/

def opPos : ReqOp → Pos
  | .send p .. | .write p .. | .dwrite p .. | .awg p .. => p
  | _ => .only

/-- BTH opcode of a request (Table 5.1). -/
def opCode : ReqOp → Nat
  | .send p imm _ => match p, imm with
    | .first, _ => 0x00 | .middle, _ => 0x01 | .last, none => 0x02 | .last, some _ => 0x03 | .only, none => 0x04 | .only, some _ => 0x05
  | .write p _ imm _ => match p, imm with
    | .first, _ => 0x06 | .middle, _ => 0x07 | .last, none => 0x08 | .last, some _ => 0x09 | .only, none => 0x0A | .only, some _ => 0x0B
  | .read _ => 0x0C
  | .cswap _ => 0x13
  | .fadd _ => 0x14
  | .hxvOffer .. => 0xC0
  | .dwrite p .. => match p with
    | .first => 0xC2 | .middle => 0xC3 | .last => 0xC4 | .only => 0xC5
  | .flush _ => 0xC6
  | .cas16 .. => 0xC7
  | .awg p .. => match p with
    | .first => 0xC8 | .middle => 0xC9 | .last => 0xCA | .only => 0xCB
  | .wait .. => 0xCC
  | .tread _ => 0xCD
  | .invalid o => o.toNat

/-- Kind of the message that an operation belongs to. -/
def opKind : ReqOp → MsgKind
  | .send .. => .send
  | .write _ _ imm _ => if imm.isSome then .writeImm else .write
  | .read _ => .read
  | .cswap _ => .cswap
  | .fadd _ => .fadd
  | .hxvOffer .. => .hxv
  | .dwrite .. => .dwrite
  | .flush _ => .flush
  | .cas16 .. => .cas16
  | .awg .. => .awg
  | .wait .. => .wait
  | .tread _ => .tread
  | .invalid _ => .refused

/-- GXH of an operation, where its packet carries one. -/
def opGxh : ReqOp → Option Gxh
  | .dwrite _ g _ | .awg _ g _ => g
  | .flush g | .cas16 g _ _ | .tread g => some g
  | _ => none

/-- An extension operation of 0xC2–0xFF. -/
def opExt (op : ReqOp) : Bool := 0xC2 ≤ opCode op

/-- Extents of an AWG payload (Table 5.9): GGA, AK and length. -/
def awgExtents (n : Nat) (d : Bytes) : List (Nat × Nat × Nat) :=
  (List.range n).map fun i => (beAt d (16 * i) 8, beAt d (16 * i + 8) 4, beAt d (16 * i + 12) 4)

/-! ### Header checks (R127, R130–R132) -/

/-- Is the opcode defined under the negotiated version? -/
def opDefined (hxv : Nat) (op : ReqOp) : Bool :=
  let major := hxv / 256
  let minor := hxv % 256
  match op with
  | .invalid _ => false
  | .dwrite .. | .flush _ | .cas16 .. | .wait .. => major ≥ 1
  | .awg .. => major ≥ 2
  | .tread _ => major ≥ 2 && minor ≥ 1
  | _ => true

/-- Does a header use only the fields and flags that its operation and the negotiated version give it (Table 5.2)? -/
def gxhFits (hxv : Nat) (op : ReqOp) (g : Gxh) : Bool :=
  let noAddr := g.gga == 0 && g.ak == 0
  let soloOk := !g.noSolo || hxv / 256 ≥ 2
  match op with
  | .dwrite .. => g.deadlineUs == 0 && g.extents == 0 && soloOk && !g.dur
  | .flush _ => noAddr && g.length == 0 && g.deadlineUs == 0 && g.extents == 0 && soloOk && !g.dur
  | .cas16 .. => g.deadlineUs == 0 && g.extents == 0 && soloOk
  | .awg .. => noAddr && g.deadlineUs == 0 && soloOk && !g.dur
  | .tread _ => g.extents == 0 && !g.noSolo && !g.dur
  | _ => true

/-- Payload octets that a packet may carry: a full MTU in FIRST and MIDDLE packets, at most one MTU in LAST and ONLY. -/
def payloadFits (mtu : Nat) (op : ReqOp) : Bool :=
  let n := (opData op).length
  match opPos op with
  | .first | .middle => n == mtu
  | .last | .only => n ≤ mtu

/-- A well-formed first packet: NAK 0x61 and INVALID_REQUEST otherwise. -/
def headerOk (q : Qp) (op : ReqOp) : Bool :=
  let n := (opData op).length
  let mtu := q.ctx.mtuBytes
  opDefined q.hxv op && payloadFits mtu op &&
  (match opGxh op with
    | some g => gxhFits q.hxv op g
    | none => true) &&
  match op with
  | .send .. => true
  | .write p reth _ _ => match reth with
    | some h => h.length.toNat ≤ 2 ^ 30 && (if p = .only then n == h.length.toNat else n < h.length.toNat)
    | none => false
  | .read h => h.length.toNat ≤ 2 ^ 30
  | .cswap a | .fadd a => a.gga.toNat % 8 == 0
  | .dwrite p g _ => match g with
    | some h => 1 ≤ h.length.toNat && h.length.toNat ≤ 2 ^ 30 && (if p = .only then n == h.length.toNat else n < h.length.toNat)
    | none => false
  | .cas16 h _ _ => h.gga.toNat % 16 == 0 && h.length.toNat == 16
  | .awg p g _ => match g with
    | some h => p ≠ .only || n == 16 * h.extents.toNat + h.length.toNat
    | none => false
  | .tread h => 1 ≤ h.length.toNat && h.length.toNat ≤ 2 ^ 30
  | .invalid _ => false
  | _ => true

/-! ### Marks and CNPs (R158–R166) -/

/-- Send a CNP for a mark, unless one has been sent within cnp_interval_us (R160). -/
def State.mark (s : State) (qpn : Nat) : State :=
  let g := (s.qp qpn).gov
  let recent : Bool := match g.lastCnp with
    | some t => s.now < t + s.param P.cnp_interval_us * usNs
    | none => false
  if recent then s.bump P.cnp_suppressed
  else ((s.sendQp qpn .cnp).modGov qpn fun g => { g with lastCnp := some s.now }).bump P.cnp_sent

/-- An accepted packet with CE is counted and raises a mark (R158). -/
def State.ceMark (s : State) (qpn : Nat) (ce : Bool) : State := if ce then (s.bump P.ce_received).mark qpn else s

/-- GGA and AK that the headers of a packet name: of a group, those of its first extent. -/
def opTarget (op : ReqOp) : Option (Nat × Nat) :=
  match op with
  | .write _ (some h) _ _ => some (h.gga.toNat, h.ak.toNat)
  | .cswap a | .fadd a => some (a.gga.toNat, a.ak.toNat)
  | .dwrite _ (some h) _ => some (h.gga.toNat, h.ak.toNat)
  | .cas16 h _ _ => some (h.gga.toNat, h.ak.toNat)
  | .awg _ (some h) d => match awgExtents (min 1 h.extents.toNat) d with
    | e :: _ => some (e.1, e.2.1)
    | [] => none
  | _ => none

/-- The open message that a packet at this PSN belongs to: one that has taken the PSN, or the message in progress at the expected PSN. -/
def Qp.msgAt (q : Qp) (psn : Nat) : Option OpenMsg :=
  if psn = q.epsn then q.inProgress.bind q.msg
  else q.msgs.find? fun m => !m.dup && psnSub psn m.firstPsn ≤ psnSub m.lastPsn m.firstPsn

/-- The receive entry that the next SEND would take, as the ring shows it. -/
def State.peekRecv (s : State) (qpn : Nat) : Option Nat :=
  let r := (s.qp qpn).ring
  if r.log2 = 0 || r.consumer = r.producerCached then none
  else (s.ringAt r.gga.toNat r.ak.toNat (32 * 2 ^ r.log2 + 64)).map fun p =>
    leNat (s.regionRead p.1 (p.2 + 32 * (r.consumer % 2 ^ r.log2) + 12) 4)

/-- A host message goes to another member when its GGA names neither this member nor, for a descriptor of a paired group, its twin. -/
def State.foreign (s : State) (gga ak : Nat) : Bool :=
  let m := ggaMember gga
  let d := s.desc (akIndex ak)
  !(m == s.fab.member || (m == s.mir.twinMember && d.state ≠ .free && d.group != 255 && (s.grp d.group).paired))

/-- The FABRIC queue pair to a member. -/
def State.fabQp (s : State) (m : Nat) : Option Nat :=
  (s.xpt.qps.keysWhere fun _ q => q.ctx.kind == 1 && q.fab.peer == m && q.state = .ready).head?

/-- The FABRIC queue pair over which the message of a HOST packet is or would be forwarded. -/
def State.forwardedOver (s : State) (qpn psn : Nat) (op : ReqOp) : Option Nat :=
  let q := s.qp qpn
  if q.ctx.kind ≠ 0 then none
  else match opTarget op with
    | some t => if s.foreign t.1 t.2 then s.fabQp (ggaMember t.1) else none
    | none => (q.msgAt psn).bind (·.via)

/-- Octets that wait on a FABRIC queue pair for tokens (R169). -/
def State.backlog (s : State) (fq : Nat) : Nat := ((s.qp fq).gov.queue.map (·.body.octets)).sum

/-- The descriptor of this member that a packet places under, where its headers, its message or the receive ring name one. -/
def State.markTarget (s : State) (qpn psn : Nat) (op : ReqOp) : Option Nat :=
  let q := s.qp qpn
  match opTarget op with
  | some t => some (akIndex t.2)
  | none => match q.msgAt psn with
    | some m => some m.idx
    | none => if psn = q.epsn && opKind op = .send then (s.peekRecv qpn).map akIndex else none

/-- Does endpoint marking select the packet (R166, R169)? f is the largest of f_budget, f_wreg and f_mirror, and 1 for a packet that is
forwarded over a FABRIC queue pair with too much backlog; the sequence value, read as a fraction of 2^16, is compared with each. The
sequence advances with each packet that may be marked. -/
def State.endpointMark (s : State) (qpn psn : Nat) (op : ReqOp) : State × Bool :=
  let carries := (opKind op).writes && !((opData op).isEmpty && !(opKind op).isAtomic)
  let via := s.forwardedOver qpn psn op
  let target := if via.isSome then none else s.markTarget qpn psn op
  let scratch : Bool := match target with
    | some i => (s.desc i).cls == clsScratch
    | none => false
  if !carries || scratch then (s, false)
  else
    let v := (Config.markDraw s.freeCount).toNat
    let s := s.tick
    let behind : Bool := match via with
      | some fq => s.param P.fwd_backlog_mark_kib * 1024 < s.backlog fq
      | none => false
    let mirror : Bool := match target with
      | some i =>
        let g := (s.desc i).group
        s.twinActive g && s.creditPct g ≥ s.param P.mirror_mark_pct
      | none => false
    let hit := v * s.xpt.fDen < s.xpt.fNum * 65536 || 100 * v < s.xpt.fWreg * 65536 || mirror || behind
    (s.bumpIf hit P.endpoint_marks, hit)

/-! ### The receive ring (R116) -/

/-- A receive ring entry (Table 4.11): wr_id, buffer GGA, AK and length. -/
structure RecvEntry where
  wrId : Nat
  gga : Nat
  ak : Nat
  len : Nat
  deriving DecidableEq, Repr

inductive RecvResult
  | entry (e : RecvEntry)
  | empty
  | fault
  deriving DecidableEq, Repr

/-- The next receive entry, looked up under the ring's key (R76); the control line is reread when the ring looks empty. DESIGN CHOICE (the spec is silent on a
SEND or a write with immediate at a queue pair with rq_log2 0): it meets an empty ring. -/
def State.nextRecv (s : State) (qpn : Nat) : State × RecvResult :=
  let q := s.qp qpn
  if q.ring.log2 = 0 then (s, .empty)
  else
    let size := 2 ^ q.ring.log2
    let d := s.desc (akIndex q.ring.ak.toNat)
    match s.ringAt q.ring.gga.toNat q.ring.ak.toNat (32 * size + 64) with
    | none => (s, .fault)
    | some (idx, off) =>
      if d.pd ≠ q.ctx.pd ∨ !d.rights.read then (s, .fault)
      else
        let s := (s.descUse idx).present idx off (32 * size + 64)
        let s := if q.ring.consumer = q.ring.producerCached then
            (s.rqCount 1 64).modQp qpn fun q => { q with ring := { q.ring with producerCached := leNat (s.regionRead idx (off + 32 * size) 4) } }
          else s
        let q := s.qp qpn
        let ahead := (q.ring.producerCached + 2 ^ 32 - q.ring.consumer % 2 ^ 32) % 2 ^ 32
        if ahead > size then (s, .fault)
        else if ahead = 0 then (s, .empty)
        else
          let w := leNat (s.regionRead idx (off + 32 * (q.ring.consumer % size)) 32)
          (s.rqCount 1 32, .entry { wrId := bits w 255 192, gga := bits w 191 128, ak := bits w 127 96, len := bits w 95 64 })

def State.consumeRecv (s : State) (qpn : Nat) : State :=
  s.modQp qpn fun q => { q with ring := { q.ring with consumer := (q.ring.consumer + 1) % 2 ^ 32 } }

/-! ### Admission -/

/-- What the first packet says of its message. -/
def openMsg (q : Qp) (psn : Nat) (fwd : Option Fwd) (op : ReqOp) : OpenMsg :=
  let base : OpenMsg :=
    { id := q.nextId, kind := opKind op, opcode := opCode op, firstPsn := psn, lastPsn := psn, ended := (opPos op).ends
      pd := (fwd.map (·.pd)).getD q.ctx.pd, forwarded := fwd.isSome
      redirected := (fwd.map (·.redirected)).getD false }
  let gx := fun (h : Gxh) =>
    { base with tag := h.tag.toNat, gga := h.gga.toNat, ak := h.ak.toNat, len := h.length.toNat, noSolo := h.noSolo
                dur := h.dur, deadlineUs := h.deadlineUs.toNat, cqe := if h.ce then some { tag := h.tag.toNat, gga := h.gga.toNat } else none }
  match op with
  | .write _ (some h) imm _ =>
    { base with gga := h.gga.toNat, ak := h.ak.toNat, len := h.length.toNat, total := h.length.toNat
                cqe := imm.map fun i => { gga := h.gga.toNat, imm := i.toNat } }
  | .read h => { base with gga := h.gga.toNat, ak := h.ak.toNat, len := h.length.toNat, deadlineUs := 0 }
  | .cswap a | .fadd a => { base with gga := a.gga.toNat, ak := a.ak.toNat, len := 8 }
  | .dwrite _ (some h) _ => { gx h with total := h.length.toNat }
  | .awg _ (some h) _ => { gx h with total := h.length.toNat + 16 * h.extents.toNat }
  | .flush h | .cas16 h _ _ | .tread h => gx h
  | _ => base

/-- The job of an atomic. -/
def atomicJob (op : ReqOp) (qpn : Nat) (m : OpenMsg) : List Job :=
  let j := fun (o : JobOp) => [({ qpn := qpn, msg := m.id, idx := m.idx, off := m.off, op := o } : Job)]
  match op with
  | .cswap a => j (.cswap a.swapAdd a.compare)
  | .fadd a => j (.fadd a.swapAdd)
  | .cas16 _ c w => j (.cas16 c w)
  | _ => []

/-- Add the payload of a packet to a message: a piece of a segment that the message covers whole is placed as one. -/
def OpenMsg.addData (m : OpenMsg) (qpn : Nat) (d : Bytes) : OpenMsg :=
  let start := m.off + m.rcvd
  (pieces start d.length).foldl (fun m p =>
    let b := slice d (p.1 - start) p.2
    let new : Job := { qpn := qpn, msg := m.id, idx := m.idx, off := p.1, op := .write b, need := if m.wholeSeg p.1 then segBytes else 0 }
    match m.jobs.getLast? with
    | some l =>
      match l.op with
      | .write c =>
        if l.need > c.length ∧ l.off / segBytes = p.1 / segBytes then
          { m with jobs := m.jobs.dropLast ++ [{ l with op := .write (c ++ b) }], rcvd := m.rcvd + b.length }
        else { m with jobs := m.jobs ++ [new], rcvd := m.rcvd + b.length }
      | _ => { m with jobs := m.jobs ++ [new], rcvd := m.rcvd + b.length }
    | none => { m with jobs := m.jobs ++ [new], rcvd := m.rcvd + b.length }) m

/-- Accept the packet at the expected PSN: epsn advances over what it consumes. -/
def State.acceptPsn (s : State) (qpn n : Nat) : State :=
  s.modQp qpn fun q => { q with epsn := psnAdd q.epsn n, seqNaked := false, skip := none }

/-- NAK 0x61 and ERROR, cause INVALID_REQUEST. -/
def State.invalidRequest (s : State) (qpn psn : Nat) : State := (s.nak qpn psn 0x61).enterError qpn Cause.invalidRequest

/-- Take a message into the queue pair. -/
def State.pushMsg (s : State) (qpn : Nat) (m : OpenMsg) : State :=
  s.modQp qpn fun q =>
    { q with msgs := q.msgs ++ [m], nextId := q.nextId + 1
             inProgress := if m.ended || m.verdict.isSome then q.inProgress else some m.id
             discarding := m.verdict.isSome && !m.ended }

/-- Refuse a message at its first packet: epsn advances over its remaining packets, which are discarded as they arrive, however many
they are (R123). Those of a SEND, whose number its first packet does not tell, are discarded as they arrive. DESIGN
CHOICE (R118 is silent): a message with CE that is refused with a status, or answered from an inherited log, writes no
completion entry. -/
def State.refuseMsg (s : State) (qpn : Nat) (m : OpenMsg) (v : Verdict) : State :=
  let mtu := (s.qp qpn).ctx.mtuBytes
  let n := if m.kind.isRead then readPsns m.len mtu else if m.ended then 1 else max 1 (ceilDiv m.total mtu)
  let s := (s.acceptPsn qpn n).modQp qpn fun q =>
    { q with skip := if n = 1 then none else some (psnAdd m.firstPsn 1, psnAdd m.firstPsn (n - 1)) }
  (s.pushMsg qpn
    { m with verdict := some v, cqe := none, lastPsn := psnAdd m.firstPsn (n - 1), ended := m.ended || m.kind != .send }).advance qpn

/-- Commits that PDE admitted in the last second (R199). -/
def State.awgRecent (s : State) : Nat := (s.pde.awgAdmits.filter fun t => s.now < t + secNs).length

/-- Redo bytes in use. -/
def State.redoUsed (s : State) : Nat := (s.pde.awgs.map fun a => if a.state = .applied then 0 else a.redoLen).sum

/-- Redo length of a group (R198). -/
def redoLenOf (extents data : Nat) : Nat := ceilDiv (16 * extents + data) 64 * 64

/-- Do two extents share a byte? -/
def overlapping (l : List (Nat × Nat × Nat)) : Bool :=
  match l with
  | [] => false
  | e :: t => t.any (fun f => e.1 < f.1 + f.2.2 && f.1 < e.1 + e.2.2) || overlapping t

/-- Structural checks of Table 5.10, reasons 1–3. -/
def awgStructure (mtu n len : Nat) (ext : List (Nat × Nat × Nat)) : Option Nat :=
  if n = 0 ∨ n > 256 ∨ 16 * n > mtu then some 1
  else if ext.any (fun e => e.2.2 == 0) ∨ (ext.map (·.2.2)).sum ≠ len ∨ len > 1048576 then some 2
  else if overlapping ext then some 3
  else none

/-- The group's pair runs MPV major 1, where a group has no unit frames (R214). -/
def State.mpv1 (s : State) (g : Nat) : Bool := g != 255 && (s.grp g).paired && s.mir.mpv / 256 == 1

/-- First extent that fails Table 3.5, with its kind; under MPV major 1 every extent of a paired group fails its check 4. -/
def State.awgAccess (s : State) (m : OpenMsg) : List (Nat × Nat × Nat) → Option (Nat × Nat × Nat × Nat)
  | [] => none
  | e :: t =>
    let d := s.desc (akIndex e.2.1)
    let a : Access := { pd := m.pd, ak := e.2.1, gga := e.1, len := e.2.2, need := { write := true, awg := true, forward := m.forwarded } }
    let k := s.placementCheck a
    let k := if s.mpv1 d.group && (match k with | some x => decide (vRights < x) | none => true) then some vRights else k
    match k with
    | some x => some (x, e)
    | none => s.awgAccess m t

/-- The extents with the own and the twin's member identifier taken off, by which two of them may name one byte (R69). -/
def State.ownExtents (s : State) (l : List (Nat × Nat × Nat)) : List (Nat × Nat × Nat) :=
  l.map fun e => (if s.foreign e.1 e.2.1 then e.1 else ggaOffset e.1, e.2.1, e.2.2)

/-- Rights that a message needs at its first packet. -/
def OpenMsg.rights (m : OpenMsg) : Rights :=
  match m.kind with
  | .dwrite => { write := true, durable := true, forward := m.forwarded }
  | .send => { write := true }
  | _ => { write := true, forward := m.forwarded }

/-- Does the message touch a segment? -/
def OpenMsg.touches (m : OpenMsg) (idx seg : Nat) : Bool :=
  m.via.isNone && m.idx == idx && (segsOf m.off (if m.ended then m.len else max m.len m.bufLen)).contains seg

/-- Frames that a message must reserve: one for each ABSENT segment that it touches, of a read at most the first 16, of a SEND whose
length is not known yet for its buffer (R241). -/
def State.framesNeeded (s : State) (m : OpenMsg) : List Nat :=
  let d := s.desc m.idx
  if !d.tiered || m.via.isSome || m.kind = .flush then []
  else
    let segs := (segsOf m.off (if m.ended then m.len else max m.len m.bufLen)).filter fun g =>
      (s.entry m.idx g).mstate = .absent || ((s.entry m.idx g).mstate = .poisoned && m.wholeSeg (g * segBytes))
    if m.kind.isRead then segs.take 16 else segs

/-- Stage payload octets for a message: FAB's buffer for a forwarded request is handed to XPT (R90). -/
def State.stage (s : State) (m : OpenMsg) (n : Nat) : State × Option (Nat × Nat) :=
  if n = 0 then (s, none)
  else if m.forwarded then
    let r := s.alloc 4 n
    (r.1.handOvers 0 r.2.toList, r.2)
  else s.alloc 0 n

/-- Steps 6 to 9 of R448 for a message whose placement check has passed or comes at issue. `segs`: segments charged; `redo`: redo bytes
of a group; `n`: payload octets to stage. -/
def State.letIn (s : State) (qpn : Nat) (m : OpenMsg) (segs : List (Nat × Nat)) (redo n : Nat) (local_ : Bool)
    (k : State → OpenMsg → State) : State :=
  let rnr := fun (s : State) => s.rnr qpn m.firstPsn (s.param P.rnr_code)
  let q := s.qp qpn
  if local_ && (s.grp m.group).switchover.isSome && m.group != 255 then rnr s
  else if local_ && m.noSolo && s.isSolo m.group then s.refuseMsg qpn m (.gx 0x43 0 0)
  else if local_ && s.areaLow && s.localOnly m.group && m.cls != clsScratch && (m.kind = .dwrite || m.kind = .awg || (m.kind = .cas16 && m.dur)) then
    s.refuseMsg qpn m (.gx 0x42 0 0)
  else
    let charge := s.chargeOf segs
    match (if m.kind.writes && m.via.isNone then s.budgetTest m.group charge else .fits) with
    | .exceeded => (s.bump P.budget_exceeded).refuseMsg qpn m (m.refusal 0x48 charge)
    | .short => rnr (s.bump P.budget_rnr)
    | .fits =>
      let needCq := m.cqe.isSome && q.ctx.cqBound
      let c := if needCq then s.cqRoom q.ctx.cq.toNat else (s, true)
      let s := c.1
      let frames := s.framesNeeded m
      if !c.2 then rnr s
      else if frames.length > s.framesFor m.idx m.touches then rnr (s.bump P.tier_no_frame)
      else if s.tmv.records.length ≥ 1024 && frames.any (fun g => (s.entry m.idx g).home != 0) then rnr (s.bump P.tier_no_frame)
      else if m.kind = .awg && (s.redoUsed + redo > redoSegs * segBytes || s.awgRecent ≥ defaultOf P.awg_rate_limit_per_s) then
        rnr (s.bump P.awg_redo_full)
      else
        let b := s.stage m n
        if n > 0 && b.2.isNone then b.1.rnr qpn m.firstPsn (s.param P.no_buffer_rnr_code)
        else
          let s := b.1.reserveCharge charge
          let s := if needCq then s.modCq q.ctx.cq.toNat fun c => { c with reserved := c.reserved + 1 } else s
          let s := s.reserveFrames qpn m.id m.idx frames m.touches
          k s { m with charge := charge, bufs := b.2.toList }

/-- A covered write-type message for later FLUSHes (R144). -/
def State.addCover (s : State) (qpn : Nat) (m : OpenMsg) : State :=
  if m.kind.writes then
    s.modQp qpn fun q => { q with covers := q.covers ++ [{ id := m.id, group := m.group, cls := m.cls, via := m.via.isSome }] }
  else s

/-! ### Forwarding (R270–R272) -/

/-- Lowest free QPN of the fabric range. -/
def State.fabFreeQpn (s : State) : Option Nat :=
  let slots := s.param P.fabric_qp_slots
  let first := s.param P.qp_max - slots
  ((List.range slots).find? fun i => !s.xpt.qps.has (first + i)).map (· + first)

/-- Send a SESSION datagram (R271). -/
def State.sendSession (s : State) (dst op hxv sender psn peer : Nat) : State :=
  match s.hopsTo dst with
  | h :: _ => s.sendFab h.port (some h.slot) (s.param P.cnp_dscp) 0 (s.frh dst clsControl 0 false)
      (.session op { hxv := BitVec.ofNat 16 hxv, senderQpn := BitVec.ofNat 18 sender, startPsn := BitVec.ofNat 24 psn, peerQpn := BitVec.ofNat 18 peer })
  | [] => s

/-- A FABRIC queue pair of this member (R271): IPSEC 1, zero SA fields, MTU 4,096. -/
def fabricQp (peer psn : Nat) (opening : Bool) (now : Nat) : Qp :=
  { state := .ready, ctx := { kind := 1, ipsec := true, mtu := 5, psnOut := psn }
    fab := { peer := peer, opening := opening, lastUse := now } }

/-- No message is open on a FABRIC queue pair. -/
def Qp.idleFab (q : Qp) : Bool := q.msgs.isEmpty && q.fab.reqs.all (·.done)

/-- FABRIC queue pairs to a member in ERROR are destroyed before a new one is created. -/
def State.clearErrored (s : State) (m : Nat) : State :=
  (s.xpt.qps.keysWhere fun _ q => q.ctx.kind == 1 && q.fab.peer == m && q.state = .error).foldl State.freeQp s

/-- With no FABRIC QPN free, the least recently used FABRIC queue pair without an open message is closed (R271). -/
def State.closeIdlest (s : State) : State :=
  match bestBy (fun e => -(e.2.fab.lastUse : Int)) (s.xpt.qps.filter fun e => e.2.ctx.kind == 1 && e.2.idleFab) with
  | some e => (s.sendSession e.2.fab.peer 3 e.2.hxv e.1 e.2.ctx.psnOut e.2.ctx.destQpn.toNat).freeQp e.1
  | none => s

/-- Open a session to a member; with no free FABRIC QPN the least recently used one without an open message is closed (R271). -/
def State.openSession (s : State) (m : Nat) : State :=
  if s.xpt.qps.any (fun e => e.2.ctx.kind == 1 && e.2.fab.peer == m && e.2.fab.opening) then s
  else
    let s := s.clearErrored m
    match s.fabFreeQpn with
    | some n =>
      let psn := s.draw.toNat % 2 ^ 24
      let s := s.tick
      let s := s.modXpt fun x => { x with qps := x.qps.set n { fabricQp m psn true s.now with state := .ready } }
      s.sendSession m 1 (defaultOf P.hxv_current) n psn 0
    | none => s.closeIdlest

/-- Send a request of a FABRIC queue pair; its governor may hold it back (R167). -/
def State.sendFabReq (s : State) (fq : Nat) (r : FabReq) : State :=
  s.sendPkt fq { body := .request r.firstPsn r.op, pd := r.pd, redirected := r.redirected }

/-- Re-issue a packet of a host message over a FABRIC queue pair. -/
def State.forwardPacket (s : State) (fq qpn : Nat) (m : OpenMsg) (op : ReqOp) : State :=
  let q := s.qp fq
  let n := if m.kind.isRead then readPsns m.len 4096 else 1
  let r : FabReq := { firstPsn := q.ctx.psnOut, lastPsn := psnAdd q.ctx.psnOut (n - 1), op := op, pd := m.pd, hostQpn := qpn
                      hostMsg := m.id, redirected := m.forwarded }
  (s.modQp fq fun q =>
    { q with ctx := { q.ctx with psnOut := psnAdd q.ctx.psnOut n }, fab := { q.fab with reqs := q.fab.reqs ++ [r], lastUse := s.now } }).sendFabReq fq r

/-- A forwarded request whose group is STANDBY or FENCED here and paired goes once to the twin (R274). -/
def State.redirects (s : State) (m : OpenMsg) (ak : Nat) : Bool :=
  let d := s.desc (akIndex ak)
  let gr := s.grp d.group
  m.forwarded && !m.redirected && d.state ≠ .free && d.group != 255 && gr.paired && (gr.role = .standby || gr.role = .fenced)

/-- The member that a message is forwarded to: the owner of its GGA, or the twin of this one. -/
def State.fwdOwner (s : State) (m : OpenMsg) (op : ReqOp) : Nat :=
  if m.forwarded then s.mir.twinMember else ggaMember (match op with
    | .awg _ _ d => beAt d 0 8
    | _ => m.gga)

/-- Forward the first packet of a host message to the owner, or of a forwarded one to the twin. Its buffers go to FAB (R90). -/
def State.forwardMsg (s : State) (qpn : Nat) (m : OpenMsg) (op : ReqOp) : State :=
  let owner := s.fwdOwner m op
  let later := fun (s : State) => s.rnr qpn m.firstPsn (s.param P.rnr_code)
  if (s.hopsTo owner).isEmpty then later s
  else match s.fabQp owner with
    | none => later (s.openSession owner)
    | some fq =>
      if (s.qp fq).fab.opening then later s
      else if !opDefined (s.qp fq).hxv op then s.invalidRequest qpn m.firstPsn
      else
        s.letIn qpn { m with group := 255, via := some fq } [] 0 (opData op).length false fun s m =>
          let n := if m.kind.isRead then readPsns m.len (s.qp qpn).ctx.mtuBytes else 1
          let m := { m with lastPsn := psnAdd m.firstPsn (n - 1), rcvd := (opData op).length }
          ((((((s.bump P.forwarded_requests).handOvers 4 m.bufs).acceptPsn qpn n).pushMsg qpn m).addCover qpn m).forwardPacket fq qpn m op).advance qpn

/-! ### First packets -/

/-- A message that is admitted: it takes its PSNs, its payload becomes placements, and what can be issued is issued. -/
def State.takeMsg (s : State) (qpn : Nat) (m : OpenMsg) (op : ReqOp) : State :=
  let mtu := (s.qp qpn).ctx.mtuBytes
  let n := if m.kind.isRead then readPsns m.len mtu else 1
  let m := { m with lastPsn := psnAdd m.firstPsn (n - 1) }
  let m := if m.kind = .awg then { m with data := opData op, rcvd := (opData op).length }
    else { m.addData qpn (opData op) with }
  let m := if m.kind.isAtomic then { m with jobs := atomicJob op qpn m } else m
  (((s.acceptPsn qpn n).pushMsg qpn m).addCover qpn m).advance qpn

/-- Place a message in its region. -/
def State.located (s : State) (m : OpenMsg) (gga ak : Nat) : OpenMsg :=
  let idx := akIndex ak
  let d := s.desc idx
  { m with idx := idx, off := ggaOffset gga - d.base, group := d.group, cls := d.cls, keys := [(idx, d.gen)] }

/-- Admit or refuse an AWG at its first packet (R151). -/
def State.firstAwg (s : State) (qpn : Nat) (m : OpenMsg) (op : ReqOp) (extents : Nat) : State :=
  let q := s.qp qpn
  let ext := awgExtents extents (opData op)
  let bad := fun (r : Nat) => s.refuseMsg qpn m (.gx 0x47 0 r)
  match awgStructure q.ctx.mtuBytes extents m.len (s.ownExtents ext) with
  | some r => bad r
  | none =>
    match s.awgAccess m ext with
    | some (k, e) =>
      let m := { m with gga := e.1, ak := e.2.1 }
      (s.reportViolation qpn m k).refuseMsg qpn m (.nak 0x62)
    | none =>
      let descs := ext.map fun e => s.desc (akIndex e.2.1)
      let group := match descs with
        | d :: _ => d.group
        | [] => 255
      if descs.any (·.group != group) then bad 4
      else if descs.any (fun d => d.cls != clsMirrored && d.cls != clsLocal) then bad 5
      else if ext.any (fun e => s.reg.lost.contains (akIndex e.2.1)) then s.refuseMsg qpn m (.gx 0x46 0 0)
      else
        let places := ext.map fun e => (akIndex e.2.1, ggaOffset e.1 - (s.desc (akIndex e.2.1)).base, e.2.2)
        let segs := (places.flatMap fun p => (segsOf p.2.1 p.2.2).map fun g => (p.1, g)).eraseDups
        let redo := redoLenOf extents m.len
        let m := { m with group := group, cls := clsMirrored, idx := (places.getD 0 (0, 0, 0)).1
                          keys := (ext.map fun e => (akIndex e.2.1, (s.desc (akIndex e.2.1)).gen)).eraseDups }
        s.letIn qpn m segs redo (opData op).length true fun s m =>
          (s.modPde fun p =>
            { p with
              awgs := p.awgs ++ [{ qpn := qpn, msg := m.id, group := group, extents := places.map fun e => (e.1, e.2.1, [])
                                   redoOffset := p.redoHead, redoLen := redo }]
              redoHead := (p.redoHead + redo) % (redoSegs * segBytes)
              awgAdmits := s.now :: p.awgAdmits.filter fun t => s.now < t + secNs }).takeMsg qpn m op

/-- Admit or refuse a message that names a region, once its descriptor is in the cache (R80, R448 steps 5 to 9). -/
def State.firstAccess (s : State) (qpn : Nat) (m : OpenMsg) (op : ReqOp) : State :=
  let deferred := m.kind.isRead || m.kind.isAtomic
  let lm := s.located m m.gga m.ak
  if deferred then
    let segs := if m.kind.isAtomic then (segsOf lm.off m.len).map fun g => (lm.idx, g) else []
    s.letIn qpn { lm with keys := [] } segs 0 0 true fun s m => s.takeMsg qpn m op
  else
    match s.placementCheck { pd := m.pd, ak := m.ak, gga := m.gga, len := m.len, need := m.rights } with
    | some k => (s.reportViolation qpn m k).refuseMsg qpn m (.nak 0x62)
    | none =>
      if s.reg.lost.contains lm.idx then s.refuseMsg qpn m (m.refusal 0x46 0)
      else
        let segs := (segsOf lm.off m.len).map fun g => (lm.idx, g)
        s.letIn qpn lm segs 0 (opData op).length true fun s m => s.takeMsg qpn m op

/-- A SEND at its first packet: the buffer of the receive entry is its target. DESIGN CHOICE (its length is not known before its last
packet): the check of Table 3.5 takes the octets of an ONLY packet, and the whole buffer for a FIRST packet. -/
def State.firstSend (s : State) (qpn : Nat) (m : OpenMsg) (e : RecvEntry) (op : ReqOp) (imm : Option (BitVec 32)) : State :=
  let n := (opData op).length
  let q := s.qp qpn
  let s := s.descUse (akIndex e.ak)
  let m := { m with gga := e.gga, ak := e.ak, len := n, bufLen := e.len
                    cqe := some { tag := e.wrId, gga := e.gga, imm := (imm.getD 0).toNat } }
  if n > e.len then s.enterError qpn Cause.length
  else match s.placementCheck { pd := q.ctx.pd, ak := e.ak, gga := e.gga, len := if m.ended then n else e.len, need := m.rights } with
    | some k => (s.reportViolation qpn m k).refuseMsg qpn m (.nak 0x62)
    | none =>
      let lm := s.located m e.gga e.ak
      if s.reg.lost.contains lm.idx then s.refuseMsg qpn m (.nak 0x63)
      else
        let span := if m.ended then n else e.len
        s.letIn qpn lm ((segsOf lm.off span).map fun g => (lm.idx, g)) 0 n true fun s m =>
          (s.consumeRecv qpn).takeMsg qpn m op

/-- Tagged record of the inherited log (R114). -/
def State.inherited (s : State) (q : Qp) (tag : Nat) : Option LogRec :=
  if tag ≠ 0 ∧ q.ctx.inherit ∧ s.now < q.inheritDeadline then
    let p := s.qp q.ctx.predQpn.toNat
    if p.logDead then none else p.log.find? (·.tag == tag)
  else none

/-- GRB of an answer from the log: the recorded values; epoch 0xFFFF_FFFF, reserved under major 1. -/
def logGrb (hxv : Nat) (r : LogRec) : Grb :=
  let major2 := hxv / 256 ≥ 2
  { tag := BitVec.ofNat 64 r.tag, result := BitVec.ofNat 128 r.result, epoch := if major2 then 0xFFFFFFFF else 0
    status := BitVec.ofNat 8 r.status, durability := BitVec.ofNat 8 r.durability, regionGroup := BitVec.ofNat 8 (if major2 then r.group else 0) }

/-- The first HXV_OFFER chooses; any later one changes nothing (R12, R126). -/
def hxvChoice (offers : List (BitVec 16)) : Nat :=
  versionChoice [defaultOf P.hxv_current, defaultOf P.hxv_previous] offers

def State.firstHxv (s : State) (qpn : Nat) (m : OpenMsg) (offers : List (BitVec 16)) : State :=
  let q := s.qp qpn
  let s := if q.hxvSet then s
    else
      let v := hxvChoice offers
      let s := s.modQp qpn fun q => { q with hxvSet := true, hxv := v }
      if v ≠ 0 then s
      else
        let s := if q.ctx.cqBound then s.cqNotice q.ctx.cq.toNat { status := 0x03, qpn := qpn, psn := m.firstPsn, opcode := 0xC0 } else s
        let word := fun i => (offers.getD i 0).toNat
        (s.bump P.hxv_refusals).event 0x2041 0 [qpn, place 48 (word 0) + place 32 (word 1) + place 16 (word 2) + word 3]
  ((s.acceptPsn qpn 1).pushMsg qpn m).advance qpn

/-- A WAIT at the expected PSN: it closes the queue while the completion queue's count is below the threshold (R121). -/
def State.firstWait (s : State) (qpn : Nat) (m : OpenMsg) (cqn threshold : Nat) : State :=
  let c := s.cq cqn
  if c.state ≠ .ready then s.enterError qpn Cause.invalidRequest
  else
    let s := if c.count < threshold then
        s.modQp qpn fun q =>
          { q with wait := { active := true, cq := cqn, threshold := threshold, deadline := s.now + s.param P.wait_timeout_ms * msNs } }
      else s
    ((s.acceptPsn qpn 1).pushMsg qpn m).advance qpn

/-- The message names storage of another member, or of a redirected group. -/
def State.isAway (s : State) (m : OpenMsg) : Bool := !m.forwarded && s.foreign m.gga m.ak || s.redirects m m.ak

/-- An access goes to the member that owns the storage, or is admitted here. -/
def State.firstRouted (s : State) (qpn : Nat) (m : OpenMsg) (away : Bool) (op : ReqOp) : State :=
  if away then s.forwardMsg qpn m op else s.firstAccess qpn m op

/-- The message opened on the way from the first state to the second has not been refused. -/
def State.taken (s : State) (qpn id before : Nat) : Bool :=
  decide ((s.qp qpn).nextId > before) && match (s.qp qpn).msg id with
    | some x => x.verdict.isNone
    | none => decide ((s.qp qpn).state = .ready)

/-- A WRITE with immediate data of the requester: it takes a receive entry when it is admitted. -/
def State.firstImm (s : State) (qpn : Nat) (m : OpenMsg) (op : ReqOp) : State :=
  let r := s.nextRecv qpn
  match r.2 with
  | .empty => r.1.rnr qpn m.firstPsn (s.param P.rnr_code)
  | .fault => r.1.enterError qpn Cause.rqFault
  | .entry e =>
    if m.len > e.len then r.1.enterError qpn Cause.length
    else
      let m := { m with cqe := m.cqe.map fun c => { c with tag := e.wrId } }
      let t := r.1.firstRouted qpn m (s.isAway m) op
      if t.taken qpn m.id (r.1.qp qpn).nextId then t.consumeRecv qpn else t

/-- An accepted first packet, by its kind. -/
def State.firstByKind (s : State) (qpn : Nat) (m : OpenMsg) (op : ReqOp) : State :=
  match op with
  | .hxvOffer o0 o1 o2 o3 => s.firstHxv qpn m [o0, o1, o2, o3]
  | .wait threshold cqn => s.firstWait qpn m cqn.toNat threshold.toNat
  | .flush _ => s.letIn qpn m [] 0 0 false fun s m => s.takeMsg qpn m op
  | .send _ imm _ =>
    let r := s.nextRecv qpn
    match r.2 with
    | .empty => r.1.rnr qpn m.firstPsn (s.param P.rnr_code)
    | .fault => r.1.enterError qpn Cause.rqFault
    | .entry e => r.1.firstSend qpn m e op imm
  | .awg _ g d =>
    let n := (g.map (·.extents.toNat)).getD 0
    let ak := beAt d 8 4
    let m := if n > 0 then { m with gga := beAt d 0 8, ak := ak, cqe := m.cqe.map fun c => { c with gga := beAt d 0 8 } } else m
    if n > 0 && (!m.forwarded && s.foreign (beAt d 0 8) ak || s.redirects m ak) then s.forwardMsg qpn m op
    else s.firstAwg qpn m op n
  | _ =>
    if m.kind = .writeImm && !m.forwarded then s.firstImm qpn m op
    else
      let m := { m with cqe := if m.kind = .writeImm then none else m.cqe }
      s.firstRouted qpn m (s.isAway m) op

/-- The first packet of a new message at the expected PSN. -/
def State.firstPacket (s : State) (qpn psn : Nat) (fwd : Option Fwd) (op : ReqOp) : State :=
  let q := s.qp qpn
  let m := openMsg q psn fwd op
  if q.state = .closing then s.nakLater qpn psn 0x63
  else if !headerOk q op then s.invalidRequest qpn psn
  else match s.inherited q m.tag with
    | some r =>
      let v := if r.answer = 0xE0 || r.answer = 0x10 then Verdict.gx r.status r.durability r.result else .nak r.syndrome
      (s.bump P.inherit_matches).refuseMsg qpn { m with grb := some (logGrb q.hxv r) } v
    | none =>
      if s.mode = .quiesce && !(m.kind = .flush || m.kind = .hxv) then s.rnr qpn psn (s.param P.rnr_code)
      else if q.wait.active then s.rnr qpn psn (s.param P.wait_rnr_code)
      else s.firstByKind qpn m op

/-- Descriptors that the first packet needs from the cache (R76). -/
def State.descNeeds (s : State) (q : Qp) (fwd : Option Fwd) (op : ReqOp) : List Nat :=
  let m := openMsg q 0 fwd op
  let need : List Nat := match op with
    | .write .. | .read _ | .cswap _ | .fadd _ | .dwrite .. | .cas16 .. | .tread _ =>
      if !m.forwarded && s.foreign m.gga m.ak then [] else [akIndex m.ak]
    | .awg _ (some h) d => (awgExtents (min 256 h.extents.toNat) d).map fun (e : Nat × Nat × Nat) => akIndex e.2.1
    | _ => []
  need.filter fun i => i < maxRegions && (s.desc i).state != DescState.free

/-! ### Continuation packets -/

/-- A MIDDLE or LAST packet of the message in progress. DESIGN CHOICE (R116 names the first packet only): a write of
several packets whose LAST carries the immediate takes its receive entry, its LENGTH check and its CQ slot at the LAST
packet, and an RNR NAK answers that packet. -/
def State.nextPacket (s : State) (qpn psn : Nat) (m : OpenMsg) (op : ReqOp) : State :=
  let q := s.qp qpn
  let n := (opData op).length
  let total := m.rcvd + n
  let ends := (opPos op).ends
  let sameKind := match m.kind, opKind op with
    | .write, .write | .write, .writeImm | .send, .send | .dwrite, .dwrite | .awg, .awg => true
    | _, _ => false
  let want := m.total
  let known := m.kind != .send
  if !sameKind || (opPos op).starts || !payloadFits q.ctx.mtuBytes op then s.invalidRequest qpn psn
  else if known && m.via.isNone && (if ends then total != want else total ≥ want) then s.invalidRequest qpn psn
  else if !known && total > 2 ^ 30 then s.invalidRequest qpn psn
  else if !known && total > m.bufLen then s.enterError qpn Cause.length
  else
    let imm : Option (BitVec 32) := match op with
      | .write _ _ i _ | .send _ i _ => i
      | _ => none
    let late := m.kind = .write && imm.isSome && !m.forwarded
    let r := if late then s.nextRecv qpn else (s, .entry ⟨0, 0, 0, 2 ^ 30⟩)
    match r.2 with
    | .empty => r.1.rnr qpn psn (s.param P.rnr_code)
    | .fault => r.1.enterError qpn Cause.rqFault
    | .entry e =>
      if late && m.len > e.len then r.1.enterError qpn Cause.length
      else
        let c := if late && q.ctx.cqBound then r.1.cqRoom q.ctx.cq.toNat else (r.1, true)
        if !c.2 then c.1.rnr qpn psn (s.param P.rnr_code)
        else
          let b := c.1.stage m n
          if n > 0 && b.2.isNone then b.1.rnr qpn psn (s.param P.no_buffer_rnr_code)
          else
            let s := if late && q.ctx.cqBound then
                b.1.modCq q.ctx.cq.toNat fun c => { c with reserved := c.reserved + 1 }
              else b.1
            let s := if late then s.consumeRecv qpn else s
            let s := s.acceptPsn qpn 1
            let s := if m.via.isSome then s.handOvers 4 b.2.toList else s
            let s := s.modMsg qpn m.id fun m =>
              let m := { m with lastPsn := psn, bufs := m.bufs ++ b.2.toList, ended := ends }
              let m := if m.kind = .send then
                  { m with len := total, cqe := m.cqe.map fun c => match imm with | some i => { c with imm := i.toNat } | none => c }
                else m
              let m := if late then { m with kind := .writeImm, cqe := some { tag := e.wrId, gga := m.gga, imm := (imm.getD 0).toNat } } else m
              if m.via.isSome then { m with rcvd := total }
              else if m.kind = .awg then { m with data := m.data ++ opData op, rcvd := total }
              else m.addData qpn (opData op)
            let s := s.modQp qpn fun q => { q with inProgress := if ends then none else q.inProgress }
            let s := match m.via with
              | some fq => s.forwardPacket fq qpn m op
              | none => s
            s.advance qpn

/-! ### Duplicates (R112) -/

/-- Take a duplicate of a read: it is older than every message that is not yet answered. -/
def State.pushDup (s : State) (qpn : Nat) (m : OpenMsg) : State :=
  s.modQp qpn fun q => { q with msgs := q.msgs.filter (·.dup) ++ [m] ++ q.msgs.filter (!·.dup), nextId := q.nextId + 1 }

/-- A duplicate READ or TREAD is served again from current memory for its range, in the same way as a new one: it is checked at its
first DRAM read, waits for its segments, and goes to the owner of its storage. A TREAD that GX_RESPONSE answered has its record at its
last PSN, and is answered from it. While the original is not answered, the duplicate is discarded. -/
def State.duplicateRead (s : State) (qpn psn : Nat) (m : OpenMsg) (op : ReqOp) : State :=
  let q := s.qp qpn
  let last := psnAdd psn (readPsns m.len q.ctx.mtuBytes - 1)
  let m := { m with dup := true, lastPsn := last, ended := true, cqe := none }
  if q.msgs.any (fun x => x.firstPsn == psn) then s
  else match q.log.find? fun r => r.psn == last && r.answer == 0xE0 with
    | some r => (s.bump P.dup_reacked).sendQp qpn (.gx last q.msn (logGrb q.hxv r))
    | none =>
      if s.isAway m then match s.fabQp (s.fwdOwner m op) with
        | some fq =>
          if (s.qp fq).fab.opening || !opDefined (s.qp fq).hxv op then s
          else
            let m := { m with group := 255, via := some fq }
            (s.pushDup qpn m).forwardPacket fq qpn m op
        | none => s
      else (s.pushDup qpn { s.located m m.gga m.ak with keys := [] }).advance qpn

/-- Answer a duplicate from the log. -/
def State.duplicate (s : State) (qpn psn : Nat) (fwd : Option Fwd) (op : ReqOp) : State :=
  let s := s.modQp qpn fun q => { q with cnt := { q.cnt with dupPackets := q.cnt.dupPackets + 1 } }
  let q := s.qp qpn
  match op with
  | .read _ | .tread _ => s.duplicateRead qpn psn (openMsg q psn fwd op) op
  | _ =>
    match q.log.find? (·.psn == psn) with
    | none => s
    | some r =>
      let body : RoceBody :=
        if r.answer = 0xE0 then .gx psn q.msn (logGrb q.hxv r)
        else if r.answer = 0x12 then .atomicAck psn q.msn r.result
        else if r.answer = 0xC1 then .hxvAnswer psn q.msn r.result (defaultOf P.hxv_current) (defaultOf P.hxv_previous)
        else .ack psn r.syndrome q.msn
      (s.bump P.dup_reacked).sendQp qpn body

/-! ### Classification (R110) -/

/-- An AckReq bit in a packet that does not end a message draws an ACK for the last completed message (R111). -/
def State.ackRequested (s : State) (qpn : Nat) (ackReq : Bool) (op : ReqOp) : State :=
  let q := s.qp qpn
  match ackReq && !(opPos op).ends, q.lastDone with
  | true, some n => s.sendQp qpn (.ack n 0x1F q.msn)
  | _, _ => s

/-- A request packet at the expected PSN; `fresh`: it has not waited for a descriptor. -/
def State.expected (s : State) (qpn psn : Nat) (ackReq fresh : Bool) (fwd : Option Fwd) (op : ReqOp) : State :=
  let q := s.qp qpn
  if q.discarding then
    let ends := (opPos op).ends
    let s := (s.acceptPsn qpn 1).modQp qpn fun q =>
      { q with discarding := !ends
               msgs := match q.msgs.getLast? with
                 | some l => if l.ended then q.msgs else q.msgs.dropLast ++ [{ l with ended := ends, lastPsn := psn }]
                 | none => q.msgs }
    s.advance qpn
  else match q.inProgress with
    | some id =>
      match q.msg id with
      | some m => (s.nextPacket qpn psn m op).ackRequested qpn ackReq op
      | none => s.invalidRequest qpn psn
    | none =>
      if !(opPos op).starts then s.invalidRequest qpn psn
      else
        let need := s.descNeeds q fwd op
        match need.find? (fun i => !s.descCached i) with
        | some i =>
          (s.bump P.desc_cache_misses).modXpt fun x =>
            { x with waiting := x.waiting ++ [{ qpn := qpn, idx := some i, psn := psn, ackReq := ackReq, op := op, fwd := fwd }] }
        | none => (((need.foldl State.descTouch s).bumpIf (fresh && !need.isEmpty) P.desc_cache_hits).firstPacket qpn psn fwd op).ackRequested qpn ackReq op

/-- Classify a request packet and act (Table 4.9). The remaining packets of a refused message are no old duplicates (R123). -/
def State.classify (s : State) (qpn psn : Nat) (ackReq fresh : Bool) (fwd : Option Fwd) (op : ReqOp) : State :=
  let q := s.qp qpn
  let d := psnSub q.epsn psn
  if q.state = .error ∨ q.state = .retained then s.nak qpn psn 0x63
  else if d = 0 then s.expected qpn psn ackReq fresh fwd op
  else if d ≤ 1024 then s.duplicate qpn psn fwd op
  else if (match q.skip with | some k => decide (psnSub psn k.1 ≤ psnSub k.2 k.1) | none => false) && d ≤ 2 ^ 23 then s
  else if d ≤ 2 ^ 23 then ((s.bump P.old_duplicates).nak qpn psn 0x60).enterError qpn Cause.oldDuplicate
  else if q.seqNaked then s
  else (s.nakLater qpn q.epsn 0x60).modQp qpn fun q => { q with seqNaked := true }

/-- Use a context: its slot is now the most recently used. -/
def State.qccUse (s : State) (qpn : Nat) : State :=
  s.modXpt fun x =>
    match x.qcc.find? (·.qpn == qpn) with
    | some sl => { x with qcc := sl :: x.qcc.filter (·.qpn != qpn) }
    | none => x

/-- The first packet of a new message of the queue pair, which no inherited record answers (R105, R448). -/
def State.newMessage (s : State) (qpn psn : Nat) (fwd : Option Fwd) (op : ReqOp) : Bool :=
  let q := s.qp qpn
  let m := openMsg q psn fwd op
  q.state = .ready && psn == q.epsn && !q.discarding && q.inProgress.isNone && (opPos op).starts && headerOk q op &&
    (s.inherited q m.tag).isNone

/-- Handle a request packet once its context is at hand; a miss waits for its fill, and a queue pair whose packets wait keeps them in
order (R104, R105). While every slot is pinned, the first packet of a new message on an uncached queue pair draws an RNR NAK; DESIGN
CHOICE (the spec is silent on any other packet then): it is handled from DRAM, without a slot. -/
def State.process (s : State) (qpn psn : Nat) (ackReq : Bool) (fwd : Option Fwd) (op : ReqOp) : State :=
  let wait := fun (s : State) => s.modXpt fun x =>
    { x with waiting := x.waiting ++ [{ qpn := qpn, idx := none, psn := psn, ackReq := ackReq, op := op, fwd := fwd }] }
  if s.xpt.waiting.any (·.qpn == qpn) then wait s
  else if s.qccHas qpn then ((s.bump P.qcc_hits).qccUse qpn).classify qpn psn ackReq true fwd op
  else
    let full := s.xpt.qcc.length ≥ qccSlots && s.qccVictim.isNone
    if full then
      if s.newMessage qpn psn fwd op then (s.bump P.qcc_all_pinned).rnr qpn psn (s.param P.rnr_code)
      else s.classify qpn psn ackReq true fwd op
    else wait (s.bump P.qcc_misses)

/-- An accepted request packet (R158–R160): counted, marked, then handled. -/
def State.receive (s : State) (qpn psn : Nat) (ackReq ce : Bool) (fwd : Option Fwd) (op : ReqOp) : State :=
  let s := s.bumpIf ce P.ce_received
  let e := s.endpointMark qpn psn op
  let s := if ce || e.2 then e.1.mark qpn else e.1
  let s := s.modQp qpn fun q => { q with cnt := { q.cnt with rxPackets := q.cnt.rxPackets + 1 } }
  s.process qpn psn ackReq fwd op

/-- Packets that waited for a fill go on, in order; one that waits anew keeps those behind it waiting. -/
def State.resume (s : State) : List WaitPkt → State
  | [] => s
  | w :: t =>
    (if s.xpt.waiting.any (·.qpn == w.qpn) then s.modXpt fun x => { x with waiting := x.waiting ++ [w] }
     else if w.idx.isSome then s.classify w.qpn w.psn w.ackReq false w.fwd w.op
     else s.process w.qpn w.psn w.ackReq w.fwd w.op).resume t

/-- Take the packets of a queue pair out of the wait and handle them. -/
def State.resumeQp (s : State) (qpn : Nat) : State :=
  let l := s.xpt.waiting.filter (·.qpn == qpn)
  (s.modXpt fun x => { x with waiting := x.waiting.filter (·.qpn != qpn) }).resume l

/-! ### Host packets (Table 4.2) -/

/-- Replay check of an inbound ESP number: above the highest, or within the window and not seen. -/
def EspCtx.fresh (e : EspCtx) (n : Nat) : Bool :=
  n > e.seqIn || (e.seqIn - n < 128 && !e.replay.getLsbD (e.seqIn - n))

def EspCtx.accept (e : EspCtx) (n : Nat) : EspCtx :=
  if n > e.seqIn then { e with replay := (e.replay <<< (n - e.seqIn)) ||| 1, seqIn := n }
  else { e with replay := e.replay ||| (1 <<< (e.seqIn - n)) }

/-- A frame reaches the receive buffer: PFC is sent when the level passes pfc_xoff_kib (R171). -/
def State.rxLevel (s : State) (p : Pkt) : State :=
  let n := p.port.val
  let s := (s.modPort n fun h => { h with rxBufKib := p.rxBufKib }).portFrame n p.fec
  if s.paramOn P.pfc_enable ∧ p.rxBufKib > s.param P.pfc_xoff_kib ∧ !(s.port n).xoff then
    ((s.modPort n fun h => { h with xoff := true }).emit (.pfc n (s.param P.pfc_priority) 0xFFFF)).bump P.pfc_frames_sent
  else s

/-- The queue pair that a packet reaches, or the counter of Table 4.2 that its discard advances. The counter is given with its port
where it is a port's. DESIGN CHOICE (Table 4.2 has no row for it): an ESP packet whose SA is not that of the queue pair that it names
is discarded as a packet for an unknown queue pair. -/
def State.target (s : State) (p : Pkt) (op : Nat) : Except Nat Nat :=
  let n := p.port.val
  let rc := op < 0x20 || op ≥ 0xC0 || op == 0x81
  if !p.fcsOk || p.frameBytes > 4352 || !p.udpRoce || p.neighbour.isSome then .error (perInst P.port_rx_dropped n)
  else if !p.ipFormOk then .error P.rx_malformed
  else
    let sa : Except Nat (Option Nat) := match p.esp with
      | none => .ok none
      | some e =>
        match (s.xpt.qps.keysWhere fun _ q => q.ctx.ipsec && q.ctx.kind == 0 && q.ctx.spiIn == e.spi && q.state ≠ .free).head? with
        | none => .error P.rx_esp_icv_fail
        | some i => if !e.icvOk then .error P.rx_esp_icv_fail
          else if !(s.qp i).esp.fresh e.seq.toNat then .error P.rx_esp_replay else .ok (some i)
    match sa with
    | .error c => .error c
    | .ok owner =>
      let q := s.qp p.destQp.toNat
      if !p.icrcOk then .error P.rx_bad_icrc
      else if p.tver ≠ 0 ∨ p.pkey ≠ 0xFFFF ∨ !rc ∨ p.destQp.toNat ≥ 2 ^ 18 then .error P.rx_malformed
      else if q.state = .free ∨ q.ctx.kind ≠ 0 ∨ s.portOfIp q.ctx.localIp.toNat ≠ some n ∨ p.dstIp ≠ q.ctx.localIp ∨
          (if q.ctx.ipsec then owner ≠ some p.destQp.toNat else owner.isSome) then
        .error P.rx_unknown_qp
      else .ok p.destQp.toNat

/-- ARP or neighbour discovery for an address of the port is answered (Table 4.2). -/
def State.answersNeighbour (s : State) (p : Pkt) : Bool :=
  p.fcsOk && p.frameBytes ≤ 4352 && match p.neighbour with
    | some a => s.portHasIp p.port.val a.toNat
    | none => false

/-- A packet on a host port: discarded under Table 4.2, or handed to `f` with its queue pair. While the link is down, while XPT or the
GCM lanes are in reset, and outside the modes of Table 5.11, no frame is received. -/
def State.hostPacket (s : State) (p : Pkt) (op : Nat) (f : Nat → State → State) : State :=
  let n := p.port.val
  if !(s.port n).linkUp ∨ !s.mode.traffic ∨ s.rst.inReset.contains 11 ∨ s.rst.inReset.contains 12 then s
  else
    let s := s.rxLevel p
    if p.fec.uncorrectable != 0 then s
    else if s.answersNeighbour p then s.emit (.neighbour n (p.neighbour.getD 0))
    else match s.target p op with
    | .error c => s.bump c
    | .ok qpn =>
      let s := match p.esp with
        | some e => s.modQp qpn fun q => { q with esp := q.esp.accept e.seq.toNat }
        | none => s
      f qpn s

/-- A request packet on a host port. -/
def State.hostRequest (s : State) (p : Pkt) (op : ReqOp) : State :=
  s.hostPacket p (opCode op) fun qpn s => s.receive qpn p.psn.toNat p.ackReq p.ce none op

end Sys2Proof.Machine
end

