-- ==== Sys2Proof/Machine/RoleOps.lean ====
section
/-!
DEFINITION. What a change of role does to the messages, frames and commands of its group (R20, R139, R143, R216, R225, R226, R230,
Table 8.14).
-/

namespace Sys2Proof.Machine

/-- Segments that the uncovered frames of a group copy (R230). A unit's frames stand for the extents of its atomic write group. -/
def State.uncoveredSegs (s : State) (g : Nat) : List (Nat × Nat) :=
  (s.grp g).frames.flatMap fun f =>
    if f.fin.isSome then []
    else if f.unit then
      (s.pde.awgs.filter fun a => a.mirrorSeq == f.unitSeq && a.group == g && !a.twin).flatMap fun a =>
        a.extents.flatMap fun e => (segsOf e.2.1 e.2.2.length).map fun n => (e.1, n)
    else [(f.idx, f.off / segBytes)]

def State.setDivergents (s : State) (l : List (Nat × Nat)) : State := l.foldl (fun s p => s.setDivergent p.1 p.2) s

/-- Fail a command that waits, when it still runs. -/
def State.failCmd (s : State) (cmd reason : Nat) : State := if cmd = 0 then s else s.failed cmd reason

/-- The region commands that wait on the twin for a group (R216): a registration fails and leaves nothing; a rekey or a
deregistration completes locally, or fails with TWIN_REFUSED when the group is fenced. -/
def State.endConfigs (s : State) (g : Nat) (fenced : Bool) : State :=
  let s := s.modMir fun m => { m with configs := m.configs.filter fun c => c.group != g }
  let s := match s.reg.pendingReg with
    | some p => if p.desc.group = g ∧ p.waitTwin then
        (s.modReg fun r => { r with pendingReg := none }).failed P.region_register 0x09
      else s
    | none => s
  let mine := s.reg.drains.keysWhere fun i _ => (s.desc i).group == g
  let s := mine.foldl (fun s i =>
    match s.reg.drains.find? i with
    | some dr =>
      let owed := !dr.configDone
      let s := if fenced && owed then s.failCmd dr.cmd 0x09 else s
      s.modReg fun r => { r with drains := r.drains.set i { dr with configDone := true, cmd := if fenced && owed then 0 else dr.cmd } }
    | none => s) s
  s.checkDrains

/-- Answer FENCED every message of a group that has not reached its acknowledgement point (R139): an extension operation with the
status, a standard one with NAK 0x63. -/
def State.fenceMessages (s : State) (g : Nat) (wasActive : Bool) : State :=
  let acked := (s.grp g).acked
  let fence := fun (s : State) (n : Nat) =>
    let q := s.qp n
    let due := q.msgs.filter fun m => m.group == g && m.via.isNone && m.verdict.isNone && !s.pointReached q m
    let s := due.foldl (fun s m => s.verdict n m.id (m.refusal 0x49 0)) s
    let cut : Bool := match q.inProgress with
      | some id => due.any (·.id == id)
      | none => false
    let owes := q.covers.any fun c => c.group == g && c.mirrored && acked < c.lastSeq
    if due.isEmpty && !owes then s
    else s.modQp n fun q =>
      { q with
        inProgress := if cut then none else q.inProgress
        discarding := q.discarding || cut
        covers := q.covers.map fun c =>
          if c.group = g ∧ wasActive ∧ (!c.placed ∨ (c.mirrored ∧ acked < c.lastSeq)) then { c with fenced := true } else c }
  (s.xpt.qps.map (·.1)).foldl fence s

/-- Forget what a source or a holder keeps of a group. -/
def Grp.cleared (gr : Grp) : Grp :=
  { gr with soloPending := false, leaseEnd := none, req := none, frames := [], source := none, switchover := none, cmd := 0
            inSync := false, target := none, held := [], refused := none, unitSeq := 0, unitData := [], mackDue := false
            takeover := none, takeoverSent := false, twinGrantEnd := none }

/-- The group no longer waits on a request of this op. -/
def Grp.dropReq (gr : Grp) (op : Nat) : Grp :=
  match gr.req with
  | some r => if r.op = op then { gr with req := none } else gr
  | none => gr

/-- A holder becomes FENCED (R139, Table 8.14). -/
def State.toFenced (s : State) (g epoch : Nat) : State :=
  let gr := s.grp g
  if gr.role ≠ .active ∧ gr.role ≠ .solo then s
  else
    let active := decide (gr.role = .active)
    let cmd := gr.cmd
    let s := s.setDivergents (s.uncoveredSegs g)
    let s := s.fenceMessages g active
    let s := (s.setRole g .fenced epoch).modGrp g Grp.cleared
    let s := s.failCmd cmd 0x05
    (s.endConfigs g true).advanceAll

/-- SOLO GRANTED to an ACTIVE holder: the divergence bit is set for the segment of each uncovered frame, and the held answers go
(R226). -/
def State.toSolo (s : State) (g epoch leaseEnd : Nat) : State :=
  let s := s.setDivergents (s.uncoveredSegs g)
  let s := if (s.grp g).switchover.isSome then s.failCmd (s.grp g).cmd 0x04 else s
  let s := (s.setRole g .solo epoch).modGrp g fun gr =>
    { gr with soloPending := false, req := none, cmd := if gr.switchover.isSome then 0 else gr.cmd
              frames := []
              leaseEnd := some leaseEnd
              switchover := none, inSync := false
              source := gr.source.bind fun r => if r.started then none else some r }
  (s.endConfigs g false).advanceAll

/-- MIR tells PWR that resync is complete once every paired group serves, is in sync, or has settled (R232). -/
def State.checkResync (s : State) : State :=
  let settled := fun (g : Grp) => !g.paired || match g.role with
    | .active | .solo => true
    | .standby => g.inSync
    | .fenced => g.settled
  if s.mode = .resync && s.mir.groups.all (fun e => settled e.2) then s.modMir fun m => { m with resyncDone := true } else s

/-- Lease end that a grant gives (R218). -/
def State.leaseEndOf (s : State) (tSend : Nat) : Nat :=
  tSend + s.param P.lease_us * usNs - s.param P.lease_guard_ns

end Sys2Proof.Machine
end

