-- ==== Sys2Proof/Machine/PowerOps.lean ====
section
/-!
DEFINITION. Modes: their changes and the conditions that change them, the reset scopes POWER and COLD, power-up and power-down,
the entry to SAVE, TRAIN and RESTORE, on and off requests, and the fatal stop (chapters 15 and 16, R77, R155, R156, R191, R361).
-/

namespace Sys2Proof.Machine

/-! ### Condition D (R405) -/

/-- Carrier states that count under condition D. -/
def CarState.degrades : CarState → Bool
  | .retiring | .evacuating | .offline => true
  | _ => false

def State.carrier (s : State) (n : Nat) : Carrier := s.flash.cars.getD n {}
def State.modCarrier (s : State) (n : Nat) (f : Carrier → Carrier) : State :=
  s.modFlash fun x => { x with cars := x.cars.upd n {} f }

def State.exposedCount (s : State) : Nat := s.pde.segs.countWhere fun _ g => g.exposed

/-- `degraded_causes`: the four terms of condition D. -/
def State.degradedCauses (s : State) : Nat :=
  flag (!s.fco.fences.isEmpty) + 2 * flag (!s.reg.lost.isEmpty) +
  4 * flag (s.flash.cars.any fun c => c.2.state.degrades) + 8 * flag (s.exposedCount > 0)

def State.condD (s : State) : Bool := s.degradedCauses != 0

/-! ### Sessions that leave (R36, R62) -/

/-- A slot becomes FREE; its subscriptions go. -/
def State.freeSession (s : State) (slot : Nat) : State :=
  s.modDxe fun d => { d with sessions := d.sessions.del slot, subs := d.subs.filter (·.slot != slot) }

/-- A reset of these clusters closes the window sessions that they opened (R62). -/
def State.resetClusters (s : State) (q : Nat → Bool) : State :=
  (s.dxe.sessions.keysWhere fun k t => 16 ≤ k && q t.cluster).foldl State.freeSession s

/-! ### Power log (R394) -/

abbrev logUp : Nat := 1
abbrev logDown : Nat := 2
abbrev logFirstFail : Nat := 3
abbrev logPlanPending : Nat := 4
abbrev logPlanWritten : Nat := 5
abbrev logEnd : Nat := 6

/-- Enumerator of `last_off_trigger`. -/
def OffTrigger.code : OffTrigger → Nat
  | .feedLoss => 0 | .orderly => 1 | .commanded => 2 | .fatal => 3 | .rampAbort => 4 | .offNoSave => 5 | .lcTransition => 6

def State.feedsPresent (s : State) : Nat := flag s.store.feedA + 2 * flag s.store.feedB

/-- Write a power-log record. -/
def State.powerLog (s : State) (kind saveSeq : Nat) (rail : Nat := 0xFF) (railMv : Nat := 0) : State :=
  let st := s.stamp
  let r : PowerRec :=
    { saveSeq := saveSeq, time := s.now, cycle := st.1, ms := st.2.1, hours := st.2.2, railMv := railMv, rail := rail
      mode := s.mode.code, trigger := s.pwr.lastOff.code, kind := kind, step := s.pwr.step, feeds := s.feedsPresent
      holdMv := s.store.holdMv, capMf := s.store.capMf }
  s.touchLgm.modPwr fun p => { p with log := p.log.set p.logNext r, logNext := (p.logNext + 1) % 4096 }

/-! ### What a change of mode does to commands and the capacitance test (R55, R401, R404, R408) -/

/-- Operations that report at a mode of their own are not aborted by the modes on the way (R408). -/
def targetsMode (num : Nat) : Bool := num == P.power_on || num == P.power_off || num == P.mode_request

/-- Operations that are not permitted in the new mode become ABORTED. -/
def State.abortOps (s : State) : State :=
  (s.dxe.results.keysWhere fun k r => r.state = .pending && !targetsMode k &&
      match findParam k with
      | some p => !bit p.modes s.mode.code
      | none => false).foldl State.aborted s

/-- End `power_on`, `power_off` and `mode_request` at their target mode, or when it can no longer be reached. -/
def State.modeTargets (s : State) : State :=
  let stopped : Bool := s.mode = .standby || s.mode = .off
  let s := match s.mode with
    | .service | .degraded | .sealed => s.done P.power_on
    | _ => if stopped || (s.mode = .maint && s.pwr.maintFromTrain) then s.aborted P.power_on else s
  let s := if s.mode = .standby then s.done P.power_off else s
  let want := leNat (s.cmdArg P.mode_request)
  let hit : Bool := match s.mode with
    | .service | .degraded => want == 6
    | .quiesce => want == 8
    | .maint => want == 10
    | _ => false
  if hit then s.done P.mode_request
  else if stopped || s.mode = .save then s.aborted P.mode_request
  else s

/-- The capacitance test runs in these modes (R402). -/
def Mode.capTest : Mode → Bool
  | .resync | .service | .degraded | .maint => true
  | _ => false

/-- End a capacitance test without a result. -/
def State.capStop (s : State) : State :=
  if s.store.capPhase = .idle then s
  else (s.modStore fun x => { x with capPhase := .idle, holdTestEn := false, capCmd := false }).aborted P.cap_test

/-! ### Entry to TRAIN and RESTORE (R77, R289, R313, R325) -/

/-- A carrier begins to attach: CARn_PWREN is asserted. -/
def State.attachBegin (s : State) (n : Nat) : State :=
  (s.modCarrier n fun c => { c with state := .attaching, pwren := true, refuseReason := 0 }).modPwr fun p =>
    { p with rails := p.rails.upd (10 + n) {} fun x => { x with state := .ramping } }

/-- Every carrier that is present and EMPTY begins to attach. -/
def State.attachPresent (s : State) : State :=
  (s.flash.cars.keysWhere fun _ c => c.present && c.state = .empty).foldl State.attachBegin s

/-- TRAIN: every channel waits for its SPD, and every carrier present begins to attach. -/
def State.enterTrain (s : State) : State :=
  (s.modDram fun d => { d with train := .running }).attachPresent

/-- Save record with the highest save_seq among those whose state a restore reads; and its slot. -/
def State.saveRecord (s : State) (slot : Nat) : SaveRec := s.pde.recs.getD slot {}
def SaveRec.held (r : SaveRec) : Bool := r.state = .complete || r.state = .incomplete || r.state = .writing

def State.restoreSlot (s : State) : Option Nat :=
  let a := s.saveRecord 0
  let b := s.saveRecord 1
  match a.held, b.held with
  | false, false => none
  | true, false => some 0
  | false, true => some 1
  | true, true => some (if b.saveSeq > a.saveSeq then 1 else 0)

/-- The slot that the next save fills: the one without the record of the highest save_seq (R187). -/
def State.targetSlot (s : State) : Nat :=
  let a := s.saveRecord 0
  let b := s.saveRecord 1
  if a.state = .empty ∧ b.state = .empty then 0 else if a.saveSeq ≥ b.saveSeq then 1 else 0

/-- A carrier is ready (R182): IN_SERVICE, no channel fenced, its share of the target slot erased. -/
def State.carrierReady (s : State) (n : Nat) : Bool :=
  let c := s.carrier n
  c.state = .inService && c.fenced == 0 && (if s.targetSlot = 0 then c.erasedSlot0 else c.erasedSlot1)
def State.readyCarriers (s : State) : List Nat := (List.range 8).filter s.carrierReady

/-- What a save whose t0 is now fixes. -/
def State.saveStart (s : State) : SaveStart :=
  let st := s.stamp
  { time := s.now, cycle := st.1, ms := st.2.1, hours := st.2.2, parts := s.readyCarriers, budgetGib := s.pde.budget.permittedGib }

/-- Erase a slot on every carrier in service. -/
def State.eraseSlot (s : State) (slot : Nat) : State :=
  s.modFlash fun f => { f with cars := f.cars.mapVals fun _ c =>
    if c.state = .inService ∨ c.state = .formatting then
      (if slot = 0 then { c with erasedSlot0 := true } else { c with erasedSlot1 := true })
    else c }

/-- RESTORE: the record is selected, and the slot that was not selected is erased. -/
def State.enterRestore (s : State) : State :=
  let sel := s.restoreSlot
  let s := s.modPde fun p => { p with restore := some { slot := sel, start := s.now }, awgRecovered := 0 }
  match sel with
  | some k => s.eraseSlot (1 - k)
  | none => s

/-- Step 5 of R194: SCRATCH regions read as zero, and drains of descriptors complete (R77). -/
def State.restoreClean (s : State) : State :=
  let s := (s.reg.descs.filter fun e => e.2.state ≠ .free && e.2.cls == clsScratch).foldl
    (fun s e => (s.dramZero e.2.backing (segBytes * e.2.lengthSeg)).rqCount 6 (segBytes * e.2.lengthSeg)) s
  let s := (s.reg.descs.keysWhere fun _ d => d.state = .draining).foldl (fun s i =>
    let d := s.desc i
    let s := if d.dereg then s.releaseRegion i else s
    s.modReg fun g => { g with descs := g.descs.set i (if d.dereg then { gen := d.gen } else { d with state := .valid }) }) s
  s.modReg fun g => { g with drains := [] }

/-- On entry to QUIESCE, QCC writes back its modified slots (R178). -/
def State.enterQuiesce (s : State) : State := s.qccWriteBack

/-- Change the mode: recorded and counted (R404), operations aborted or completed, and the entry of the new mode carried out. -/
def State.setMode (s : State) (m : Mode) (trig : Nat) : State :=
  let old := s.mode
  if old = m then s
  else
    let s := { s with mode := m }
    let s := s.modPwr fun p => { p with maintFromTrain := m = .maint && old = .train }
    let s := (s.event 0x0440 0 [old.code, m.code, trig]).bump P.mode_changes
    let s := s.abortOps.modeTargets
    let s := if m.capTest then s else s.capStop
    match m with
    | .train => s.enterTrain
    | .maint => s.attachPresent
    | .restore => s.enterRestore
    | .quiesce => s.enterQuiesce
    | _ => s

/-- SERVICE or DEGRADED, by condition D. -/
def State.byD (s : State) : Mode := if s.condD then .degraded else .service

/-! ### Rails and steps (Table 15.1, Table 15.7, R388) -/

/-- Enable every rail of a step at once. -/
def State.enableStep (s : State) (n : Nat) : State :=
  let s := (s.stepRails n).foldl (fun s r =>
    let s := (s.entriesOf r).foldl (fun s i => s.operation i 0x80) s
    if (s.rail r).state = .failed then s else s.setRail r .ramping) s
  s.modPwr fun p => { p with step := n, rising := true }

/-- First step after n that holds a rail; above 9, none. -/
def State.stepAfter (s : State) (n : Nat) : Option Nat :=
  ((List.range 9).map (· + 1)).find? fun k => n < k && !(s.stepRails k).isEmpty

/-- Last step before n that holds a rail that is up or rising. -/
def State.stepBelow (s : State) (n : Nat) : Option Nat :=
  ((List.range 9).map (9 - ·)).find? fun k => k < n && (s.stepRails k).any fun r =>
    (s.rail r).state = .up || (s.rail r).state = .ramping

/-- Identify the VALID entries (R397): CAPABILITY, VOUT_MODE and PMBUS_REVISION are read, ON_OFF_CONFIG and CLEAR_FAULTS written. -/
def State.identify (s : State) : State :=
  (List.range 32).foldl (fun s i =>
    let v := s.pmbusEntry i
    let s := s.setRail (32 + i) (if PmbusField.valid v && PmbusField.role v != 0 then .off else .unused)
    if PmbusField.valid v then
      if PmbusField.noPmbus v then s.modStore fun x => { x with pmbus := x.pmbus.set i { state := .ok } }
      else
        let ok := Config.pmbusFits s.freeCount
        let s := s.tick.emits [.pmbus i 0x00 (PmbusField.page v), .pmbus i 0x98 0, .pmbus i 0x20 0, .pmbus i 0x19 0,
          .pmbus i 0x02 (if bit v 43 then 0x16 else 0x18), .pmbus i 0x03 0]
        s.modStore fun x => { x with pmbus := x.pmbus.set i { state := if ok then .ok else .refused } }
    else s.modStore fun x => { x with pmbus := x.pmbus.del i }) s

/-! ### Reset of scope POWER (R361, R409) -/

/-- Counters and staged values of the blocks outside CD39: areas 4 to C. -/
def dataPathArea (num : Nat) : Bool := 4 ≤ num / 2 ^ 28 && num / 2 ^ 28 ≤ 0xC

def volatileParam (num : Nat) : Bool :=
  match findParam num with
  | some p => bit p.flags 1
  | none => false

/-- Zero the VOLATILE counters of the parameters that satisfy a test. -/
def State.zeroCounters (s : State) (q : Nat → Bool) : State :=
  { s with ctr := s.ctr.filter fun e => !(q (e.1 / 2 ^ 20) && volatileParam (e.1 / 2 ^ 20)) }

/-- Queue pair after its block loses its working state: no message is in progress. -/
def Qp.idle (q : Qp) : Qp := { q with msgs := [], covers := [], inProgress := none, discarding := false, skip := none, seqNaked := false, gov := {} }

/-- A group after MIR loses its working state: what LGM holds stays. -/
def Grp.kept (g : Grp) : Grp :=
  { role := g.role, paired := g.paired, inSync := g.inSync, epoch := g.epoch, syncEpoch := g.syncEpoch, issued := g.issued
    placed := g.placed, fullNext := g.fullNext, incomplete := g.incomplete, soloStop := g.soloStop, restarted := g.restarted }

/-- Fences that a POWER reset leaves in force: DRAM channels, and host and twin ports until `port_reset`. -/
def keptFence (f : Nat) : Bool :=
  f / 256 == 0x40 || f / 256 == 0x30 || f / 256 == 0x31 || (f / 256 == 0x09 && 5 ≤ f % 256 && f % 256 ≤ 10)

def State.fenceLifted (s : State) (f : Nat) : State := s.modFco fun x => { x with fences := x.fences.filter (· != f) }

/-- Queue pairs after a reset of FAB or XPT: a staged `qp_max` or `fabric_qp_slots` closes every FABRIC queue pair (R129, R283). -/
def State.closeFabricQps (s : State) : Tbl Qp :=
  if s.staged.has (pkey P.qp_max 0) || s.staged.has (pkey P.fabric_qp_slots 0) then s.xpt.qps.filter fun e => e.2.ctx.kind != 1
  else s.xpt.qps

/-- A Caller that restarts answers with QUIET for `caller_quiet_us` (R221). -/
def State.callersQuiet (s : State) : State :=
  { s with callerPairs := s.callerPairs.mapVals fun _ c =>
      if c.serving then { c with quietUntil := some (s.now + s.param P.caller_quiet_us * usNs) } else c }

/-- Reset CD0–CD38: working state goes, what LGM and flash hold stays; staged values become effective. -/
def State.powerReset (s : State) : State :=
  let s := s.modXpt fun x => { x with qps := s.closeFabricQps }
  let s := (s.resetClusters fun _ => true).applyStaged fun n => n / 2 ^ 28 != 1
  let s := s.zeroCounters dataPathArea
  let s := (List.range 39).foldl (fun s d => s.bump P.domain_resets d) s
  { s with
    paused := []
    reg := { s.reg with cache := [], pools := [], holds := [], bufWaits := [], pendingReg := none, drains := [] }
    xpt := { s.xpt with
      qps := s.xpt.qps.mapVals fun _ q => q.idle, cqs := s.xpt.cqs.mapVals fun _ c => { c with reserved := 0 }, qcc := []
      waiting := [], rq0 := [], rq1 := [], ports := [], fNum := 0, fDen := 1, fWreg := 0, occupancyPct := 0 }
    pde := { s.pde with
      segs := [], restAbsent := false, reserved := 0, budget := { rateMbps := s.pde.budget.rateMbps, powerW := s.pde.budget.powerW }, drains := [], refills := [], run := none, restore := none
      rateTest := false, awgs := (s.pde.awgs.filter fun a => a.state ≠ .staging && a.state ≠ .staged).map fun a => { a with issued := false }
      awgAdmits := [], drainLog := [] }
    tmv := { maps := s.tmv.maps, homes := s.tmv.homes, totalFrames := s.param P.tier_dram_gib * 16384 }
    mir := { groups := s.mir.groups.mapVals fun _ g => g.kept, twinMember := s.param P.twin_member, divergent := s.mir.divergent }
    callerPairs := s.callersQuiet.callerPairs.mapVals fun _ c =>
      { c with recs := c.recs.mapVals fun _ r => { holder := r.holder, epoch := r.epoch, solo := r.solo } }
    fab := { bound := s.fab.bound, member := if s.fab.bound then s.fab.member else 0xFFFF }
    desig := { caller := s.desig.caller, seq := s.desig.seq }
    dram := { mem := [], poison := s.dram.poison, pprPending := s.dram.pprPending, softRows := s.dram.softRows, ceLog := s.dram.ceLog
              mcs := s.dram.mcs.mapVals fun _ m => { remaps := m.remaps, fenced := m.fenced } }
    flash := { s.flash with
      cars := s.flash.cars.mapVals fun _ c => { c with state := .empty, pgood := false, pwren := false, timeouts := [], fenced := 0 }
      unitLog := [], saveAreaLow := true, measured := false }
    pwr := { s.pwr with rails := s.pwr.rails.mapVals fun k r =>
      if 10 ≤ k ∧ k < 18 ∧ (r.state = .up ∨ r.state = .ramping) then { r with state := .off } else r }
    rst := { s.rst with
      fenced := s.rst.fenced.filter (fun d => 5 ≤ d && d ≤ 10)
      clkFenced := s.rst.clkFenced.filter (fun d => 5 ≤ d && d ≤ 10), inReset := [], load := none, coresUp := false, heldClusters := []
      copied := false, restarts := [], mcDiv := 0 }
    fco := { s.fco with fences := s.fco.fences.filter keptFence } }

/-! ### Power-down (R389, R390) -/

/-- Lower the highest step that is still up, or end the power-down. -/
def State.lower (s : State) (n : Nat) : State :=
  match s.stepBelow n with
  | some k =>
    let s := (s.stepRails k).foldl (fun s r => (s.entriesOf r).foldl (fun s i => s.operation i 0x40) s) s
    s.modPwr fun p => { p with step := k, rising := false, falling := true }
  | none => s.modPwr fun p => { p with step := 0, rising := false, falling := true }

/-- A power-down begins: `off` is `last_off_trigger`, `trig` the MODE_CHANGE trigger with which it ends, `auto_` whether auto_on
applies after it. -/
def State.powerDown (s : State) (off : OffTrigger) (trig : Nat) (auto_ : Bool) (seq : Nat := 0) : State :=
  if s.pwr.falling then s
  else
    let s := s.modPwr fun p => { p with lastOff := off, autoEligible := auto_, downTrig := trig, goal := .standby }
    let s := s.powerLog logDown seq
    let s := s.capStop.powerReset
    (s.modPwr fun p =>
      { p with offPending := none, maintHeld := false, rampAbort := false, firstFailLogged := false }).lower 10

/-- A power-down that follows a save: DOWN_BEGIN was written at entry to SAVE. -/
def State.afterSave (s : State) : State :=
  if s.pwr.falling then s
  else (s.powerReset.modPwr fun p => { p with downTrig := 5, goal := .standby, offPending := none, maintHeld := false }).lower 10

/-! ### Entry to SAVE (R156, R191, R192, R395, Table 8.14) -/

/-- Save triggers (Table 7.3). -/
abbrev saveFeedLoss : Nat := 0
abbrev saveOrderly : Nat := 1
abbrev saveCommanded : Nat := 2

/-- PLAN_PENDING, with the save_seq that the stop's save takes. -/
def State.planPending (s : State) : State :=
  (s.powerLog logPlanPending (s.pde.saveSeq + 1)).modPwr fun p => { p with unsavedPending := true }

/-- Holders become FENCED without an answer, and the divergence bits of what no frame has covered are set (R230); STANDBY and FENCED groups stay as they are (Table 8.14). -/
def State.stopGroups (s : State) : State :=
  (s.mir.groups.keysWhere fun _ g => g.role = .active || g.role = .solo).foldl
    (fun s g =>
      let solo := decide ((s.grp g).role = .solo)
      ((s.setDivergents (s.uncoveredSegs g)).setRole g .fenced (s.grp g).epoch).modGrp g fun gr => { gr.cleared with soloStop := solo }) s

/-- Promenade jobs are abandoned (Table 7.2); erases in progress are suspended and not resumed (R333). -/
def State.abandonJobs (s : State) : State :=
  let s := s.modPde fun p =>
    { p with drains := [], refills := []
             segs := p.segs.mapVals fun _ g =>
               if g.state = .draining ∨ g.state = .redirty then { g with state := .dirty } else g }
  s.modFlash fun f => { f with blks := f.blks.mapVals fun _ b => if b.state = .erasing then { b with suspended := true } else b }

/-- A queue pair at entry to SAVE: what it has admitted gets no answer and no completion entry, and nothing of it waits to leave
(R156). -/
def State.stopQp (s : State) (n : Nat) : State :=
  (((s.qp n).msgs.foldl (fun s m => s.releaseMsg n m) s).modXpt fun x =>
    { x with qps := x.qps.upd n {} fun q =>
      { q with msgs := [], covers := [], inProgress := none, discarding := false, skip := none, gov := { q.gov with queue := [] } } })

/-- XPT and TMV stop: from here on the storage pipeline serves PDE only (R17, R156). -/
def State.stopTraffic (s : State) : State :=
  let s := ((s.xpt.qps.map (·.1)).foldl State.stopQp s).modXpt fun x => { x with waiting := [], rq1 := [] }
  { s with paused := [] }.modTmv fun t => { t with fetches := [], reads := [] }

/-- Enter SAVE. `t0`: what the instant from which the save counts has fixed. -/
def State.enterSave (s : State) (trigger : Nat) (off : OffTrigger) (trig : Nat) (t0 : SaveStart) : State :=
  let s := s.modPwr fun p =>
    { p with lastOff := off, autoEligible := trigger == saveFeedLoss, offPending := none, maintHeld := false
             firstFailLogged := false }
  let s := s.planPending
  let slot := s.targetSlot
  let s := s.setMode .save trig
  let s := s.powerLog logDown (s.pde.saveSeq + 1)
  let s := s.modPde fun p => { p with run := some { slot := slot, trigger := trigger, t0 := t0 } }
  s.stopGroups.stopTraffic.abandonJobs

/-! ### Reset of scope COLD (R361, R372, R374, R409, R412) -/

def ResetCause.code : ResetCause → Nat
  | .vddAon => 0 | .sysRst => 1 | .cd39Ftl => 2

/-- The FENCED condition bit of a block instance, set again for a fence that holds across the cold start. -/
def blkParam (num f : Nat) : Nat := num + (32 * (f / 256) + f % 256) * 65536

/-- A cold start begins: CD39 is held in reset, the mode is OFF, and TIME starts again. -/
def State.coldReset (s : State) (cause : ResetCause) : State :=
  let s := s.powerReset
  let s := (s.applyStaged fun _ => true).zeroCounters fun _ => true
  let fences := s.fco.fences
  let s := { s with
    now := 0, mode := .off, standby := [], sticky := [], stickyCtr := []
    dxe := { opSeqs := s.dxe.opSeqs }
    fco := { fences := fences, lastFatal := s.fco.lastFatal, lastFatalCold := s.fco.lastFatal.isSome, lastFatalRead := false }
    evr := { s.evr with buckets := [], wide := none, droppedRes := 0, droppedGen := 0, hourStart := 0 }
    pwr := { lastOff := s.pwr.lastOff, unsavedPending := s.pwr.unsavedPending, log := s.pwr.log, logNext := s.pwr.logNext
             rails := [(0, { state := .up }), (1, { state := .off }), (2, { state := .off }), (3, { state := .off }),
               (4, { state := .off }), (5, { state := .off }), (6, { state := .off }), (7, { state := .off }),
               (8, { state := .off }), (9, { state := .off })] }
    store := { capMf := s.store.capMf, capFirstMf := s.store.capFirstMf, capHours := s.store.capHours }
    sec := { s.sec with
      kekReady := false, drbgStopped := false, sinceReseed := 0, active := false, imageDigest := [], imageVersion := []
      runningSecurity := 0 }
    rst := { vddAon := true, cold := .held, cause := cause, coldStartMs := 0, fenced := s.rst.fenced, clkFenced := s.rst.clkFenced }
    thermal := { lifeSum := s.thermal.lifeSum, samples := s.thermal.samples, hotMs := s.thermal.hotMs
                 tripped := s.thermal.tripped, sensors := s.thermal.sensors } }
  (fences.foldl (fun s f => s.setFlag (blkParam P.blk_fault_status f) 4) s).setFlagIf (!s.rst.clkFenced.isEmpty) P.clk_status 4

/-! ### On requests (R391, R403, R404) -/

/-- RAMP begins. -/
def State.enterRamp (s : State) : State :=
  let s := s.modPwr fun p =>
    { p with rails := p.rails.mapVals fun _ r => if r.state = .failed then { r with state := .off } else r
             fatalStop := false, onHeld := false, rampAbort := false, railsOff := none, lgmAccess := none }
  let s := (s.setMode .ramp 1).powerLog logUp 0
  let s := s.identify
  let s := s.modRst fun r => { r with onAt := s.now }
  match s.stepAfter 0 with
  | some k => s.enableStep k
  | none => s

/-- `min_off_ms` has passed since the last sequenced rail went off. -/
def State.minOffPassed (s : State) : Bool :=
  match s.pwr.railsOff with
  | none => true
  | some t => t + defaultOf P.min_off_ms * msNs ≤ s.now

/-- An on request. -/
def State.onRequest (s : State) : State :=
  match s.mode with
  | .quiesce =>
    if s.pwr.offPending.isSome then
      ((s.modPwr fun p => { p with offPending := none }).aborted P.power_off).setMode s.byD 1
    else s
  | .standby =>
    if s.feedsPresent = 0 then s.failed P.power_on 0x01
    else if s.rst.option = .failed then s
    else if !s.minOffPassed then s.modPwr fun p => { p with onHeld := true }
    else if s.sec.lc = .provisioned ∨ s.sec.lc = .deployed then s.enterRamp
    else
      let s := s.modPwr fun p => { p with onHeld := false, step := 2, railsOff := none }
      ([1, 2, 3].foldl (fun s r => s.setRail r .up) s).setMode .sealed 1
  | .off => s
  | _ => if s.pwr.falling ∨ s.mode = .save then s.modPwr fun p => { p with onHeld := true } else s

/-! ### The end of a power-down (R389, R391, R406, R410) -/

/-- The last step is down. -/
def State.downEnd (s : State) : State :=
  match s.pwr.goal with
  | .sealed =>
    (s.modPwr fun p => { p with falling := false, step := 2 }).setMode .sealed 7
  | .standby =>
    let restart := s.pwr.fatalStop && s.paramOn P.fatal_restart &&
      (s.pwr.fatalTimes.filter fun t => s.now < t + 3600 * secNs).length ≤ s.param P.fatal_restart_max
    let s := s.powerLog logEnd 0
    let s := s.modPwr fun p => { p with falling := false, step := 0, railsOff := some s.now, fatalStop := false }
    let s := s.setMode .standby s.pwr.downTrig
    if s.pwr.resetHeld then (s.modPwr fun p => { p with resetHeld := false }).coldReset .sysRst
    else if s.pwr.onHeld || restart then s.onRequest
    else s

/-! ### Off requests and feed loss (R390, R403, R404, Table 15.8) -/

/-- Modes that Table 15.8 calls "RESYNC to MAINT". -/
def State.live (s : State) : Bool :=
  match s.mode with
  | .resync | .service | .degraded | .quiesce => true
  | .maint => !s.pwr.maintFromTrain
  | _ => false

/-- Modes in which a stop makes no save: TRAIN, RESTORE, and MAINT entered from TRAIN. -/
def State.unserved (s : State) : Bool :=
  match s.mode with
  | .train | .restore => true
  | .maint => s.pwr.maintFromTrain
  | _ => false

/-- Stop RAMP when its step ends (R390). -/
def State.abortRamp (s : State) (trig : Nat) (auto_ : Bool) : State :=
  if s.pwr.rampAbort then s
  else s.modPwr fun p => { p with rampAbort := true, downTrig := trig, autoEligible := auto_ }

/-- An orderly off. -/
def State.orderlyOff (s : State) : State :=
  if s.pwr.falling then s
  else if s.mode = .ramp then s.abortRamp 2 false
  else if s.unserved ∨ s.mode = .sealed then s.powerDown .offNoSave 2 false
  else if s.live then
    let s := s.modPwr fun p => { p with offPending := some (p.offPending.getD s.now) }
    s.setMode .quiesce 2
  else s

/-- An immediate off. -/
def State.immediateOff (s : State) : State :=
  if s.pwr.falling then s
  else if s.mode = .ramp then s.abortRamp 2 false
  else if s.unserved ∨ s.mode = .sealed then s.powerDown .offNoSave 2 false
  else if s.live then s.enterSave saveCommanded .commanded 2 s.saveStart
  else s

/-- A life-cycle transition has passed its commit point (R359). -/
def State.wiping (s : State) : Bool := s.sec.lcRecord.isSome

/-- Loss of the last present feed. -/
def State.feedLoss (s : State) : State :=
  let s := s.capStop
  if s.pwr.falling then s
  else if s.mode = .ramp then s.abortRamp 0 true
  else if s.unserved ∨ (s.mode = .maint ∧ s.wiping) then s.powerDown .feedLoss 0 true
  else if s.live then s.enterSave saveFeedLoss .feedLoss 0 (s.store.crossed.getD s.saveStart)
  else s

/-! ### Fatal stop (R406) -/

/-- FATAL_STOP is recorded and counted. -/
def State.fatalNote (s : State) (code seq : Nat) : State := (s.event 0x0445 0 [code, seq]).bump P.fatal_stops

/-- An FTL takes the device out of service. `impossible`: no save can be made. `cd39`: the fault lies in CD39 logic. In STANDBY nothing is
in service: the stop is recorded, and a fault of CD39 logic resets CD39. -/
def State.fatalStop (s : State) (code seq : Nat) (impossible cd39 : Bool) : State :=
  let stop := fun (s : State) =>
    (s.fatalNote code seq).modPwr fun p =>
      { p with fatalStop := true, fatalTimes := s.now :: p.fatalTimes.filter fun t => s.now < t + 3600 * secNs }
  if s.pwr.falling ∨ s.mode = .off then s
  else if s.mode = .standby ∨ s.mode = .sealed then
    if cd39 then (s.fatalNote code seq).coldReset .cd39Ftl
    else if s.mode = .sealed then (stop s).powerDown .fatal 4 false
    else s.fatalNote code seq
  else if s.mode = .save then if impossible then (stop s).afterSave else s
  else if s.mode = .ramp then (stop s).abortRamp 4 false
  else if s.live ∧ !impossible then (stop s).enterSave saveCommanded .fatal 4 s.saveStart
  else
    let s := stop s
    let s := if s.live then s.planPending.stopGroups else s
    s.powerDown .fatal 4 false

/-! ### Keys that the device draws (R347) -/

/-- A key is drawn: it is known by the number of its draw. -/
def State.drawn (s : State) : State :=
  s.modSec fun x => { x with draws := x.draws + 1, sinceReseed := (x.sinceReseed + 1) % 2 ^ 20 }

/-! ### The steps of a wiping transition that overwrite (R359, R360) -/

/-- KEY values and the wrapped keys of Table 13.3. -/
def keyParams : List Nat := [P.sa_wrap_key, P.fabric_key, P.twin_sak]

/-- The states after which the device holds a key_seed. -/
def LcState.keyed : LcState → Bool
  | .provisioned | .deployed => true
  | _ => false

/-- key_seed is drawn anew, or zeroed; KEK and CWK follow it. -/
def State.reseed (s : State) (draw : Bool) : State :=
  if draw then
    let s := s.drawn
    s.modSec fun x => { x with keySeed := x.draws, kekReady := !x.killFused }
  else s.modSec fun x => { x with keySeed := 0, kekReady := false }

/-- Step 4: key_seed is overwritten; the wrapped keys, both save records, the AWG commit ring and the deep-store map directory are
cleared; the configuration store is erased where the table says so, which unbinds the member identifier (R265). -/
def State.lcOverwrite (s : State) (r : LcRecord) : State :=
  let s := s.reseed r.dest.keyed
  let s := s.modSec fun x =>
    { x with mediaKeys := [], saveKeys := [], sakWritten := [], lcRecord := some { r with zeroed := false, erased := false }
             wipeZero := 0, wipeErase := 0 }
  let s := s.modPde fun p => { p with recs := [], dir0 := [], dir1 := [], awgs := [] }
  let s := s.modFlash fun f => { f with deep := [], journal := 0, dirtyPages := [], mapDir := [] }
  let s := s.touchLgm
  if r.dest.keyed then { s with cfg := s.cfg.filter fun e => !keyParams.contains (e.1 / 2 ^ 20) }
  else { s with cfg := [], staged := [], standby := [], fab := {}, store := { s.store with capMf := 0, capFirstMf := 0 } }

/-! ### What follows from the state (Table 15.8) -/

/-- No segment is dirty and every answer has been sent. -/
def State.quiet (s : State) : Bool :=
  !(s.pde.segs.any fun e => e.2.state.charged) && s.paused.isEmpty && s.xpt.waiting.isEmpty && s.xpt.rq1.isEmpty &&
  !(s.xpt.qps.any fun e => !e.2.msgs.isEmpty || e.2.inProgress.isSome || !e.2.gov.queue.isEmpty)

/-- No group of the member holds ACTIVE. -/
def State.noActive (s : State) : Bool := !(s.mir.groups.any fun e => e.2.role = .active)

/-- Every carrier that was present has been attached or refused. -/
def State.attached (s : State) : Bool := !(s.flash.cars.any fun e => e.2.state = .attaching)

/-- Every admitted message of a group has been answered, and every frame is covered (R228). -/
def State.groupQuiet (s : State) (g : Nat) : Bool :=
  (s.grp g).frames.isEmpty &&
  !(s.xpt.qps.any fun q => q.2.msgs.any fun m => m.group == g && m.via.isNone) &&
  !(s.pde.awgs.any fun a => a.group == g && a.state ≠ .applied)

/-- A switchover begins where the entry to MAINT waits for it, and goes on to HANDOVER once its group is quiet (R228). -/
def State.switchStep (s : State) (g : Nat) : State :=
  let gr := s.grp g
  if gr.role ≠ .active ∨ gr.soloPending ∨ gr.req.isSome then s
  else
    let s := if s.pwr.maintHeld && gr.switchover.isNone then s.modGrp g fun x => { x with switchover := some .waiting } else s
    if (s.grp g).switchover = some .waiting ∧ s.groupQuiet g then
      (s.openRequest opHandover g gr.epoch true 0 gr.cmd).modGrp g fun x => { x with switchover := some .handing }
    else s

def State.switchSteps (s : State) : State := (s.mir.groups.map (·.1)).foldl State.switchStep s

/-- The transitions that follow from the state itself: switchovers, condition D, the end of TRAIN and RESYNC, the end of the drain in
QUIESCE, the release of the hold of R228. -/
def State.settle (s : State) : State :=
  let s := s.sweepBufs
  let s := if s.pwr.falling || s.mir.groups.isEmpty then s else s.switchSteps.checkResync
  if s.pwr.falling then s
  else if s.pwr.maintHeld ∧ s.noActive ∧ (s.mode = .service ∨ s.mode = .degraded ∨ s.mode = .quiesce) then
    (s.modPwr fun p => { p with maintHeld := false, offPending := none }).setMode .maint 3
  else match s.mode with
    | .service => if s.condD then s.setMode .degraded 6 else s
    | .degraded => if s.condD then s else s.setMode .service 6
    | .resync => if s.mir.resyncDone then s.setMode s.byD 5 else s
    | .train =>
      if s.dram.train = .failed then
        let s := s.setMode .maint 5
        match s.sec.lcRecord with
        | some r => s.lcOverwrite r
        | none => s
      else if s.dram.train = .passed ∨ s.dram.train = .passedFenced then
        if let some r := s.sec.lcRecord then (s.setMode .maint 7).lcOverwrite r
        else if s.attached then s.setMode .restore 5
        else s
      else s
    | .quiesce => if s.pwr.offPending.isSome ∧ s.quiet then s.enterSave saveOrderly .orderly 2 s.saveStart else s
    | _ => s

/-! ### Gated domains (R419) -/

/-- Is a clock domain gated? -/
def State.gated (s : State) (d : Nat) : Bool :=
  let raised := s.pwr.step
  if d = 39 then !s.rst.vddAon
  else if s.pwr.falling then !(d == 38 && raised ≥ 2)
  else match s.mode with
    | .off => true
    | .standby => !(d == 38 && s.pwr.lgmAccess.isSome)
    | .sealed => d != 38
    | .ramp =>
      let stable := if s.pwr.rising then raised - 1 else raised
      if d = 38 then stable < 2
      else if 5 ≤ d ∧ d ≤ 10 then stable < 6
      else if 14 ≤ d ∧ d ≤ 29 then true
      else if 30 ≤ d ∧ d ≤ 37 then stable < 8
      else stable < 4
    | .save =>
      s.rst.fenced.contains d ||
      ((match s.pde.run with | some r => r.shed | none => false) && (d < 4 || (5 ≤ d && d ≤ 10) || d == 12))
    | _ =>
      s.rst.fenced.contains d ||
      (14 ≤ d && d ≤ 29 && (s.dram.mcs.getD (d - 14) {}).state = .absent) ||
      (30 ≤ d && d ≤ 37 && match (s.carrier (d - 30)).state with
        | .empty | .refused | .detached => true
        | _ => false)

end Sys2Proof.Machine
end

