-- ==== Sys2Proof/Machine/FlashOps.lean ====
section
/-!
DEFINITION. Flash: the option area, the save area, superblocks and the units of a deep-store copy, relocation, retirement of blocks
and carriers, exposed segments (R182, R312–R343).
-/

namespace Sys2Proof.Machine

/-! ### Option area (Tables 12.1 and 12.2) -/

/-- Bits of the static part and of the dynamic part of an option area. -/
def optStatic (b : Bytes) (hi lo : Nat) : Nat := bits (leNat (b.take 128)) hi lo
def optDynamic (b : Bytes) (hi lo : Nat) : Nat := bits (leNat (slice b 128 64)) hi lo

def Carrier.targets (c : Carrier) : Nat := optStatic c.option 495 488
def Carrier.luns (c : Carrier) : Nat := optStatic c.option 487 480
def Carrier.planes (c : Carrier) : Nat := optStatic c.option 479 472
def Carrier.bitsPerCell (c : Carrier) : Nat := optStatic c.option 471 464
def Carrier.blocksPerPlane (c : Carrier) : Nat := optStatic c.option 463 448
def Carrier.pagesPerBlock (c : Carrier) : Nat := optStatic c.option 447 432
def Carrier.pageBytes (c : Carrier) : Nat := optStatic c.option 431 416
def Carrier.ratedPe (c : Carrier) : Nat := optStatic c.option 399 384
/-- ONE_SHOT; under CIV 1.0 it reads 0 (R316). -/
def Carrier.oneShot (c : Carrier) : Bool := c.civ ≥ 0x0101 && bit (optStatic c.option 295 288) 2

/-- Units in a page, blocks in a LUN, LUNs of a channel, bytes of a block. -/
def Carrier.unitsPerPage (c : Carrier) : Nat := c.pageBytes / 4096
def Carrier.blocksPerLun (c : Carrier) : Nat := c.planes * c.blocksPerPlane
def Carrier.chLuns (c : Carrier) : Nat := c.targets * c.luns
def Carrier.blockBytes (c : Carrier) : Nat := c.pagesPerBlock * c.pageBytes
def Carrier.rawBytes (c : Carrier) : Nat := 4 * c.chLuns * c.blocksPerLun * c.blockBytes

/-- Is every geometry field of a static part within its range (check GEOMETRY of Table 12.3)? -/
def geometryOk (b : Bytes) : Bool :=
  let c : Carrier := { option := b }
  let spare := optStatic b 415 400
  1 ≤ c.targets && c.targets ≤ 8 && 1 ≤ c.luns && c.luns ≤ 4 && (c.planes == 1 || c.planes == 2 || c.planes == 4) &&
  (c.bitsPerCell == 3 || c.bitsPerCell == 4) && 256 ≤ c.blocksPerPlane && c.blocksPerPlane ≤ 16384 &&
  256 ≤ c.pagesPerBlock && c.pagesPerBlock ≤ 4096 && c.pagesPerBlock % c.bitsPerCell == 0 &&
  (c.pageBytes == 16384 || c.pageBytes == 32768) && 8 * spare ≥ c.pageBytes && 500 ≤ c.ratedPe && c.ratedPe ≤ 60000 &&
  optStatic b 335 320 ≥ 2400 && 1 ≤ optStatic b 319 312 && optStatic b 319 312 ≤ 64 &&
  bit (optStatic b 295 288) 0 && bit (optStatic b 295 288) 1 && optStatic b 295 291 == 0 && c.rawBytes ≤ 32 * 2 ^ 40

/-- Check OPTION_AREA of Table 12.3: magic, format major, and the CRC of each part; an all-zero dynamic part is blank. -/
def optionOk (b : Bytes) : Bool :=
  b.length == 192 && optStatic b 1023 992 == 0x4C435247 && optStatic b 991 976 / 256 == 1 &&
  optStatic b 31 0 == crc32c (slice b 4 124) &&
  ((slice b 128 64).all (· == 0) || optDynamic b 31 0 == crc32c (slice b 132 60))

/-- CIV chosen from a carrier's offers (R12, R316); 0: no shared major. -/
def civChoice (b : Bytes) : Nat :=
  let offers := [optStatic b 975 960, optStatic b 959 944, optStatic b 943 928, optStatic b 927 912]
  versionChoice [defaultOf P.civ_current, defaultOf P.civ_previous] (offers.map (BitVec.ofNat 16))

/-- Dynamic part of a carrier as the device writes it; `state`: 1 FORMATTED, 2 RETIRING, 3 DETACHED; `formats`: format count. -/
def State.dynamicPart (s : State) (c : Carrier) (state formats erases : Nat) : Bytes :=
  let w := place 384 (octetSwap 16 Config.deviceUid.toNat) + place 320 c.keyTag.toNat + place 256 erases + place 224 c.maxPe +
    place 192 c.retiredBlocks + place 160 c.spareBlocks + place 128 s.evr.hours + place 120 state + place 96 formats
  let body := (leBytes 64 w).drop 4
  leBytes 4 (crc32c body) ++ body

/-- Block erases of a carrier's listed blocks. -/
def State.erasesOf (s : State) (n : Nat) : Nat :=
  (s.flash.blks.map fun e => if e.1 / 2 ^ 39 == n then e.2.erases else 0).sum

/-- Rewrite the dynamic part of a carrier. -/
def State.writeDynamic (s : State) (n state : Nat) (newFormat : Bool) : State :=
  let c := s.carrier n
  let formats := optDynamic c.option 111 96 + flag newFormat
  let total := if newFormat then optDynamic c.option 319 256 else max (optDynamic c.option 319 256) (s.erasesOf n)
  let b := s.dynamicPart c state formats total
  (s.modCarrier n fun c => { c with option := c.option.take 128 ++ b }).emit (.optionWrite n b)

/-! ### Channels, blocks and the save area -/

/-- Key of a block: channel 0–31, target, LUN, block number. -/
def blkKeyOf (channel target lun block : Nat) : Nat := ((channel * 8 + target) * 4 + lun) * 2 ^ 32 + block
def blkKey (b : BlkAddr) : Nat := blkKeyOf (b.carrier.val * 4 + b.channel.val) b.target.val b.lun.val b.block.toNat
def keyChannel (k : Nat) : Nat := k / 2 ^ 37
def keyCarrier (k : Nat) : Nat := k / 2 ^ 39
def State.blk (s : State) (k : Nat) : Blk := s.flash.blks.getD k {}
def State.modBlk (s : State) (k : Nat) (f : Blk → Blk) : State :=
  s.modFlash fun x => { x with blks := x.blks.upd k {} f }

/-- Channels in service: those of IN_SERVICE carriers that are not fenced. W is their number (R322). -/
def State.writable (s : State) : List Nat :=
  (List.range 32).filter fun c => (s.carrier (c / 4)).state = .inService && !(s.carrier (c / 4)).fenced.getLsbD (c % 4)
def State.stripeWidth (s : State) : Nat := s.writable.length

/-- Blocks of each LUN that the two save slots occupy: the lowest-numbered ones (R325). -/
def State.slotBlocks (s : State) (c : Carrier) : Nat :=
  if c.chLuns * c.blockBytes = 0 then 0
  else ceilDiv (2 * s.param P.save_slot_gib * 2 ^ 30) (4 * c.chLuns * c.blockBytes)

/-- Is a block of the deep store? Otherwise it belongs to a save slot. -/
def State.isSlotBlock (s : State) (k : Nat) : Bool := k % 2 ^ 32 < s.slotBlocks (s.carrier (keyCarrier k))

/-- Keys of the deep-store blocks of a channel. -/
def State.channelBlocks (s : State) (ch : Nat) : List Nat :=
  let c := s.carrier (ch / 4)
  let first := s.slotBlocks c
  (List.range (c.chLuns * (c.blocksPerLun - first))).map fun i =>
    let per := c.blocksPerLun - first
    blkKeyOf ch (i / per / c.luns) (i / per % c.luns) (first + i % per)

/-- Is a block ready to be programmed from its start? -/
def State.freeBlk (s : State) (k : Nat) : Bool := (s.blk k).state = .free && !(s.blk k).suspect

/-- The FREE block of a channel with the lowest erase count, outside its spares (R338). -/
def State.pickBlock (s : State) (ch : Nat) : Option Nat :=
  let l := s.channelBlocks ch
  let l := (l.filter s.freeBlk).take ((l.filter s.freeBlk).length - (s.carrier (ch / 4)).spareBlocks / 4)
  bestBy (fun k => -((s.blk k).erases : Int)) l

/-- `in_save_area_mib`: carriers_ready × the smallest usable_k. -/
def State.saveAreaMib (s : State) : Nat :=
  match s.readyCarriers with
  | [] => 0
  | n :: t => (t.length + 1) * t.foldl (fun a k => min a (s.carrier k).usableMib) (s.carrier n).usableMib

/-- usable_k of a slot that is fully erased: three quarters of its reserve, at most 2^24 units. -/
def State.slotUsableMib (s : State) : Nat := min (s.param P.save_slot_gib * 1024 * 3 / 4) 65536

/-- Evaluate the save area (R341): the Critical event is recorded on each entry to the low condition, the first evaluation that finds
it low included. -/
def State.evalArea (s : State) : State :=
  let mib := s.saveAreaMib
  let low := mib < 4096
  let entry := low && (!s.flash.saveAreaLow || !s.flash.measured)
  let s := s.modPde fun p => { p with budget := { p.budget with areaMib := mib } }
  let s := s.modFlash fun f => { f with saveAreaLow := low, measured := true }
  if entry then s.event 0x5045 0xFF [mib] else s

/-- Usable deep-store capacity in bytes (R326). -/
def State.usableDeep (s : State) : Nat :=
  let w := s.stripeWidth
  let sum := ((List.range 8).map fun n =>
    let c := s.carrier n
    if c.state = .inService then (c.goodBlocks - c.spareBlocks - 4 * c.chLuns * s.slotBlocks c) * c.blockBytes else 0).sum
  if w = 0 then 0 else sum * (100 - s.param P.gc_free_low_pct) / 100 * (w - 1) / w

/-! ### Superblocks and the units of a copy (R322) -/

def State.sb (s : State) (n : Nat) : Superblock := s.flash.sbs.getD n {}

/-- Data units that a superblock holds. -/
def State.sbUnits (s : State) (b : Superblock) : Nat :=
  let rows := (b.channels.map fun ch => (s.carrier (ch / 4)).pagesPerBlock * (s.carrier (ch / 4)).unitsPerPage)
  match rows with
  | [] => 0
  | r :: t => t.foldl min r * (b.channels.length - 1)

/-- Row and column of data position p over W channels: parity stands in column row mod W. -/
def unitAt (w p : Nat) : Nat × Nat :=
  let row := p / (w - 1)
  let j := p % (w - 1)
  (row, if j < row % w then j else j + 1)

/-- Data position of a row and column. -/
def posOf (w row col : Nat) : Nat := row * (w - 1) + (if col < row % w then col else col - 1)

/-- Columns that the units of a copy occupy. -/
def State.entryCols (s : State) (e : DeepEntry) : List Nat :=
  let w := (s.sb e.superblock).channels.length
  if w < 2 then [] else (List.range e.units).map fun i => (unitAt w (posOf w e.row e.column + i)).2

/-- Has a copy a unit on this channel, on this carrier, or in this block? -/
def State.entryOnCarrier (s : State) (e : DeepEntry) (n : Nat) : Bool :=
  !e.noRead && (s.entryCols e).any fun c => ((s.sb e.superblock).channels.getD c 0) / 4 == n
def State.entryOnBlk (s : State) (e : DeepEntry) (k : Nat) : Bool :=
  !e.noRead && (s.entryCols e).any fun c => (s.sb e.superblock).blocks.getD c 0 == k

/-- Block and row of unit i of a copy. -/
def State.unitRow (s : State) (e : DeepEntry) (i : Nat) : Nat × Nat :=
  let b := s.sb e.superblock
  let w := b.channels.length
  let at_ := unitAt w (posOf w e.row e.column + i)
  (b.blocks.getD at_.2 0, at_.1)

/-- Block and page of unit i of a copy. -/
def State.unitPage (s : State) (e : DeepEntry) (i : Nat) : Nat × Nat :=
  let r := s.unitRow e i
  (r.1, r.2 / max 1 (s.carrier (keyCarrier r.1)).unitsPerPage)

/-- The copy whose unit lies in a row of a block: its LSN, and which unit. -/
def State.unitOwner (s : State) (k row : Nat) : Option (Nat × DeepEntry × Nat) :=
  s.flash.deep.findSome? fun e =>
    if e.2.noRead then none
    else ((List.range e.2.units).find? fun i => s.unitRow e.2 i == (k, row)).map fun i => (e.1, e.2, i)

/-! ### Keys of a copy (Table 13.2) -/

/-- Does CRY refuse the media key of a carrier (R345)? -/
def State.mediaRefused (s : State) (n : Nat) : Bool :=
  (s.carrier n).keyDraw != 0 && xtsRefused (Config.drawnKey (s.carrier n).keyDraw)

/-- A unit of a copy falls to a carrier whose media key CRY refuses. -/
def State.copyRefused (s : State) (e : DeepEntry) : Bool :=
  !e.noRead && (s.entryCols e).any fun c => s.mediaRefused ((s.sb e.superblock).channels.getD c 0 / 4)

/-- Has a copy a unit in a page? -/
def State.entryInPage (s : State) (e : DeepEntry) (k page : Nat) : Bool :=
  !e.noRead && (List.range e.units).any fun i => s.unitPage e i == (k, page)

/-- The open superblock, if it has room for n more units on channels that can still be written. -/
def State.openSb (s : State) (n : Nat) : Option Nat :=
  (s.flash.sbs.keysWhere fun _ b =>
    !b.full && b.channels.all (fun c => s.writable.contains c) && b.used + n ≤ s.sbUnits b).head?

/-- Open a new superblock: one FREE block on each writable channel. The others are closed: a segment never spans two. -/
def State.newSb (s : State) : State × Option Nat :=
  let chs := s.writable
  let blks := chs.filterMap s.pickBlock
  if chs.length < 2 || blks.length != chs.length then (s, none)
  else
    let n := s.flash.nextSb
    let s := s.modFlash fun f =>
      { f with
        sbs := (f.sbs.mapVals fun _ b => { b with full := true }).set n { channels := chs, blocks := blks }
        nextSb := (n + 1) % 2 ^ 24 }
    (blks.foldl (fun s k => s.modBlk k fun b => { b with state := .open_, pointer := 0 }) s, some n)

/-- Note data units programmed (R337), and how many of them Promenade and TMV write. -/
def State.noteUnits (s : State) (programmed written : Nat) : State :=
  s.modFlash fun f => { f with unitLog := (s.now, programmed, written) :: f.unitLog.filter fun e => s.now < e.1 + 86400 * secNs }

/-- `write_amp_milli`: 1,000 × data units programmed ÷ data units that Promenade and TMV have written. -/
def State.writeAmp (s : State) : Nat :=
  let l := s.flash.unitLog.filter fun e => s.now < e.1 + 86400 * secNs
  1000 * (l.map (·.2.1)).sum / (l.map (·.2.2)).sum

/-- Take the positions of n consecutive data units: superblock, row and column of the first. -/
def State.takeUnits (s : State) (n : Nat) : State × Option (Nat × Nat × Nat) :=
  let r := match s.openSb n with
    | some k => (s, some k)
    | none => s.newSb
  match r.2 with
  | none => (r.1, none)
  | some k =>
    let s := r.1
    let b := s.sb k
    if b.used + n > s.sbUnits b then (s, none)
    else
      let at_ := unitAt b.channels.length b.used
      let s := s.modFlash fun f =>
        { f with sbs := f.sbs.set k { b with used := b.used + n, full := b.used + n == s.sbUnits b } }
      (s.noteUnits n 0, some (k, at_.1, at_.2))

/-- Write a map entry: its journal record, and the map page it dirties (R323, R324). -/
def State.setDeep (s : State) (lsn : Nat) (e : DeepEntry) : State :=
  s.modFlash fun f =>
    { f with deep := f.deep.set lsn e, journal := f.journal + 1, dirtyPages := insertNat (lsn / 512) f.dirtyPages }

/-- Move the copy of an LSN to new units, encrypted again under the keys of the carriers that hold them; not where there is no free
space, or where CRY refuses such a key. -/
def State.relocateEntry (s : State) (lsn : Nat) : State × Bool :=
  let e := s.deepOf lsn
  let r := s.takeUnits e.units
  match r.2 with
  | some p =>
    let e := { e with superblock := p.1, row := p.2.1, column := p.2.2 }
    if r.1.copyRefused e then (r.1, false) else (r.1.setDeep lsn e, true)
  | none => (r.1, false)

/-- A map page as a copy of one unit (R323). -/
def pageCopy (p : Nat × Nat × Nat) : DeepEntry := { kind := .raw, storedLen := 4096, superblock := p.1, row := p.2.1, column := p.2.2 }

/-- Write a map page to the deep store and its directory word; without a place it stays where it was. -/
def State.writePage (s : State) (m : Nat) : State × Bool :=
  let r := s.takeUnits 1
  match r.2 with
  | some p => if r.1.copyRefused (pageCopy p) then (r.1, false) else (r.1.modFlash fun f => { f with mapDir := f.mapDir.set m p }, true)
  | none => (r.1, false)

/-- Relocate every copy that satisfies a test, map pages too: the state, the units moved, and whether all could be moved. -/
def State.relocate (s : State) (q : DeepEntry → Bool) : State × Nat × Bool :=
  let r := (s.flash.deep.filter fun e => q e.2).foldl (fun (r : State × Nat × Bool) e =>
    let t := r.1.relocateEntry e.1
    (t.1, r.2.1 + (if t.2 then e.2.units else 0), r.2.2 && t.2)) (s, 0, true)
  (s.flash.mapDir.filter fun e => q (pageCopy e.2)).foldl (fun r e =>
    let t := r.1.writePage e.1
    (t.1, r.2.1 + flag t.2, r.2.2 && t.2)) r

/-- Is a copy or a map page left that satisfies a test? -/
def State.copiesLeft (s : State) (q : DeepEntry → Bool) : Bool :=
  s.flash.deep.any (fun e => q e.2) || s.flash.mapDir.any fun e => q (pageCopy e.2)

/-- Drop the holds whose pages have been rewritten elsewhere, of those that satisfy a test (R329). -/
def State.dropRewritten (s : State) (q : Hold → Bool) : State :=
  let stay := fun (h : Hold) => !q h || s.copiesLeft fun e => s.entryInPage e h.blk h.page
  s.modFlash fun f => { f with holds := f.holds.filter stay }

/-- DRAM segment of the holding area that holds a page. -/
def State.holdSeg (s : State) (h : Hold) : Nat := s.areaLsn (s.holdAt + h.at_ * 16384 / segBytes)

/-- Wordlines found open after a restart (R329): every held page is rewritten in a new location, unless its segment of the holding area
is lost (Table 7.6); its units are then recovered at their next access. Pages of a carrier that cannot be read stay held. -/
def State.settleHolds (s : State) (lost : Nat → Bool) : State :=
  let here := fun (h : Hold) => match (s.carrier (keyCarrier h.blk)).state with
    | .inService | .retiring | .evacuating => true
    | _ => false
  let s' := (s.flash.holds.filter fun h => here h && !lost (s.holdSeg h)).foldl
    (fun s h => (s.relocate fun e => s.entryInPage e h.blk h.page).1) s
  s'.modFlash fun f => { f with holds := f.holds.filter fun h => !here h && !lost (s.holdSeg h) }

/-! ### Drains whose units fail (Table 7.2) -/

/-- Abandon one drain: its segment stays dirty. -/
def State.abandonDrain (s : State) (lsn : Nat) : State :=
  s.modPde fun p =>
    { p with drains := p.drains.filter fun d => d.lsn != lsn
             segs := p.segs.mapVals fun n g => if n == lsn && (g.state = .draining || g.state = .redirty) then { g with state := .dirty } else g }

/-- The copy that a drain is writing. -/
def DrainJob.copy (d : DrainJob) : Option DeepEntry :=
  d.place.map fun p => { kind := d.kind, storedLen := d.len, superblock := p.1, row := p.2.1, column := p.2.2, content := d.content }

/-- Drains in progress that write a unit to a part of the flash. -/
def State.drainsOn (s : State) (q : DeepEntry → Bool) : List Nat :=
  (s.pde.drains.filter fun d => d.copy.any q).map (·.lsn)

/-- A part of the flash takes no further program: the drains with a unit there are abandoned. -/
def State.abandonOn (s : State) (q : DeepEntry → Bool) : State := (s.drainsOn q).foldl State.abandonDrain s

/-! ### Retirement of blocks and carriers (R327, R328, R339, R340) -/

/-- A carrier becomes RETIRING: read-only, write-protected, and no longer ready. -/
def State.retireCarrier (s : State) (n : Nat) (byChannel : Bool) : State :=
  if (s.carrier n).state = .inService then
    let s := (s.abandonOn fun e => s.entryOnCarrier e n).modCarrier n fun c => { c with state := .retiring, wp := true }
    (s.event 0x5043 n [(s.carrier n).retiredBlocks, flag byChannel]).evalArea
  else s

/-- A block is BAD: its valid units are relocated, and a spare of its channel takes its place, or the carrier retires. `cause`:
1 program, 2 erase, 3 verify. -/
def State.retireBlock (s : State) (k cause : Nat) : State :=
  let n := keyCarrier k
  if (s.blk k).state = .bad then s
  else
    let s := s.abandonOn fun e => s.entryOnBlk e k
    let s := (s.relocate fun e => s.entryOnBlk e k).1
    let s := s.modBlk k fun b => { b with state := .bad, suspect := false }
    let s := s.event 0x5046 (keyChannel k) [keyChannel k, k, cause]
    let spares := (s.carrier n).spareBlocks
    let s := s.modCarrier n fun c => { c with retiredBlocks := c.retiredBlocks + 1, goodBlocks := c.goodBlocks - 1, spareBlocks := c.spareBlocks - 1 }
    if spares = 0 then s.retireCarrier n false
    else
      match ((s.channelBlocks (keyChannel k)).reverse.find? s.freeBlk) with
      | some j => s.modFlash fun f =>
          { f with sbs := f.sbs.mapVals fun _ b =>
              if b.blocks.contains k then { b with blocks := b.blocks.map fun x => if x = k then j else x, full := true } else b }
      | none => s

/-- A block becomes SUSPECT (R327): its valid units are relocated and it is then erased; the second time, it is retired. -/
def State.suspectBlock (s : State) (k : Nat) : State :=
  if (s.blk k).state = .bad then s
  else if (s.blk k).suspects ≥ 1 then s.retireBlock k 3
  else
    let s := s.abandonOn fun e => s.entryOnBlk e k
    let s := s.modBlk k fun b => { b with suspect := true, suspects := b.suspects + 1 }
    let r := s.relocate fun e => s.entryOnBlk e k
    if r.2.2 then r.1.modBlk k fun b => { b with state := .erasing } else r.1

/-! ### OFFLINE and exposed segments (R319) -/

/-- CLEAN segments of the domain whose copy has a unit on a carrier become EXPOSED. -/
def State.expose (s : State) (n : Nat) : State :=
  (s.flash.deep.filter fun e => e.1 < 0x10000000 && s.entryOnCarrier e.2 n).foldl (fun s e =>
    if s.segState e.1 = .clean ∧ s.inDomain e.1 then
      s.modPde fun p => { p with segs := p.segs.upd e.1 {} fun g => { g with exposed := true } }
    else s) s

/-- A part of a running save stops: its carrier's rail or its carrier has failed (R193). -/
def State.failPart (s : State) (n : Nat) : State :=
  match s.pde.run with
  | some r =>
    let rec_ := s.saveRecord r.slot
    if !r.frozen then
      if r.t0.parts.contains n then s.modPde fun p => { p with run := some { r with failed := r.failed ||| (1#8 <<< n) } } else s
    else if bit rec_.partsPlanned.toNat n ∧ !bit rec_.partsClosed.toNat n then
      s.modPde fun p => { p with recs := p.recs.set r.slot { rec_ with partsFailed := rec_.partsFailed ||| (1#8 <<< n) } }
    else s
  | none => s

/-- A carrier becomes OFFLINE. Work running on it fails with WRONG_STATE. -/
def State.carrierOffline (s : State) (n : Nat) : State :=
  let c := s.carrier n
  let live : Bool := match c.state with
    | .inService | .retiring | .evacuating | .formatting => true
    | _ => false
  if !live then s
  else
    let s := if c.state = .formatting then s.failed (perInst P.carrier_format n) 0x01 else s
    let s := if c.state = .evacuating then s.failed (perInst P.carrier_detach n) 0x01 else s
    let s := s.abandonOn fun e => s.entryOnCarrier e n
    let s := (s.modCarrier n fun c => { c with state := .offline, wp := true }).expose n
    let s := s.failPart n
    (s.event 0x5044 n [s.exposedCount]).evalArea

/-- A carrier leaves the device's power. -/
def State.carrierPowerOff (s : State) (n : Nat) (st : CarState) : State :=
  let s := s.modCarrier n fun c => { c with state := st, pwren := false, pgood := false, wp := c.wp || st = .detached }
  if (s.rail (10 + n)).state = .failed then s else s.setRail (10 + n) .off

end Sys2Proof.Machine
end

