-- ==== Sys2Proof/Machine/DramOps.lean ====
section
/-!
DEFINITION. DRAM: poisoned lines, LOST regions, and the fence of a channel, whose interleave set leaves service (R195, R196,
R297, R302, R310, Table 7.6).
-/

namespace Sys2Proof.Machine

def State.mc (s : State) (n : Nat) : Mc := s.dram.mcs.getD n {}
def State.modMc (s : State) (n : Nat) (f : Mc → Mc) : State := s.modDram fun d => { d with mcs := d.mcs.upd n {} f }

/-- A line takes the poison encoding. -/
def State.poisonLine (s : State) (line : Nat) : State :=
  s.modDram fun d => { d with poison := insertNat line d.poison }

/-! ### LOST regions (R196) -/

/-- A region becomes LOST: the Critical data-loss event is recorded once. `segs`: the segments lost. -/
def State.loseRegion (s : State) (idx segs : Nat) : State :=
  if s.reg.lost.contains idx ∨ (s.desc idx).state = .free then s
  else (s.modReg fun g => { g with lost := insertNat idx g.lost }).event 0x2542 0 [idx, segs]

/-- Nothing but this member can supply the data of a group: group 255, or a group that is SOLO here. -/
def State.soleCopy (s : State) (g : Nat) : Bool := g == 255 || (s.grp g).role = .solo

/-- Lose a region whose data has no other copy. -/
def State.loseSole (s : State) (idx segs : Nat) : State :=
  if s.soleCopy (s.desc idx).group then s.loseRegion idx segs else s

/-! ### Queue pairs and completion queues whose contexts are gone (Table 7.6) -/

/-- Queue pairs whose context or log satisfies a test become FREE; completion queues likewise, and the queue pairs still bound to one
have CQ_BOUND cleared. -/
def State.freeContexts (s : State) (q : Nat → Bool) : State :=
  let qps := s.xpt.qps.keysWhere fun n _ => q (s.ctxSeg n) || q (s.logSeg n)
  let s := qps.foldl (fun s n => s.freeQp n) s
  let cqs := s.xpt.cqs.keysWhere fun n _ => q (s.cqSeg n)
  s.modXpt fun x =>
    { x with
      cqs := x.cqs.filter fun e => !cqs.contains e.1
      qps := x.qps.mapVals fun _ p =>
        if p.ctx.cqBound && cqs.contains p.ctx.cq.toNat then { p with ctx := { p.ctx with cqBound := false } } else p }

/-! ### Fence of a channel (R310) -/

/-- Segments of a region that lie in an interleave set: its DRAM backing, or the frames that hold its segments. -/
def State.segsInSet (s : State) (idx k : Nat) : Nat :=
  let d := s.desc idx
  if d.tiered then s.tmv.frames.countWhere fun n f => f.idx == idx && s.setOf (s.frameLsn n) == k
  else if d.backing / s.setBytes == k || (d.backing + segBytes * d.lengthSeg - 1) / s.setBytes == k then d.lengthSeg else 0

/-- Does the segment map of a tiered region lie in an interleave set? -/
def State.mapInSet (s : State) (idx k : Nat) : Bool :=
  let d := s.desc idx
  d.tiered && s.setOf (d.backing / segBytes) == k

/-- The regions that have data, a map or their descriptor in a set. -/
def State.regionsInSet (s : State) (k : Nat) : List Nat :=
  s.reg.descs.keysWhere fun i d =>
    d.state ≠ .free && (s.segsInSet i k > 0 || s.mapInSet i k || s.setOf (s.areaLsn (64 * i / segBytes)) == k)

/-- Free the tier frames of a set; dirty contents are lost data of their region. -/
def State.freeFramesOf (s : State) (k : Nat) : State :=
  (s.tmv.frames.filter fun e => s.setOf (s.frameLsn e.1) == k).foldl (fun s e =>
    let f := e.2
    let dirty := (s.segState (s.frameLsn e.1)).charged
    let s := if dirty then s.loseSole f.idx 1 else s
    let s := s.dropFetch (.tier (BitVec.ofNat 20 f.idx) f.seg)
    let s := s.setEntry f.idx f.seg { s.entry f.idx f.seg with mstate := .absent, frame := 0 }
    s.freeFrame e.1) s

/-- Halt the migration job of a segment: the segment is as it was before the job, and its frame is free (Table 3.11). Mirrored lines
that had been merged into it are lost with the frame, so that the segment is divergent, as where R246 ends without a source. -/
def State.haltMigration (s : State) (idx seg : Nat) : State :=
  let key : FetchKey := .tier (BitVec.ofNat 20 idx) seg
  let e := s.entry idx seg
  if !s.fetching key || e.mstate ≠ .promoting then s
  else
    let s := s.dropFetch key
    let s := match s.frameOfLsn e.frame with
      | some n => s.freeFrame n
      | none => s
    let merged := s.tmv.masks.any fun m => m.idx == idx && m.seg == seg
    (s.setEntry idx seg { e with mstate := .absent, frame := 0, divergent := e.divergent || merged }).modTmv fun t =>
      { t with masks := t.masks.filter fun m => !(m.idx == idx && m.seg == seg) }

/-- Halt the job of PDE on a segment: its drain or the fetch that restores it (Table 3.11). -/
def State.haltPde (s : State) (lsn : Nat) : State :=
  ((s.abandonDrain lsn).dropFetch (.dram lsn)).modPde fun p => { p with refills := p.refills.filter (· != lsn) }

/-- Halt what a buffer is held for (Table 3.11). -/
def State.haltUse (s : State) : BufUse → State
  | .drain lsn => s.haltPde lsn
  | .fetch (.dram lsn) => s.haltPde lsn
  | .fetch (.tier idx seg) => s.haltMigration idx.toNat seg
  | .frames g _ | .held g _ => s.declareSolo g

/-- Withdraw the pool buffers of a set: an agent that holds one halts its channel, a queue pair going to ERROR. -/
def State.withdrawBufs (s : State) (k : Nat) : State :=
  let out := fun (b : Nat × Nat) => 4 ≤ b.1 && s.nsets > 0 && b.2 % s.nsets == k
  let s := (s.xpt.qps.keysWhere fun _ q => q.msgs.any fun m => m.bufs.any out).foldl (fun s n => s.enterError n Cause.channelHalt) s
  let lost := s.reg.holds.filter fun h => out (h.pool, h.buf)
  let s := lost.foldl (fun s h => s.haltUse h.use) s
  ([4, 5, 6, 7] : List Nat).foldl State.notePool s

/-- What follows when an interleave set leaves service. -/
def State.setLeaves (s : State) (k : Nat) : State :=
  let regions := s.regionsInSet k
  let s := regions.foldl (fun s i =>
    if s.segsInSet i k > 0 && !(s.desc i).tiered || s.mapInSet i k || s.setOf (s.areaLsn (64 * i / segBytes)) == k then
      s.loseSole i (max 1 (s.segsInSet i k))
    else s) s
  let groups := ((regions.map fun i => (s.desc i).group).filter (· != 255)).eraseDups
  let s := groups.foldl (fun s g =>
    match (s.grp g).role with
    | .active => s.openRequest opHandover g (s.grp g).epoch false 0 0
    | .standby => s.modGrp g fun gr => { gr with inSync := false }
    | _ => s) s
  let s := s.freeContexts fun lsn => s.setOf lsn == k
  (s.freeFramesOf k).withdrawBufs k

/-- Sticky condition bit FENCED of a block instance: a fence comes into force (R374). -/
def State.addFence (s : State) (f : Nat) : State :=
  if s.fco.fences.contains f then s
  else (s.modFco fun x => { x with fences := insertNat f x.fences }).setFlagIf (blockInstance (f / 256) (f % 256))
    (blkParam P.blk_fault_status f) 4

/-- FCO fences a DRAM channel: the fence is recorded in `mc_fence`, and the interleave set leaves service. `cause`: the order of
R310. -/
def State.fenceChannel (s : State) (ch cause : Nat) : State :=
  if s.fco.fences.contains (0x4000 + ch) ∧ (s.mc ch).state = .fenced then s
  else
    let was := s.setFenced (ch / 4)
    let s := s.modMc ch fun m => { m with state := .fenced, fenced := true }
    let s := s.setCfg P.mc_fence 0 (s.param P.mc_fence ||| 2 ^ ch)
    let s := (s.addFence (0x4000 + ch)).event 0x4044 ch [cause]
    if was || s.dram.channels = 0 then s else s.setLeaves (ch / 4)

/-! ### Page retirement (R306, R307, R309) -/

/-- Remap entries of a channel, one for each spare page. -/
abbrev remapEntries : Nat := 16384

/-- Lowest spare page that no entry uses. -/
def freeSpare (l : List Remap) : Nat → Nat → Option Nat
  | 0, _ => none
  | k + 1, n => if l.any (·.spare == n) then freeSpare l k (n + 1) else some n

/-- The MC takes a free spare page for the page of an address, and its copy begins; with none free the page stays in place, which is
counted and recorded. The second component says whether the copy began. -/
def State.retireStart (s : State) (a : Nat) : State × Bool :=
  let ch := s.channelOf a
  let page := s.chAddr a / 4096
  let l := (s.mc ch).remaps
  match if remapEntries ≤ l.length then none else freeSpare l (l.length + 1) 0 with
  | none => ((s.bump P.retire_impossible).event 0x4043 ch [a], false)
  | some n => (s.modMc ch fun m => { m with remaps := m.remaps.filter (·.page != page) ++ [{ page := page, spare := n }] }, true)

/-- The region segment whose bytes an LSN holds: of a tier frame its segment, otherwise that of the region backed there. -/
def State.ownerOf (s : State) (lsn : Nat) : Option (Nat × Nat) :=
  match s.frameOfLsn lsn with
  | some n => (s.tmv.frames.find? n).map fun f => (f.idx, f.seg)
  | none =>
    (List.find? (fun (e : Nat × Desc) => e.2.state ≠ .free && !e.2.tiered && e.2.backing / segBytes ≤ lsn &&
      lsn < e.2.backing / segBytes + e.2.lengthSeg) s.reg.descs).map fun e => (e.1, lsn - e.2.backing / segBytes)

/-- The page cannot be relocated: firmware starts a switchover of the ACTIVE group whose data it holds (R309). -/
def State.retireInPlace (s : State) (a : Nat) : State :=
  match s.ownerOf (a / segBytes) with
  | none => s
  | some o =>
    let g := (s.desc o.1).group
    let gr := s.grp g
    if g = 255 ∨ gr.role ≠ .active ∨ gr.soloPending ∨ gr.switchover.isSome ∨ gr.req.isSome then s
    else s.modGrp g fun x => { x with switchover := some .waiting }

/-- Firmware starts the retirement of a page while `retire_enable` is true, in the modes of `page_retire`, and adds the page's row to the
pending repair list (R307). A page that is remapped already is left. -/
def State.firmwareRetire (s : State) (a : Nat) : State :=
  let ch := s.channelOf a
  let page := s.chAddr a / 4096
  let live := s.mode = .resync || s.mode = .service || s.mode = .degraded || s.mode = .maint
  if !s.paramOn P.retire_enable || !live || (s.mc ch).remaps.any (·.page == page) then s
  else
    let s := s.modDram fun d =>
      { d with pprPending := if d.pprPending.contains (ch, page) then d.pprPending else d.pprPending ++ [(ch, page)] }
    let r := s.retireStart a
    if r.2 then r.1 else r.1.retireInPlace a

/-- A corrected error of a page: at `retire_ce_threshold` within 24 hours it is retired. -/
def State.pageCe (s : State) (a : Nat) : State :=
  let s := s.modDram fun d => { d with ceLog := (a / 4096, s.now) :: d.ceLog.filter fun e => s.now < e.2 + 86400 * secNs }
  if s.dram.ceLog.countP (fun e => e.1 == a / 4096) ≥ s.param P.retire_ce_threshold then s.firmwareRetire a else s

/-- A new uncorrected line is found on a channel: poison, `mc_ue`, the fence at `ue_fence_count` within 1 s, and the retirement of its
page. -/
def State.newUncorrected (s : State) (a : Nat) : State :=
  let ch := s.channelOf a
  let s := s.poisonLine (a / 64)
  let s := (s.bump (perInst P.mc_ue ch)).bump P.ue_total
  let s := s.setFlag (perInst P.mc_err_status ch) 1
  let s := s.modMc ch fun m =>
    { m with ueLog := s.now :: m.ueLog.filter fun t => s.now < t + secNs
             firstErrLoc := if m.firstErrLoc = 0 then Config.lineLocation a else m.firstErrLoc }
  let s := s.modDram fun d => { d with repairs := d.repairs ++ [a / 64 * 64] }
  let s := if (s.mc ch).ueLog.length ≥ s.param P.ue_fence_count then s.fenceChannel ch 3 else s
  s.firmwareRetire a

end Sys2Proof.Machine
end

