-- ==== Sys2Proof/Machine/PersistOps.lean ====
section
/-!
DEFINITION. The save: its key, record, directory and close (R182, R187–R193, R347, R350).
-/

namespace Sys2Proof.Machine

/-! ### Records and directories -/

def State.setRec (s : State) (slot : Nat) (r : SaveRec) : State := s.modPde fun p => { p with recs := p.recs.set slot r }

/-- Save directory of a slot. -/
def State.dir (s : State) (slot : Nat) : List DirEntry := if slot = 0 then s.pde.dir0 else s.pde.dir1
def State.setDir (s : State) (slot : Nat) (d : List DirEntry) : State :=
  s.modPde fun p => if slot = 0 then { p with dir0 := d } else { p with dir1 := d }

/-- The save set in save order: device areas first, each in ascending address (R188). -/
def State.saveSet (s : State) : List Nat :=
  let l := s.pde.segs.keysWhere fun _ g => g.state.charged
  l.filter (fun n => s.isDevice n) ++ l.filter (fun n => !s.isDevice n)

/-- Carriers that hold a part. -/
def SaveRec.parts (r : SaveRec) : List Nat := (List.range 8).filter fun k => bit r.partsPlanned.toNat k

/-- Stripe of part unit u, the channel of its carrier that holds it, and the channel that holds the parity of a stripe (R188): three data
units and one parity unit lie across the four channels, and the parity of stripe i on channel i mod 4. -/
def partStripe (u : Nat) : Nat := u / 3
def parityChannel (stripe : Nat) : Nat := stripe % 4
def partChannel (u : Nat) : Nat := if u % 3 < parityChannel (partStripe u) then u % 3 else u % 3 + 1

/-- The dirty set is frozen: stagings without a commit record go, QCC has written back, the save key is drawn, and the target slot's
record is written as WRITING. Without a key, no carrier holds a part (R347). -/
def State.freezeSave (s : State) : State :=
  match s.pde.run with
  | none => s
  | some r =>
    let s := s.qccWriteBack
    let s := s.modPde fun p => { p with awgs := p.awgs.filter fun a => a.state ≠ .staging && a.state ≠ .staged }
    let keyed := !s.sec.drbgStopped
    let s := if keyed then s.drawn else s
    let s := if keyed then s.modSec fun x => { x with saveKeys := x.saveKeys.set r.slot x.draws } else s
    let seq := s.pde.saveSeq + 1
    let ready := if keyed then r.t0.parts else []
    let rec_ : SaveRec :=
      { state := .writing, slot := r.slot, trigger := r.trigger
        partsPlanned := BitVec.ofNat 8 ((ready.map fun k => 2 ^ k).sum), partsFailed := if keyed then r.failed else 0
        budgetGib := r.t0.budgetGib, saveSeq := seq
        dramBytes := s.dramBytes, t0Cycle := r.t0.cycle, t0Ms := r.t0.ms, t0Hours := r.t0.hours, planEntries := s.saveSet.length, keyId := r.slot }
    let s := s.setRec r.slot rec_
    let s := s.modPde fun p => { p with saveSeq := seq, run := some { r with frozen := true } }
    let use := fun (n : Nat) (c : Carrier) =>
      if !ready.contains n then c
      else if r.slot = 0 then { c with erasedSlot0 := false } else { c with erasedSlot1 := false }
    let s := s.modFlash fun f => { f with cars := f.cars.mapVals use }
    s.event 0x2543 0 [seq, r.slot, r.trigger]

/-- The directory is written, every entry PLANNED, parts round-robin (R188, R190). -/
def State.planSave (s : State) : State :=
  match s.pde.run with
  | none => s
  | some r =>
    let rec_ := s.saveRecord r.slot
    let parts := rec_.parts
    let l := s.saveSet
    let entries : List DirEntry := (List.range l.length).map fun i =>
      { lsn := l.getD i 0, part := parts.getD (i % max 1 parts.length) 0, seqLo := rec_.saveSeq % 64 }
    let s := (s.setDir r.slot entries).modPde fun p => { p with run := some { r with planned := true, dataFrom := s.now, dataTo := s.now } }
    (s.powerLog logPlanWritten rec_.saveSeq).modPwr fun p => { p with unsavedPending := false }

/-- Stored form of a segment (R185): kind and stored length, from the length of its Zstandard frame. -/
def storedForm (cells : List Host.Cell) (frameLen : Nat) : StoreKind × Nat :=
  if cells.isEmpty then (.zero, 0) else if frameLen ≥ 61440 then (.raw, 65536) else (.zstd, max 1 frameLen)

/-- A part can take n more units: it is planned, has not failed, and its capacity in the target slot is 2^24 units at most. -/
def State.partRoom (s : State) (r : SaveRun) (n k : Nat) : Bool :=
  let rec_ := s.saveRecord r.slot
  bit rec_.partsPlanned.toNat k && !bit rec_.partsFailed.toNat k && r.used.getD k 0 + n ≤ (s.carrier k).usableMib * 256

/-- A line of a segment is uncorrected, or its interleave set is out of service. -/
def State.segBad (s : State) (lsn : Nat) : Bool :=
  s.setFenced (s.setOf lsn) || s.dram.poison.any fun l => l / 1024 == lsn

/-- Entry n of the directory is rewritten final, in its planned part or in the next that has room. -/
def State.saveEntry (s : State) (n frameLen : Nat) (bad : Bool) : State :=
  match s.pde.run with
  | none => s
  | some r =>
    let rec_ := s.saveRecord r.slot
    match (s.dir r.slot)[n]? with
    | none => s
    | some e =>
      let late : Bool := match r.full with
        | some f => f ≤ n
        | none => false
      if e.kind ≠ .planned ∨ bad ∨ s.segBad e.lsn ∨ r.stopped ∨ late ∨ bit rec_.partsFailed.toNat e.part then s
      else
        let cells := s.segmentCells e.lsn
        let form := storedForm cells frameLen
        let units := ceilDiv form.2 4096
        let parts := rec_.parts
        let order := parts.filter (e.part ≤ ·) ++ parts.filter (· < e.part)
        match order.find? (s.partRoom r units) with
        | none => s.modPde fun p => { p with run := some { r with full := some n } }
        | some k =>
          let at_ := r.used.getD k 0
          let e' : DirEntry :=
            { e with part := k, startUnit := at_, storedLen := form.2, kind := form.1, content := cells
                     segCrc := crc32c (Memory.read cells 0 segBytes) }
          let d := (s.dir r.slot).set n e'
          let done := d.countP fun x => x.kind != .planned
          let s := (s.setDir r.slot d).modPde fun p => { p with run := some { r with used := r.used.set k (at_ + units), dataTo := s.now } }
          if done % 1024 = 0 then s.setRec r.slot { rec_ with doneEntries := done } else s

/-- The record is closed, COMPLETE when nothing stays PLANNED and no part failed, and the rails go (R191–R193). -/
def State.closeSave (s : State) : State :=
  match s.pde.run with
  | none => s
  | some r =>
    let rec_ := s.saveRecord r.slot
    let d := if r.planned then s.dir r.slot else []
    let open_ := if r.planned then d.countP fun e => e.kind = .planned else rec_.planEntries
    let ok : Bool := open_ = 0 ∧ rec_.partsFailed = 0 ∧ r.planned ∧ !r.stopped ∧ s.sec.saveKeys.has r.slot ∧ !s.sec.drbgStopped
    let ms := min ((s.now - r.t0.time) / msNs) 65535
    let closed := if r.stopped then 0#8 else rec_.partsPlanned &&& ~~~rec_.partsFailed
    let s := s.setRec r.slot { rec_ with
      state := if ok then .complete else .incomplete, partsClosed := closed, durationMs := ms
      doneEntries := d.length - open_ }
    let bytes := (d.map fun e => ceilDiv e.storedLen 4096 * 4096).sum
    let ns := r.dataTo - r.dataFrom
    let s := if bytes = 0 ∨ ns = 0 then s
      else
        let rate := bytes * 1000 / ns
        s.modPde fun p =>
          { p with savedRate := some rate
                   budget := { p.budget with rateMbps := min rate (p.testedRate.getD rate) } }
    let s := s.modPde fun p => { p with run := none, lastSaveMs := ms }
    let s := if ok then s.eraseSlot (1 - r.slot) else s
    let s := if ok then s.event 0x2544 0 [rec_.saveSeq, ms] else s.event 0x2545 0 [rec_.saveSeq, rec_.partsFailed.toNat, open_]
    let s := if r.planned then s
      else if rec_.planEntries = 0 then (s.powerLog logPlanWritten rec_.saveSeq).modPwr fun p => { p with unsavedPending := false }
      else s
    s.afterSave

/-- A DRAM rail fails while a save runs: the data phase stops at once (R193). -/
def State.stopData (s : State) : State :=
  match s.pde.run with
  | some r => if r.frozen then (s.modPde fun p => { p with run := some { r with stopped := true } }).closeSave else
      s.modPde fun p => { p with run := some { r with stopped := true } }
  | none => s

end Sys2Proof.Machine
end

