-- ==== Sys2Proof/Machine/RecoverOps.lean ====
section
/-!
DEFINITION. The end of a recovery, and the copy of a segment that the twin supplies (R233, R246, R247, R251–R253).
-/

namespace Sys2Proof.Machine

/-- The fetch of a segment is over; what promotion or recovery kept of it goes. -/
def State.endFetch (s : State) (idx seg : Nat) : State := s.dropFetch (.tier (BitVec.ofNat 20 idx) seg)

/-- Every source open to a segment fails: at a standby that merged lines, the frame is freed, the segment is divergent and its
next frame is refused (R246); anywhere else the segment is POISONED (R253). -/
def State.sourcesFail (s : State) (idx seg : Nat) : State :=
  let s := s.endFetch idx seg
  if s.tmv.masks.any fun m => m.idx == idx && m.seg == seg then
    let e := s.entry idx seg
    let s := match s.frameOfLsn e.frame with
      | some n => s.freeFrame n
      | none => s
    let s := s.setEntry idx seg { e with mstate := .absent, frame := 0, divergent := true }
    s.modTmv fun t =>
      { t with masks := t.masks.filter (fun m => !(m.idx == idx && m.seg == seg))
               records := t.records.filter (fun m => !(m.idx == idx && m.seg == seg))
               refuseNext := (idx, seg) :: t.refuseNext }
  else s.poisonSeg idx seg s.fab.member

/-- No source supplies a DRAM segment: its lines take the poison encoding. It counts as DIRTY, since no flash copy can be read. -/
def State.dramFail (s : State) (lsn : Nat) : State :=
  let s := (s.dropFetch (.dram lsn)).fillSegment lsn []
  let s := s.modDram fun d => { d with poison := (List.range 1024).foldl (fun l i => insertNat (lsn * 1024 + i) l) d.poison }
  (s.dirtySeg lsn).modPde fun p => { p with refills := p.refills.filter (· != lsn) }

/-- Step 2 of R252 for a segment of a region: the twin copy, where the source is open. A READ_REQ outstanding serves. -/
def State.askTwin (s : State) (idx seg : Nat) : Option State :=
  if !s.twinSource (s.desc idx).group then none
  else if s.tmv.reads.any fun r => r.idx == idx && r.seg == seg && r.line.isNone then some s
  else some (s.twinRead idx seg none)

/-! ### The twin copy of a segment (R233, R247, R252) -/

/-- The twin has supplied a segment: the promotion or the recovery of every waiter completes; a DRAM segment that flash could not
supply is filled. Anything else has been overtaken, and the copy is discarded. -/
def State.twinCopy (s : State) (idx seg : Nat) (cells : List Host.Cell) : State :=
  let d := s.desc idx
  if d.tiered then
    match (s.entry idx seg).mstate with
    | .promoting =>
      let s := (s.placeCopy idx seg cells).residentNow idx seg false
      let s := s.modFetch (.tier (BitVec.ofNat 20 idx) seg) fun f => { f with overtaken := true }
      let ready := match s.fetchOf (.tier (BitVec.ofNat 20 idx) seg) with
        | some f => f.ready
        | none => false
      ((if ready then s.endFetch idx seg else s).bump P.fallback_wins).advanceAll
    | .recovering =>
      (((s.endFetch idx seg).placeCopy idx seg cells).residentNow idx seg true |>.bump P.recovered_twin).advanceAll
    | _ => s
  else
    let lsn := d.backing / segBytes + seg
    match s.fetchOf (.dram lsn) with
    | some f =>
      if !f.failed then s
      else
        let s := ((s.dropFetch (.dram lsn)).fillSegment lsn cells).modPde fun p => { p with refills := p.refills.filter (· != lsn) }
        (((s.setSegState lsn .clean).dirtySeg lsn).bump P.recovered_twin).advanceAll
    | none => s

/-- The twin has no copy to give: a promotion waits for its own flash, a recovery is at its end. -/
def State.twinNoCopy (s : State) (idx seg : Nat) : State :=
  let d := s.desc idx
  if d.tiered then
    let last := s.tmv.records.any fun m => m.idx == idx && m.seg == seg && m.stage = .twin
    if (s.entry idx seg).mstate = .recovering && last then (s.sourcesFail idx seg).advanceAll else s
  else
    let lsn := d.backing / segBytes + seg
    match s.fetchOf (.dram lsn) with
    | some f => if f.failed then (s.dramFail lsn).advanceAll else s
    | none => s

end Sys2Proof.Machine
end

