-- ==== Sys2Proof/Machine/FaultOps.lean ====
section
/-!
DEFINITION. Faults: acceptance by FCO, capture and merging, escalation to FTL, and the unit that a fault fences (R25, R26, R98,
R365–R374, R386, R393, R416, Tables 14.5, 14.6, 15.3 and 16.5).
-/

namespace Sys2Proof.Machine

/-! ### Kinds (Table 14.4) -/

namespace Kind

abbrev memCe : Nat := 0x01
abbrev memUe : Nat := 0x02
abbrev parity : Nat := 0x03
abbrev crossing : Nat := 0x04
abbrev timeout : Nat := 0x05
abbrev watchdog : Nat := 0x06
abbrev badFree : Nat := 0x07
abbrev programReject : Nat := 0x08
abbrev mapCorrupt : Nat := 0x09
abbrev caReplay : Nat := 0x0A
abbrev caLimit : Nat := 0x0B
abbrev training : Nat := 0x0C
abbrev clock : Nat := 0x0D
abbrev entropy : Nat := 0x0E
abbrev rail : Nat := 0x0F
abbrev protocol : Nat := 0x10
abbrev refetch : Nat := 0x11

end Kind

/-- A fault message of the device's own making. -/
def faultMsg (block inst : Nat) (cls : FaultClass) (kind detail : Nat) (scope : FaultScope := .logic) (address : Option Nat := none)
    (master : Nat := 0xFF) (access : Nat := 0) : FaultMsg :=
  { block := BitVec.ofNat 8 block, inst := BitVec.ofNat 8 inst, cls := cls, kind := BitVec.ofNat 8 kind, detail := BitVec.ofNat 32 detail
    addrValid := address.isSome, address := BitVec.ofNat 64 (address.getD 0), time := 0, master := BitVec.ofNat 8 master
    access := BitVec.ofNat 4 access, merges := 0, scope := scope }

end Sys2Proof.Machine

namespace Sys2Proof

/-- Code of a class. -/
def FaultClass.code : FaultClass → Nat
  | .ce => 0 | .ucc => 1 | .ftl => 2

def FaultClass.worse (a b : FaultClass) : FaultClass := if a.code < b.code then b else a

/-- A message of the device's own making carries the TIME of its detection. -/
def FaultMsg.detected (m : FaultMsg) (now : Nat) : FaultMsg := { m with time := BitVec.ofNat 64 now }

/-- The capture that a message makes. -/
def FaultMsg.capture (m : FaultMsg) (cls : FaultClass) (seq : Nat) : Machine.Capture :=
  { address := m.address, time := m.time.toNat, detail := m.detail, master := m.master, access := m.access, cls := cls
    addrValid := m.addrValid, merges := 0, code := m.block.toNat * 256 + m.kind.toNat, inst := m.inst.toNat, seq := seq
    units := [m.inst.toNat] }

end Sys2Proof

namespace Sys2Proof.Machine

/-! ### Class (R25, R364, R366) -/

/-- Blocks that lie in CD4 (Table 1.6). -/
def cd4Block (b : Nat) : Bool := b == 0x21 || b == 0x22 || (0x25 ≤ b && b ≤ 0x29)

/-- Rails whose failure is FTL: VDD_LGM_0V8, VDD_LGM_1V8, VDD_CORE, VDD_SRAM (Table 15.3). -/
def fatalRail (r : Nat) : Bool := r == 1 || r == 2 || r == 4 || r == 5

/-- The last clock fault of a domain lies within 1 s. -/
def State.clockAgain (s : State) (d : Nat) : Bool :=
  match s.rst.lastFault.find? d with
  | some t => s.now < t + secNs
  | none => false

/-- Class of a message once FCO has raised it; a CE is never raised. -/
def State.faultClass (s : State) (m : FaultMsg) : FaultClass :=
  let b := m.block.toNat
  let k := m.kind.toNat
  let i := m.inst.toNat
  let d := m.detail.toNat
  let logic := m.scope matches .logic
  if k = Kind.entropy then .ftl
  else if m.cls ≠ .ucc then m.cls
  else if b = 0x01 ∨ b = 0x02 ∨ b = 0x03 ∨ b = 0x06 then .ftl
  else if b = 0x04 then (if k ≠ Kind.rail ∨ fatalRail d then .ftl else .ucc)
  else if k = Kind.crossing ∧ (d = 4 ∨ cd4Block b) then .ftl
  else if b = 0x09 ∧ k ≠ Kind.clock then .ftl
  else if b = 0x09 then
    if i = 4 ∨ i = 38 ∨ i = 39 ∨ ((i = 11 ∨ i = 13) ∧ s.clockAgain i) then .ftl else .ucc
  else if cd4Block b ∧ (k = Kind.parity ∨ logic) then .ftl
  else if b = 0x08 ∧ logic then .ftl
  else .ucc

/-! ### Capture (R368, Table 14.5) -/

/-- Instance at which the fault state of a block instance is held. -/
def captureInst (b i : Nat) : Nat := if b == 0x03 || b == 0x26 || b == 0x28 then 0 else i

/-- Store or merge `last_fatal` (R371): the first is kept until it has been read after the next cold start. -/
def State.storeFatal (s : State) (c : Capture) : State :=
  s.modFco fun x => match x.lastFatal with
    | some l => if x.lastFatalCold ∧ x.lastFatalRead then { x with lastFatal := some c, lastFatalCold := false, lastFatalRead := false }
        else { x with lastFatal := some { l with merges := min (l.merges + 1) 0xFFFF } }
    | none => { x with lastFatal := some c, lastFatalCold := false, lastFatalRead := false }

/-- Accept a message: fault_seq, counters, status bits, the capture, the event record. -/
def State.acceptFault (s : State) (m : FaultMsg) (cls : FaultClass) : State :=
  let b := m.block.toNat
  let key := b * 256 + captureInst b m.inst.toNat
  let merges := m.merges.toNat
  let seq := (s.fco.seq + 1) % 2 ^ 32
  let s := s.modFco fun x => { x with seq := seq }
  let s := s.bump (match cls with | .ce => P.faults_ce | .ucc => P.faults_ucc | .ftl => P.faults_ftl)
  let s := s.bump (blkParam P.blk_faults key) 0 (1 + merges)
  let st := blkParam P.blk_fault_status key
  let s := s.setFlag st cls.code merges
  let s := if cls = .ce then s
    else match s.fco.captures.find? key with
      | some c =>
        (s.setFlag st 3 merges).modFco fun x =>
          let units := if c.units.contains m.inst.toNat then c.units else c.units ++ [m.inst.toNat]
          let c := { c with merges := min (c.merges + 1 + merges) 0xFFFF, cls := c.cls.worse cls, units := units }
          { x with captures := x.captures.set key c }
      | none =>
        (s.setFlagIf (merges != 0) st 5 merges).modFco fun x => { x with captures := x.captures.set key (m.capture cls seq) }
  let word := place 8 m.master.toNat + place 4 m.access.toNat + place 2 cls.code + place 1 (flag m.addrValid)
  let sev := match cls with | .ce => 2 | .ucc => 4 | .ftl => 6
  let s := s.recordWith (b * 256 + m.kind.toNat) m.inst.toNat sev (cls == .ftl) true
    [m.address.toNat, m.detail.toNat, word, seq + place 32 merges]
  let c := m.capture cls seq
  if cls = .ftl then s.storeFatal { c with merges := merges } else s

/-! ### Units that are fenced (Table 14.6) -/

/-- A host port's link goes down. -/
def State.hostLinkDown (s : State) (p : Nat) : State :=
  if (s.port p).linkUp then
    let s := { s with paused := s.paused.filter fun o => !o.onPort p }
    (((s.modPort p fun _ => {}).event 0x3040 p [0]).bump (perInst P.port_link_downs p)).dropPortAdjs p
  else s

/-- A resync loses its link: at the source the segments of its uncovered frames are divergent again, and the target's next
RESYNC_BEGIN opens a new one; the target asks again (R231). -/
def State.resyncBreak (s : State) (g : Nat) : State :=
  let gr := s.grp g
  let s := match gr.source with
    | some r =>
      let s := s.setDivergents (s.uncoveredSegs g ++ r.again ++ r.todo)
      (s.modGrp g fun x => { x with source := none, frames := [] }).advanceAll
    | none => s
  s.modGrp g fun x => { x with target := match x.target with
    | some t => some { t with answered := false }
    | none => none }

/-- Frames of a port that is lost are sent again on the other (R204, Table 8.15). -/
def State.resendFrom (s : State) (p : Nat) : State :=
  (s.mir.groups.map (·.1)).foldl (fun s g =>
    ((s.grp g).frames.filter fun f => f.port == p && f.sentAt.isSome).foldl (fun s f => s.transmit g f true) s) s

/-- No twin port is up: each ACTIVE group declares SOLO, resyncs break off, and no READ_REQ will be answered (Table 8.14, R233). -/
def State.twinLost (s : State) : State :=
  let s := (s.mir.groups.map (·.1)).foldl (fun s g => (s.declareSolo g).resyncBreak g) s
  let reads := s.tmv.reads
  let s := s.modTmv fun t => { t with reads := [] }
  reads.foldl (fun s r => if r.line.isSome then s else s.twinNoCopy r.idx r.seg) s

/-- A twin port leaves HELLO state UP. -/
def State.twinPortLost (s : State) (p : Nat) : State :=
  if s.tportUp (1 - p) then s.resendFrom p else s.twinLost

/-- A twin port's link goes down; the twin-link session ends when both are down (R213). -/
def State.twinLinkDown (s : State) (p : Nat) : State :=
  if (s.tport p).linkUp then
    let up := s.tportUp p
    let s := (s.modTport p fun t => { t with linkUp := false, state := .down, windowKib := none, delays := [] }).event 0x3140 p [0]
    let s := s.bump (perInst P.port_link_downs (4 + p))
    let s := if (s.tport 0).linkUp || (s.tport 1).linkUp then s else s.modMir fun m => { m with mpv := 0 }
    if up then s.twinPortLost p else s
  else s

/-- A port of CD5–CD10 goes down: a PORT reset drops its link. -/
def State.portDown (s : State) (p : Nat) : State :=
  if p < 4 then s.hostLinkDown p else s.twinLinkDown (p - 4)

def State.holdDomain (s : State) (d : Nat) : State :=
  s.modRst fun r => { r with inReset := if r.inReset.contains d then r.inReset else r.inReset ++ [d] }

/-- The staged addresses of a port become effective at a reset whose scope includes it (R47, Table 4.17). -/
def State.portStaged (s : State) (p : Nat) : State :=
  s.applyStaged fun n => decide (p < 4) && (n == perInst P.port_ipv4_addr p || n == perInst P.port_ipv6_addr p)

/-- A PORT reset: the link drops, queue pairs are unchanged (R98). -/
def State.portReset (s : State) (p : Nat) : State :=
  ((s.portDown p).portStaged p |>.bump P.domain_resets (5 + p)).holdDomain (5 + p)

/-- Fence key of a port. -/
def portFence (p : Nat) : Nat := if p < 4 then 0x3000 + p else 0x3100 + (p - 4)

/-- FCO fences a port: its link drops, and every queue pair of a host port moves to ERROR (R98, R204). -/
def State.fencePort (s : State) (p : Nat) : State :=
  let s := ((s.portDown p).portStaged p).bump P.domain_resets (5 + p)
  let s := s.modRst fun r => { r with fenced := if r.fenced.contains (5 + p) then r.fenced else insertNat (5 + p) r.fenced }
  let s := s.addFence (portFence p)
  if p < 4 then
    (s.xpt.qps.keysWhere fun _ q => s.portOfIp q.ctx.localIp.toNat == some p && q.ctx.kind == 0 && q.state = .ready).foldl
      (fun s n => s.enterError n Cause.portFenced) s
  else s.modTport (p - 4) fun t => { t with fenced := true }

def State.fencePorts (s : State) : State := (List.range 6).foldl State.fencePort s

/-- A domain is gated and fenced for a clock fault (bit 4 of `clk_status` is its condition). -/
def State.clockFence (s : State) (d : Nat) : State :=
  let s := s.modRst fun r =>
    { r with clkFenced := if r.clkFenced.contains d then r.clkFenced else insertNat d r.clkFenced
             fenced := if r.fenced.contains d then r.fenced else insertNat d r.fenced }
  s.setFlag P.clk_status 4

/-- A domain is reset and stays gated and fenced for a clock fault. -/
def State.domainOut (s : State) (d : Nat) : State := ((s.bump P.domain_resets d).holdDomain d).clockFence d

/-- Reset of CD11 (Table 14.6): queue pairs with a message in progress enter ERROR, the others stay READY; what was admitted and not
placed goes with XPT's working state. -/
def State.xptReset (s : State) : State :=
  let busy := s.xpt.qps.keysWhere fun _ q => q.state = .ready && (!q.msgs.isEmpty || q.inProgress.isSome)
  let s := busy.foldl (fun s n => s.enterError n Cause.channelHalt) s
  let s := s.modXpt fun x => { x with qps := s.closeFabricQps, waiting := [], rq0 := [], rq1 := [] }
  let s := s.modPde fun p => { p with awgs := p.awgs.map fun a => { a with issued := false } }
  let s := s.modReg fun g => { g with cache := [] }
  let s := s.applyStaged fun n => n / 2 ^ 28 == 7 && n / 65536 % 4096 < 0x10 || n / 2 ^ 28 == 8
  let s := s.zeroCounters fun n => n / 2 ^ 28 == 7 && n / 65536 % 4096 < 0x10 || n / 2 ^ 28 == 8
  (s.bump P.domain_resets 11).holdDomain 11

/-- Abandon every job of the storage pipeline (rows "Program failure, or a flash or pipeline fault" of Table 7.2). -/
def State.abandonDrains (s : State) : State :=
  s.modPde fun p =>
    { p with drains := []
             segs := p.segs.mapVals fun _ g => if g.state = .draining ∨ g.state = .redirty then { g with state := .dirty } else g }

/-- A cluster is reset: the window sessions that its cores opened close (R62, R416). -/
def State.clusterReset (s : State) (c : Nat) : State :=
  ((s.resetClusters (· == c)).bump P.domain_resets c).holdDomain c

/-- A core is restarted; the third restart of a cluster's cores within 1 s resets the cluster (Table 14.6). -/
def State.coreRestarted (s : State) (core cause : Nat) : State :=
  let c := core / 4
  let s := s.event 0x1040 core [core, cause]
  let l := (c, s.now) :: s.rst.restarts.filter fun r => s.now < r.2 + secNs
  let third := l.countP (fun r => r.1 == c) ≥ 3
  let s := s.modRst fun r => { r with restarts := if third then l.filter (fun x => x.1 != c) else l }
  if third then (s.event 0x1041 c [c]).clusterReset c else s

/-- A flash channel is fenced (Table 12.4): the first of a carrier in service retires it, a second takes it OFFLINE, and a carrier
that attaches is refused. -/
def State.fenceFlash (s : State) (ch : Nat) : State :=
  let n := ch / 4
  let c := s.carrier n
  if c.fenced.getLsbD (ch % 4) then s
  else
    let others := c.fenced != 0
    let s := s.modCarrier n fun c => { c with fenced := c.fenced ||| (1#4 <<< (ch % 4)) }
    let s := (s.addFence (0x5000 + ch)).setFlag (perInst P.car_err_status n) 5
    if c.state = .attaching then (s.modCarrier n fun c => { c with state := .refused, refuseReason := 6, pwren := false }).event 0x5041 n [6]
    else if others then s.carrierOffline n
    else (s.retireCarrier n true).evalArea

/-- The channel of the agent that holds or frees a buffer (Table 3.11), by its tag: a job of PDE is named by the LSN of its segment, one
of TMV by the LSN of its frame (DESIGN CHOICE: the spec gives a unit no number). -/
def State.haltChannel (s : State) (tag id : Nat) : State :=
  match tag with
  | 0 => s.enterError id Cause.channelHalt
  | 1 => s.declareSolo id
  | 2 => s.haltPde id
  | 3 => match (s.frameOfLsn id).bind s.tmv.frames.find? with
    | some f => s.haltMigration f.idx f.seg
    | none => s
  | 4 => s.dropAdj id
  | 5 => s.coreRestarted (id % 16) 0
  | 6 => s.addFence (0x2400 + id % 4)
  | 7 => s.addFence (0x2300 + (6 + id % 4))
  | _ => s

/-! ### Clocks (Table 16.5) -/

def State.clockFault (s : State) (d : Nat) : State :=
  let again := s.clockAgain d
  let s := (s.bump P.domain_clock_faults d).setFlag P.clk_status 3
  let s := s.modRst fun r => { r with lastFault := r.lastFault.set d s.now }
  if d < 4 then
    if again then ((s.clusterReset d).clockFence d).addFence (0x0900 + d) else s.clusterReset d
  else if 5 ≤ d ∧ d ≤ 10 then
    if again then ((s.fencePort (d - 5)).clockFence d).addFence (0x0900 + d) else s.portReset (d - 5)
  else if d = 11 then (if again then s else s.xptReset)
  else if d = 12 then
    if again then s.fencePorts else (s.bump P.domain_resets 12).holdDomain 12
  else if d = 13 then
    if again then s else ((s.abandonDrains).bump P.domain_resets 13).holdDomain 13
  else if 14 ≤ d ∧ d ≤ 29 then ((s.fenceChannel (d - 14) 1).domainOut d).addFence (0x0900 + d)
  else if 30 ≤ d ∧ d ≤ 37 then
    ((((List.range 4).foldl (fun s k => s.fenceFlash (4 * (d - 30) + k)) s).carrierOffline (d - 30)).domainOut d).addFence (0x0900 + d)
  else s

/-! ### Rails (Table 15.3, R387, R393) -/

/-- Carriers whose sockets are powered. -/
def State.carriersOffline (s : State) : State := (List.range 8).foldl State.carrierOffline s

/-- Channels of the sets that a DIMM_BULK entry feeds. -/
def setChannels (sets : Nat) : List Nat := (List.range 16).filter fun ch => bit sets (ch / 4)

/-- Consequence of a rail failure outside SAVE; FTL rails act through the fatal stop. -/
def State.railFence (s : State) (r : Nat) : State :=
  if r = 3 then ((s.addFence 0x0700).addFence 0x0600).modStore fun x => { x with pmbusFenced := true }
  else if r = 6 ∨ r = 7 then s.fencePorts
  else if r = 8 then (List.range 16).foldl (fun s ch => if (s.mc ch).state = .absent then s else s.fenceChannel ch 1) s
  else if r = 9 then s.carriersOffline
  else if 10 ≤ r ∧ r ≤ 17 then s.carrierOffline (r - 10)
  else if r ≥ 32 then
    let e := s.pmbusEntry (r - 32)
    if PmbusField.role e = 1 then
      (setChannels (PmbusField.sets e)).foldl (fun s ch => if (s.mc ch).state = .absent then s else s.fenceChannel ch 1) s
    else s.addFence 0x0400
  else s

/-- What PWR reports to PDE of a rail that fails while a save runs (R193, R393). -/
def State.railInSave (s : State) (r : Nat) : State :=
  if r = 8 ∨ (r ≥ 32 ∧ PmbusField.role (s.pmbusEntry (r - 32)) = 1) then s.stopData
  else if r = 9 then (List.range 8).foldl State.failPart s
  else if 10 ≤ r ∧ r ≤ 17 then s.failPart (r - 10)
  else s

/-! ### FCO (R366–R371) -/

/-- The fence of Table 14.6 for a UCC. -/
def State.containFault (s : State) (m : FaultMsg) : State :=
  let i := m.inst.toNat
  let k := m.kind.toNat
  match m.block.toNat, m.scope with
  | 0x07, _ => s.holdDomain 39
  | 0x30, _ => s.fencePort (i % 4)
  | 0x31, _ => s.fencePort (4 + i % 2)
  | 0x20, .content id => s.enterError id Cause.channelHalt
  | 0x20, .logic => s.xptReset
  | 0x21, .content id => (s.modQp id fun q => { q with logDead := true }).enterError id Cause.channelHalt
  | 0x22, .content id => s.haltChannel (m.master.toNat - 0x10) id
  | 0x23, _ => if i < 6 then s.fencePort i else s.addFence (0x2300 + i)
  | 0x24, _ => s.addFence (0x2400 + i)
  | 0x25, .content id => s.haltPde id
  | 0x26, .content _ => s.declareSolo i
  | 0x27, .content id => s.haltChannel 3 id
  | 0x28, .content _ => s.dropAdj i
  | 0x29, .content _ => s.modDram fun d => { d with scrubLine := d.scrubLine + 1 }
  | 0x40, .content _ => s.newUncorrected m.address.toNat
  | 0x40, .logic =>
    if k = Kind.caLimit then (s.setFlag (perInst P.mc_err_status i) 3).fenceChannel i 2
    else (s.setFlagIf (k == Kind.training) (perInst P.mc_err_status i) 4).fenceChannel i 1
  | 0x50, .logic => s.fenceFlash i
  | 0x08, .content id =>
    let mine := fun (r : EvtRec) => r.seq == id && !r.torn
    (s.bumpIf (s.evr.reserved.any mine || s.evr.general.any mine) P.evt_torn).modEvr fun e =>
      { e with reserved := e.reserved.map (fun r => if r.seq = id then { r with torn := true } else r)
               general := e.general.map (fun r => if r.seq = id then { r with torn := true } else r) }
  | 0x10, _ => s.coreRestarted (i % 16) k
  | 0x09, _ => if k = Kind.clock then s.clockFault i else s
  | 0x04, _ => if k ≠ Kind.rail then s else if s.mode = .save then s.railInSave m.detail.toNat else s.railFence m.detail.toNat
  | _, _ => s

/-- Rows of Table 14.6 that cite another rule, which decides the fence also while the instance is CAPTURED. -/
def fenceByRule (b : Nat) : Bool := b == 0x10 || b == 0x40 || b == 0x50 || b == 0x09 || b == 0x04

/-- FCO accepts a fault message. A CE has no fence; a UCC fences its unit unless its instance is CAPTURED for an earlier fault of the
same unit (R26); an FTL stops the device. Nothing is accepted while CD39 is held in reset. -/
def State.faultBus (s : State) (m : FaultMsg) : State :=
  let b := m.block.toNat
  let key := b * 256 + captureInst b m.inst.toNat
  if s.mode = .off ∨ !blockInstance b (captureInst b m.inst.toNat) then s
  else
    let cls := s.faultClass m
    let fenced : Bool := match s.fco.captures.find? key with
      | some c => c.units.contains m.inst.toNat
      | none => false
    let clk := b == 0x09 && m.kind.toNat == Kind.clock
    let s := s.acceptFault m cls
    match cls with
    | .ce => s
    | .ucc => if !fenced || fenceByRule b then s.containFault m else s
    | .ftl =>
      let rail := b == 0x04 && m.kind.toNat == Kind.rail
      let s := if clk then s.clockFault m.inst.toNat else s
      s.fatalStop (b * 256 + m.kind.toNat) s.fco.seq (rail && fatalRail m.detail.toNat || clk && m.inst.toNat == 39 && m.detail.toNat == 0)
        (b == 0x01 || b == 0x02 || b == 0x03 || b == 0x06 || (b == 0x04 && !rail) || (clk && m.inst.toNat == 39))

/-- A fault that the device finds itself. -/
def State.fault (s : State) (m : FaultMsg) : State := s.faultBus (m.detected s.now)

/-- CRY refuses a key whose halves are equal: the operation that supplied it fails as a fault of the job that owns it (R345). The spec
names no kind for it; PROTOCOL with the rule's number is the model's (assumption 190). -/
def State.keyFault (s : State) (block id : Nat) : State := s.fault (faultMsg block 0 .ucc Kind.protocol 345 (.content id))

/-- The MC finds a new uncorrected line through a requester port: UCC for the line (R302). -/
def State.lineFault (s : State) (rq a : Nat) (access : Nat := 1) : State :=
  s.fault (faultMsg 0x40 (s.channelOf a) .ucc Kind.memUe ((Config.lineLocation a).toNat / 2 ^ 32) (.content (a / 64)) (some a) rq access)

def State.lineFaults (s : State) (rq access : Nat) (l : List Nat) : State := l.foldl (fun s a => s.lineFault rq a access) s

/-- The MC corrects a line (R298): CE, `mc_ce`, and the location of a first error. -/
def State.lineCorrected (s : State) (rq a : Nat) : State :=
  let ch := s.channelOf a
  let s := (s.bump (perInst P.mc_ce ch)).setFlag (perInst P.mc_err_status ch) 0
  let s := s.modMc ch fun m => { m with firstErrLoc := if m.firstErrLoc = 0 then Config.lineLocation a else m.firstErrLoc }
  let dev := (Config.failedDevice s.freeCount).toNat
  (s.tick.fault (faultMsg 0x40 ch .ce Kind.memCe dev .logic (some a) rq 1)).pageCe a

/-- A rail fails (R386): FAILED, RAIL_FAIL, and the RAIL fault; during a power-down it counts as already lowered (R393). -/
def State.railFail (s : State) (r mv : Nat) : State :=
  let down := s.pwr.falling || s.mode = .save
  let s := (s.setRail r .failed).bump P.rail_failures
  let s := s.event 0x0443 r [r, mv, flag down]
  let s := if down && !s.pwr.firstFailLogged then
      (s.powerLog logFirstFail s.pde.saveSeq r mv).modPwr fun p => { p with firstFailLogged := true }
    else s
  if s.pwr.falling then s
  else s.fault (faultMsg 0x04 0 .ucc Kind.rail r (.content r))

end Sys2Proof.Machine
end

