-- ==== Sys2Proof/Machine/BootOps.lean ====
section
/-!
DEFINITION. The boot NOR: image slots, their headers, and the checks of R355 that the slot's bytes decide (Table 13.4).
-/

namespace Sys2Proof.Machine

/-- The slot: false A, true B. -/
def State.imageSlot (s : State) (b : Bool) : ImageSlot := if b then s.sec.slotB else s.sec.slotA

def State.modSlot (s : State) (b : Bool) (f : ImageSlot → ImageSlot) : State :=
  s.touchLgm.modSec fun x => if b then { x with slotB := f x.slotB } else { x with slotA := f x.slotA }

/-- Octets of a slot; a byte that has not been written since the erase reads as 0xFF. -/
def ImageSlot.read (t : ImageSlot) (o n : Nat) : Bytes := (List.range n).map fun i => t.bytes.getD (o + i) 0xFF

/-- Octets of the header. -/
def ImageSlot.header (t : ImageSlot) : Bytes := t.read 0 512

/-- Check 1 of R355: magic, format and crc. -/
def headerSound (h : Bytes) : Bool := leAt h 508 4 == 0x4E524854 && leAt h 506 2 == 0x0100 && leAt h 0 4 == crc32c (h.drop 4)

/-- security_version, image_len, version and image_digest of a header. -/
def headerSecurity (h : Bytes) : Nat := leAt h 496 4
def headerLen (h : Bytes) : Nat := leAt h 500 4
def headerVersion (h : Bytes) : Bytes := slice h 460 32
def headerDigest (h : Bytes) : Bytes := slice h 412 48

/-- The first of checks 1 to 5 that fails; 0 when all pass. -/
def State.headerStep (s : State) (h : Bytes) (v : HeaderOutcome) : Nat :=
  if !headerSound h then 1
  else if !v.rootIntact then 2
  else if !v.signerOk then 3
  else if !v.imageOk then 4
  else if headerSecurity h < s.sec.minSecurity then 5
  else 0

end Sys2Proof.Machine
end

