-- ==== Sys2Proof/Machine/RegisterOps.lean ====
section
/-!
DEFINITION. Registration of a region and the preparation of its backing (R72, R73, R82, R236, R255, R447, Tables 3.6 and 3.7).
-/

namespace Sys2Proof.Machine

/-! ### The extended capacity (R255) -/

def State.tierCapacity (s : State) : Nat := s.usableDeep - s.usableDeep / 100 - s.dramBytes
def State.tierProvisioned (s : State) : Nat :=
  (s.reg.descs.map fun e => if e.2.state ≠ .free && e.2.tiered then e.2.lengthSeg * segBytes else 0).sum
def State.tierStored (s : State) : Nat :=
  (s.flash.deep.map fun e => if 0x10000000 ≤ e.1 && !e.2.noRead then e.2.units * 4096 else 0).sum

/-- Home LSNs (R237). -/
abbrev firstHome : Nat := 0x10000000
abbrev homeCount : Nat := 0xF0000000

/-! ### A registration argument (Table 3.6) -/

/-- The descriptor that a registration asks for. DESIGN CHOICE (Table 3.3 has tier_attr 0 outside EXTENDED and STREAM,
Table 3.6 has it copied): it is copied for every class. -/
def regDesc (w : Nat) : Desc :=
  { cookie := BitVec.ofNat 64 (bits w 255 192), tierAttr := BitVec.ofNat 32 (bits w 191 160), pd := BitVec.ofNat 16 (bits w 143 128)
    group := bits w 119 112, rights := rightsOf (bits w 111 104), cls := bits w 103 96, lengthSeg := bits w 95 64
    base := bits w 63 0, state := .valid }

/-- Class and group agree with Table 3.2. -/
def classGroup (cls group : Nat) : Bool :=
  match cls with
  | 0 => group != 255
  | 1 | 2 => group == 255
  | 3 | 4 => true
  | _ => false

/-- DRAM segments that a region takes: its backing, or its segment map. -/
def Desc.dramSegs (d : Desc) : Nat := if d.tiered then d.mapSegs else d.lengthSeg

/-- A place that firmware may give a region: whole segments of the domain outside the device areas, the tier frames, the sets out of
service and every other region. -/
def State.placeOk (s : State) (d : Desc) (a : Nat) : Bool :=
  let first := a / segBytes
  a % segBytes == 0 && 0 < d.dramSegs && a + d.dramSegs * segBytes ≤ s.dramBytes && s.setOf first == s.setOf (first + d.dramSegs - 1) &&
  (List.range d.dramSegs).all fun i =>
    let n := first + i
    s.framesAt ≤ s.areaOf n && (s.frameOfLsn n).isNone && (s.inMap n).isNone && (s.regionOfLsn n).isNone && !s.pendingHolds n && !s.setFenced (s.setOf n)

/-- The frames that a registration needs can be had (R236). -/
def State.framesOk (s : State) (d : Desc) : Bool :=
  !d.tiered || (s.tmv.totalFrames > 0 && (d.cls != clsStream || d.window + 128 * 16384 ≤ s.sharedFrames))

/-- First failure reason of a registration, up to NO_FLASH, in the order of R82. -/
def State.regFails (s : State) (w : Nat) (backing : Option Nat) : Option Nat :=
  let d := regDesc w
  let r := bits w 111 104
  if !classGroup d.cls d.group then some 0x06
  else if r / 64 ≠ 0 ∨ (d.cls = clsScratch ∧ (d.rights.durable ∨ d.rights.awg)) ∨ (d.cls = clsStream ∧ d.rights.atomic) then some 0x07
  else if d.base % segBytes ≠ 0 ∨ d.lengthSeg = 0 ∨ d.base + segBytes * d.lengthSeg > 2 ^ 52 then some 0x02
  else if d.group ≠ 255 ∧ !s.twinActive d.group then some 0x08
  else if s.overlapsRegion d then some 0x01
  else if s.reg.descs.countWhere (fun i e => i < maxRegions && e.state ≠ .free) ≥ maxRegions then some 0x03
  else if !s.framesOk d ∨ !(match backing with | some a => s.placeOk d a | none => false) then some 0x04
  else if d.tiered ∧ (100 * (s.tierProvisioned + d.lengthSeg * segBytes) > s.tierCapacity * s.param P.tier_provision_pct ∨
      d.lengthSeg > homeCount - s.tmv.homes.length) then some 0x05
  else none

/-- The lowest FREE index. -/
def State.freeIndex (s : State) : Nat := ((List.range maxRegions).find? s.idxFree).getD 0

/-! ### Preparation of the backing (R447) -/

/-- What was in progress on the DRAM segments of a backing, under an earlier region, goes: fetches, refills and drains. -/
def State.clearJobs (s : State) (within : Nat → Bool) : State :=
  let mine := fun (f : Fetch) => match f.key with
    | .dram lsn => within lsn
    | .tier .. => false
  (s.modTmv fun t => { t with fetches := t.fetches.filter fun f => !mine f }).modPde fun p =>
    { p with refills := p.refills.filter fun n => !within n, drains := p.drains.filter fun x => !within x.lsn }

/-- MIRRORED and LOCAL: no deep-store copy, and every segment ABSENT. EXTENDED and STREAM: the segment map is zero. SCRATCH has no
drain state, and is zeroed by Reel, whose completion is a command of its own. -/
def State.prepare (s : State) (idx : Nat) (d : Desc) : State :=
  let first := d.backing / segBytes
  let s := s.clearJobs fun n => first ≤ n && n < first + d.dramSegs
  if d.cls = clsScratch then (List.range d.lengthSeg).foldl (fun s i => s.setSeg (first + i) {}) s
  else if d.tiered then
    let s := s.modTmv fun t => { t with maps := t.maps.filter fun e => e.1 / 2 ^ 32 != idx }
    let s := if d.cls == clsStream then s.shrinkShared d.window s.tmv.frames.length else s
    let s := s.dramZero d.backing (d.mapSegs * segBytes)
    s.dirtySegs ((List.range d.mapSegs).map (first + ·))
  else
    let within := fun (n : Nat) => first ≤ n && n < first + d.lengthSeg
    let s := s.modFlash fun f => { f with deep := f.deep.filter fun e => !within e.1 }
    (List.range d.lengthSeg).foldl (fun s i => s.setSeg (first + i) { state := .absent }) s

/-- The descriptor is written, and the command reports the AK. -/
def State.endRegister (s : State) (idx : Nat) (d : Desc) (cmd : Bool) : State :=
  let s := (s.setDesc idx { d with state := .valid }).modReg fun g => { g with pendingReg := none }
  if cmd then s.done P.region_register (leBytes 4 (akOf idx d.gen)) else s

/-- What is still owed to a registration is checked. -/
def State.checkRegister (s : State) : State :=
  match s.reg.pendingReg with
  | some p => if p.waitTwin || p.waitZero then s else s.endRegister p.idx p.desc true
  | none => s

/-- Register a region: local backing first, then the twin, then the descriptor (R82, R86, R447). -/
def State.registerRun (s : State) (num w : Nat) (backing : Option Nat) : State :=
  match s.regFails w backing with
  | some r => s.failed num r
  | none =>
    let idx := s.freeIndex
    let d := { regDesc w with gen := (s.desc idx).gen, backing := backing.getD 0 }
    let s := s.prepare idx d
    let twin := d.group != 255
    let s := s.modReg fun g => { g with pendingReg := some { idx := idx, desc := d, waitTwin := twin, waitZero := d.cls == clsScratch } }
    let s := if twin then s.sendConfig d.group cfgRegister idx (leBytes 64 d.word) num else s
    s.checkRegister

/-! ### Revocation (R83–R86) -/

/-- The revoke point: the generation advances and the descriptor drains; a deregistration also clears the rights. -/
def State.revoke (s : State) (num idx : Nat) (dereg : Bool) : State :=
  let d := s.desc idx
  let d' := { d with gen := nextGen d.gen, state := .draining, dereg := dereg, rights := if dereg then {} else d.rights }
  let twin := s.twinActive d.group && !dereg
  let s := (s.setDesc idx d').modReg fun g =>
    { g with drains := g.drains.set idx { oldGen := d.gen, cmd := num, configOut := twin, configDone := !twin } }
  let s := if twin then s.sendConfig d.group cfgRekey idx (leBytes 64 d'.word) num else s
  s.checkDrain idx

/-- `region_rekey` and `region_deregister` on an AK. -/
def State.revokeRun (s : State) (num ak : Nat) (dereg : Bool) : State :=
  let d := s.desc (akIndex ak)
  if akIndex ak ≥ maxRegions ∨ d.state ≠ .valid then s.failed num 0x0A
  else if d.gen ≠ akGen ak then s.failed num 0x0B
  else s.revoke num (akIndex ak) dereg

end Sys2Proof.Machine
end

