-- ==== Sys2Proof/Machine/Persistence.lean ====
section
/-!
DEFINITION. Meanings of the persistence commands (chapter 7): atomic write groups, the permitted budget, Promenade, refill, the save
and restore.
-/

namespace Sys2Proof.Machine

/-! ### Atomic write groups (R198, Table 7.7) -/

/-- Write octets into the redo ring from a byte offset; the ring wraps. -/
def State.redoWrite (s : State) (off : Nat) : Bytes → Nat → State
  | _, 0 => s
  | b, n + 1 =>
    let at_ := off % (redoSegs * segBytes)
    let k := min b.length (segBytes - at_ % segBytes)
    if k = 0 then s
    else
      let lsn := s.areaLsn (s.redoAt + at_ / segBytes)
      let t := s.dramWrite (lsn * segBytes + at_ % segBytes) (b.take k)
      (t.wroteSeg lsn (t.segDiffers s lsn)).redoWrite (off + k) (b.drop k) n

/-- Give each extent its share of the data that follows the extent list. -/
def fillExtents (b : Bytes) (lens : List Nat) : List (Nat × Nat × Bytes) → List (Nat × Nat × Bytes)
  | [] => []
  | (i, o, _) :: t => (i, o, b.take (lens.headD 0)) :: fillExtents (b.drop (lens.headD 0)) lens.tail t

/-- Octets of a group's extent list and data: as received of its message, or of its unit at the twin. -/
def State.awgStream (s : State) (a : Awg) : Bytes :=
  if a.twin then a.stream
  else match (s.qp a.qpn).msg a.msg with
    | some m => m.data
    | none => []

/-- A STAGING group that has arrived whole: its message without a verdict, or its unit. -/
def State.awgArrived (s : State) (a : Awg) : Bool :=
  a.state = .staging && (a.twin || match (s.qp a.qpn).msg a.msg with
    | some m => m.ended && m.verdict.isNone
    | none => false)

/-- The oldest group that has arrived whole is staged on RQ6. -/
def State.awgStage (s : State) : State :=
  match s.pde.awgs.find? s.awgArrived with
  | none => s
  | some a =>
    let b := s.awgStream a
    let lens := (awgExtents a.extents.length b).map (·.2.2)
    let ext := fillExtents (b.drop (16 * a.extents.length)) lens a.extents
    let s := (s.redoWrite a.redoOffset (b ++ List.replicate (a.redoLen - b.length) 0) (redoSegs + 2)).rqCount 6 a.redoLen
    s.modAwgs a.same fun x => { x with state := .staged, stream := b, extents := ext }

def execAwgStageComplete (s : State) : Host.Outcome State Fault Refusal := .next s.awgStage

/-- The COMMITTED record of the oldest staged group is written, and its frames take their numbers (R152, R207). A record of the same ring position, 1,048,576 commits ago, is overwritten. -/
def State.awgCommit (s : State) : State :=
  match s.pde.awgs.find? (·.state = .staged) with
  | none => s
  | some a =>
    let mir := !a.twin && s.mirrors a.group && s.mpv2
    let r := if mir then s.issueUnit a.group a.stream a.redoLen a.extents.length else (s, a.mirrorSeq, a.mirrorSeq)
    let n := s.pde.awgSeq
    let s := r.1.bump P.awg_commits
    let s := s.modPde fun p =>
      { p with awgSeq := n + 1
               awgs := (p.awgs.filter fun x => !((x.state = .applied || x.state = .left) && x.seqNo + 1048576 == n)).map fun x =>
                 if x.same a then
                   { x with state := .committed, seqNo := n, mirrorSeq := r.2.1
                            epoch := if a.twin then a.epoch else if a.group = 255 then 0 else (s.grp a.group).epoch }
                 else x }
    if a.twin then s.modGrp a.group fun g => { g with mackDue := true }
    else s.modMsg a.qpn a.msg fun m =>
      { m with lastSeq := if mir then r.2.2 else m.lastSeq, mirrored := m.mirrored || mir }

def execAwgCommitWritten (s : State) : Host.Outcome State Fault Refusal := .next s.awgCommit.advanceAll

/-- Place the extents of a group. -/
def State.applyExtents (s : State) (a : Awg) : State :=
  a.extents.foldl (fun s e =>
    (pieces e.2.1 e.2.2.length).foldl (fun s p =>
      (s.placeJob { qpn := if a.twin then 2 ^ 18 else a.qpn, msg := a.msg, idx := e.1, off := p.1
                    op := .write (slice e.2.2 (p.1 - e.2.1) p.2), mirrored := !a.twin && a.mirrorSeq != 0 } []).1) s) s

/-- The apply of a group completes, in its turn on RQ0; the record is rewritten APPLIED. -/
def State.awgApply (s : State) (n : Nat) : State :=
  match s.xpt.rq0, s.pde.awgs.find? (fun a => a.state = .committed && a.seqNo == n) with
  | j :: t, some a =>
    if j.op ≠ .awg n then s
    else
      let s := s.modXpt fun x => { x with rq0 := t }
      let s := (s.applyExtents a).rqCount 0 ((a.extents.map (·.2.2.length)).sum)
      let s := s.modAwgs a.same fun x => { x with state := .applied, stream := [] }
      (if a.twin then s else s.modMsg a.qpn a.msg fun m => { m with awgDone := true }).advanceAll
  | _, _ => s

def execAwgApplyComplete (awgSeq : BitVec 64) (s : State) : Host.Outcome State Fault Refusal := .next (s.awgApply awgSeq.toNat).settle

/-! ### The permitted budget (R182–R184) -/

/-- Lowest HOLD_BUS voltage of the last second. -/
def State.holdLow (s : State) : Nat :=
  match s.store.holdLog.filter fun r => s.now < r.1 + secNs with
  | [] => s.store.holdMv
  | a :: t => t.foldl (fun m r => min m r.2) a.2

/-- b_energy of R182 at a voltage, as a numerator and a denominator, in bytes. With C in mF and V in mV, E is
C × (V² − Vmin²) × efficiency ÷ (2 × 10^11) joules. -/
def State.energyAt (s : State) (mv : Nat) : Int × Int :=
  let v : Int := mv
  let vmin : Int := s.param P.hold_vmin_mv
  let e : Int := (s.store.capMf : Int) * (v * v - vmin * vmin) * s.param P.hold_efficiency_pct
  let pm : Int := max (s.param P.save_power_w) s.pde.budget.powerW * s.param P.save_margin_pct
  let rate : Int := min (7000000000 * s.readyCarriers.length) (s.pde.budget.rateMbps * 1000000)
  let den : Int := 200000000000 * pm * 1000
  (rate * (e * 100 * 1000 - (defaultOf P.save_fixed_ms : Int) * 200000000000 * pm) - (defaultOf P.save_reserve_mib : Int) * 2 ^ 20 * den, den)

def State.energyBytes (s : State) : Int × Int := s.energyAt s.holdLow

/-- b_area of R182, in bytes. -/
def State.areaBytes (s : State) : Int := ((s.saveAreaMib : Int) - defaultOf P.save_reserve_mib) * 2 ^ 20

/-- The candidate budget in GiB and the term that limits it. -/
def State.candidate (s : State) : Nat × BudgetLimit :=
  let cfg : Int := s.param P.dirty_budget_gib * 2 ^ 30
  let e := s.energyBytes
  let a := s.areaBytes
  if s.store.capMf = 0 then (0, .noMeasurement)
  else
    let least : Int := min (min cfg (e.1 / e.2)) a
    let limit : BudgetLimit :=
      if cfg * e.2 ≤ e.1 ∧ cfg ≤ a then .configured else if e.1 ≤ a * e.2 then .energy else .area
    ((least / 2 ^ 30).toNat, limit)

/-- The 1 ms computation of PDE. -/
def State.computeBudget (s : State) : State :=
  if s.gated 4 then s
  else
    let c := s.candidate
    let e := s.energyBytes
    let s := s.modPde fun p =>
      { p with budget := { p.budget with
          energyGib := e.1 / e.2 / 2 ^ 30, areaGib := s.areaBytes / 2 ^ 30, areaMib := s.saveAreaMib, limit := c.2
          capMf := s.store.capMf, holdMv := s.holdLow } }
    let b := s.pde.budget
    let set := fun (s : State) (n : Nat) =>
      s.modPde fun p => { p with budget := { p.budget with permittedGib := n, raiseSince := none, firstSet := true } }
    if c.1 < b.permittedGib then
      let l := match c.2 with
        | .configured => 0 | .energy => 1 | .area => 2 | .noMeasurement => 3
      ((set s c.1).bump P.budget_decreases).event 0x2540 0 [b.permittedGib, c.1, l]
    else if !b.firstSet then (if c.1 > 0 then set s c.1 else s)
    else if c.1 ≥ b.permittedGib + 1 then
      let since := b.raiseSince.getD s.now
      if since + s.param P.budget_raise_hold_s * secNs ≤ s.now then set s c.1
      else s.modPde fun p => { p with budget := { p.budget with raiseSince := some since } }
    else s.modPde fun p => { p with budget := { p.budget with raiseSince := none } }

/-! ### Sense inputs (R385, R400) -/

/-- A set of conversions of the 24 sense inputs: `sns_value`, HOLD_BUS, the feeds, the rails of the die, and `power_mw`. -/
def State.sample (s : State) (codes : List (BitVec 12)) : State :=
  if s.rst.cold = .held then s
  else
    let vals := ((codes.take 24).zipIdx).map fun c => (c.2, c.1.toNat * 1200 * s.param P.sns_ratio_milli c.2 / (4096 * 1000))
    let s := s.modStore fun x => { x with sense := vals.foldl (fun t v => t.set v.1 (v.2 : Int)) x.sense }
    let at_ := fun (s : State) (i : Nat) => (s.store.sense.getD i 0).toNat
    let s := s.modStore fun x =>
      { x with
        feedAMv := at_ s 0, feedBMv := at_ s 1, holdMv := at_ s 2, holdMa := s.store.sense.getD 3 0
        holdLog := (s.now, at_ s 2) :: x.holdLog.filter fun r => s.now < r.1 + secNs }
    let s := s.modPwr fun p =>
      { p with rails := (List.range 10).foldl (fun t r => t.upd r {} fun x => { x with mv := at_ s (14 + r) }) p.rails }
    s.modStore fun x => { x with powerMw := ((List.range 10).map fun r => (s.rail r).mv * (s.rail r).ma).sum / 1000 }

def execBudgetCompute (sense : List (BitVec 12)) (s : State) : Host.Outcome State Fault Refusal := .next (s.sample sense).computeBudget

/-- u × 100, saturating (R184). -/
def State.occupancyPct (s : State) : Nat :=
  let n := s.dirtyCount + s.pde.reserved
  if s.permitted = 0 then (if n = 0 then 0 else 65535) else min (100 * n / s.permitted) 65535

def execBudgetOverWarning (s : State) : Host.Outcome State Fault Refusal :=
  .next (if s.occAtLeast 100 && !s.gated 4 then s.event 0x2541 0 [s.occupancyPct, s.pde.budget.permittedGib] else s)

/-! ### Promenade (R185, R186, R250) -/

/-- Does the segment stand still in a migration? Only a RESIDENT frame may be drained (R186). -/
def State.migrating (s : State) (lsn : Nat) : Bool :=
  match s.frameOfLsn lsn with
  | some n => match s.tmv.frames.find? n with
    | some f => (s.entry f.idx f.seg).mstate ≠ .resident
    | none => true
  | none => false

/-- Does the segment hold data that awaits resync (R231)? -/
def State.awaiting (s : State) (lsn : Nat) : Bool :=
  s.mir.groups.any fun e => match e.2.target with
    | some t => t.awaiting.any fun p => s.lsnOf p.1 p.2 == some lsn
    | none => false

/-- Home segments of the modified slots of QCC. -/
def State.qccHomes (s : State) : List Nat :=
  (s.xpt.qcc.filter (·.modified)).flatMap fun t => [s.ctxSeg t.qpn, s.logSeg t.qpn]

/-- May Promenade select a segment? A segment with a poisoned line, or in a set out of service, would only be abandoned. -/
def State.drainable (s : State) (homes : List Nat) (lsn : Nat) : Bool :=
  !homes.contains lsn && !s.migrating lsn && !s.awaiting lsn && !s.segBad lsn

/-- The entry with the oldest last-write time; of equals, the lowest LSN. -/
def oldest : List (Nat × Seg) → Option Nat
  | [] => none
  | (n, g) :: t => some (t.foldl (fun (b : Nat × Seg) x => if x.2.lastMs < b.2.lastMs then x else b) (n, g)).1

/-- The segment that Promenade drains next. -/
def State.nextDrain (s : State) : Option Nat :=
  let homes := s.qccHomes
  let ok := s.pde.segs.filter fun e => s.drainable homes e.1
  let dirty := ok.filter fun e => e.2.state = .dirty
  let age := if s.mode = .quiesce || s.occAtLeast (s.param P.drain_urgent_pct) then 0 else s.param P.drain_min_age_ms
  let dev := dirty.filter fun e => s.isDevice e.1
  match (ok.filter fun e => e.2.exposed && e.2.state = .clean).head? with
  | some e => some e.1
  | none =>
    if 100 * s.dirtyD ≥ s.param P.device_drain_pct * saveReserve && !dev.isEmpty then oldest dev
    else oldest (dirty.filter fun e => e.2.lastMs + age ≤ s.now / msNs)

/-- The lowest home LSN that no segment has (R237). -/
def State.freeHome (s : State) : Nat :=
  ((List.range (s.tmv.homes.length + 1)).map (firstHome + ·)).find? (fun h => !s.tmv.homes.contains h) |>.getD firstHome

/-- Is the region's drain stored RAW without an attempt (R250)? The state counts the runs. -/
def State.skipCompress (s : State) (idx : Nat) : State × Bool :=
  let d := s.desc idx
  if d.noCompress then (s, true)
  else
    let r := s.tmv.rawRuns.getD idx (0, 0)
    if r.2 > 0 then ((s.modTmv fun t => { t with rawRuns := t.rawRuns.set idx (0, r.2 - 1) }).bump P.cmp_skipped, true) else (s, false)

/-- Count a compressed attempt of a region. -/
def State.noteAttempt (s : State) (idx : Nat) (raw : Bool) : State :=
  let after := s.param P.cmp_skip_after
  let n := if raw then (s.tmv.rawRuns.getD idx (0, 0)).1 + 1 else 0
  s.modTmv fun t =>
    { t with rawRuns := t.rawRuns.set idx (if 0 < after && after ≤ n then (0, s.param P.cmp_skip_count) else (n, 0)) }

/-- LSN under which a DRAM segment's copy is kept: a frame's is the home of the segment that it holds (R237). -/
def State.copyKey (s : State) (lsn : Nat) : Option Nat :=
  match s.frameOfLsn lsn with
  | none => some lsn
  | some n => (s.tmv.frames.find? n).bind fun f =>
    let h := (s.entry f.idx f.seg).home
    if h = 0 then none else some h

/-- A segment enters the storage pipeline, and its units take their places in flash. `frameLen`: the length of its Zstandard frame.
Overcommitted, the deep store refuses a home more space than its copy has (R256). -/
def State.drainSeg (s : State) (lsn frameLen : Nat) : State :=
  let cells := s.segmentCells lsn
  let r : State × (StoreKind × Nat) := match (s.frameOfLsn lsn).bind s.tmv.frames.find? with
    | some f =>
      let e := s.entry f.idx f.seg
      let s := if e.home ≠ 0 then s
        else
          let h := s.freeHome
          (s.setEntry f.idx f.seg { e with home := h }).modTmv fun t => { t with homes := insertNat h t.homes }
      let k := s.skipCompress f.idx
      let form := if k.2 then (if cells.isEmpty then (.zero, 0) else (.raw, segBytes)) else storedForm cells frameLen
      (if k.2 then k.1 else k.1.noteAttempt f.idx (form.1 = .raw), form)
    | none => (s, storedForm cells frameLen)
  let s := r.1.rqCount 5 segBytes
  let s := if s.segState lsn = .clean then s else s.setSegState lsn .draining
  let full := s.tmv.overcommit && (s.frameOfLsn lsn).isSome && (((s.copyKey lsn).map s.deepOf).getD {}).storedLen < r.2.2
  let p := if r.2.2 = 0 then (s, some (0, 0, 0)) else if full then (s, none) else s.takeUnits (ceilDiv r.2.2 4096)
  let job : DrainJob := { lsn := lsn, kind := r.2.1, len := r.2.2, content := cells, place := p.2 }
  let s := p.1.modPde fun q => { q with drains := q.drains ++ [job] }
  if job.copy.any s.copyRefused then (s.keyFault 0x25 lsn).abandonDrain lsn else s

/-- Promenade selects a segment and reads it into a buffer; with no buffer the job waits and the segment stays dirty (Table 3.11).
`bad` names the lines of the segment that are newly found uncorrected. -/
def State.promenade (s : State) (frameLen : Nat) (bad : List Nat) : State :=
  if !s.live then s
  else match (s.nextDrain).filter fun n => !s.pde.drains.any fun d => d.lsn == n with
    | none => s
    | some lsn =>
      let lines := (bad.filter (· < 1024)).map fun i => lsn * segBytes + 64 * i
      let b := s.holdFor 2 segBytes (.drain lsn)
      if !lines.isEmpty then s.lineFaults 5 1 lines
      else if b.2 then b.1.drainSeg lsn frameLen
      else b.1

def execPromenadeSelect (frameLen : Nat) (bad : List Nat) (s : State) : Host.Outcome State Fault Refusal :=
  .next (s.promenade frameLen bad).settle

/-- A drain is programmed and mapped: the segment is CLEAN and its charge is released, or DIRTY again. A drain that flash had no room for
leaves its segment DIRTY. -/
def State.drainDone (s : State) (lsn : Nat) : State :=
  match s.pde.drains.find? (·.lsn == lsn) with
  | none => s
  | some d =>
    let st := s.segState lsn
    let exposed := (s.pde.segs.getD lsn {}).exposed
    let s := s.modPde fun p => { p with drains := p.drains.filter fun x => x.lsn != lsn }
    let live : Bool := st = .draining || st = .redirty || exposed
    match s.copyKey lsn with
    | none => s
    | some key =>
      if !live then s
      else
        match d.copy with
        | none => s.setSegState lsn (if st = .draining ∨ st = .redirty then .dirty else st)
        | some e =>
          let s := s.setDeep key e
          let s := ((s.bump P.drain_segments).bump P.drain_bytes_in 0 segBytes).bump P.drain_bytes_stored 0 d.len
          let s := (s.bumpIf (d.kind = .raw) P.drain_raw_segments).bumpIf (st = .redirty) P.drain_redirty
          let s := s.modPde fun q =>
            { q with drainLog := (s.now, d.len) :: q.drainLog.filter fun e => s.now < e.1 + 60 * secNs
                     segs := q.segs.upd lsn {} fun g =>
                       { g with exposed := false, state := if st = .redirty then .dirty else if st = .draining then .clean else g.state } }
          s.noteUnits 0 e.units

def execDrainComplete (lsn : BitVec 32) (s : State) : Host.Outcome State Fault Refusal := .next (s.drainDone lsn.toNat).settle

/-! ### Refill (R197) -/

/-- Refill runs in these modes. -/
def Mode.refills : Mode → Bool
  | .resync | .service | .degraded => true
  | _ => false

def execRefillNext (s : State) : Host.Outcome State Fault Refusal :=
  .next (if !s.mode.refills then s
    else match s.firstAbsent (s.dramBytes / segBytes) 0 with
      | none => s
      | some lsn =>
        if (s.deepOf lsn).noRead then (s.fillAbsent lsn []).advanceAll
        else
          let t := s.fetchDram lsn
          if t.fetching (.dram lsn) then t.modPde fun p => { p with refills := p.refills ++ [lsn] } else t)

/-- A refill or an on-demand fetch completes; a segment that has been written whole meanwhile keeps what was written. -/
def State.refillDone (s : State) (lsn : Nat) : State :=
  match s.fetchOf (.dram lsn) with
  | none => s
  | some f =>
    if !f.ready then s
    else
      let s := (s.dropFetch (.dram lsn)).modPde fun p => { p with refills := p.refills.filter (· != lsn) }
      (if s.segState lsn = .absent then s.fillAbsent lsn f.content else s).advanceAll

def execRefillComplete (lsn : BitVec 32) (s : State) : Host.Outcome State Fault Refusal := .next (s.refillDone lsn.toNat)

/-! ### The save (R188–R193, R392) -/

/-- Lower rails by their entries. -/
def State.lowerRails (s : State) (l : List Nat) : State :=
  l.foldl (fun s r =>
    if (s.rail r).state = .up ∨ (s.rail r).state = .ramping then
      ((s.entriesOf r).foldl (fun s i => s.operation i 0x40) s).setRail r .off
    else s) s

/-- Rails of the entries with SHED set. -/
def State.shedRails (s : State) : List Nat :=
  ((List.range 32).filter fun i =>
    let v := s.pmbusEntry i
    PmbusField.valid v && PmbusField.shed v && PmbusField.role v != 0).map (32 + ·)

/-- Ports and cores are gated; steps 6 and 5 and the SHED rails are lowered. -/
def State.saveShed (s : State) : State :=
  match s.pde.run with
  | none => s
  | some r =>
    if r.shed then s
    else
      let s := s.modPde fun p => { p with run := some { r with shed := true } }
      let s := (s.modXpt fun x => { x with ports := [] }).modMir fun m => { m with ports := [], mpv := 0 }
      let s := s.modRst fun x => { x with coresUp := false }
      s.lowerRails (s.stepRails 6 ++ s.stepRails 5 ++ s.shedRails)

def execSaveShed (s : State) : Host.Outcome State Fault Refusal := .next s.saveShed

/-- A part whose key CRY refuses fails at once (R345). -/
def State.refuseParts (s : State) : State :=
  match s.pde.run with
  | none => s
  | some r =>
    let refused := (s.saveRecord r.slot).parts.filter fun k => (s.sec.saveKeys.find? r.slot).any fun d => partRefused d k
    refused.foldl (fun s k => (s.keyFault 0x25 (2 ^ 32 + k)).failPart k) s

/-- Issued placements have completed and the record is written as WRITING. -/
def execSaveRecordWriting (s : State) : Host.Outcome State Fault Refusal :=
  .next (match s.pde.run with
    | some r =>
      if r.frozen || !s.xpt.rq0.isEmpty then s
      else if r.stopped then s.freezeSave.refuseParts.closeSave
      else s.freezeSave.refuseParts
    | none => s)

def execSaveDirectoryPlanned (s : State) : Host.Outcome State Fault Refusal :=
  .next (match s.pde.run with
    | some r => if r.frozen && !r.planned then s.planSave else s
    | none => s)

/-- The last unit of a saved segment and its parity are programmed; `bad` names the lines newly found uncorrected on RQ5. -/
def State.saveProgrammed (s : State) (n frameLen : Nat) (bad : List Nat) : State :=
  match s.pde.run with
  | some r =>
    if !r.planned then s
    else
      let lsn := match (s.dir r.slot)[n]? with
        | some e => e.lsn
        | none => 0
      let lines := (bad.filter (· < 1024)).map fun i => lsn * segBytes + 64 * i
      let s := s.rqCount 5 segBytes
      (s.saveEntry n frameLen (!lines.isEmpty)).lineFaults 5 1 lines
  | none => s

def execSaveSegmentProgrammed (entry : BitVec 32) (frameLen : Nat) (bad : List Nat) (s : State) : Host.Outcome State Fault Refusal :=
  .next (s.saveProgrammed entry.toNat frameLen bad)

/-- The data phase ends. `powerMw` is the HOLD_BUS power that PWR has averaged over it (R400). -/
def execSaveComplete (powerMw : BitVec 32) (s : State) : Host.Outcome State Fault Refusal :=
  .next (match s.pde.run with
    | some r =>
      if r.planned then
        (s.modPde fun p => { p with budget := { p.budget with powerW := powerMw.toNat / 1000 } }).closeSave
      else s
    | none => s)

/-! ### Restore (R194–R196, R200, R244) -/

/-- Can units on a carrier in this state be read? -/
def CarState.readable : CarState → Bool
  | .inService | .retiring | .evacuating => true
  | _ => false

/-- One directory entry is restored, or its segment is incomplete. Under `unsaved_pending` nothing is restored (R395). Until BPM has built
its on-chip pools the step waits for its buffer (R414). -/
def State.restoreEntry (s : State) (n : Nat) (outcome : RestoreOutcome) : State :=
  match s.pde.restore with
  | none => s
  | some r =>
    match r.slot with
    | none => s
    | some slot =>
      let rec_ := s.saveRecord slot
      match (s.dir slot)[n]? with
      | none => s
      | some e =>
        let named : Bool := outcome ≠ .unnamed && e.seqLo == rec_.saveSeq % 64
        let good : Bool := outcome = .restored && named && e.kind ≠ .planned && (e.kind = .zero || (s.carrier e.part).state.readable) &&
          s.sec.saveKeys.has rec_.keyId && !s.pwr.unsavedPending && !s.setFenced (s.setOf e.lsn) && e.lsn * segBytes < s.dramBytes && n < rec_.planEntries
        if n ≥ rec_.planEntries ∨ !s.rst.copied then s
        else if good then
          let s := (s.fillSegment e.lsn e.content).setSeg e.lsn { state := .dirty, lastMs := s.now / msNs }
          (s.rqCount 6 segBytes).modPde fun p => { p with restore := some { r with restored := insertNat e.lsn r.restored } }
        else if named then
          s.modPde fun p => { p with restore := some { r with incomplete := insertNat e.lsn r.incomplete } }
        else s.modPde fun p => { p with restore := some { r with unnamed := true } }

def execRestoreSegmentRead (entry : BitVec 32) (outcome : RestoreOutcome) (s : State) : Host.Outcome State Fault Refusal :=
  .next (s.restoreEntry entry.toNat outcome)

/-- The incomplete segments of a restore. -/
def State.incompleteSegs (s : State) (r : RestoreRun) : List Nat :=
  let all := fun (keep : List Nat) =>
    (List.range (s.dramBytes / segBytes)).filter fun n => s.inDomain n && (s.frameOfLsn n).isNone && !keep.contains n
  if s.pwr.unsavedPending then all []
  else match r.slot with
    | none => []
    | some slot =>
      let rec_ := s.saveRecord slot
      let d := (s.dir slot).take rec_.planEntries
      let lost := d.length < rec_.planEntries || d.any fun e => e.seqLo != rec_.saveSeq % 64
      if r.unnamed || lost then all r.restored
      else
        let unread := ((d.map (·.lsn)).filter fun n => !r.restored.contains n).foldl (fun l n => insertNat n l) []
        let offline := (s.flash.deep.filter fun e =>
          e.1 < firstHome && s.inDomain e.1 && !r.restored.contains e.1 &&
          (List.range 8).any fun k => !(s.carrier k).state.readable && s.entryOnCarrier e.2 k).map (·.1)
        offline.foldl (fun l n => insertNat n l) unread

/-- Can the twin supply the data of a group (Table 7.6)? Not where this member held SOLO when it stopped. -/
def State.twinSupplies (s : State) (g : Nat) : Bool :=
  g != 255 && (s.grp g).paired && !(s.grp g).soloStop && (s.grp g).role ≠ .solo

/-- Segments of a region are incomplete: they go to resync, or the region is LOST. -/
def State.missing (s : State) (idx : Nat) (l : List Nat) : State :=
  let g := (s.desc idx).group
  if l.isEmpty then s
  else if s.twinSupplies g then
    (l.foldl (fun s n => s.setDivergent idx n) s).modGrp g fun x => { x with incomplete := true }
  else s.loseRegion idx l.length

/-- Segments of a region that a set of incomplete LSNs takes from it; all of them where its descriptor or its segment map is hit. -/
def State.missingOf (s : State) (idx : Nat) (inc : List Nat) : List Nat :=
  let d := s.desc idx
  let first := d.backing / segBytes
  let whole := inc.contains (s.areaLsn (64 * idx / segBytes)) || (d.tiered && inc.any fun n => first ≤ n && n < first + d.mapSegs)
  if whole then List.range d.lengthSeg
  else if d.tiered then
    (List.range d.lengthSeg).filter fun g => (s.entry idx g).mstate = .resident && inc.contains (s.entry idx g).frame
  else (inc.filter fun n => first ≤ n && n < first + d.lengthSeg).map (· - first)

/-- R244: the segment maps after restore; `restored`: the LSNs of the frames that came back DIRTY. -/
def State.restoreMaps (s : State) (restored inc : List Nat) : State :=
  let lost := fun (k : Nat) => inc.contains (((s.desc (k / 2 ^ 32)).backing + 16 * (k % 2 ^ 32)) / segBytes)
  let s := s.modTmv fun t => { t with frames := [], maps := t.maps.filter fun m => !lost m.1 }
  let s := s.tmv.maps.foldl (fun s m =>
    let idx := m.1 / 2 ^ 32
    let seg := m.1 % 2 ^ 32
    let e := m.2
    let back := restored.contains e.frame
    match e.mstate with
    | .absent | .poisoned => s.writeEntry idx seg
    | .resident =>
      match s.frameOfLsn e.frame with
      | some n => if back then (s.modTmv fun t =>
            { t with frames := t.frames.set n { idx := idx, seg := seg, window := (s.desc idx).cls == clsStream } }).writeEntry idx seg
          else s.setEntry idx seg { e with mstate := .absent, frame := 0 }
      | none => s.setEntry idx seg { e with mstate := .absent, frame := 0 }
    | .promoting => s.setEntry idx seg
        { e with mstate := .absent, frame := 0, divergent := e.divergent || back || inc.contains e.frame }
    | _ => s.setEntry idx seg { e with mstate := .absent, frame := 0 }) s
  let unnamed := s.pde.segs.keysWhere fun n _ => match s.frameOfLsn n with
    | some f => !s.tmv.frames.has f
    | none => false
  unnamed.foldl (fun s n => s.setSegState n .clean) s

/-- Is the redo data of a group whole, and are its extents within the restored descriptors? The redo ring no longer holds the data of a
group that an earlier restore passed over. -/
def State.awgWhole (s : State) (a : Awg) (inc : List Nat) : Bool :=
  let segs := (List.range (a.redoLen / segBytes + 2)).map fun i =>
    s.areaLsn (s.redoAt + (a.redoOffset + min (i * segBytes) (a.redoLen - 1)) % (redoSegs * segBytes) / segBytes)
  a.state = .committed && !(segs.any fun n => inc.contains n || s.segBad n) &&
  a.extents.all fun e => (s.desc e.1).state ≠ .free && e.2.1 + e.2.2.length ≤ (s.desc e.1).lengthSeg * segBytes

/-- COMMITTED groups are applied again in commit order (R200); `s.present` fetches what the deep store holds of their segments. -/
def State.recoverAwg (s : State) (a : Awg) : State :=
  let s := a.extents.foldl (fun s e =>
    let s := s.present e.1 e.2.1 e.2.2.length
    ((s.regionWrite e.1 e.2.1 e.2.2).rqCount 0 e.2.2.length).wroteRange s e.1 e.2.1 e.2.2.length) s
  (s.modAwgs a.same fun x => { x with state := .applied }).modPde fun p => { p with awgRecovered := p.awgRecovered + 1 }

/-- Groups whose record is COMMITTED, in commit order. -/
def State.committed (s : State) : List Awg :=
  (s.pde.awgs.filter fun a => a.state = .committed || a.state = .left).mergeSort fun a b => a.seqNo ≤ b.seqNo

/-- Queue pairs after RESTORE (R109). -/
def State.restartQps (s : State) : State :=
  let closing := s.xpt.qps.keysWhere fun _ q => q.state = .closing
  let s := closing.foldl (fun s n => s.freeQp n) s
  (s.xpt.qps.keysWhere fun _ q => q.state = .ready).foldl (fun s n => s.enterError n Cause.restart) s

/-- Every paired group is FENCED, and HELLO starts (R232, Table 8.14). -/
def State.restartGroups (s : State) : State :=
  let s := (s.mir.groups.map (·.1)).foldl (fun s g =>
    (s.setRole g .fenced (s.grp g).epoch).modGrp g fun x =>
      { x with inSync := false, soloStop := false, settled := false, leaseEnd := none, target := none, source := none, restarted := true }) s
  let s := s.modMir fun m => { m with helloStart := some s.now, twinUnreachable := false, resyncDone := false }
  [0, 1].foldl State.helloStarts s

/-- Steps 4 to 8 of R194; with no save, from step 5 on. -/
def State.restoreEnd (s : State) : State :=
  match s.pde.restore with
  | none => s
  | some r =>
    let inc := s.incompleteSegs r
    let device := (s.flash.deep.filter fun e => e.1 < firstHome && s.isDevice e.1 && !r.restored.contains e.1 && !inc.contains e.1)
    let s := device.foldl (fun s e => (s.fillSegment e.1 e.2.content).rqCount 6 segBytes) s
    let s := s.modPde fun p => { p with restAbsent := true }
    let s := inc.foldl (fun s n => ((s.fillSegment n []).rqCount 6 segBytes).setSeg n { state := .dirty, lastMs := s.now / msNs }) s
    let miss := (s.reg.descs.keysWhere fun _ d => d.state ≠ .free && d.cls != clsScratch).map fun i => (i, s.missingOf i inc)
    let s := s.restoreMaps r.restored inc
    let s := miss.foldl (fun s x => s.missing x.1 x.2) s
    let s := s.freeContexts inc.contains
    let groups := if r.slot.isSome then s.committed else []
    let s := if r.slot.isSome then s else s.modAwgs (·.state = .committed) fun a => { a with state := .left }
    let s := (groups.filter fun a => !s.awgWhole a inc).foldl (fun s a =>
      let s := a.extents.foldl (fun s e =>
        if (s.desc e.1).state = .free then s else s.missing e.1 (segsOf e.2.1 e.2.2.length)) s
      let s := (s.bump P.awg_unrecoverable).event 0x2547 0 [a.seqNo, a.group]
      s.modAwgs a.same fun x => { x with state := .applied }) s
    let s := ((groups.filter fun a => s.awgWhole a inc).foldl State.recoverAwg s).restoreClean.settleHolds inc.contains
    let ms := (s.now - r.start) / msNs
    let seq := match r.slot with
      | some k => (s.saveRecord k).saveSeq
      | none => 0
    let s := s.modPde fun p => { p with restore := none, lastRestoreMs := ms, restoreIncomplete := inc.length }
    let s := (s.event 0x2546 0 [seq, inc.length, ms]).modPwr fun p => { p with unsavedPending := false }
    let s := s.restartQps.restartGroups.callersQuiet
    (s.setMode .resync 5).checkResync

def execRestoreComplete (s : State) : Host.Outcome State Fault Refusal :=
  .next (if s.mode = .restore && !s.pwr.falling then s.restoreEnd.settle else s)

/-! ### Commands of Table 7.8 -/

/-- `region_lost_clear`. -/
def State.lostClear (s : State) (num ak : Nat) : State :=
  let i := akIndex ak
  if (s.desc i).gen ≠ akGen ak then s.failed num 0x0B
  else if !s.reg.lost.contains i then s.failed num 0x0A
  else (s.modReg fun g => { g with lost := g.lost.filter (· != i) }).done num

def execRegionLostClear (r : Req) (s : State) : Host.Outcome State Fault Refusal :=
  .next (s.command r P.region_lost_clear fun num a s => s.lostClear num (leNat a)).settle

/-- `save_rate_test` starts: its key is drawn, and the target slot is no longer erased. -/
def State.rateTestStart (s : State) : State :=
  let slot := s.targetSlot
  let use := fun (_ : Nat) (c : Carrier) => if slot = 0 then { c with erasedSlot0 := false } else { c with erasedSlot1 := false }
  ((s.drawn.modPde fun p => { p with rateTest := true }).modFlash fun f => { f with cars := f.cars.mapVals use }).evalArea

def execSaveRateTest (r : Req) (s : State) : Host.Outcome State Fault Refusal :=
  .next (s.command r P.save_rate_test fun _ _ s => s.rateTestStart)

/-- The write has been measured, and the slot is erased again. -/
def State.rateTestEnd (s : State) (rate mw : Nat) : State :=
  if !s.pde.rateTest then s
  else
    let w := min (mw / 1000) 65535
    let s := s.modPde fun p =>
      { p with rateTest := false, testedRate := some rate
               budget := { p.budget with rateMbps := min rate (p.savedRate.getD rate), powerW := w } }
    ((s.eraseSlot s.targetSlot).evalArea).done P.save_rate_test (leBytes 4 rate ++ leBytes 2 w)

def execSaveRateTestDone (rateMbps powerMw : BitVec 32) (s : State) : Host.Outcome State Fault Refusal :=
  .next (s.rateTestEnd rateMbps.toNat powerMw.toNat)

end Sys2Proof.Machine
end

