-- ==== Sys2Proof/Machine/Power.lean ====
section
/-!
DEFINITION. Power: rails and PMBus, feeds, on and off requests, mode requests, sequencing, the capacitance test and the fatal stop
(chapter 15).
-/

namespace Sys2Proof.Machine

/-! ### VDD_AON (R403, R412) -/

/-- VDD_AON falls below its UV: CD39 is held in reset, and the mode is OFF. -/
def State.aonLoss (s : State) : State :=
  if s.rst.vddAon then (s.coldReset .vddAon).modRst fun r => { r with vddAon := false } else s

/-! ### Rails and PMBus (R386, R387, R396, R397) -/

/-- A sense input watches the rail: every rail of the device, and an appliance rail with an input assigned. -/
def State.sensed (s : State) (r : Nat) : Bool := r < 32 || PmbusField.sense (s.pmbusEntry (r - 32)) != 0

/-- The rail that an entry supplies. -/
def State.entryRail (s : State) (i : Nat) : Nat :=
  let v := s.pmbusEntry i
  if PmbusField.role v = 0 then PmbusField.rail v else 32 + i

/-- A rail that is UP fails. When the failure fences the PMBus master, every rail that only PMBus supervises fails with it. -/
def State.railDown (s : State) (r mv : Nat) : State :=
  if (s.rail r).state ≠ .up then s
  else
    let was := s.store.pmbusFenced
    let s := s.railFail r mv
    if s.store.pmbusFenced && !was then
      ((List.range 32).map (32 + ·) |>.filter fun q => !s.sensed q).foldl
        (fun s q => if (s.rail q).state = .up then s.railFail q (s.rail q).mv else s) s
    else s

def execRailFault (rail : Fin 64) (mv : Nat) (s : State) : Host.Outcome State Fault Refusal :=
  .next (if rail.val = 0 then (if (s.rail 0).state = .up then s.aonLoss else s) else s.railDown rail.val mv).settle

/-- STATUS_WORD shows a VOUT fault, an IOUT fault or POWER_GOOD#. -/
def statusFails (w : BitVec 16) : Bool := w.getLsbD 15 || w.getLsbD 14 || w.getLsbD 11

/-- STATUS_WORD of an entry is known: R386 is applied. -/
def State.statusRead (s : State) (i : Nat) (w : BitVec 16) : State :=
  let s := s.modStore fun x => { x with pmbus := x.pmbus.upd i {} fun e => { e with statusWord := w } }
  let r := s.entryRail i
  if statusFails w then s.railDown r (s.rail r).mv else s

/-- The PMBus master can address this entry. -/
def State.pmbusLive (s : State) (i : Nat) : Bool :=
  (s.store.pmbus.getD i {}).state = .ok && !PmbusField.noPmbus (s.pmbusEntry i) && !s.store.pmbusFenced && s.mode != .off

/-- One transaction of a poll; the third failure in a row makes the entry LOST. -/
def State.pollEntry (s : State) (p : PmbusReading) : State :=
  let i := p.entry.val
  if !s.pmbusLive i then s
  else
    let s := ([0x00, 0x79, 0x88, 0x8B, 0x8C, 0x8D, 0x96] : List Nat).foldl
      (fun s c => s.emit (.pmbus i c (if c = 0 then PmbusField.page (s.pmbusEntry i) else 0))) s
    let r := s.entryRail i
    if p.ok then
      let s := s.modStore fun x => { x with pmbus := x.pmbus.upd i {} fun e => { e with failedInRow := 0 } }
      let s := s.modPwr fun w =>
        { w with rails := w.rails.upd r {} fun x => { x with ma := p.ma, mv := if r < 32 then x.mv else p.mv } }
      s.statusRead i p.statusWord
    else
      let n := (s.store.pmbus.getD i {}).failedInRow + 1
      let s := (s.bump P.pmbus_errors).modStore fun x =>
        { x with pmbus := x.pmbus.upd i {} fun e => { e with failedInRow := n, state := if n ≥ 3 then .lost else e.state } }
      if n ≥ 3 && !s.sensed r then s.railDown r (s.rail r).mv else s

def execPmbusPoll (sense : List (BitVec 12)) (readings : List PmbusReading) (s : State) : Host.Outcome State Fault Refusal :=
  .next (readings.foldl State.pollEntry (s.sample sense)).settle

/-- PMB_ALERT_N is low: the answering slave's pages give their STATUS_WORD, and its faults are cleared. -/
def State.alertEntry (s : State) (a : Fin 32 × BitVec 16) : State :=
  let i := a.1.val
  if !s.pmbusLive i then s
  else
    (s.emits [.pmbus i 0x00 (PmbusField.page (s.pmbusEntry i)), .pmbus i 0x79 0, .pmbus i 0x03 0]).statusRead i a.2

def execPmbusAlert (answers : List (Fin 32 × BitVec 16)) (s : State) : Host.Outcome State Fault Refusal :=
  .next (if s.store.pmbusFenced ∨ s.mode = .off then s else answers.foldl State.alertEntry (s.bump P.pmbus_alerts)).settle

/-! ### Feeds (R398, R399) -/

def State.feedIn (s : State) (f : Nat) : Bool := if f = 0 then s.store.feedA else s.store.feedB

def State.setFeed (s : State) (f mv : Nat) (on : Bool) : State :=
  s.modStore fun x => if f = 0 then { x with feedA := on, feedAMv := mv } else { x with feedB := on, feedBMv := mv }

def State.feedPresent (s : State) (f mv : Nat) : State :=
  if s.rst.cold = .held ∨ s.feedIn f then s
  else
    let s := (s.setFeed f mv true).event 0x0442 0 [f, mv]
    if s.mode = .standby && s.paramOn P.auto_on && s.pwr.autoEligible then s.onRequest else s

def execFeedPresent (feed : Fin 2) (mv : Nat) (s : State) : Host.Outcome State Fault Refusal := .next (s.feedPresent feed.val mv)

/-- HOLD_TEST_EN is deasserted without waiting for confirmation; the crossing of the last present feed is t0 of R191. -/
def execFeedCrossing (feed : Fin 2) (s : State) : Host.Outcome State Fault Refusal :=
  .next (if s.feedIn feed.val then s.modStore fun x => { x with holdTestEn := false, crossed := some s.saveStart } else s)

def State.feedLost (s : State) (f mv : Nat) : State :=
  if !s.feedIn f then s
  else
    let s := ((s.setFeed f mv false).bump P.feed_losses).event 0x0441 0 [f, mv]
    if s.feedsPresent = 0 then s.feedLoss else s

def execFeedLossConfirmed (feed : Fin 2) (mv : Nat) (s : State) : Host.Outcome State Fault Refusal := .next (s.feedLost feed.val mv)

/-! ### On and off requests (R403) -/

def execPwrBtnPress (s : State) : Host.Outcome State Fault Refusal := .next (if s.mode = .standby then s.onRequest else s)

def execPwrBtnHold (s : State) : Host.Outcome State Fault Refusal :=
  .next (if s.mode = .standby ∨ s.mode = .off then s else s.orderlyOff).settle

def execPowerOn (r : Req) (s : State) : Host.Outcome State Fault Refusal :=
  .next (s.command r P.power_on fun _ _ s => s.onRequest)

def execPowerOff (r : Req) (s : State) : Host.Outcome State Fault Refusal :=
  .next (s.command r P.power_off fun _ a s => if leNat a = 0 then s.orderlyOff else s.immediateOff).settle

/-! ### `mode_request` (R404, Table 15.8) -/

/-- Work that keeps the device in MAINT. -/
def State.workRunning (s : State) : Bool :=
  s.flash.cars.any (fun c => c.2.state = .formatting || c.2.state = .evacuating) || s.running P.dram_retrain ||
  s.running P.lc_transition || s.wiping

def State.trained (s : State) : Bool := s.dram.train = .passed || s.dram.train = .passedFenced

def State.modeRequest (s : State) (want : Nat) : State :=
  let no := s.failed P.mode_request 0x01
  if s.pwr.falling then no
  else match want, s.mode with
    | 6, .quiesce => ((s.modPwr fun p => { p with offPending := none }).aborted P.power_off).setMode s.byD 3
    | 6, .maint =>
      if s.workRunning then s.failed P.mode_request 0x02
      else if !s.pwr.maintFromTrain then s.setMode s.byD 3
      else if s.trained then s.setMode .restore 3
      else s.failed P.mode_request 0x03
    | 8, .resync | 8, .service | 8, .degraded => s.setMode .quiesce 3
    | 8, .maint => if s.pwr.maintFromTrain then no else s.setMode .quiesce 3
    | 10, .service | 10, .degraded | 10, .quiesce => s.modPwr fun p => { p with maintHeld := true }
    | _, _ => no

def execModeRequest (r : Req) (s : State) : Host.Outcome State Fault Refusal :=
  .next (s.command r P.mode_request fun _ a s => s.modeRequest (leNat a)).settle

/-! ### Sequencing (R48, R388–R391, R414) -/

/-- The pending STANDBY values go to the LGM configuration store, and the staged values of the blocks that leave reset become
effective. -/
def State.storeStandby (s : State) : State :=
  let s := s.standby.foldl (fun s e =>
    if e.2.1 then { s with staged := s.staged.set e.1 e.2.2 } else { s with cfg := s.cfg.set e.1 e.2.2 }) s
  let s := ({ s with standby := [] }).applyStaged fun n => n / 2 ^ 28 != 1
  (s.modTmv fun t => { t with totalFrames := s.param P.tier_dram_gib * 16384 }).modMir fun m => { m with twinMember := s.param P.twin_member }

/-- RAMP ends without success: the raised steps are lowered. -/
def State.rampEnd (s : State) : State := s.powerDown .rampAbort s.pwr.downTrig s.pwr.autoEligible

/-- The rails of the step have been in their windows for `rail_settle_us`. A step with a rail that no entry, or a REFUSED one,
supplies never becomes stable. -/
def State.stepStable (s : State) : State :=
  if s.mode ≠ .ramp ∨ !s.pwr.rising ∨ s.pwr.falling then s
  else
    let n := s.pwr.step
    let rails := s.stepRails n
    if rails.any fun r => s.railUnbound r || (s.rail r).state = .failed then s
    else
      let s := (rails.foldl (fun s r => s.setRail r .up) s).modPwr fun p => { p with rising := false }
      let s := if n = 2 then s.storeStandby.modRst fun r => { r with load := some { slot := s.sec.preferred, since := s.now } } else s
      if s.pwr.rampAbort then s.rampEnd
      else match s.stepAfter n with
        | some k => s.enableStep k
        | none => s.setMode .train 5

def execRailStepStable (s : State) : Host.Outcome State Fault Refusal := .next s.stepStable.settle

/-- The step did not become stable: its rails still out of their windows are FAILED, and RAMP is aborted. -/
def State.stepTimeout (s : State) (out : List (Fin 64)) : State :=
  if s.mode ≠ .ramp ∨ !s.pwr.rising ∨ s.pwr.falling then s
  else
    let s := (s.stepRails s.pwr.step).foldl (fun s r =>
      s.setRail r (if s.railUnbound r || out.any (·.val == r) then .failed else .up)) s
    let s := s.bump P.ramp_failures
    let s := if s.pwr.rampAbort then s else s.modPwr fun p => { p with downTrig := 4, autoEligible := false }
    s.rampEnd

def execRailStepTimeout (failed : List (Fin 64)) (s : State) : Host.Outcome State Fault Refusal := .next (s.stepTimeout failed)

/-- The rails of the step are below 10 % or the time is out: the next step is lowered, or the power-down ends. -/
def State.downStep (s : State) : State :=
  if !s.pwr.falling then s
  else
    let n := s.pwr.step
    let s := (s.stepRails n).foldl (fun s r => if (s.rail r).state = .failed then s else s.setRail r .off) s
    match s.stepBelow n with
    | some k => if s.pwr.goal = .sealed ∧ k ≤ 2 then s.downEnd else s.lower n
    | none => s.downEnd

def execPowerDownStep (s : State) : Host.Outcome State Fault Refusal := .next s.downStep

def execMinOffExpiry (s : State) : Host.Outcome State Fault Refusal :=
  .next (if s.mode = .standby ∧ s.pwr.onHeld then (s.modPwr fun p => { p with railsOff := none, onHeld := false }).onRequest else s)

/-- Steps 2 and 1 are lowered. -/
def execStandbyLgmIdle (s : State) : Host.Outcome State Fault Refusal :=
  .next s.lgmIdle

/-! ### Capacitance test (R401, R402) -/

/-- With a result at hand, the energy at the lowered voltage does not cover the data that is dirty or reserved. -/
def State.capDefers (s : State) : Bool :=
  let e := s.energyAt (s.holdLow - s.param P.cap_test_drop_mv)
  s.store.capMf != 0 && decide (e.1 < ((s.dirtyCount + s.pde.reserved) * segBytes : Nat) * e.2)

/-- Start the test, or defer it by 10 min. A `cap_test` while the scheduled test runs reports that test. -/
def State.capStart (s : State) (cmd : Bool) : State :=
  if s.store.capPhase ≠ .idle then s.modStore fun x => { x with capCmd := x.capCmd || cmd }
  else if s.capDefers then
    let s := (s.bump P.cap_tests_deferred).modStore fun x => { x with capRetry := some (s.now + 600 * secNs) }
    if cmd then s.failed P.cap_test 0x04 else s
  else s.modStore fun x => { x with capPhase := .settling, capCmd := cmd, holdTestEn := true, capRetry := none }

def execCapTest (r : Req) (s : State) : Host.Outcome State Fault Refusal :=
  .next (s.command r P.cap_test fun _ _ s => s.capStart true)

def execCapTestSchedule (s : State) : Host.Outcome State Fault Refusal :=
  .next (if s.mode.capTest && s.store.capPhase = .idle then s.capStart false else s)

/-- V1 and t1 are taken. -/
def execCapTestFirstSample (mv : Nat) (s : State) : Host.Outcome State Fault Refusal :=
  .next (if s.store.capPhase = .settling then s.modStore fun x => { x with capPhase := .discharging, v1 := mv, t1 := s.now } else s)

/-- The test fails with a reason; `cap_mf` stays. -/
def State.capFail (s : State) (reason : Nat) : State :=
  ((s.modStore fun x => { x with capPhase := .idle, holdTestEn := false, capCmd := false }).bump P.cap_tests_failed).failed P.cap_test reason

/-- t2 and V2 are taken: C := I × (t2 − t1) ÷ (V1 − V2), in mF from mA, µs and mV. -/
def State.capEnd (s : State) (ma dtUs mv : Nat) : State :=
  let v1 := s.store.v1
  if s.store.capPhase ≠ .discharging ∨ v1 ≤ mv then s
  else
    let c := ma * dtUs / ((v1 - mv) * 1000)
    if ma < 100 then s.capFail 0x01
    else if c < 50 ∨ 100000 < c then s.capFail 0x03
    else
      let s := s.modStore fun x =>
        { x with
          capPhase := .idle, holdTestEn := false, capCmd := false, capMf := c, capHours := s.evr.hours, capRetry := none
          capFirstMf := if x.capFirstMf = 0 then c else x.capFirstMf }
      (s.event 0x0444 0 [c, v1]).done P.cap_test (leBytes 4 c ++ leBytes 4 v1)

def execCapTestEnd (ma dtUs mv : Nat) (s : State) : Host.Outcome State Fault Refusal := .next (s.capEnd ma dtUs mv)

def execCapTestTimeout (s : State) : Host.Outcome State Fault Refusal :=
  .next (if s.store.capPhase = .idle then s else s.capFail 0x02)

/-! ### QUIESCE and the fatal stop (R404, R406) -/

def execQuiesceTimeout (s : State) : Host.Outcome State Fault Refusal :=
  .next (if s.mode = .quiesce ∧ s.pwr.offPending.isSome then s.enterSave saveCommanded .commanded 2 s.saveStart else s)

/-- The plan has not been reported within 5 ms of a fatal stop. -/
def execFatalPlanTimeout (s : State) : Host.Outcome State Fault Refusal :=
  .next (if s.mode ≠ .save ∨ s.pwr.lastOff ≠ .fatal then s
    else match s.pde.run with
      | some r => if r.planned then s else s.afterSave
      | none => s.afterSave)

end Sys2Proof.Machine
end

