-- ==== Sys2Proof/Machine/Boot.lean ====
section
/-!
DEFINITION. Cold start, image load, restarts, clocks and temperature (chapter 16, and R440–R443).
-/

namespace Sys2Proof.Machine

/-! ### Cold start (R410, R412, R413) -/

def execVddAonRise (s : State) : Host.Outcome State Fault Refusal := .next (if s.rst.vddAon then s else s.coldReset .vddAon)

def execVddAonLoss (s : State) : Host.Outcome State Fault Refusal := .next s.aonLoss

/-- A reset request: in STANDBY and SEALED a COLD reset, otherwise an immediate off that ends in one. -/
def State.sysRst (s : State) : State :=
  if !s.rst.vddAon then s
  else
    let s := s.bump P.sys_rst_events
    if s.mode = .standby ∨ s.mode = .sealed then s.coldReset .sysRst
    else (s.modPwr fun p => { p with resetHeld := true }).immediateOff

def execSysRstN (s : State) : Host.Outcome State Fault Refusal := .next s.sysRst

/-- REFCLK is absent or out of range at a cold start: the fault is raised, and the device holds at this step. -/
def State.refclkFault (s : State) : State :=
  (s.setFlag P.clk_status 0).acceptFault ((faultMsg 0x09 39 .ftl Kind.clock 0).detected s.now) .ftl

def execColdResetRelease (refclkOk : Bool) (s : State) : Host.Outcome State Fault Refusal :=
  .next (if !s.rst.vddAon ∨ s.rst.cold ≠ .held then s
    else
      let s := s.modRst fun r => { r with cold := .rom, refclkOk := refclkOk }
      if refclkOk then s else s.refclkFault)

/-- The root synthesizer locks: the option area is read, the power-cycle count advances, KEK and CWK are derived, STANDBY is
entered and `auto_on` evaluated. -/
def State.rootLock (s : State) (a b : Bool) : State :=
  if s.rst.cold ≠ .rom ∨ !s.rst.refclkOk then s
  else
    let opt : OptState := if a && b then .ok else if a || b then .repaired else .failed
    let s := s.modRst fun r => { r with cold := .done, rootLocked := true, option := opt, coldStartMs := s.now / msNs }
    let s := s.modEvr fun e => { e with cycles := min (e.cycles + 1) (2 ^ 24 - 1) }
    let s := s.modSec fun x => { x with kekReady := x.keySeed != 0 && !x.killFused }
    let s := s.setMode .standby 8
    if opt = .failed then s.fault (faultMsg 0x08 0 .ftl Kind.memUe 0)
    else if s.pwr.resetHeld then (s.modPwr fun p => { p with resetHeld := false }).coldReset .sysRst
    else if s.paramOn P.auto_on ∧ s.feedsPresent ≠ 0 then s.onRequest
    else s

def execRootLock (copyAOk copyBOk : Bool) (s : State) : Host.Outcome State Fault Refusal := .next (s.rootLock copyAOk copyBOk)

/-! ### Image load (R355, R414, R415, R417) -/

/-- No slot passed. A restart leaves the cores in reset; otherwise BOOT raises an off request. -/
def State.bootFails (s : State) (l : ImageLoad) : State :=
  let s := (s.bump P.boot_failures).event 0x0640 0 [l.failA, l.failB]
  let s := s.modRst fun r => { r with load := none }
  if l.restart then s.failed P.core_restart 0x01
  else if s.mode = .ramp then s.abortRamp 2 false
  else if s.unserved then s.powerDown .rampAbort 2 false
  else s.orderlyOff

/-- The slot being loaded fails a check: INVALID, and the other slot is tried once. -/
def State.slotFails (s : State) (l : ImageLoad) (step : Nat) : State :=
  let s := s.modSlot l.slot fun t => { t with state := .invalid }
  let l := if l.slot then { l with failB := step } else { l with failA := step }
  if l.second then s.bootFails l
  else s.modRst fun r => { r with load := some { l with slot := !l.slot, second := true, phase := LoadPhase.header } }

def execBootHeaderChecked (outcome : HeaderOutcome) (s : State) : Host.Outcome State Fault Refusal :=
  .next (match s.rst.load with
    | some l =>
      if l.phase ≠ LoadPhase.header then s
      else
        let step := s.headerStep (s.imageSlot l.slot).header outcome
        if step = 0 then s.modRst fun r => { r with load := some { l with phase := .body } } else s.slotFails l step
    | none => s).settle

/-- Check 6 is complete. The cores start from the slot, and the active slot and its digest are set. -/
def State.bodyVerified (s : State) (ok : Bool) : State :=
  match s.rst.load with
  | none => s
  | some l =>
    if l.phase ≠ LoadPhase.body then s
    else if !ok then s.slotFails l 6
    else
      let h := (s.imageSlot l.slot).header
      let s := s.modSlot l.slot fun t => { t with state := .valid }
      let s := s.modSec fun x =>
        { x with active := l.slot, imageDigest := headerDigest h, imageVersion := headerVersion h, runningSecurity := headerSecurity h }
      let s := s.modRst fun r => { r with coresUp := true, heldClusters := [], coreStartMs := (s.now - r.onAt) / msNs }
      if l.restart then ((s.rqCount 10 (headerLen h)).modRst fun r => { r with load := none }).done P.core_restart
      else s.modRst fun r => { r with load := some { l with phase := .started } }

def execImageBodyVerified (ok : Bool) (s : State) : Host.Outcome State Fault Refusal := .next (s.bodyVerified ok).settle

/-- The image is in the CPX working area, and the staging SRAM passes to BPM. -/
def execImageCopyComplete (s : State) : Host.Outcome State Fault Refusal :=
  .next (match s.rst.load with
    | some l =>
      if l.phase = .started ∧ s.trained then
        (s.rqCount 10 (headerLen (s.imageSlot l.slot).header)).modRst fun r => { r with load := none, copied := true }
      else s
    | none => s)

/-- `core_restart`: CD0–CD3 are reset, and the preferred slot is loaded again. -/
def State.coreRestart (s : State) : State :=
  let s := s.resetClusters fun _ => true
  let s := [0, 1, 2, 3].foldl (fun s d => s.bump P.domain_resets d) s
  s.modRst fun r =>
    { r with
      coresUp := false, heldClusters := [0, 1, 2, 3], restarts := []
      load := some { slot := s.sec.preferred, restart := true, since := s.now } }

def execCoreRestart (r : Req) (s : State) : Host.Outcome State Fault Refusal :=
  .next (s.command r P.core_restart fun _ _ s => s.coreRestart)

/-- A cluster's watchdog restarts a core. -/
def execClusterWatchdog (cluster core : Fin 4) (pc : BitVec 64) (s : State) : Host.Outcome State Fault Refusal :=
  .next (if s.rst.coresUp ∧ !s.gated cluster.val then
      s.fault (faultMsg 0x10 (4 * cluster.val + core.val) .ucc Kind.watchdog cluster.val .logic (some pc.toNat) (access := 0))
    else s).settle

/-! ### Domain resets (R409, R421) -/

/-- `port_reset`: the link drops, staged addresses become effective; without its clock the command fails. -/
def State.portResetRun (s : State) (p : Nat) (clockOk : Bool) : State :=
  let s := s.portReset p
  if clockOk then s else s.failed P.port_reset 0x01

def execPortReset (r : Req) (clockOk : Bool) (s : State) : Host.Outcome State Fault Refusal :=
  .next (s.command r P.port_reset fun _ a s => s.portResetRun (leNat a) clockOk).settle

/-- The `port_reset` of this domain runs. -/
def State.portResetOf (s : State) (d : Nat) : Bool := s.running P.port_reset && leNat (s.cmdArg P.port_reset) + 5 == d

/-- Lift the fences of a port. -/
def State.liftPort (s : State) (p : Nat) : State :=
  let d := 5 + p
  let s := (s.fenceLifted (portFence p)).fenceLifted (0x0900 + d)
  let s := s.modRst fun r => { r with fenced := r.fenced.filter (· != d), clkFenced := r.clkFenced.filter (· != d) }
  if p < 4 then s else s.modTport (p - 4) fun t => { t with fenced := false }

/-- The reset of a domain ends. A fenced domain stays in reset, but for a port under `port_reset`. -/
def State.domainReleased (s : State) (d : Nat) : State :=
  let own := s.portResetOf d
  if !s.rst.inReset.contains d ∨ (s.rst.fenced.contains d ∧ !own) then s
  else
    let s := s.modRst fun r => { r with inReset := r.inReset.filter (· != d) }
    if own then (s.liftPort (d - 5)).done P.port_reset else s

def execDomainResetRelease (domain : Fin 40) (s : State) : Host.Outcome State Fault Refusal :=
  .next (s.domainReleased domain.val).settle

/-! ### Clock supervision (R420, Table 16.4) -/

/-- Nominal frequency of a domain in kHz. -/
def State.nominalKhz (s : State) (d : Nat) : Nat :=
  if d < 4 then 2400000
  else if 5 ≤ d ∧ d ≤ 10 then 53125000
  else if 14 ≤ d ∧ d ≤ 29 then (if s.rst.mcDiv = 8 then 1200000 else 1600000)
  else if 30 ≤ d ∧ d ≤ 37 then 1200000
  else if d = 39 then 200000
  else 1600000

/-- Is a measurement off by more than `ppm`? -/
def offBy (nominal khz ppm : Nat) : Bool := (max nominal khz - min nominal khz) * 1000000 > nominal * ppm

/-- ETHREF is out of range: every port link goes down. -/
def State.ethrefFault (s : State) (khz : Nat) : State :=
  (List.range 6).foldl (fun s p =>
    if s.gated (5 + p) then s
    else ((s.bump P.domain_clock_faults (5 + p)).acceptFault ((faultMsg 0x09 (5 + p) .ucc Kind.clock khz).detected s.now) .ucc).portDown p)
    (s.setFlag P.clk_status 2)

/-- A measurement of a clock: domains 0–39 (39 with 0 kHz: the root has lost lock), 40 REFCLK, 41 ETHREF. -/
def State.clockCheck (s : State) (src khz : Nat) : State :=
  if !s.rst.vddAon ∨ s.rst.cold = .held then s
  else if src = 40 then
    let ok : Bool := 75000 ≤ khz && khz ≤ 125000
    let was := s.rst.refclkOk
    let s := s.modRst fun r => { r with refclkOk := ok }
    if ok ∨ !was then s else (s.setFlag P.clk_status 0).fault (faultMsg 0x09 39 .ftl Kind.clock khz)
  else if src = 41 then
    if s.gated 5 && s.gated 6 && s.gated 7 && s.gated 8 && s.gated 9 && s.gated 10 then s
    else
      let s := s.modRst fun r => { r with ethrefPpm := ((khz : Int) - 156250) * 1000000 / 156250 }
      if offBy 156250 khz 500 then s.ethrefFault khz else s
  else if s.gated src then s
  else
    let s := s.modRst fun r => { r with freqKhz := r.freqKhz.set src khz }
    if src = 39 ∧ khz = 0 then
      ((s.modRst fun r => { r with rootLocked := false }).setFlag P.clk_status 1).fault (faultMsg 0x09 39 .ftl Kind.clock 0)
    else if offBy (s.nominalKhz src) khz (if 5 ≤ src ∧ src ≤ 10 then 500 else 5000) then
      s.fault (faultMsg 0x09 src .ucc Kind.clock khz)
    else s

def execClockCheck (source : Fin 42) (freqKhz : Nat) (s : State) : Host.Outcome State Fault Refusal :=
  .next (s.clockCheck source.val freqKhz).settle

/-! ### Temperature (R440–R443) and the LGM patrol (R14) -/

/-- Hottest sensor. -/
def Thermal.hottest (t : Thermal) : Int :=
  match t.sensors with
  | [] => 0
  | a :: l => l.foldl (fun m x => max m x.toInt) a.toInt

/-- A sample of the eight sensors. The THERMTRIP_N comparator works through every reset; the statistics are PWR's. -/
def State.thermalSample (s : State) (temps : List (BitVec 8)) : State :=
  if temps.length ≠ 8 ∨ !s.rst.vddAon then s
  else
    let s := s.modThermal fun t => { t with sensors := temps }
    let m := s.thermal.hottest
    let trip : Bool := m ≥ 120 && !s.thermal.tripped
    let s := s.bumpIf trip P.thermtrip_events
    let s := s.modThermal fun t =>
      { t with tripped := t.tripped || trip, coolSince := if m < 110 then some (t.coolSince.getD s.now) else none }
    if s.rst.cold = .held then s
    else
      s.modThermal fun t =>
        { t with
          peak := some (max m (t.peak.getD m)), lifeSum := t.lifeSum + m, samples := t.samples + 1
          hotMs := t.hotMs + flag (decide (m > 95)) }

def execThermalSample (temps : List (BitVec 8)) (s : State) : Host.Outcome State Fault Refusal := .next (s.thermalSample temps)

def execThermtripRelease (s : State) : Host.Outcome State Fault Refusal :=
  .next (if s.thermal.hottest < 110 then s.modThermal fun t => { t with tripped := false } else s)

/-- Reel rewrites the next 64-byte word of LGM (512 MiB). -/
def execLgmPatrolRewrite (s : State) : Host.Outcome State Fault Refusal :=
  .next (if s.gated 4 ∨ s.gated 38 then s else s.modDram fun d => { d with lgmWord := (d.lgmWord + 1) % 2 ^ 23 })

end Sys2Proof.Machine
end

