-- ==== Sys2Proof/Machine/Dram.lean ====
section
/-!
DEFINITION. DRAM: SPD, training, poisoned lines and their repair, CA replay, scrub, page retirement and the channel fence
(chapter 11).
-/

namespace Sys2Proof.Machine

/-! ### Population (R285–R287) -/

/-- A DIMM that Table 11.1 and R286 allow, of the same form as the first. -/
def slotSound (x first : SpdSlot) : Bool :=
  x.crcOk && x.supported && ([32, 64, 96, 128, 256, 512] : List Nat).contains x.capacityGib && 4800 ≤ x.topMts &&
  x.capacityGib == first.capacityGib && x.formCode == first.formCode

def emptySlot : SpdSlot := { present := false, crcOk := false, supported := false, capacityGib := 0, formCode := 0, topMts := 0, raw := [] }

/-- Slot k of channel ch among the 32 read. -/
def slotAt (l : List SpdSlot) (ch k : Nat) : SpdSlot := l.getD (2 * ch + k) emptySlot

/-- Channels populated and DIMMs per channel, when the population keeps the rules of R285. -/
def population (l : List SpdSlot) : Option (Nat × Nat) :=
  let has := fun ch k => (slotAt l ch k).present
  let n := if has 8 0 then 16 else 8
  let dpc := if has 0 1 then 2 else 1
  let ok := (List.range 16).all fun ch => (has ch 0 == decide (ch < n)) && (has ch 1 == (decide (ch < n) && dpc == 2))
  let sound := (List.range 32).all fun i => !(slotAt l (i / 2) (i % 2)).present || slotSound (slotAt l (i / 2) (i % 2)) (slotAt l 0 0)
  if ok && sound then some (n, dpc) else none

/-- Lowest of the highest speeds that the SPDs list. -/
def lowestMts (l : List SpdSlot) : Nat := (l.filter (·.present)).foldl (fun m x => min m x.topMts) (slotAt l 0 0).topMts

/-- The channels that break the rules, by a DIMM or by a slot that is filled or empty against them: the TRAINING fault names step 1. -/
def State.populationFault (s : State) (l : List SpdSlot) : State :=
  let n := if (slotAt l 8 0).present then 16 else 8
  let two := (slotAt l 0 1).present
  (List.range 16).foldl (fun s ch =>
    let due := fun (k : Nat) => decide (ch < n) && (k == 0 || two)
    let bad := fun k => (slotAt l ch k).present != due k || ((slotAt l ch k).present && !slotSound (slotAt l ch k) (slotAt l 0 0))
    if bad 0 || bad 1 then
      (s.setFlag (perInst P.mc_err_status ch) 4).acceptFault ((faultMsg 0x40 ch .ucc Kind.training 1).detected s.now) .ucc
    else s) s

/-- The SPDs have been read: the raw contents are kept, R285 and R286 applied, CLK_MC set and the MCs released. -/
def State.spdRead (s : State) (l : List SpdSlot) : State :=
  let s := (List.range 16).foldl (fun s ch =>
    s.modMc ch fun m => { m with spd0 := (slotAt l ch 0).raw, spd1 := (slotAt l ch 1).raw
                                 capacityGib := (slotAt l ch 0).capacityGib * flag (slotAt l ch 0).present +
                                   (slotAt l ch 1).capacityGib * flag (slotAt l ch 1).present }) s
  match population l with
  | none =>
    (s.modDram fun d => { d with train := .failed, mcs := d.mcs.mapVals fun _ m => { m with state := if m.fenced then .fenced else .absent } }).populationFault l
  | some (n, dpc) =>
    let low := lowestMts l
    let speed := if dpc = 1 ∧ low ≥ 6400 then 6400 else 4800
    let s := if dpc = 1 ∧ low < 6400 then s.event 0x4040 0 [speed, low] else s
    let cu := (s.mc 0).capacityGib * 2 ^ 30 - 65 * 2 ^ 20
    let s := s.modDram fun d =>
      { d with
        speedMts := speed, dpc := dpc, channels := n, cu := cu, train := .running
        mcs := d.mcs.mapVals fun ch m => { m with state := if ch < n then .training else .absent, steps := 1 } }
    s.modRst fun r => { r with mcDiv := if speed = 6400 then 6 else 8 }

def execSpdReadComplete (slots : List SpdSlot) (s : State) : Host.Outcome State Fault Refusal :=
  .next (if s.mode = .train ∧ s.dram.train = .running ∧ s.dram.channels = 0 then s.spdRead slots else s).settle

/-! ### Training (R290–R293, R308) -/

/-- Lift the fence of a channel. -/
def State.liftChannel (s : State) (ch : Nat) : State :=
  (s.fenceLifted (0x4000 + ch)).modMc ch fun m => { m with state := .inService, fenced := false, ueLog := [] }

/-- A channel completes a step of Table 11.2, or fails it and is fenced. After a power loss, the DRAM reset of step 2 ends every
poison encoding. -/
def State.trainStep (s : State) (ch step : Nat) (ok : Bool) (margin : Nat) : State :=
  if (s.mc ch).state ≠ .training then s
  else if !ok then s.fault (faultMsg 0x40 ch .ucc Kind.training step)
  else
    let s := s.modMc ch fun m => { m with steps := max m.steps step, marginPs := if step = 7 then margin else m.marginPs }
    if step = 2 ∧ !s.dram.warm then s.modDram fun d => { d with poison := d.poison.filter fun l => s.channelOf (l * 64) != ch }
    else s

def execTrainingStepComplete (ch : Fin 16) (step : Nat) (ok : Bool) (marginPs : Nat) (s : State) : Host.Outcome State Fault Refusal :=
  .next (s.trainStep ch.val step ok marginPs).settle

/-- The first `n` of a channel's rows on the pending list. -/
def State.duePpr (s : State) (ch n : Nat) : List (Nat × Nat) := (s.dram.pprPending.filter (·.1 == ch)).take n

/-- Repair of pending rows: a repaired row's page will be copied back; a row without a resource stays remapped. -/
def State.pprRepair (s : State) (rows : List PprRow) : State :=
  (List.range 16).foldl (fun s ch =>
    if (s.mc ch).state ≠ .training then s
    else (s.duePpr ch (s.param P.ppr_per_train)).foldl (fun s r =>
      let kind := match rows.find? fun x => x.ch.val == ch && x.page.toNat == r.2 with
        | some x => x.kind
        | none => .hard
      let s := s.modDram fun d => { d with pprPending := d.pprPending.filter (· != r) }
      if kind = .none_ then s
      else
        let s := (s.bump P.ppr_done).modDram fun d => { d with softRows := if kind = .soft then d.softRows ++ [r] else d.softRows }
        s.modMc ch fun m => { m with remaps := m.remaps.map fun x => if x.page = r.2 then { x with back := true } else x }) s) s

/-- The result of training, from the channels that are in service. -/
def State.trainResult (s : State) : State :=
  let n := (List.range s.dram.channels).countP fun ch => (s.mc ch).state = .inService
  s.modDram fun d =>
    { d with train := if n = 0 then .failed else if n < d.channels then .passedFenced else .passed, warm := true, scrubLine := 0 }

/-- Training ends: a channel whose steps have all passed goes into service, unless the fence recorded in `mc_fence` holds. -/
def State.trainDone (s : State) (rows : List PprRow) : State :=
  if s.mode ≠ .train ∨ s.dram.train ≠ .running ∨ s.dram.channels = 0 then s
  else
    let s := s.pprRepair rows
    let s := s.modDram fun d =>
      { d with mcs := d.mcs.mapVals fun ch m =>
          if m.state = .training then
            { m with state := if m.fenced || bit (s.param P.mc_fence) ch then .fenced else if 7 ≤ m.steps then .inService else .training }
          else m }
    let s := (List.range s.dram.channels).foldl (fun s ch => if (s.mc ch).state = .training then s.fault (faultMsg 0x40 ch .ucc Kind.training ((s.mc ch).steps + 1)) else s) s
    s.trainResult

def execDramTrainComplete (rows : List PprRow) (s : State) : Host.Outcome State Fault Refusal := .next (s.trainDone rows).settle

/-- `dram_retrain`: `failed` gives the channels of the mask that fail, with the step. After a failed training, the population check is
made again first. -/
def State.retrain (s : State) (mask : Nat) (slots : List SpdSlot) (failed : List (Fin 16 × Nat)) : State :=
  let s := if s.dram.train = .failed then s.spdRead slots else s
  if s.dram.channels = 0 then s.done P.dram_retrain (leBytes 2 0)
  else
    let chs := (List.range s.dram.channels).filter fun ch => bit mask ch && !s.rst.fenced.contains (14 + ch)
    let bad := fun ch => failed.find? fun f => f.1.val == ch
    let s := chs.foldl (fun s ch =>
      match bad ch with
      | some f => (s.modMc ch fun m => { m with state := .training }).fault (faultMsg 0x40 ch .ucc Kind.training f.2)
      | none =>
        if bit (s.param P.mc_fence) ch then s.modMc ch fun m => { m with steps := 7, fenced := false, state := .fenced }
        else (s.liftChannel ch).modMc ch fun m => { m with steps := 7 }) s
    let passed := (chs.filter fun ch => (bad ch).isNone).map (2 ^ ·)
    (s.trainResult).done P.dram_retrain (leBytes 2 passed.sum)

def execDramRetrain (r : Req) (slots : List SpdSlot) (failed : List (Fin 16 × Nat)) (s : State) : Host.Outcome State Fault Refusal :=
  .next (s.command r P.dram_retrain fun _ a s => s.retrain (leNat a) slots failed).settle

/-- A hub's temperature sensor is read (R289). -/
def State.tempPoll (s : State) (ch slot t : Nat) : State :=
  if (s.mc ch).state ≠ .inService then s
  else
    let s := s.modMc ch fun m => if slot = 0 then { m with tempC0 := t } else { m with tempC1 := t }
    let s := s.modMc ch fun m => { m with doubleRefresh := 85 ≤ max m.tempC0 m.tempC1 }
    if 95 ≤ t then (s.setFlag (perInst P.mc_err_status ch) 5).event 0x4041 ch [slot, t] else s

def execSpdTemperaturePoll (ch : Fin 16) (slot : Fin 2) (temp : BitVec 8) (s : State) : Host.Outcome State Fault Refusal :=
  .next (s.tempPoll ch.val slot.val temp.toNat)

/-! ### Uncorrected lines (R297, R302, R303) -/

/-- Does a line hold the poison encoding? -/
def State.poisoned (s : State) (a : Nat) : Bool := s.dram.poison.contains (a / 64)

/-- The line's segment can be taken from the deep store: its contents there. -/
def State.deepLine (s : State) (lsn : Nat) : Option (List Host.Cell) :=
  if s.segState lsn ≠ .clean ∨ !s.inDomain lsn then none
  else
    let home := match s.frameOfLsn lsn with
      | some n => match s.tmv.frames.find? n with
        | some f => (s.entry f.idx f.seg).home
        | none => 0
      | none => lsn
    let e := s.deepOf home
    some (if e.kind = .planned then [] else e.content)

/-- Write repaired octets to a line that still holds the poison encoding (R300). -/
def State.repairLine (s : State) (line : Nat) (b : Bytes) : State :=
  if !s.poisoned (line * 64) then s
  else
    let s := (s.dramWrite (line * 64) b).modDram fun d =>
      { d with poison := d.poison.filter (· != line), repairs := d.repairs.filter (· != line * 64) }
    (s.bump P.line_repairs).rqCount 11 64

/-- Firmware repairs a poisoned line from the first open source: deep store, then twin. -/
def State.lineRepair (s : State) (a : Nat) : State :=
  if !s.poisoned a then s
  else
    let line := a / 64
    let lsn := a / segBytes
    match s.deepLine lsn with
    | some cells => (s.rqCount 6 64).repairLine line (Memory.read (Memory.extract cells (line % 1024 * 64) 64) 0 64)
    | none => match s.ownerOf lsn with
      | some o => if s.twinSource (s.desc o.1).group then s.twinRead o.1 o.2 (some line) else s
      | none => s

def execLineRepair (addr : BitVec 64) (s : State) : Host.Outcome State Fault Refusal :=
  if s.dramBytes ≤ addr.toNat then .fault .noSuchAddress else .next (s.lineRepair addr.toNat)

/-- Firmware's answer to an uncorrected descriptor line on RQ2: with no repair source, its regions are LOST. -/
def State.descLineLost (s : State) (a : Nat) : State :=
  if (s.deepLine (a / segBytes)).isSome then s
  else
    let area := s.areaOf (a / segBytes)
    if tableSegs ≤ area then s
    else
      let idx := (area * segBytes + a % segBytes / 64 * 64) / 64
      s.loseRegion idx (s.desc idx).lengthSeg

/-- What the agent of a requester port does on an uncorrected or poisoned line (Table 11.4), where no completion of its own carries it
out. `unit`: for RQ3 the queue pair; for RQ5 the LSN drained; for RQ8 the agent's tag of Table 3.11 in [31:24] and its identifier; for
RQ10 the core, with bit 31 set for a data load. -/
def State.agentActs (s : State) (rq a unit : Nat) : State :=
  match rq with
  | 2 => s.descLineLost a
  | 3 => (s.modQp unit fun q => { q with logDead := true }).enterError unit Cause.channelHalt
  | 5 => s.abandonDrain unit
  | 8 => s.haltChannel (unit / 2 ^ 24) (unit % 2 ^ 24)
  | 9 => s.modFlash fun f => { f with holds := f.holds.filter fun h =>
      !(s.holdSeg h == a / segBytes && h.at_ * 16384 % segBytes ≤ a % segBytes && a % segBytes < h.at_ * 16384 % segBytes + h.size * 16384) }
  | 10 => if unit ≥ 2 ^ 31 then s else s.coreRestarted (unit % 16) 0
  | _ => s

/-- A read through a requester port returns no data: a new uncorrected line is a fault and takes the poison encoding. -/
def State.uncorrectedRead (s : State) (rq a unit : Nat) : State :=
  let s := if s.poisoned a then s else s.lineFault rq (a / 64 * 64)
  s.agentActs rq a unit

def execDramUncorrectedRead (rq : Fin 12) (addr : BitVec 64) (unit : BitVec 32) (s : State) : Host.Outcome State Fault Refusal :=
  if s.dramBytes ≤ addr.toNat then .fault .noSuchAddress else .next (s.uncorrectedRead rq.val addr.toNat unit.toNat).settle

/-! ### CA parity (R304) -/

/-- ALERT_N: the MC replays its retry buffer; `retired`: an entry has retired since the last alert. -/
def State.caAlert (s : State) (ch entries : Nat) (retired : Bool) : State :=
  if (s.mc ch).state ≠ .inService ∧ (s.mc ch).state ≠ .training then s
  else
    let n := if retired then 1 else (s.mc ch).alerts + 1
    let s := ((s.modMc ch fun m => { m with alerts := n }).bump P.ca_replays).setFlag (perInst P.mc_err_status ch) 2
    let s := s.fault (faultMsg 0x40 ch .ce Kind.caReplay entries)
    if s.param P.ca_retry_limit ≤ n then
      (s.modMc ch fun m => { m with alerts := 0 }).fault (faultMsg 0x40 ch .ucc Kind.caLimit n)
    else s

def execAlertN (ch : Fin 16) (entries : Nat) (retired : Bool) (s : State) : Host.Outcome State Fault Refusal :=
  .next (s.caAlert ch.val entries retired).settle

/-! ### Scrub (R305) -/

/-- Reel reads the next line of its pass. -/
def State.scrub (s : State) (a : Nat) (o : LineOutcome) : State :=
  if s.mode = .save ∨ (s.mc (s.channelOf a)).state ≠ .inService then s
  else
    let s := s.rqCount 11 64
    let s := match o with
      | .clean => s
      | .corrected => s.lineCorrected 0x0B (a / 64 * 64)
      | .uncorrected => if s.poisoned a then s else s.lineFault 0x0B (a / 64 * 64)
    let n := s.dram.scrubLine + 1
    if s.dramBytes ≤ n * 64 then (s.modDram fun d => { d with scrubLine := 0 }).bump P.scrub_passes
    else s.modDram fun d => { d with scrubLine := n }

def execScrubRead (addr : BitVec 64) (outcome : LineOutcome) (s : State) : Host.Outcome State Fault Refusal :=
  if s.dramBytes ≤ addr.toNat then .fault .noSuchAddress else .next (s.scrub addr.toNat outcome).settle

/-! ### Page retirement (R306–R309) -/

/-- `page_retire`: a spare page is taken and the copy begins. -/
def State.pageRetire (s : State) (a : Nat) : State :=
  if s.dramBytes ≤ a then s.failed P.page_retire 0x02
  else
    let r := s.retireStart a
    if r.2 then r.1 else r.1.failed P.page_retire 0x01

def execPageRetire (r : Req) (s : State) : Host.Outcome State Fault Refusal :=
  .next (s.command r P.page_retire fun _ a s => s.pageRetire (leNat a))

/-- The last line of the page is copied: the entry becomes final. -/
def State.pageCopied (s : State) (ch page : Nat) : State :=
  match (s.mc ch).remaps.find? fun r => r.page == page && !r.final with
  | none => s
  | some r =>
    let s := s.modMc ch fun m => { m with remaps := m.remaps.map fun x => if x.page = page then { x with final := true } else x }
    let a := 4 * s.dram.cu * (ch / 4) + (4 * page + ch % 4) * 4096
    let s := (s.bump P.pages_retired).event 0x4042 ch [a, r.spare]
    if leNat (s.cmdArg P.page_retire) / 4096 = a / 4096 then s.done P.page_retire else s

def execPageCopyComplete (ch : Fin 16) (page : BitVec 64) (s : State) : Host.Outcome State Fault Refusal :=
  .next (s.pageCopied ch.val page.toNat)

/-- Reel has copied a repaired page back to its place: the entry is freed. -/
def execPprCopyBack (ch : Fin 16) (page : BitVec 64) (s : State) : Host.Outcome State Fault Refusal :=
  .next (if s.mode = .service ∨ s.mode = .degraded then
      s.modMc ch.val fun m => { m with remaps := m.remaps.filter fun x => !(x.page == page.toNat && x.back && x.final) }
    else s)

/-! ### `mc_fence` (R310) -/

/-- A write of `mc_fence`: a channel whose bit is set is fenced; one whose bit is cleared leaves the fence if it has been retrained. -/
def State.mcFenceWrite (s : State) (old new : Nat) : State :=
  (List.range 16).foldl (fun s ch =>
    if bit new ch && !bit old ch then s.fenceChannel ch 4
    else if !bit new ch && bit old ch && !(s.mc ch).fenced && (s.mc ch).state = .fenced then s.liftChannel ch
    else s) s

end Sys2Proof.Machine
end

