-- ==== Sys2Proof/Machine/Flash.lean ====
section
/-!
DEFINITION. Flash: carriers from insertion to removal, programs and erases, holds, map flush, patrol, garbage collection and wear
levelling, and the diagnostic commands (chapter 12).
-/

namespace Sys2Proof.Machine

/-! ### Presence and attach (R313–R317, Table 12.4) -/

/-- FL runs, so that an insertion is recorded. -/
def Mode.flRuns : Mode → Bool
  | .train | .restore | .resync | .service | .degraded | .quiesce | .maint => true
  | _ => false

/-- A carrier has been seated. -/
def State.carrierIn (s : State) (n : Nat) : State :=
  let s := s.modCarrier n fun c => { c with present := true }
  if (s.carrier n).state ≠ .empty then s
  else if s.mode = .train ∨ s.mode = .maint then s.attachBegin n
  else if s.mode.flRuns then s.event 0x5040 n []
  else s

/-- The position is empty: its channel fences are lifted with the carrier. -/
def State.carrierGone (s : State) (n : Nat) : State :=
  let s := s.carrierPowerOff n .empty
  let s := (List.range 4).foldl (fun s k => s.fenceLifted (0x5000 + 4 * n + k)) s
  let s := s.modFlash fun f => { f with cars := f.cars.set n {}, blks := f.blks.filter fun e => keyCarrier e.1 != n }
  s.setRail (10 + n) .unused

/-- The carrier has been out for 50 ms. -/
def State.carrierOut (s : State) (n : Nat) : State :=
  let s := s.modCarrier n fun c => { c with present := false }
  match (s.carrier n).state with
  | .inService | .retiring | .evacuating | .formatting => s.carrierOffline n
  | .refused | .detached | .offline | .attaching | .foreign => s.carrierGone n
  | .empty => s

def execCarrierPresenceChange (c : Fin 8) (present : Bool) (s : State) : Host.Outcome State Fault Refusal :=
  .next (if present then s.carrierIn c.val else s.carrierOut c.val).settle

/-- First check of Table 12.3 that a carrier fails; 0 when it passes all. -/
def attachFailure (o : CarrierObs) : Nat :=
  if !o.pgoodInTime then 1
  else if !optionOk o.optionArea then 2
  else if civChoice o.optionArea = 0 then 3
  else if !geometryOk o.optionArea then 4
  else if !o.targetsMatch then 5
  else if !o.trained then 6
  else 0

/-- The draw of the media key under which this device formatted the carrier, if LGM holds it (R317). -/
def State.carrierBound (s : State) (b : Bytes) : Option Nat :=
  if optDynamic b 511 384 == octetSwap 16 Config.deviceUid.toNat then
    (s.sec.mediaKeys.keysWhere fun d _ => (mediaTag d).toNat == optDynamic b 383 320).head?
  else none

/-- A bound carrier comes into service: a block that was OPEN is closed, one that was ERASING is erased again. The replay of the journal
leaves the map as its entries have it, and the pages that the records touch dirty. What is held of its open wordlines is rewritten when RESTORE has brought the holding area back; in MAINT at once. -/
def State.carrierService (s : State) (n draw : Nat) (o : CarrierObs) : State :=
  let tag := BitVec.ofNat 64 (optDynamic o.optionArea 383 320)
  let s := s.modCarrier n fun c =>
    let own := c.keyTag == tag
    let dyn := fun hi lo => optDynamic o.optionArea hi lo
    { c with
      state := .inService, wp := false, keyTag := tag, keyDraw := draw
      spareBlocks := if own then c.spareBlocks else dyn 191 160
      retiredBlocks := if own then c.retiredBlocks else dyn 223 192
      maxPe := if own then c.maxPe else dyn 255 224 }
  let s := s.modCarrier n fun c => { c with goodBlocks := 4 * o.goodBlocks - c.retiredBlocks, usableMib := s.slotUsableMib }
  let mine := fun (k : Nat) => keyCarrier k == n
  let opened := s.flash.blks.keysWhere fun k b => mine k && b.state = .open_
  let s := s.modFlash fun f =>
    { f with
      blks := f.blks.mapVals fun k b =>
        if !mine k then b else { b with suspended := false, state := if b.state = .open_ then .full else b.state }
      sbs := f.sbs.mapVals fun _ b => if b.blocks.any opened.contains then { b with full := true } else b }
  if s.mode = .maint then
    (s.settleHolds fun _ => false).modCarrier n fun c => if s.targetSlot = 0 then { c with erasedSlot0 := true } else { c with erasedSlot1 := true }
  else s

def State.attachChecked (s : State) (n : Nat) (o : CarrierObs) : State :=
  if (s.carrier n).state ≠ .attaching then s
  else
    let code := attachFailure o
    let b := o.optionArea
    let s := if b.length = 192 then s.modCarrier n fun c => { c with option := b } else s
    if code ≠ 0 then
      let s := (s.carrierPowerOff n .refused).modCarrier n fun c => { c with refuseReason := code }
      let s := s.event 0x5041 n [code]
      if code = 3 then s.event 0x5042 n [optStatic b 975 912] else s
    else
      let s := (s.modCarrier n fun c => { c with pgood := true, civ := civChoice b }).setRail (10 + n) .up
      let s := match s.carrierBound b with
        | some d => s.carrierService n d o
        | none => s.modCarrier n fun c => { c with state := .foreign, keyDraw := 0, goodBlocks := 4 * o.goodBlocks, erasedSlot0 := false, erasedSlot1 := false }
      if s.attached then s.evalArea else s

def execCarrierAttachChecks (c : Fin 8) (obs : CarrierObs) (s : State) : Host.Outcome State Fault Refusal :=
  .next (s.attachChecked c.val obs).settle

/-- CARn_PGOOD falls: the carrier's rail fails, and with it the carrier. -/
def State.pgoodLow (s : State) (n : Nat) : State :=
  if !(s.carrier n).pgood then s
  else
    let s := (s.modCarrier n fun c => { c with pgood := false }).setFlag (perInst P.car_err_status n) 6
    if (s.rail (10 + n)).state = .up then s.railFail (10 + n) (s.rail (10 + n)).mv else s

def execCarrierPgoodLow (c : Fin 8) (s : State) : Host.Outcome State Fault Refusal := .next (s.pgoodLow c.val).settle

/-! ### Format and detach (R342) -/

/-- Carrier of a per-carrier parameter. -/
def carrierOf (num : Nat) : Nat := num / 65536 % 16

/-- A draw that fails leaves its operation undone (R347); the spec states no reason code for it, which is a free value. -/
def State.drawFails (s : State) (num : Nat) : State := s.tick.failed num (Config.drawFailure s.freeCount).toNat

/-- `carrier_format`: a new media key is drawn and every block is erased. A draw that fails leaves the carrier FOREIGN. -/
def State.formatRun (s : State) (num : Nat) : State :=
  let n := carrierOf num
  if (s.carrier n).state ≠ .foreign then s.failed num 0x01
  else if s.sec.drbgStopped then s.drawFails num
  else
    let old := (s.carrier n).keyDraw
    let s := s.drawn
    let d := s.sec.draws
    let s := s.modSec fun x => { x with mediaKeys := Tbl.set (List.filter (fun e => e.1 != old) x.mediaKeys) d n }
    s.modCarrier n fun c => { c with state := .formatting, keyTag := mediaTag d, keyDraw := d }

def execCarrierFormat (r : Req) (s : State) : Host.Outcome State Fault Refusal :=
  .next (s.command r P.carrier_format fun n _ s => s.formatRun n)

/-- A carrier's blocks are erased and its dynamic part is written as FORMATTED: it comes into service. -/
def State.asFormatted (s : State) (n : Nat) : State :=
  let s := s.modFlash fun f => { f with blks := List.filter (fun e => keyCarrier e.1 != n) f.blks }
  let s := s.modCarrier n fun c =>
    { c with
      state := .inService, wp := false, retiredBlocks := 0, spareBlocks := c.goodBlocks * s.param P.spare_pct / 100
      erasedSlot0 := true, erasedSlot1 := true, usableMib := s.slotUsableMib }
  s.writeDynamic n 1 true

def State.formatted (s : State) (n bad : Nat) : State :=
  if (s.carrier n).state ≠ .formatting then s
  else ((s.asFormatted n).evalArea).done (perInst P.carrier_format n) (leBytes 4 bad)

def execCarrierFormatComplete (c : Fin 8) (factoryBad : BitVec 32) (s : State) : Host.Outcome State Fault Refusal :=
  .next (s.formatted c.val factoryBad.toNat).settle

/-- `carrier_detach`. -/
def State.detachRun (s : State) (num : Nat) : State :=
  let n := carrierOf num
  let c := s.carrier n
  match c.state with
  | .inService | .retiring => ((s.abandonOn fun e => s.entryOnCarrier e n).modCarrier n fun c => { c with state := .evacuating, prior := c.state, relocated := 0, wp := true }).evalArea
  | .offline => ((s.carrierPowerOff n .detached).modCarrier n fun c => { c with attn := true }).done num (leBytes 8 0)
  | _ => s.failed num 0x01

def execCarrierDetach (r : Req) (s : State) : Host.Outcome State Fault Refusal :=
  .next (s.command r P.carrier_detach fun n _ s => s.detachRun n).settle

/-- The relocation of a carrier's units ends; without free space the carrier returns to its prior state. -/
def State.evacuated (s : State) (n : Nat) (noSpace : Bool) : State :=
  if (s.carrier n).state ≠ .evacuating then s
  else
    let r := s.relocate fun e => s.entryOnCarrier e n
    let num := perInst P.carrier_detach n
    if noSpace || !r.2.2 then
      let s := if noSpace then s else r.1
      ((s.modCarrier n fun c => { c with state := c.prior, wp := c.prior = .retiring }).evalArea).failed num 0x02
    else
      let s := (r.1.writeDynamic n 3 false).carrierPowerOff n .detached
      (s.modCarrier n fun c => { c with attn := true, relocated := r.2.1 }).done num (leBytes 8 r.2.1)

def execEvacuationComplete (c : Fin 8) (noSpace : Bool) (s : State) : Host.Outcome State Fault Refusal :=
  .next (s.evacuated c.val noSpace).settle

/-- The dynamic part of every carrier in use is rewritten every 24 h (R314). -/
def execOptionAreaUpdate (s : State) : Host.Outcome State Fault Refusal :=
  .next ((List.range 8).foldl (fun s n => match (s.carrier n).state with
    | .inService => s.writeDynamic n 1 false
    | .retiring => s.writeDynamic n 2 false
    | _ => s) s)

/-! ### Programs and erases (R327–R331) -/

/-- The carrier of a block takes programs and erases. -/
def CarState.takesErase : CarState → Bool
  | .inService | .retiring | .formatting | .evacuating => true
  | _ => false

/-- Is a wordline sampled for verification (R330)? -/
def State.sampled (s : State) (k wl : Nat) : Bool :=
  let c := s.carrier (keyCarrier k)
  let last := c.pagesPerBlock / max 1 c.bitsPerCell - 1
  (s.blk k).verifying || wl == 0 || wl == last || wl % s.param P.verify_interval == 0

/-- A program that FL rejects before the media: the drain that issued it is abandoned with its block (Table 7.2). -/
def State.programReject (s : State) (k : Nat) : State :=
  let ch := keyChannel k
  let s := (s.bump P.program_rejects).setFlag (perInst P.car_err_status (ch / 4)) 0
  let s := s.fault (faultMsg 0x50 ch .ucc Kind.programReject (s.blk k).pointer (.content k) (some k))
  s.suspectBlock k

/-- A program that failed on the media: the block is retired, with the drain that issued the program, and what was held of it is
rewritten elsewhere. -/
def State.programFailed (s : State) (k : Nat) : State :=
  ((s.setFlag (perInst P.car_err_status (keyCarrier k)) 1).retireBlock k 1).dropRewritten fun h => h.blk == k

/-- Room for a page in the holding area, in its 4,096 places of 16 KiB. -/
def State.holdRoom (s : State) (n : Nat) : Option Nat :=
  ((List.range (4096 / max 1 n)).map (· * n)).find? fun i => s.flash.holds.all fun h => h.at_ + h.size ≤ i || i + n ≤ h.at_

/-- Does a page wait for room in the holding area (R329)? The last page of a wordline never does. -/
def State.holdWaits (s : State) (k page : Nat) : Bool :=
  let c := s.carrier (keyCarrier k)
  let cells := max 1 c.bitsPerCell
  !s.isSlotBlock k && !c.oneShot && page % cells != cells - 1 && (s.holdRoom (c.pageBytes / 16384)).isNone

/-- A page is written to the holding area on RQ9 (R329, Table 7.1). -/
def State.holdPage (s : State) (k page : Nat) : State :=
  let c := s.carrier (keyCarrier k)
  let n := c.pageBytes / 16384
  match s.holdRoom n with
  | some i =>
    let h : Hold := { blk := k, page := page, at_ := i, size := n }
    ((s.modFlash fun f => { f with holds := f.holds ++ [h] }).rqCount 9 c.pageBytes).dirtySeg (s.holdSeg h)
  | none => s

/-- A page has programmed with status pass. All pages of a wordline but the last are held, the last too where the wordline is sampled; the
holds end with the last page, and one that fails verification is rewritten from them (R329, R330). -/
def State.programPassed (s : State) (k page : Nat) (verifyOk : Bool) : State :=
  let n := keyCarrier k
  let c := s.carrier n
  let full := page + 1 ≥ c.pagesPerBlock
  let s := s.bump (perInst P.car_bytes_programmed n) 0 c.pageBytes
  let s := s.modBlk k fun b => { b with state := if full then .full else .open_, pointer := page + 1 }
  if s.isSlotBlock k then s
  else
    let cells := max 1 c.bitsPerCell
    let wl := page / cells
    let last := page % cells == cells - 1
    let ofWl := fun (h : Hold) => h.blk == k && h.page / cells == wl
    if !last then if c.oneShot then s else s.holdPage k page
    else
      let s := if s.sampled k wl then s.holdPage k page else s
      if s.sampled k wl && !verifyOk then (s.suspectBlock k).dropRewritten ofWl
      else
        let s := s.modFlash fun f => { f with holds := f.holds.filter fun h => !ofWl h }
        if full then s.modBlk k fun b => { b with verifying := false } else s

def State.programDone (s : State) (k page : Nat) (r : ProgramResult) : State :=
  if !(s.carrier (keyCarrier k)).state.takesErase ∨ s.holdWaits k page then s
  else
    let b := s.blk k
    if (b.state ≠ .free ∧ b.state ≠ .open_) ∨ b.suspect ∨ page ≠ b.pointer then s.programReject k
    else match r with
      | .pass ok => s.programPassed k page ok
      | .fail => s.programFailed k

def execFlashProgramComplete (b : BlkAddr) (page : Nat) (res : ProgramResult) (s : State) : Host.Outcome State Fault Refusal :=
  .next (s.programDone (blkKey b) page res).settle

/-- An erase has failed: the block is retired. -/
def State.eraseFailed (s : State) (k : Nat) : State :=
  (s.setFlag (perInst P.car_err_status (keyCarrier k)) 2).retireBlock k 2

def State.eraseDone (s : State) (k : Nat) (ok : Bool) : State :=
  if !(s.carrier (keyCarrier k)).state.takesErase ∨ (s.blk k).state ≠ .erasing then s
  else if !ok then s.eraseFailed k
  else
    let s := s.modBlk k fun b =>
      { b with state := .free, pointer := 0, suspect := false, verifying := b.suspect, erases := b.erases + 1, reads := 0
               suspended := false }
    s.modCarrier (keyCarrier k) fun c => { c with maxPe := max c.maxPe (s.blk k).erases }

def execFlashEraseComplete (b : BlkAddr) (ok : Bool) (s : State) : Host.Outcome State Fault Refusal :=
  .next (s.eraseDone (blkKey b) ok).settle

/-- First opcode of an operation (Table 12.5). -/
def opcodeOf : FlashOpKind → Nat
  | .read => 0x00 | .program => 0x80 | .erase => 0x60

/-- An operation exceeds five times its typical time: Reset of its LUN, and the outcome that R321 gives it. The third timeout of a
channel within 1 s fences it. -/
def State.flashTimeout (s : State) (b : BlkAddr) (kind : FlashOpKind) : State :=
  let k := blkKey b
  let ch := keyChannel k
  let n := keyCarrier k
  if !(s.carrier n).state.takesErase then s
  else
    let s := s.emit (.lunReset b)
    let s := s.fault (faultMsg 0x50 ch .ucc Kind.timeout (opcodeOf kind) (.content k) (some (b.target.val * 4 + b.lun.val)))
    let s := match kind with
      | .read => s.setFlag (perInst P.car_err_status n) 3
      | .program => s.programFailed k
      | .erase => s.eraseFailed k
    let l := (ch, s.now) :: (s.carrier n).timeouts.filter fun t => s.now < t.2 + secNs
    let s := s.modCarrier n fun c => { c with timeouts := l }
    if 3 ≤ l.countP (fun t => t.1 == ch) then s.fenceFlash ch else s

def execFlashOperationTimeout (b : BlkAddr) (kind : FlashOpKind) (s : State) : Host.Outcome State Fault Refusal :=
  .next (s.flashTimeout b kind).settle

/-! ### Rows, map pages, patrol, garbage, wear (R322, R324, R336–R338) -/

/-- The open row is completed with padding units. -/
def execRowPadTimer (s : State) : Host.Outcome State Fault Refusal :=
  .next (s.modFlash fun f =>
    { f with
      sbs := f.sbs.mapVals fun _ b =>
        let w := b.channels.length - 1
        if b.full || w = 0 then b else { b with used := ceilDiv b.used w * w } })

/-- Journal records at three quarters of the 64 MiB ring, and dirty pages, at which the map is flushed. -/
abbrev journalHigh : Nat := 3145728
abbrev dirtyPagesHigh : Nat := 2048

/-- Write the dirty map pages to the deep store, one unit each, and their directory words; the journal starts again once all are. -/
def State.mapFlush (s : State) : State :=
  let r := s.flash.dirtyPages.foldl (fun (r : State × List Nat) m =>
    let t := r.1.writePage m
    (t.1, if t.2 then r.2 else r.2 ++ [m])) (s, [])
  r.1.modFlash fun f => { f with journal := if r.2.isEmpty then 0 else f.journal, dirtyPages := r.2 }

def execMapFlush (s : State) : Host.Outcome State Fault Refusal :=
  .next (if journalHigh ≤ s.flash.journal ∨ dirtyPagesHigh ≤ s.flash.dirtyPages.length then s.mapFlush else s)

/-- A block has a valid unit. -/
def State.blockUsed (s : State) (k : Nat) : Bool := s.copiesLeft fun e => s.entryOnBlk e k

/-- Relocate the valid units of a block; an emptied block is erased. A block that a drain is writing is left until that ends. -/
def State.moveBlock (s : State) (k : Nat) : State :=
  let r := s.relocate fun e => s.entryOnBlk e k
  if !(s.drainsOn fun e => s.entryOnBlk e k).isEmpty then s
  else if r.2.2 then
    (r.1.modFlash fun f => { f with sbs := f.sbs.mapVals fun _ b => if b.blocks.contains k then { b with full := true } else b }).modBlk k
      fun b => { b with state := .erasing }
  else r.1

/-- A read of a block that reaches `read_disturb_limit` moves its units. -/
def State.blockRead (s : State) (k : Nat) : State :=
  let s := s.modBlk k fun b => { b with reads := b.reads + 1 }
  if s.param P.read_disturb_limit ≤ (s.blk k).reads then s.moveBlock k else s

/-- Can the rows of a block's superblock be rebuilt (R335)? Every other channel of it can be read. -/
def State.rowsWhole (s : State) (k : Nat) : Bool :=
  s.flash.sbs.all fun e => !e.2.blocks.contains k || e.2.channels.all fun c =>
    c == keyChannel k || ((s.carrier (c / 4)).state.takesErase && !(s.carrier (c / 4)).fenced.getLsbD (c % 4))

/-- The patrol reads a block with a valid unit; `worst` is the deepest step that a unit of it needed. -/
def State.flashPatrol (s : State) (k : Nat) (worst : UnitOutcome) : State :=
  if !s.blockUsed k ∨ !(s.carrier (keyCarrier k)).state.takesErase then s
  else
    let s := (s.modBlk k fun b => { b with lastPatrol := s.now }).blockRead k
    match worst with
    | .hard => s
    | .retry n => if s.param P.relocate_retry_level ≤ n then s.moveBlock k else s
    | .soft => s.moveBlock k
    | .uncorrectable =>
      let s := s.setFlag (perInst P.car_err_status (keyCarrier k)) 3
      if s.rowsWhole k then (s.bump P.units_rebuilt).suspectBlock k else s.bump P.units_unrecovered

def execFlashPatrol (b : BlkAddr) (worst : UnitOutcome) (s : State) : Host.Outcome State Fault Refusal :=
  .next (s.flashPatrol (blkKey b) worst).settle

/-- Superblocks that can still be opened, and those that the channels can hold. -/
def State.freeSupers (s : State) : Nat × Nat :=
  match s.writable.map fun ch => ((s.channelBlocks ch).countP s.freeBlk, (s.channelBlocks ch).length) with
  | [] => (0, 0)
  | a :: t => (t.foldl (fun m x => min m x.1) a.1, t.foldl (fun m x => min m x.2) a.2)

/-- Valid units of a superblock. -/
def State.validUnits (s : State) (n : Nat) : Nat :=
  (s.flash.deep.map fun e => if !e.2.noRead && e.2.superblock == n then e.2.units else 0).sum +
    s.flash.mapDir.countWhere fun _ p => p.1 == n

/-- Relocate the valid units of the emptiest closed superblock, the oldest of equals, and erase its blocks. -/
def State.collect (s : State) : State :=
  let f := s.freeSupers
  if s.param P.gc_free_low_pct * f.2 ≤ 100 * f.1 then s
  else
    match bestBy (fun n => -(s.validUnits n : Int)) (s.flash.sbs.keysWhere fun n b => b.full && (s.drainsOn fun e => e.superblock == n).isEmpty) with
    | none => s
    | some n =>
      let r := s.relocate fun e => !e.noRead && e.superblock == n
      if !r.2.2 then r.1
      else
        let blocks := (s.sb n).blocks
        let s := r.1.modFlash fun f => { f with sbs := f.sbs.del n }
        blocks.foldl (fun s k => if (s.blk k).state = .bad then s else s.modBlk k fun b => { b with state := .erasing }) s

def execGarbageCollect (s : State) : Host.Outcome State Fault Refusal := .next (s.collect).settle

/-- Erase counts of a carrier spread beyond `wear_spread_max`: the valid units of its least-erased block are relocated. -/
def State.wearLevel (s : State) (n : Nat) : State :=
  let mine := s.flash.blks.filter fun e => keyCarrier e.1 == n && e.2.state ≠ .bad
  let top := mine.foldl (fun m e => max m e.2.erases) 0
  match bestBy (fun k => -((s.blk k).erases : Int)) ((mine.map (·.1)).filter s.blockUsed) with
  | none => s
  | some k => if (s.blk k).erases + s.param P.wear_spread_max < top then s.moveBlock k else s

def execWearLevel (c : Fin 8) (s : State) : Host.Outcome State Fault Refusal := .next (s.wearLevel c.val).settle

/-- ZQ Calibration Short on the carriers in service. -/
def execZqShortTimer (s : State) : Host.Outcome State Fault Refusal :=
  .next (if s.flash.cars.any fun e => e.2.state.takesErase then s.emit .zqShort else s)

/-! ### Diagnostic commands (R343) -/

/-- Read-retry level that a read reports. -/
def UnitLevel (c : Carrier) : UnitOutcome → Nat
  | .hard => 0
  | .retry n => n
  | .soft | .uncorrectable => optStatic c.option 319 312

/-- Data bytes of the codeword in a row of a block that holds a unit of a copy, where no bit of them is in error. -/
def State.codeword (s : State) (k row : Nat) : Option Bytes :=
  (s.unitOwner k row).map fun o => o.2.1.unitImage o.1 (Config.drawnKey (s.carrier (keyCarrier k)).keyDraw) o.2.2

/-- `raw_read`: status, retry level, corrected bits and a chunk of the raw codeword. Metadata, parity and the octets of a codeword with
errors are free, as are those of a unit that holds no valid copy. -/
def State.rawRead (s : State) (num : Nat) (a : Bytes) (o : UnitOutcome) (corrected : Nat) : State :=
  let n := leAt a 0 1
  let k := blkKeyOf (4 * n + leAt a 1 1) (leAt a 2 1) (leAt a 3 1) (leAt a 4 4)
  let b := s.blk k
  let chunk := leAt a 11 1
  let free := takePad (if chunk = 4 then 512 else 1024) (Config.rawChunk s.freeCount)
  let data := if chunk = 4 ∨ o ≠ .hard ∨ corrected ≠ 0 then free
    else match s.codeword k (leAt a 8 2 * (s.carrier n).unitsPerPage + leAt a 10 1) with
      | some c => slice c (1024 * chunk) 1024
      | none => free
  let head := fun st lvl n => leBytes 1 st ++ leBytes 1 lvl ++ leBytes 2 n
  if b.state = .bad then s.done num (head 5 0 0)
  else if b.state = .erasing then s.done num (head 3 0 0)
  else
    let s := s.tick
    if b.pointer ≤ leAt a 8 2 then s.done num (head 4 0 0 ++ free)
    else
      let st := match o with
        | .uncorrectable => 2
        | .hard => if corrected = 0 then 0 else 1
        | _ => 1
      s.done num (head st (UnitLevel (s.carrier n) o) corrected ++ data)

def execRawRead (r : Req) (outcome : UnitOutcome) (bits : BitVec 16) (s : State) : Host.Outcome State Fault Refusal :=
  .next (s.command r P.raw_read (fun n a s => s.rawRead n a outcome bits.toNat)
    (argsOk := fun a => leAt a 0 1 < 8 && leAt a 1 1 < 4 && leAt a 2 1 < 8 && leAt a 3 1 < 4 && leAt a 11 1 < 5))

def StoreKind.code : StoreKind → Nat
  | .zstd => 0 | .raw => 1 | .zero => 2 | .planned => 3

/-- A deep-store map entry as its 64 bits (Table 12.6). -/
def DeepEntry.word (e : DeepEntry) : Nat :=
  place 62 e.kind.code + place 45 e.storedLen + place 21 e.superblock + place 6 e.row + place 1 e.column

def execDeepMapLookup (r : Req) (s : State) : Host.Outcome State Fault Refusal :=
  .next (s.command r P.deep_map_lookup fun n a s => s.done n (leBytes 8 (s.deepOf (leNat a)).word))

end Sys2Proof.Machine
end

