-- ==== Sys2Proof/Machine/Tiers.lean ====
section
/-!
DEFINITION. Meanings of the tier commands (chapter 9), with the fetches, rebuilds and recovery that end in a placed segment.
-/

namespace Sys2Proof.Machine

/-! ### Fetches from flash (R334, R335, R251–R253) -/

/-- LSN under which the deep store keeps what a fetch reads. -/
def State.fetchLsn (s : State) : FetchKey → Nat
  | .tier idx seg => (s.entry idx.toNat seg).home
  | .dram lsn => lsn

/-- Block that holds unit i of a copy. -/
def State.unitBlk (s : State) (e : DeepEntry) (i : Nat) : Nat :=
  (s.sb e.superblock).blocks.getD ((s.entryCols e).getD i 0) 0

/-- The parity rebuild of a fetch has failed: the twin, else poison. -/
def State.afterParity (s : State) (k : FetchKey) : State :=
  match k with
  | .tier i seg =>
    let idx := i.toNat
    match s.askTwin idx seg with
    | some s => (s.endFetch idx seg).modTmv fun t =>
        { t with records := t.records.map fun m => if m.idx = idx ∧ m.seg = seg then { m with stage := .twin } else m }
    | none => (s.sourcesFail idx seg).advanceAll
  | .dram lsn =>
    match s.regionOfLsn lsn with
    | some idx => match s.askTwin idx (lsn - (s.desc idx).backing / segBytes) with
      | some s => s.modFetch k fun f => { f with failed := true, rebuild := [] }
      | none => (s.dramFail lsn).advanceAll
    | none => (s.dramFail lsn).advanceAll

/-- Map corruption (R332): a unit's block is being erased. -/
def State.mapCorrupt (s : State) (k : Nat) : State :=
  ((s.bump P.map_corruptions).setFlag (perInst P.car_err_status (keyCarrier k)) 4).fault
    (faultMsg 0x50 (keyChannel k) .ucc Kind.mapCorrupt 0 (.content k) (some k))

/-- Unit i of a copy lies in a page that is held: it is served from the held copy (R329). -/
def State.unitHeld (s : State) (e : DeepEntry) (i : Nat) : Bool :=
  s.flash.holds.any fun h => (h.blk, h.page) == s.unitPage e i

/-- Every unit of a fetch has been decoded: the contents wait to be placed, or the units that failed go to parity. A segment that
meets its first failure opens a recovery record; with every record in use it keeps waiting (R251). A fetch that the twin overtook is
discarded (R247). -/
def State.flashRead (s : State) (k : FetchKey) (units : List UnitOutcome) : State :=
  match s.fetchOf k with
  | none => s
  | some f =>
    if f.ready || f.failed || !f.rebuild.isEmpty then s
    else
      let e := s.deepOf (s.fetchLsn k)
      let read := (List.range e.units).filter fun i => !s.unitHeld e i
      let blks := read.map (s.unitBlk e)
      let corrupt := blks.filter fun b => (s.blk b).state = .erasing
      let bad := (read.filter fun i =>
        units.getD i .hard == .uncorrectable || corrupt.contains (s.unitBlk e i)).map (s.unitBlk e)
      let s := corrupt.foldl State.mapCorrupt s
      let s := bad.foldl (fun s b => s.setFlag (perInst P.car_err_status (keyCarrier b)) 3) s
      let s := (blks.filter fun b => !corrupt.contains b).foldl State.blockRead s
      if f.overtaken then
        let s := s.dropFetch k
        match k with
        | .tier i seg =>
          let t := s.entry i.toNat seg
          if !bad.isEmpty && t.mstate = .resident then s.dirtySeg t.frame else s
        | .dram _ => s
      else if bad.isEmpty then s.modFetch k fun f => { f with ready := true }
      else match k with
        | .tier i seg =>
          if s.tmv.records.length ≥ defaultOf P.recovery_records_max then s
          else
            let s := (s.bump P.recoveries).modEntry i.toNat seg fun t => { t with mstate := .recovering }
            (s.modTmv fun t => { t with records := t.records ++ [{ idx := i.toNat, seg := seg }] }).modFetch k
              fun f => { f with rebuild := bad }
        | .dram _ => s.modFetch k fun f => { f with rebuild := bad }

def execFlashReadComplete (k : FetchKey) (units : List UnitOutcome) (s : State) : Host.Outcome State Fault Refusal :=
  .next (s.flashRead k units).settle

/-- The rebuild of a fetch's failed units ends. With every unit rebuilt, a segment of a region is placed and its frame is DIRTY. -/
def State.rebuilt (s : State) (k : FetchKey) (ok : Bool) : State :=
  match s.fetchOf k with
  | none => s
  | some f =>
    if f.rebuild.isEmpty then s
    else if !ok then (s.bump P.units_unrecovered).afterParity k
    else
      let s := f.rebuild.foldl (fun s b => (s.bump P.units_rebuilt).suspectBlock b) s
      match k with
      | .tier i seg =>
        let idx := i.toNat
        let s := (s.endFetch idx seg).placeCopy idx seg f.content
        (((s.residentNow idx seg true).bump P.recovered_parity).rqCount 7 segBytes).advanceAll
      | .dram _ => s.modFetch k fun f => { f with rebuild := [], ready := true }

def execParityRebuildComplete (k : FetchKey) (ok : Bool) (s : State) : Host.Outcome State Fault Refusal := .next (s.rebuilt k ok).settle

/-- The flash copy of a PROMOTING segment is placed: CLEAN, or DIRTY where mirrored lines were merged (R240, R246). -/
def State.promoted (s : State) (idx seg : Nat) : State :=
  match s.fetchOf (.tier (BitVec.ofNat 20 idx) seg) with
  | none => s
  | some f =>
    if !f.ready || (s.entry idx seg).mstate ≠ .promoting then s
    else
      let s := ((s.endFetch idx seg).placeCopy idx seg f.content).bump P.promote_bytes_flash 0 f.bytes
      ((s.residentNow idx seg false).rqCount 7 segBytes).advanceAll

def execPromotionComplete (idx : BitVec 20) (seg : BitVec 32) (s : State) : Host.Outcome State Fault Refusal :=
  .next (s.promoted idx.toNat seg.toNat).settle

/-! ### Read deadlines (R21, R247) -/

/-- Does a message read a segment, with a deadline? -/
def State.hasDeadline (s : State) (m : OpenMsg) (idx seg : Nat) : Bool :=
  m.verdict.isNone && m.via.isNone && m.idx == idx && (segsOf m.off m.len).contains seg &&
  match m.kind with
  | .tread => m.deadlineUs != 0
  | .read => s.param P.read_deadline_us != 0
  | _ => false

/-- A read deadline passes on a segment that flash has not delivered: READ_REQ, within the rate. -/
def State.deadline (s : State) (idx seg qpn psn : Nat) : State :=
  let waits : Bool := (s.entry idx seg).mstate = .promoting || (s.entry idx seg).mstate = .recovering
  let mine := (s.qp qpn).msgs.any fun m => m.firstPsn == psn && s.hasDeadline m idx seg
  if !waits || !mine || !(s.desc idx).tiered || !s.twinSource (s.desc idx).group ||
    s.tmv.reads.any (fun r => r.idx == idx && r.seg == seg && r.line.isNone) then s
  else
    let log := s.tmv.fallbackLog.filter fun t => s.now < t + secNs
    if log.length ≥ s.param P.fallback_rate_limit_per_s then s.bump P.fallback_limited
    else ((s.modTmv fun t => { t with fallbackLog := s.now :: log }).bump P.fallbacks).twinRead idx seg none

def execReadDeadlinePassed (idx : BitVec 20) (seg : BitVec 32) (qpn : BitVec 18) (psn : BitVec 24) (s : State) :
    Host.Outcome State Fault Refusal :=
  .next (s.deadline idx.toNat seg.toNat qpn.toNat psn.toNat)

/-! ### Eviction (R242, R243) -/

/-- Free frames of the shared cache, those being unmapped included. -/
def State.sharedFree (s : State) : Nat :=
  s.sharedFrames - s.sharedUsed + s.tmv.frames.countWhere fun _ f => !f.window && (s.entry f.idx f.seg).mstate = .evicting

/-- Evict victims until the free share reaches the high mark, or none is left. -/
def State.evictN (s : State) : Nat → State
  | 0 => s
  | n + 1 =>
    if s.param P.cache_free_high_pct * s.sharedFrames ≤ 100 * s.sharedFree then s
    else
      let v := s.sharedVictim
      match v.2.bind v.1.tmv.frames.find? with
      | some f => (v.1.beginEvict f).evictN n
      | none => v.1

def execCacheEviction (s : State) : Host.Outcome State Fault Refusal :=
  .next (if 100 * s.sharedFree < s.param P.cache_free_low_pct * s.sharedFrames then s.evictN s.tmv.frames.length else s)

/-- The unmapping write of an EVICTING entry: not issued while an access to the segment is pending, which cancels the eviction. -/
def State.unmapped (s : State) (idx seg : Nat) : State :=
  if (s.entry idx seg).mstate ≠ .evicting then s
  else if s.referenced idx seg then
    (s.modEntry idx seg fun e => { e with mstate := .resident }).bump P.evict_cancelled
  else (s.endEvict idx seg).advanceAll

def execEvictUnmapWritten (idx : BitVec 20) (seg : BitVec 32) (s : State) : Host.Outcome State Fault Refusal :=
  .next (s.unmapped idx.toNat seg.toNat)

/-- AK, first segment and count of a range command. -/
def rangeArgs (a : Bytes) : Nat × Nat × Nat := (leAt a 0 4, leAt a 4 4, leAt a 8 4)

/-- First failure of a range command (R243): the key, the state and class of its region, the range. -/
def State.rangeFails (s : State) (ak first n : Nat) : Option Nat :=
  let d := s.desc (akIndex ak)
  if akIndex ak ≥ maxRegions ∨ d.state ≠ .valid ∨ !d.tiered then some 0x0A
  else if d.gen ≠ akGen ak then some 0x0B
  else if n = 0 ∨ d.lengthSeg < first + n then some 0x0C
  else none

/-- An eviction request of Table 9.3: the state, and how many segments it evicts and defers. -/
def State.evictRequest (r : State × Nat × Nat) (idx seg : Nat) : State × Nat × Nat :=
  let s := r.1
  let defer := (s.bump P.evict_deferred, r.2.1, r.2.2 + 1)
  match (s.entry idx seg).mstate with
  | .absent | .poisoned | .evicting => r
  | .promoting | .recovering => defer
  | .resident =>
    match s.frameOfLsn (s.entry idx seg).frame with
    | some n => match s.tmv.frames.find? n with
      | some f => if s.evictable n f then (s.beginEvict f, r.2.1 + 1, r.2.2) else defer
      | none => defer
    | none => defer

def State.tierEvict (s : State) (num : Nat) (a : Bytes) : State :=
  let g := rangeArgs a
  match s.rangeFails g.1 g.2.1 g.2.2 with
  | some why => s.failed num why
  | none =>
    let r := (List.range g.2.2).foldl (fun r i => State.evictRequest r (akIndex g.1) (g.2.1 + i)) (s, 0, 0)
    r.1.done num (leBytes 4 r.2.1 ++ leBytes 4 r.2.2)

def execTierEvict (r : Req) (s : State) : Host.Outcome State Fault Refusal :=
  .next (s.command r P.tier_evict fun num a s => s.tierEvict num a)

/-! ### Poison clear (R254) -/

/-- A POISONED segment becomes ABSENT without a home; the clear goes to the twin as zeros. A group in SOLO records it as divergent. -/
def State.clearPoison (s : State) (idx seg : Nat) : State :=
  let e := s.entry idx seg
  let g := (s.desc idx).group
  let s := { s with
    tmv := { s.tmv with homes := s.tmv.homes.filter (· != e.home) }
    flash := { s.flash with deep := s.flash.deep.filter fun x => x.1 < firstHome || x.1 != e.home } }
  let s := s.setEntry idx seg { e with mstate := .absent, home := 0, frame := 0 }
  if s.mirrors g then
    (List.range 16).foldl (fun s i =>
      (s.issueFrame g { seq := 0, idx := idx, off := seg * segBytes + 4096 * i, data := some (List.replicate 4096 0), bytes := 4096 }).1) s
  else if s.isSolo g then s.setDivergent idx seg
  else s

def State.poisonClear (s : State) (num : Nat) (a : Bytes) : State :=
  let g := rangeArgs a
  match s.rangeFails g.1 g.2.1 g.2.2 with
  | some why => s.failed num why
  | none =>
    let due := ((List.range g.2.2).map (g.2.1 + ·)).filter fun i => (s.entry (akIndex g.1) i).mstate = .poisoned
    ((due.foldl (fun s i => s.clearPoison (akIndex g.1) i) s).advanceAll).done num (leBytes 4 due.length)

def execTierPoisonClear (r : Req) (s : State) : Host.Outcome State Fault Refusal :=
  .next (s.command r P.tier_poison_clear fun num a s => s.poisonClear num a)

/-! ### Capacity (R255, R256) -/

/-- GiB of a size in bytes, rounded down. -/
def gib (n : Nat) : Nat := n / 2 ^ 30

/-- The capacity, what is provisioned and stored, and the two warnings that follow. -/
def State.capacityTick (s : State) : State :=
  if s.gated 4 then s
  else
    let cap := s.tierCapacity
    let prov := s.tierProvisioned
    let stored := s.tierStored
    let overFull := prov * 100 > cap * s.param P.tier_provision_pct
    let full := stored ≥ cap && stored > 0
    let was := s.tmv
    let s := s.modTmv fun t =>
      { t with capacity := cap, provisioned := prov, stored := stored, overProv := overFull
               overcommit := full || (t.overcommit && 100 * stored ≥ 99 * cap) }
    let s := if overFull && !was.overProv then s.event 0x2741 0 [gib prov, gib cap] else s
    if full && !was.overcommit then s.event 0x2742 0 [gib stored, gib cap] else s

def execTierCapacityTick (s : State) : Host.Outcome State Fault Refusal := .next s.capacityTick

end Sys2Proof.Machine
end

