-- ==== Sys2Proof/Machine/TwinOps.lean ====
section
/-!
DEFINITION. What the twin-link and lease commands share: reception of a frame, MACK and MNAK, the opening of a resync, and the role
changes that no admitted message starts (R205, R208–R210, R223–R227, R231, R232, Table 8.14).
-/

namespace Sys2Proof.Machine

/-! ### Reception (R99, R203, R205, R212) -/

/-- Twin frames and lease messages are sent and accepted in the modes RESYNC to MAINT (R232, Table 8.14). -/
def State.twinOn (s : State) : Bool := s.live && !s.pwr.falling

/-- Counter of frames that a twin port drops (R99). -/
def State.twinDrop (s : State) (p : Nat) : State := s.bump (perInst P.port_rx_dropped (4 + p))

/-- Take a frame other than HELLO: it is dropped unless the port is up, and malformed where its type does not exist in the negotiated
MPV major or its length does not match. -/
def State.twinFrame (s : State) (h : TwinHdr) (major : Nat) (f : State → State) : State :=
  if !s.twinOn || !(s.tport h.port).linkUp then s
  else
  let s := s.portFrame (4 + h.port) h.fec
  if h.fec.uncorrectable != 0 then s
  else if !h.macsecOk || !s.tportUp h.port then s.twinDrop h.port
  else if !h.bodyLenOk || s.mir.mpv / 256 < major then s.bump P.pdd_malformed
  else f s


/-! ### MACK and MNAK (R208–R210) -/

/-- An atomic write group of a unit that is staged and not committed. -/
def State.twinUnits (s : State) (g : Nat) : List Awg :=
  s.pde.awgs.filter fun a => a.twin && a.group == g && (a.state = .staging || a.state = .staged)

/-- acked_seq: every frame up to it is placed; a unit is placed once its commit record is written. -/
def State.ackedSeq (s : State) (g : Nat) : Nat :=
  let gr := s.grp g
  let n := (s.twinUnits g).foldl (fun n a => min n (a.mirrorSeq - 1)) gr.placed
  if gr.unitSeq = 0 then n else min n (gr.unitSeq - 1)

/-- Free dirty budget of this member in segments, 0 when negative. -/
def State.ownFree (s : State) : Nat := s.permitted - (s.dirtyCount + s.pde.reserved)

def State.mackWindow (s : State) : Nat := if s.mirNoBuffer then 0 else Config.mirrorWindowKib.toNat

/-- Send MACK. -/
def State.sendMack (s : State) (g : Nat) : State :=
  let w := s.mackWindow
  (s.twinSend g (s.grp g).epoch 0 (.mack (s.ackedSeq g) (if s.mpv2 then s.ownFree else 0) w)).modGrp g fun gr =>
    { gr with mackDue := false, windowZero := w == 0 }

/-- Send MNAK for a frame. -/
def State.sendMnak (s : State) (g reason seq : Nat) : State :=
  let w := s.mackWindow
  (s.twinSend g (s.grp g).epoch 0 (.mnak (s.ackedSeq g) (if s.mpv2 then s.ownFree else 0) w reason seq)).modGrp g fun gr =>
    { gr with windowZero := w == 0 }

/-- Take a frame of a group 0–254. One whose epoch is below the member's own is refused with STALE_EPOCH (R224), unless `old` lets it
through: an MNAK, which is itself a refusal, and what a target opens a resync with, under the epoch that it still has (R231). -/
def State.groupFrame (s : State) (h : TwinHdr) (major : Nat) (f : Nat → State → State) (old : Role → Bool := fun _ => false) : State :=
  let g := h.group.toNat
  s.twinFrame h major fun s =>
    if g = 255 then s.bump P.pdd_malformed
    else if h.epoch.toNat < (s.grp g).epoch && !old (s.grp g).role then s.sendMnak g 1 h.seq.toNat
    else f g s

/-- The member serves the group: a resync that opens reaches it from its target. -/
def Role.serves : Role → Bool
  | .active | .solo => true
  | _ => false

/-! ### Runs of segments (Table 8.12) -/

/-- One more segment in front of a list of runs. -/
def addRun (p : Nat × Nat) : List ResyncRun → List ResyncRun
  | [] => [{ index := BitVec.ofNat 24 p.1, firstSeg := BitVec.ofNat 32 p.2, count := 1 }]
  | r :: t =>
    if r.index.toNat = p.1 ∧ r.firstSeg.toNat = p.2 + 1 then { r with firstSeg := BitVec.ofNat 32 p.2, count := r.count + 1 } :: t
    else { index := BitVec.ofNat 24 p.1, firstSeg := BitVec.ofNat 32 p.2, count := 1 } :: r :: t

def runsOf (l : List (Nat × Nat)) : List ResyncRun := l.foldr addRun []

def segsOfRuns (l : List ResyncRun) : List (Nat × Nat) :=
  l.flatMap fun r => (List.range r.count.toNat).map fun i => (r.index.toNat, r.firstSeg.toNat + i)

/-- Send the runs in RESYNC_MAP frames of at most 256 entries. -/
def State.sendMaps (s : State) (g : Nat) (l : List ResyncRun) : State :=
  (List.range (ceilDiv l.length 256)).foldl (fun s i =>
    s.twinSend g (s.grp g).epoch 0 (.resyncMap ((l.drop (256 * i)).take 256))) s

/-! ### A resync opens at the target (R231) -/

/-- RESYNC_BEGIN and RESYNC_MAP of a target: its set bits, with the segments that still await resync. -/
def State.sendBegin (s : State) (g : Nat) : State :=
  let gr := s.grp g
  let waiting := match gr.target with
    | some t => t.awaiting
    | none => []
  let runs := runsOf ((s.groupSegs g).filter fun p => s.isDivergent p.1 p.2 || waiting.contains p)
  (s.twinSend g gr.epoch 0 (.resyncBegin
    { baseEpoch := BitVec.ofNat 32 (if gr.fullNext then 0 else gr.syncEpoch), newEpoch := 0, endSeq := 0
      runs := BitVec.ofNat 32 runs.length, nextSeq := 0, done := false, active := false, full := false })).sendMaps g runs

/-- Open a resync as target. Segments that await resync go on doing so. -/
def State.openTarget (s : State) (g : Nat) : State :=
  let keep := match (s.grp g).target with
    | some t => t.awaiting
    | none => []
  (s.setTarget g (some { awaiting := keep })).sendBegin g

/-- Drop what a standby has staged of units without a commit record. -/
def State.dropUnits (s : State) (g : Nat) : State :=
  (s.modPde fun p =>
    { p with awgs := p.awgs.filter fun a => !(a.twin && a.group == g && (a.state = .staging || a.state = .staged)) }).modGrp g
    fun gr => { gr with unitSeq := 0, unitData := [] }

/-- Withdraw a request held at the Caller (R219). -/
def State.sendRelease (s : State) (g : Nat) (unpair : Bool) : State :=
  s.callerRequest opRelease g (s.grp g).epoch false unpair 0#256 0

/-- A STANDBY loses IN_SYNC and opens a resync (Table 8.14). A TAKEOVER that it asked for is withdrawn. -/
def State.outOfSync (s : State) (g : Nat) : State :=
  let gr := s.grp g
  if gr.role ≠ .standby then s
  else
    let s := if gr.takeoverSent && gr.takeover.isNone then s.sendRelease g false else s
    let s := (s.dropUnits g).modGrp g fun x =>
      { x.dropReq opTakeover with inSync := false, held := [], refused := none, takeoverSent := false }
    s.openTarget g

/-- A FENCED member rejoins a group that its twin serves, as target. -/
def State.rejoin (s : State) (g : Nat) : State :=
  let gr := s.grp g
  if gr.role ≠ .fenced ∨ !gr.paired then s
  else
    let s := (s.setRole g .standby gr.epoch).modGrp g fun x =>
      { x with req := none, inSync := false, held := [], refused := none, incomplete := false, twinGrantEnd := none, lastRenew := none
               takeover := none, takeoverSent := false, unitSeq := 0, unitData := [], frames := [], source := none }
    s.openTarget g

/-- RESUME, with this member's `rejoin_wait_ms` (R232). -/
def State.sendResume (s : State) (g : Nat) : State :=
  s.openRequest opResume g (s.grp g).epoch false (s.param P.rejoin_wait_ms) 0

/-- A group that may send RESUME: paired, FENCED by the restart, and not waiting on the Caller. -/
def Grp.mayResume (gr : Grp) : Bool := gr.role = .fenced && gr.paired && gr.restarted && gr.req.isNone

/-! ### Leases and roles (R218, R223, R224) -/

/-- A reply of the Caller is the first to its request: replier and number have not been seen (R217). -/
def State.firstReply (s : State) (m : LeaseMsg) : Bool := !s.mir.answered.contains (m.member.toNat, m.renewSeq.toNat)

/-- A reply is noted under its replier and renew_seq. -/
def State.noteReply (s : State) (m : LeaseMsg) : State :=
  s.modMir fun x => { x with answered := ((m.member.toNat, m.renewSeq.toNat) :: x.answered).take 64 }

/-- Take the first reply to a request; the one that the other route brings is discarded. -/
def State.onceReply (s : State) (m : LeaseMsg) (f : State → State) : State := if s.firstReply m then f (s.noteReply m) else s

/-- Advance the lease end of a holder. -/
def State.advanceLease (s : State) (g t : Nat) : State :=
  s.modGrp g fun gr => { gr with leaseEnd := some (max t (gr.leaseEnd.getD 0)) }

/-- The group moves to FENCED: a lease reply with an epoch above the member's own (R224). -/
def State.fenceGroup (s : State) (g : Nat) : State :=
  let gr := s.grp g
  match gr.role with
  | .active | .solo => s.toFenced g gr.epoch
  | .standby =>
    let s := s.failCmd gr.cmd 0x05
    (((s.setRole g .fenced gr.epoch).dropUnits g).setTarget g none).modGrp g Grp.cleared
  | .fenced => s

/-- The member becomes holder: its first frame takes the number after the highest that it issued or placed (R207), and its lease end
is set before it admits anything (R218). -/
def State.becomeHolder (s : State) (g : Nat) (r : Role) (epoch leaseEnd : Nat) : State :=
  let s := ((s.dropUnits g).setRole g r epoch).setTarget g none
  (s.modGrp g fun gr =>
    { gr with
      issued := max gr.issued gr.placed, acked := max gr.issued gr.placed, req := none, leaseEnd := some leaseEnd
      soloPending := false, inSync := false, held := [], refused := none, target := none, source := none, frames := []
      takeover := none, takeoverSent := false, twinGrantEnd := none, switchover := none, mackDue := false, incomplete := false }).advanceAll

/-! ### Unpairing (R216, R227, Table 8.14) -/

/-- Set every descriptor of a group FREE and release its backing. -/
def State.freeGroup (s : State) (g : Nat) (keep : Nat → Bool) : State :=
  (s.reg.descs.keysWhere fun i d => d.state ≠ .free && d.group == g && !keep i).foldl
    (fun s i => (s.releaseRegion i).setDesc i { gen := (s.desc i).gen }) s

/-- The row "Any paired | `group_unpair`" of Table 8.14 at this member: FENCED and unpaired; a member that did not hold the group
frees its copies; the divergence bits of the pair go. -/
def State.unpairLocal (s : State) (g : Nat) : State :=
  let held : Bool := (s.grp g).role = .active || (s.grp g).role = .solo
  let s := (s.groupSegs g).foldl (fun s p => s.clearDivergent p.1 p.2) s
  let s := (s.fenceGroup g).dropUnits g
  let s := if held then s else s.freeGroup g fun _ => false
  let s := s.sendRelease g true
  (s.touchLgm.modMir fun m =>
    { m with configs := m.configs.filter fun c => c.group != g
             configResults := m.configResults.filter fun c => c.group != g }).modGrp g fun _ => {}

end Sys2Proof.Machine
end

