-- ==== Sys2Proof/Machine/Mirror.lean ====
section
/-!
DEFINITION. Meanings of the twin-link commands: link, HELLO and ECHO, WRITE frames with MACK and MNAK, and reads from the twin
(R204–R215, R233, R246, R247).
-/

namespace Sys2Proof.Machine

/-! ### Link and HELLO (R204, R211–R213) -/

/-- A twin port's link comes up; HELLO starts on it once the groups may be served. -/
def State.twinLinkUp (s : State) (p : Nat) : State :=
  if s.gated (9 + p) ∨ s.rst.fenced.contains (9 + p) ∨ s.rst.inReset.contains (9 + p) ∨ (s.tport p).linkUp then s
  else
    let s := (s.modTport p fun t => { t with linkUp := true }).event 0x3140 p [1]
    if s.twinOn then s.helloStarts p else s

def execPddLinkUp (port : Fin 2) (s : State) : Host.Outcome State Fault Refusal := .next (s.twinLinkUp port)

def execPddLinkDown (port : Fin 2) (s : State) : Host.Outcome State Fault Refusal := .next (s.twinLinkDown port).settle

/-- Every 100 µs until a HELLO is received. -/
def execPddHelloTimer (port : Fin 2) (s : State) : Host.Outcome State Fault Refusal :=
  .next (if s.twinOn && (s.tport port).state = .hello then s.sendHello port false 0 else s)

/-- Why a port is refused: 1 member, 2 port, 3 version (R212). Within a session the version that the first port has fixed must be one that
this port can negotiate: the one that its offers give for that major (R12, R213). -/
def State.helloCause (s : State) (p : Nat) (b : HelloBody) : Nat :=
  let own := [defaultOf P.mpv_current, defaultOf P.mpv_previous]
  let fixed := s.mir.mpv
  if b.member.toNat ≠ s.mir.twinMember then 1
  else if b.port.toNat ≠ p then 2
  else if fixed = 0 then (if versionChoice own b.offers = 0 then 3 else 0)
  else if versionChoice (own.filter fun v => v / 256 == fixed / 256) b.offers ≠ fixed then 3
  else 0

/-- What the roles in the twin's HELLO do to a group (Table 8.14, R232). -/
def State.helloRole (s : State) (g : Nat) : State :=
  let gr := s.grp g
  let twin := (s.mir.twinRoles.getD g 3).val
  match gr.role with
  | .active => if twin = 1 then s else s.declareSolo g
  | .standby => if twin = 2 && gr.inSync then s.outOfSync g else s
  | .solo => s
  | .fenced =>
    if twin = 0 ∨ twin = 2 then s.rejoin g
    else if twin = 3 ∧ gr.mayResume ∧ !gr.incomplete then s.sendResume g
    else s

/-- A HELLO that agrees: answered, the port is up, and each port that is up sends ECHO (R215). -/
def State.helloAgree (s : State) (p : Nat) (b : HelloBody) : State :=
  let v := if s.mir.mpv ≠ 0 then s.mir.mpv else versionChoice [defaultOf P.mpv_current, defaultOf P.mpv_previous] b.offers
  let s := if b.reply then s else s.sendHello p true v
  let first := (s.tport p).state ≠ .up
  let s := s.modMir fun m => { m with twinDigest := b.fabricDigest, twinRoles := b.roles, mpv := v }
  let s := s.modTport p fun t => { t with state := .up }
  let s := ([0, 1].filter s.tportUp).foldl State.sendEcho s
  let gs := s.mir.groups.map (·.1)
  let s := gs.foldl (fun s g => s.pumpFrames g) s
  let s := (gs.foldl (fun s g => s.helloRole g) s).advanceAll
  if first && s.desig.caller = 0xFFFF then s.designate else s

/-- A twin HELLO is received (R212). -/
def State.twinHello (s : State) (h : TwinHdr) (b : HelloBody) : State :=
  let p := h.port.val
  let t := s.tport p
  if !s.twinOn || !t.linkUp then s
  else
  let s := s.portFrame (4 + p) h.fec
  if h.fec.uncorrectable != 0 then s
  else if !h.macsecOk then s.twinDrop p
  else if !h.bodyLenOk then s.bump P.pdd_malformed
  else if t.state = .down ∨ t.state = .refused then s
  else
    let c := s.helloCause p b
    if c = 0 then s.helloAgree p b
    else
      let up := s.tportUp p
      let s := ((s.modTport p fun t => { t with state := .refused }).bumpIf (c == 3) P.mpv_refusals).event 0x2640 0 [p, c, b.member.toNat]
      if up then s.twinPortLost p else s

def execPddHello (h : TwinHdr) (body : HelloBody) (s : State) : Host.Outcome State Fault Refusal := .next (s.twinHello h body).settle

/-! ### Cable delay (R215) -/

def execPddEcho (h : TwinHdr) (t1 : BitVec 64) (echoId : BitVec 32) (s : State) : Host.Outcome State Fault Refusal :=
  .next (s.twinFrame h 1 fun s => s.emitTwin h.port 255 0 0 (.echoReply t1.toNat s.now s.now echoId.toNat))

/-- One-way delay from the four stamps. -/
def oneWay (t1 t2 t3 t4 : Nat) : Nat := ((((t4 : Int) - t1) - ((t3 : Int) - t2)) / 2).toNat

def execPddEchoReply (h : TwinHdr) (t1 t2 t3 : BitVec 64) (_echoId : BitVec 32) (s : State) : Host.Outcome State Fault Refusal :=
  .next (s.twinFrame h 1 fun s => s.modTport h.port fun t =>
    { t with delays := (s.now, oneWay t1.toNat t2.toNat t3.toNat s.now) :: t.delays.filter fun d => s.now < d.1 + secNs })

def execEchoIntervalTimer (s : State) : Host.Outcome State Fault Refusal :=
  .next (if s.twinOn then ([0, 1].filter s.tportUp).foldl State.sendEcho s else s)

/-! ### WRITE frames at the standby (R208, R246) -/

/-- What comes of a frame that is next in sequence. -/
inductive Placed | done | waits | refused
  deriving DecidableEq, Repr

/-- Does a line of a placement fail: written in part, and unreadable? -/
def State.lineFails (s : State) (idx off n : Nat) (bad : List Nat) : Bool :=
  match s.addrIn idx off with
  | some a =>
    (List.range ((a + n - 1) / 64 - a / 64 + 1)).any fun i =>
      partialLine a n i && (s.dram.poison.contains (a / 64 + i) || bad.contains i)
  | none => true

/-- Lines of a segment that a range of it touches. -/
def linesOf (off n : Nat) : List Nat := (List.range ((off % segBytes + n - 1) / 64 - off % segBytes / 64 + 1)).map (· + off % segBytes / 64)

/-- Add lines to the mask of a PROMOTING segment. A line that the range covers in part and the mask does not have yet is first filled
from the home. -/
def State.maskLines (s : State) (idx seg off n : Nat) : State :=
  let e := s.entry idx seg
  let old := match s.tmv.masks.find? (fun m => m.idx == idx && m.seg == seg) with
    | some m => m.lines
    | none => []
  let new := (linesOf off n).filter fun l => !old.contains l
  let home := match s.fetchOf (.tier (BitVec.ofNat 20 idx) seg) with
    | some f => f.content
    | none => []
  let s := (new.filter fun l => off % segBytes > l * 64 || off % segBytes + n < l * 64 + 64).foldl (fun s l =>
    let a := e.frame * segBytes + l * 64
    let s := s.modDram fun d => { d with poison := d.poison.filter (· != a / 64) }
    s.dramWrite a (Memory.read (Memory.extract home (l * 64) 64) 0 64)) s
  s.modTmv fun t =>
    { t with masks := (t.masks.filter fun m => !(m.idx == idx && m.seg == seg)) ++
        [{ idx := idx, seg := seg, lines := new.foldl (fun l x => insertNat x l) old }] }

/-- A mask for a segment can be had. -/
def State.maskRoom (s : State) (idx seg : Nat) : Bool :=
  s.tmv.masks.any (fun m => m.idx == idx && m.seg == seg) || s.tmv.masks.length < 4096

/-- Make a segment ready for a mirrored placement of `n` octets at an offset (R246). `resync`: the source sends the whole segment, so a
POISONED one begins anew with every line unreadable until it is written. -/
def State.mirrorReady (s : State) (idx off n : Nat) (resync : Bool) : State × Placed :=
  let d := s.desc idx
  let seg := off / segBytes
  if !d.tiered then
    let r := s.accessDram (d.backing / segBytes + seg) (n == segBytes)
    (r.1, if r.2 then .done else .waits)
  else
    let e := s.entry idx seg
    match e.mstate with
    | .resident | .evicting => ((s.accessSeg idx seg false false).1, .done)
    | .recovering => (s, .waits)
    | .promoting => if s.maskRoom idx seg then (s.maskLines idx seg off n, .done) else (s, .waits)
    | .absent =>
      if !s.maskRoom idx seg then (s, .waits)
      else
        let b := s.holdFor 3 segBytes (.fetch (.tier (BitVec.ofNat 20 idx) seg))
        if !b.2 then (b.1, .waits)
        else match b.1.takeFrame idx seg true with
        | (s, none) => (s, .waits)
        | (s, some f) =>
          let deep := s.deepOf e.home
          let skip := e.home = 0 || deep.noRead
          let key : FetchKey := .tier (BitVec.ofNat 20 idx) seg
          let s := s.setEntry idx seg { e with mstate := .promoting, frame := s.frameLsn f }
          let s := (s.dropFetch key).addFetch
            { key := key, content := if skip then [] else deep.content, bytes := if skip then 0 else deep.storedLen, ready := skip }
          (((s.bump P.promotions).bump P.standby_merges).maskLines idx seg off n, .done)
    | .poisoned =>
      if !resync then (s, .refused)
      else match s.takeFrame idx seg true with
        | (s, none) => (s, .waits)
        | (s, some f) =>
          let lsn := s.frameLsn f
          let s := (s.setEntry idx seg { e with mstate := .resident, frame := lsn }).fillSegment lsn []
          (s.modDram fun r => { r with poison := (List.range 1024).foldl (fun l i => insertNat (lsn * 1024 + i) l) r.poison }, .done)

/-- Place a range of a region on RQ4, in its segments; the segments are ready. The lines that fail are reported. -/
def State.mirrorPlace (s : State) (idx off : Nat) (data : Bytes) (bad : List Nat) : State × Bool :=
  let ps := pieces off data.length
  let fails := ps.any fun p => s.lineFails idx p.1 p.2 bad
  let r := ps.foldl (fun (r : State × List Nat) p =>
    let x := r.1.placeJob { qpn := 2 ^ 18, msg := 0, idx := idx, off := p.1, op := .write (slice data (p.1 - off) p.2) } bad
    (x.1, r.2 ++ x.2)) (s, [])
  ((r.1.rqCount 4 data.length).lineFaults 4 3 r.2, !fails)

/-- The region that a range lies in, for placement at a standby: a VALID descriptor of the group, in bounds, not LOST, its backing
in service. Gives the offset
in the region. -/
def State.mirrorTarget (s : State) (g idx offset n : Nat) : Option Nat :=
  let d := s.desc idx
  if d.state ≠ .valid ∨ d.group ≠ g ∨ s.reg.lost.contains idx ∨ s.setFenced (s.setOf (d.backing / segBytes)) ∨ offset < d.base ∨
    d.base + segBytes * d.lengthSeg < offset + n ∨ n = 0 then none
  else some (offset - d.base)

/-- An atomic write group at this member that is not applied and overlaps a range holds the placement (R198). -/
def State.unitHolds (s : State) (idx off n : Nat) : Bool :=
  s.pde.awgs.any fun a => a.state ≠ .applied && a.state ≠ .left && a.extents.any fun e => e.1 == idx && e.2.1 < off + n && off < e.2.1 + e.2.2.length

/-- A WRITE frame that is next in sequence, other than a UNIT frame. -/
def State.placeWrite (s : State) (g : Nat) (f : HeldFrame) : State × Placed :=
  let idx := f.body.index.toNat
  let n := f.data.length
  match s.mirrorTarget g idx f.body.offset.toNat n with
  | none => (s, .refused)
  | some off =>
    let segs := segsOf off n
    if segs.any fun i => s.tmv.refuseNext.contains (idx, i) then
      (s.modTmv fun t => { t with refuseNext := t.refuseNext.filter fun p => !(p.1 == idx && segs.contains p.2) }, .refused)
    else if s.unitHolds idx off n then (s, .waits)
    else
      let r := (pieces off n).foldl (fun (r : State × Placed) p =>
        if r.2 = .done then r.1.mirrorReady idx p.1 p.2 f.resync else r) (s, .done)
      if r.2 ≠ .done then r
      else
        let x := r.1.mirrorPlace idx off f.data f.bad
        (x.1, if x.2 then .done else .refused)

/-- Extents of a unit, with their offsets in their regions and their data; none when a descriptor does not hold one. -/
def State.unitExtents (s : State) (g n : Nat) (b : Bytes) : Option (List (Nat × Nat × Bytes)) :=
  let ext := awgExtents n b
  let at_ := ext.map fun e => (akIndex e.2.1, s.mirrorTarget g (akIndex e.2.1) (ggaOffset e.1) e.2.2)
  if n = 0 ∨ at_.any (·.2.isNone) then none
  else
    let starts := ext.foldl (fun (r : List Nat × Nat) e => (r.1 ++ [r.2], r.2 + e.2.2)) ([], 16 * n)
    some ((at_.zip (ext.zip starts.1)).map fun x => (x.1.1, x.1.2.getD 0, slice b x.2.2 x.2.1.2.2))

/-- A UNIT frame that is next in sequence: staged; with LAST, the unit waits for its commit record (R208). -/
def State.placeUnit (s : State) (g : Nat) (f : HeldFrame) : State × Placed :=
  let gr := s.grp g
  let b := f.body
  let first := b.unitSeq.toNat == f.seq
  if first && s.redoUsed + b.unitLen.toNat > redoSegs * segBytes then (s, .waits)
  else if !first && gr.unitSeq ≠ b.unitSeq.toNat then (s, .refused)
  else
    let data := (if first then [] else gr.unitData) ++ f.data
    if !f.last then (s.modGrp g fun x => { x with unitSeq := b.unitSeq.toNat, unitData := data }, .done)
    else match s.unitExtents g b.extents.toNat data with
      | none => (s.modGrp g fun x => { x with unitSeq := 0, unitData := [] }, .refused)
      | some ext =>
        let s := s.modGrp g fun x => { x with unitSeq := 0, unitData := [] }
        (s.modPde fun p =>
          { p with
            awgs := p.awgs ++ [{ qpn := 2 ^ 18, msg := b.unitSeq.toNat, group := g, epoch := f.epoch, extents := ext, stream := data
                                 redoOffset := p.redoHead, redoLen := b.unitLen.toNat, twin := true, mirrorSeq := b.unitSeq.toNat }]
            redoHead := (p.redoHead + b.unitLen.toNat) % (redoSegs * segBytes) }, .done)

/-- Segments that a frame writes. -/
def State.frameSegs (s : State) (f : HeldFrame) : List (Nat × Nat) :=
  let idx := f.body.index.toNat
  let d := s.desc idx
  if f.unit || d.state = .free || f.body.offset.toNat < d.base then []
  else (segsOf (f.body.offset.toNat - d.base) f.data.length).filterMap fun i => if i < d.lengthSeg then some (idx, i) else none

/-- Segments of the extents of a unit that is refused, as far as its frames have told them. -/
def State.unitSegs (s : State) (g : Nat) (f : HeldFrame) : List (Nat × Nat) :=
  let b := (if f.body.unitSeq.toNat == f.seq then [] else (s.grp g).unitData) ++ f.data
  (awgExtents f.body.extents.toNat b).flatMap fun e =>
    let d := s.desc (akIndex e.2.1)
    if d.state = .free || d.group != g || ggaOffset e.1 < d.base then []
    else (segsOf (ggaOffset e.1 - d.base) e.2.2).filterMap fun i => if i < d.lengthSeg then some (akIndex e.2.1, i) else none

/-- What a frame with RESYNC does to the segments that await resync: the first frame of a segment begins it anew, the LAST one ends
it unless a frame of it was refused (R231). -/
def State.resyncStep (s : State) (g : Nat) (f : HeldFrame) (ok : Bool) : State :=
  if !f.resync then s
  else
    let segs := s.frameSegs f
    let start := (f.body.offset.toNat - (s.desc f.body.index.toNat).base) % segBytes == 0
    match (s.grp g).target with
    | none => s
    | some t =>
      let bad := if start then t.bad.filter (fun p => !segs.contains p) else t.bad
      let bad := if ok then bad else bad ++ segs
      let ends := f.last && !(segs.any bad.contains)
      let t := { t with bad := bad, awaiting := if ends then t.awaiting.filter (fun p => !segs.contains p) else t.awaiting }
      let s := s.setTarget g (some t)
      if ends then segs.foldl (fun s p => s.clearDivergent p.1 p.2) s else s

/-! ### RESYNC_END in sequence at the target (R231) -/

/-- The group is in sync at an epoch: no bit of its data is set. -/
def State.syncedAt (s : State) (g epoch : Nat) : State :=
  (((s.groupSegs g).foldl (fun s p => s.clearDivergent p.1 p.2) s).setTarget g none).modGrp g fun x =>
    { x with inSync := true, syncEpoch := epoch, fullNext := false }

/-- Answer a RESYNC_END. -/
def State.answerEnd (s : State) (g : Nat) (b : ResyncBody) (ok : Bool) : State :=
  s.twinSend g (s.grp g).epoch 0 (.resyncEnd { b with done := ok, active := false } false)

/-- A RESYNC_END of the source reaches its place in the sequence. -/
def State.endInOrder (s : State) (g : Nat) (b : ResyncBody) : State :=
  let gr := s.grp g
  if b.active then (s.setRole g .standby b.newEpoch.toNat).modGrp g fun x => { x with syncEpoch := b.newEpoch.toNat }
  else match gr.target with
    | none => s.answerEnd g b gr.inSync
    | some t =>
      let s := s.freeGroup g t.synced.contains
      let left := t.awaiting.filter fun p => (s.desc p.1).state ≠ .free
      if left.isEmpty then (s.syncedAt g gr.epoch).answerEnd g b true
      else
        ((s.setTarget g (some { awaiting := left, retryAt := some (s.now + s.param P.rejoin_wait_ms * msNs) })).modGrp g fun x =>
          { x with inSync := false }).answerEnd g b false

/-! ### The sequence at the standby (R208, R209) -/

/-- A frame has been placed: it counts for acked_seq, and MACK is due. -/
def State.framePlaced (s : State) (g seq : Nat) : State :=
  s.modGrp g fun x => { x with placed := seq, held := x.held.filter (·.seq != seq), mackDue := true, refused := none }

/-- Put the next frame of the sequence in its place, if it is there and can be placed. -/
def State.placeNext (s : State) (g : Nat) : State × Bool :=
  let gr := s.grp g
  match gr.held.find? (·.seq == gr.placed + 1) with
  | none => (s, false)
  | some f =>
    let announced := match f.fin with
      | some b => b.active && b.newEpoch.toNat == f.epoch
      | none => false
    if f.epoch > gr.epoch ∧ !announced then
      ((s.sendMnak g 4 f.seq).outOfSync g, false)
    else match f.fin with
      | some b => ((s.framePlaced g f.seq).endInOrder g b, true)
      | none =>
        let segs := if f.unit then s.unitSegs g f else s.frameSegs f
        let r := if f.unit then s.placeUnit g f else if f.data.isEmpty then (s, .done) else s.placeWrite g f
        let s := r.1
        match r.2 with
        | .waits => (s, false)
        | .done => ((s.framePlaced g f.seq).resyncStep g f true, true)
        | .refused =>
          let s := s.setDivergents segs
          if f.resync then (((s.framePlaced g f.seq).resyncStep g f false).sendMnak g 3 f.seq, true)
          else
            let s := s.modGrp g fun x => { x with held := x.held.filter (·.seq != f.seq), refused := some f.seq }
            (s.sendMnak g 3 f.seq, false)

def State.drainHeldN (s : State) (g : Nat) : Nat → State
  | 0 => s
  | n + 1 =>
    let r := s.placeNext g
    if r.2 then r.1.drainHeldN g n else r.1

def State.drainHeld (s : State) (g : Nat) : State := s.drainHeldN g (s.grp g).held.length

/-- Insert a frame in the order of the sequence. -/
def insertHeld (f : HeldFrame) : List HeldFrame → List HeldFrame
  | [] => [f]
  | h :: t => if f.seq < h.seq then f :: h :: t else h :: insertHeld f t

/-- A numbered frame arrives (R208, R209). -/
def State.numbered (s : State) (g : Nat) (f : HeldFrame) : State :=
  let gr := s.grp g
  if gr.role ≠ .standby then s.sendMnak g 2 f.seq
  else if f.seq ≤ gr.placed then s.sendMack g
  else if gr.held.any (·.seq == f.seq) then s
  else if f.seq ≠ gr.placed + 1 ∧ (gr.held.map (·.data.length)).sum + f.data.length > 1024 * Config.mirrorWindowKib.toNat then s
  else
    let s := if f.data.isEmpty then s else (s.holdFor 1 f.data.length (.held g f.seq)).1
    (s.modGrp g fun x => { x with held := insertHeld f x.held }).drainHeld g

/-! ### Reads at the standby (R233) -/

/-- Answer a READ_REQ with a status and no data. -/
def State.readStatus (s : State) (p g : Nat) (b : ReadBody) (status : Nat) : State :=
  s.emitTwin p g (s.grp g).epoch 0 (.readResp { b with length := 0 } status [] true)

/-- Serve a READ_REQ: none while it must still wait. -/
def State.serveRead (s : State) (p g : Nat) (b : ReadBody) (bad : List Nat) : State × Bool :=
  let gr := s.grp g
  let idx := b.index.toNat
  let n := b.length.toNat
  if gr.role ≠ .standby ∨ !gr.inSync then (s.readStatus p g b 1, true)
  else match s.mirrorTarget g idx b.offset.toNat n with
    | none => (s.readStatus p g b 1, true)
    | some off =>
      if s.ackedSeq g < b.afterSeq.toNat || s.unitHolds idx off n then (s, false)
      else
        let r := (segsOf off n).foldl (fun (r : State × Avail) i =>
          let x := r.1.accessSeg idx i false true
          (x.1, if r.2 = .poison ∨ x.2 = .poison then .poison else if r.2 = .wait then .wait else x.2)) (s, .ready)
        match r.2 with
        | .wait => (r.1, false)
        | .poison => (r.1.readStatus p g b 2, true)
        | .ready =>
          let s := r.1.rqCount 4 n
          let lineAt := fun (i : Nat) => (s.addrIn idx ((off / 64 + i) * 64)).getD 0 / 64
          let lines := List.range ((off + n - 1) / 64 - off / 64 + 1)
          let fails := lines.filter fun i => s.dram.poison.contains (lineAt i) || bad.contains i
          let new := (fails.filter fun i => !s.dram.poison.contains (lineAt i)).map fun i => lineAt i * 64
          let s := s.lineFaults 4 1 new
          if !fails.isEmpty then (s.readStatus p g b 2, true)
          else
            let data := s.regionRead idx off n
            let k := ceilDiv n 4096
            ((List.range k).foldl (fun s i =>
              let c := slice data (4096 * i) 4096
              s.emitTwin p g (s.grp g).epoch 0 (.readResp
                { b with offset := b.offset + BitVec.ofNat 64 (4096 * i), length := BitVec.ofNat 32 c.length } 0 c (i + 1 == k))) s, true)

/-- Serve the READ_REQs that waited. -/
def State.serveWaiting (s : State) : State :=
  let l := s.mir.waitReads
  l.foldl (fun s e =>
    let r := s.serveRead e.1 e.2.1 e.2.2.1 e.2.2.2
    if r.2 then r.1 else r.1.modMir fun m => { m with waitReads := m.waitReads ++ [e] }) (s.modMir fun m => { m with waitReads := [] })

def State.readReq (s : State) (p g : Nat) (b : ReadBody) (bad : List Nat) : State :=
  let r := s.serveRead p g b bad
  if r.2 then r.1 else r.1.modMir fun m => { m with waitReads := m.waitReads ++ [(p, g, b, bad)] }

def execReadReq (h : TwinHdr) (body : ReadBody) (bad : List Nat) (s : State) : Host.Outcome State Fault Refusal :=
  .next (s.groupFrame h 2 fun g s => s.readReq h.port g body bad)

/-! ### WRITE, and the MACK interval -/

/-- A WRITE frame arrives. UNIT exists from MPV 2.0 (Table 8.2). A frame of no data keeps the number of an atomic whose line failed at the
source, which has no resulting line to copy (assumption 191). -/
def execMirrorWrite (h : TwinHdr) (body : WriteBody) (data : Bytes) (bad : List Nat) (s : State) : Host.Outcome State Fault Refusal :=
  .next (s.groupFrame h (if h.unit then 2 else 1) fun g s =>
    if (data.isEmpty && h.unit) || data.length > 4096 || body.length.toNat != data.length then s.bump P.pdd_malformed
    else
      (s.numbered g { seq := h.seq.toNat, epoch := h.epoch.toNat, body := body, data := data, bad := bad, last := h.last, unit := h.unit
                      resync := h.resync }).serveWaiting).settle

/-- The MACK interval passes: frames and reads that waited for a segment go on, and MACK is sent when one is due or when a window of 0
ends. -/
def State.mackTick (s : State) (g : Nat) : State :=
  if !s.twinOn || (s.grp g).role ≠ .standby then s
  else
    let s := (s.drainHeld g).serveWaiting
    let gr := s.grp g
    if gr.role = .standby && (gr.mackDue || (gr.windowZero && s.mackWindow > 0)) then s.sendMack g else s

def execMackTimer (g : Fin 255) (s : State) : Host.Outcome State Fault Refusal := .next (s.mackTick g).settle

/-! ### MACK and MNAK at the source (R209, R210, Table 8.5) -/

/-- Window, free budget and acked_seq of a MACK or MNAK. -/
def State.takeAck (s : State) (p g acked free window : Nat) : State :=
  let s := s.modTport p fun t => { t with windowKib := some window }
  let s := if s.mpv2 then s.modMir fun m => { m with twinFree := some free } else s
  let gr := s.grp g
  let a := min acked gr.issued
  if (gr.role = .active ∨ (gr.role = .solo ∧ gr.source.isSome)) ∧ gr.acked < a then
    s.modGrp g fun x => { x with acked := a, frames := x.frames.filter fun f => a < f.seq }
  else s

/-- After a MACK or MNAK, held placements are issued and durable points are reached. -/
def State.afterAck (s : State) : State := ((s.mir.groups.map (·.1)).foldl State.pumpFrames s).advanceGroup 0

def execMack (h : TwinHdr) (ackedSeq : BitVec 64) (freeBudget windowKib : BitVec 32) (s : State) : Host.Outcome State Fault Refusal :=
  .next (s.groupFrame h 1 fun g s => (s.takeAck h.port g ackedSeq.toNat freeBudget.toNat windowKib.toNat).afterAck).settle

/-- A resync frame has been refused, or its acknowledgement is missing: its segment is sent once more after the others, and after
that it is left to the next resync. -/
def State.resyncAgain (s : State) (g : Nat) (f : OutFrame) : State :=
  let p := (f.idx, f.off / segBytes)
  match (s.grp g).source with
  | some r =>
    if r.resentOnce then s.setDivergent p.1 p.2
    else if r.again.contains p then s
    else s.modGrp g fun x => { x with source := some { r with again := r.again ++ [p] } }
  | none => s

/-- Action at the source on an MNAK. -/
def State.nakAction (s : State) (g reason seq : Nat) (frame : Option OutFrame) : State :=
  let gr := s.grp g
  match reason with
  | 1 => s.toFenced g gr.epoch
  | 3 => match gr.role, frame with
    | .active, some f => if f.resync then s else s.declareSolo g
    | .active, none => s.declareSolo g
    | .solo, some f =>
      if f.seq ≠ seq || f.fin.isSome then s
      else if f.resync then s.resyncAgain g f
      else if f.unit then s.setDivergents (s.uncoveredSegs g)
      else s.setDivergent f.idx (f.off / segBytes)
    | _, _ => s
  | 2 | 4 => match gr.role with
    | .active => s.declareSolo g
    | .solo => s.resyncBreak g
    | _ => s
  | _ => s

def State.takeNak (s : State) (p g acked free window reason seq : Nat) : State :=
  let frame := (s.grp g).frames.find? (·.seq == seq)
  let s := (s.bump P.mnak_received).nakAction g reason seq frame
  (s.takeAck p g acked free window).afterAck

def execMnak (h : TwinHdr) (ackedSeq : BitVec 64) (freeBudget windowKib : BitVec 32) (reason : BitVec 8) (frameSeq : BitVec 64) (s : State) :
    Host.Outcome State Fault Refusal :=
  .next (s.groupFrame h 1 (fun g s =>
    s.takeNak h.port g ackedSeq.toNat freeBudget.toNat windowKib.toNat reason.toNat frameSeq.toNat) fun _ => true).settle

/-- A frame is uncovered after 2p + `mirror_retx_us`: the oldest not yet sent again goes with RETX. -/
def State.retxOldest (s : State) (g : Nat) : State :=
  if !s.twinOn then s
  else match (s.grp g).frames.find? (fun f => f.sentAt.isSome && !f.retx) with
    | some f => s.transmit g f true
    | none => s

def execMirrorRetxTimer (g : Fin 255) (s : State) : Host.Outcome State Fault Refusal := .next (s.retxOldest g)

/-- Frames of a SOLO group whose acknowledgement is missing: the oldest sent one, and every other for which the time is over. -/
def State.lateFrames (s : State) (g : Nat) (f : OutFrame) : List OutFrame :=
  let limit := 2 * s.pDelay + s.param P.mirror_ack_timeout_us * usNs
  (s.grp g).frames.filter fun x => match x.sentAt with
    | some t => x.seq == f.seq || t + limit ≤ s.now
    | none => false

/-- The acknowledgement of a frame of a SOLO group is missing: the segments it writes go to the next resync (R209, R230, R231). -/
def State.frameMissed (s : State) (g : Nat) (x : OutFrame) : State :=
  if x.fin.isSome then s
  else if x.resync then s.resyncAgain g x
  else if x.unit then
    ((s.pde.awgs.filter fun a => a.mirrorSeq == x.unitSeq && a.group == g && !a.twin).flatMap fun a =>
      a.extents.flatMap fun e => (segsOf e.2.1 e.2.2.length).map fun n => (e.1, n)).foldl (fun s p => s.setDivergent p.1 p.2) s
  else s.setDivergent x.idx (x.off / segBytes)

/-- A frame is uncovered after 2p + `mirror_ack_timeout_us`: its acknowledgement counts as missing (R209, R231). -/
def State.ackMissing (s : State) (g : Nat) : State :=
  match (s.grp g).frames.find? (·.sentAt.isSome) with
  | none => s
  | some f =>
    match (s.grp g).role with
    | .active => s.declareSolo g
    | .solo => (s.lateFrames g f).foldl (fun s x => s.frameMissed g x) s
    | _ => s

def execMirrorAckTimeout (g : Fin 255) (s : State) : Host.Outcome State Fault Refusal := .next (s.ackMissing g).settle

/-- A gap in the sequence has not been filled in time (Table 8.14). -/
def State.gapTimeout (s : State) (g : Nat) : State :=
  let gr := s.grp g
  let next := gr.held.any (·.seq == gr.placed + 1)
  if s.twinOn && gr.role = .standby && !next && (!gr.held.isEmpty || gr.refused.isSome) then s.outOfSync g else s

def execMirrorGapTimeout (g : Fin 255) (s : State) : Host.Outcome State Fault Refusal := .next (s.gapTimeout g).settle

/-! ### READ_RESP at the requester (R247, R252, R303) -/

/-- The cells of octets from offset 0. -/
def cellsOf (b : Bytes) : List Host.Cell := (b.zipIdx.filter fun p => p.1 != 0).map fun p => (p.2, p.1)

/-- Write the poisoned lines of a segment from the twin's copy. -/
def State.repairSegment (s : State) (idx seg : Nat) (b : Bytes) : State :=
  match s.lsnOf idx seg with
  | some lsn => (s.dram.poison.filter fun l => l / 1024 == lsn).foldl (fun s l => s.repairLine l (slice b (l % 1024 * 64) 64)) s
  | none => s

/-- READ_RESP frames arrive; the last one ends the read. -/
def State.readResp (s : State) (b : ReadBody) (status : Nat) (data : Bytes) (last : Bool) : State :=
  match s.tmv.reads.find? (·.reqId == b.reqId.toNat) with
  | none => s
  | some r =>
    let drop := fun (s : State) => s.modTmv fun t => { t with reads := t.reads.filter (·.reqId != r.reqId) }
    let none_ := fun (s : State) => if r.line.isSome then s else s.twinNoCopy r.idx r.seg
    if status ≠ 0 then none_ (drop s)
    else
      let off := b.offset.toNat - (s.desc r.idx).base - r.seg * segBytes
      let got := (off, data) :: r.got
      if !last then
        s.modTmv fun t => { t with reads := t.reads.map fun x => if x.reqId = r.reqId then { x with got := got } else x }
      else if (got.map (·.2.length)).sum < segBytes then none_ (drop s)
      else
        let all := (got.mergeSort fun x y => x.1 ≤ y.1).flatMap (·.2)
        if r.line.isSome then (drop s).repairSegment r.idx r.seg all else (drop s).twinCopy r.idx r.seg (cellsOf all)

def execReadResp (h : TwinHdr) (body : ReadBody) (status : BitVec 8) (data : Bytes) (s : State) : Host.Outcome State Fault Refusal :=
  .next (s.groupFrame h 2 fun _ s => s.readResp body status.toNat data h.last).settle

end Sys2Proof.Machine
end

