-- ==== Sys2Proof/Machine/Resync.lean ====
section
/-!
DEFINITION. Meanings of the resync and CONFIG commands (R216, R227, R231, R232).
-/

namespace Sys2Proof.Machine

/-! ### The source (R231) -/

/-- Decide the scope, announce it, and send every descriptor of the group. -/
def State.startResync (s : State) (g : Nat) (r : ResyncSource) : State :=
  let gr := s.grp g
  let full := r.baseEpoch = 0 || r.baseEpoch != gr.syncEpoch || gr.fullNext
  let all := s.groupSegs g
  let todo := if full then all else all.filter fun p => s.isDivergent p.1 p.2 || r.runs.contains p
  let runs := if full then [] else runsOf todo
  let s := s.twinSend g gr.epoch 0 (.resyncBegin
    { baseEpoch := 0, newEpoch := 0, endSeq := 0, runs := BitVec.ofNat 32 runs.length, nextSeq := BitVec.ofNat 64 (gr.issued + 1)
      done := false, active := false, full := full })
  let s := s.sendMaps g runs
  let s := s.modGrp g fun x => { x with source := some { r with todo := todo, full := full, started := true, lastData := x.issued }, fullNext := false, acked := x.issued }
  (s.reg.descs.keysWhere fun _ d => d.state = .valid && d.group == g).foldl
    (fun s i => s.sendConfig g cfgSync i (leBytes 64 (s.desc i).word) 0) s

/-- Every run of the target has arrived: a SOLO source decides. -/
def State.tryDecide (s : State) (g : Nat) : State :=
  let gr := s.grp g
  match gr.source with
  | some r => if gr.role = .solo && !r.started && r.runsExpected ≤ r.runsGot then s.startResync g r else s
  | none => s

/-- RESYNC_BEGIN: from the target at a holder, or from the source at a STANDBY, which adopts the epoch and the next number. -/
def State.begin_ (s : State) (g : Nat) (epoch : Nat) (b : ResyncBody) : State :=
  let gr := s.grp g
  let start := fun (s : State) =>
    s.modGrp g fun x => { x with source := some { baseEpoch := b.baseEpoch.toNat, runsExpected := b.runs.toNat } }
  match gr.role with
  | .solo => (start (s.resyncBreak g)).tryDecide g
  | .active => start (s.declareSolo g)
  | .standby =>
      let s := (s.dropUnits g).setRole g .standby epoch
      let s := s.modMir fun m => { m with configResults := m.configResults.filter fun c => !(c.group == g && c.op == cfgSync) }
      let aw := if b.full then s.groupSegs g else []
      (s.setTarget g (some { answered := true, full := b.full, runsExpected := b.runs.toNat, awaiting := aw })).modGrp g fun x =>
        { x with placed := b.nextSeq.toNat - 1, held := [], refused := none, inSync := false }
  | .fenced => s

def execResyncBegin (h : TwinHdr) (b : ResyncBody) (s : State) : Host.Outcome State Fault Refusal :=
  .next (s.groupFrame h 1 (fun g s => s.begin_ g h.epoch.toNat b) Role.serves).settle

/-- Add to a list what it does not hold yet. -/
def addNew (l more : List (Nat × Nat)) : List (Nat × Nat) := l ++ more.filter fun p => !l.contains p

/-- RESYNC_MAP. -/
def State.takeMap (s : State) (g : Nat) (l : List ResyncRun) : State :=
  let gr := s.grp g
  match gr.role with
  | .solo | .active => match gr.source with
    | some r =>
      if r.started then s
      else (s.modGrp g fun x =>
        { x with source := some { r with runs := addNew r.runs (segsOfRuns l), runsGot := r.runsGot + l.length } }).tryDecide g
    | none => s
  | .standby => match gr.target with
    | some t =>
      if !t.answered then s
      else s.setTarget g (some { t with awaiting := addNew t.awaiting (segsOfRuns l), runsGot := t.runsGot + l.length })
    | none => s
  | .fenced => s

def execResyncMap (h : TwinHdr) (runs : List ResyncRun) (s : State) : Host.Outcome State Fault Refusal :=
  .next (s.groupFrame h 1 (fun g s =>
    if runs.isEmpty || runs.length > 256 then s.bump P.pdd_malformed else s.takeMap g runs) Role.serves).settle

/-- A live write to a segment has its number and is not placed yet: the segment is read after it, so that no older data follow it
(R231). -/
def State.liveWrite (s : State) (p : Nat × Nat) : Bool :=
  s.xpt.rq0.any (fun j => j.idx == p.1 && (segsOf j.off j.op.len).contains p.2) ||
  s.pde.awgs.any fun a => !a.twin && a.mirrorSeq != 0 && (a.state = .staged || a.state = .committed) &&
    a.extents.any fun e => e.1 == p.1 && (segsOf e.2.1 e.2.2.length).contains p.2

/-- Can the source read a whole segment? A segment with a poisoned line, or that its own tier cannot supply, is not sent. -/
def State.sendable (s : State) (p : Nat × Nat) : Bool :=
  let d := s.desc p.1
  d.state ≠ .free && !s.liveWrite p && !(d.tiered && ((s.entry p.1 p.2).mstate = .poisoned || (s.entry p.1 p.2).mstate = .recovering)) &&
  match s.lsnOf p.1 p.2 with
  | some lsn => !(s.dram.poison.any fun l => l / 1024 == lsn)
  | none => true

/-- Send one marked segment as 16 frames, its bit cleared as it is read. -/
def State.sendSegment (s : State) (g : Nat) (r : ResyncSource) (p : Nat × Nat) : State :=
  let a := s.accessSeg p.1 p.2 false true
  if a.2 ≠ .ready then a.1
  else
    let s := (a.1.clearDivergent p.1 p.2).modGrp g fun x => { x with source := some { r with todo := r.todo.filter (· != p) } }
    let data := s.regionRead p.1 (p.2 * segBytes) segBytes
    let s := (List.range 16).foldl (fun s i =>
      (s.issueFrame g { seq := 0, idx := p.1, off := p.2 * segBytes + 4096 * i, data := some (slice data (4096 * i) 4096), resync := true
                        last := i == 15, bytes := 4096 }).1) (s.rqCount 4 segBytes)
    s.modGrp g fun x => { x with source := x.source.map fun r => { r with lastData := x.issued } }

/-- The source's next act: a segment, the segments once more that were refused, or RESYNC_END. A segment waits for credit and for the
acknowledgement of the descriptors. -/
def State.resyncNext (s : State) (g : Nat) : State :=
  let gr := s.grp g
  match gr.source with
  | none => s
  | some r =>
    if !s.twinOn || gr.role ≠ .solo || !r.started || r.endSent || s.mir.configs.any (fun c => c.group == g && c.op == cfgSync) then s
    else
      let todo := r.todo.filter fun p => (s.desc p.1).state ≠ .free
      match todo.find? s.sendable with
      | some p => if s.hasCredit g segBytes then s.sendSegment g { r with todo := todo } p else s
      | none =>
        if !todo.isEmpty then s
        else if !r.again.isEmpty && !r.resentOnce then
          s.modGrp g fun x => { x with source := some { r with todo := r.again, again := [], resentOnce := true } }
        else
          let last := r.lastData
          (s.modGrp g fun x => { x with source := some { r with endSeq := last, endSent := true } }).issueFrame g
            { seq := 0, idx := 0, off := 0, data := some []
              fin := some { baseEpoch := 0, newEpoch := 0, endSeq := BitVec.ofNat 64 last, runs := 0, nextSeq := 0, done := false
                            active := false, full := r.full } } |>.1

def execResyncSegmentSend (g : Fin 255) (s : State) : Host.Outcome State Fault Refusal := .next (s.resyncNext g).settle

/-- The target's answer to RESYNC_END: with DONE the source asks for ACTIVE; without, the next resync starts from the target, and live
writes are mirrored on. -/
def State.endAnswered (s : State) (g epoch : Nat) (b : ResyncBody) : State :=
  let gr := s.grp g
  match gr.source with
  | some r =>
    if gr.role ≠ .solo ∨ !r.endSent ∨ epoch ≠ gr.epoch then s
    else if b.done then
      (s.modGrp g fun x => { x with syncEpoch := x.epoch }).openRequest opActive g gr.epoch false 0 0
    else s
  | none => s

/-- RESYNC_END: with a number it takes its place in the sequence; without, it is the target's answer. -/
def execResyncEnd (h : TwinHdr) (b : ResyncBody) (s : State) : Host.Outcome State Fault Refusal :=
  .next (s.groupFrame h 1 fun g s =>
    if h.seq = 0 then s.endAnswered g h.epoch.toNat b
    else
      (s.numbered g { seq := h.seq.toNat, epoch := h.epoch.toNat, data := [], fin := some b
                      body := { offset := 0, index := 0, length := 0, unitSeq := 0, unitLen := 0, extents := 0 } }).serveWaiting).settle

/-! ### Timers (R231, R232) -/

/-- Every 1 ms until the source answers. -/
def execResyncBeginRepeat (g : Fin 255) (s : State) : Host.Outcome State Fault Refusal :=
  .next (
    let gr := s.grp g
    let due : Bool := match gr.target with
      | some t => !t.answered && t.retryAt.isNone
      | none => false
    if s.twinOn && gr.role = .standby && !gr.inSync && due then s.sendBegin g else s)

/-- The twin is known to hold the group FENCED, or is unreachable. -/
def State.twinAway (s : State) (g : Nat) : Bool :=
  if s.tportUp 0 || s.tportUp 1 then (s.mir.twinRoles.getD g 3).val == 3 else s.mir.twinUnreachable

/-- `rejoin_wait_ms` passes: a target opens a new resync, or a member with incomplete segments sends RESUME. -/
def State.rejoinExpiry (s : State) (g : Nat) : State :=
  let gr := s.grp g
  let retry : Bool := match gr.target with
    | some t => t.retryAt.isSome
    | none => false
  if !s.twinOn then s
  else if gr.role = .standby && !gr.inSync && retry then s.openTarget g
  else if gr.mayResume && gr.incomplete then
    let s := s.modGrp g fun x => { x with incomplete := false }
    if s.twinAway g then s.sendResume g else s
  else s

def execRejoinWaitExpiry (g : Fin 255) (s : State) : Host.Outcome State Fault Refusal := .next (s.rejoinExpiry g)

/-- No twin port has completed HELLO within 100 ms of the start of HELLO. -/
def execTwinHelloTimeout (s : State) : Host.Outcome State Fault Refusal :=
  .next (
    if !s.twinOn || s.mir.helloStart.isNone || s.tportUp 0 || s.tportUp 1 then s
    else
      let s := s.modMir fun m => { m with twinUnreachable := true }
      (s.mir.groups.keysWhere fun _ gr => gr.mayResume && !gr.incomplete).foldl (fun s g => s.sendResume g) s)

/-- A group has stayed FENCED for 2 × `rejoin_wait_ms`. -/
def execResyncGiveupTimer (g : Fin 255) (s : State) : Host.Outcome State Fault Refusal :=
  .next (if (s.grp g).role = .fenced && (s.grp g).paired then s.modGrp g fun x => { x with settled := true } else s).settle

/-! ### CONFIG at the twin (R216, R447, Table 3.7) -/

/-- REGISTER: own backing, prepared; then the descriptor. -/
def State.twinRegister (s : State) (g idx : Nat) (d : Desc) (backing : Option Nat) : State × Nat :=
  if (s.grp g).role ≠ .standby then (s, 0x0A)
  else if s.overlapsRegion d then (s, 0x01)
  else if !s.idxFree idx then (s, 0x03)
  else match backing with
    | none => (s, 0x04)
    | some a =>
      if !s.framesOk d || !s.placeOk d a then (s, 0x04)
      else
        let d := { d with backing := a, state := .valid }
        ((s.prepare idx d).setDesc idx d, 0)

/-- SYNC: the descriptor is replaced outright; one of the same place, size and class keeps its backing. A new backing awaits resync
whole. -/
def State.twinSync (s : State) (g idx : Nat) (d : Desc) (backing : Option Nat) : State × Nat :=
  let own := s.desc idx
  let same := own.state ≠ .free && own.group == g && own.base == d.base && own.lengthSeg == d.lengthSeg && own.cls == d.cls
  let await_ := fun (s : State) (all : Bool) => s.setTarget g ((s.grp g).target.map fun t =>
    { t with synced := idx :: t.synced.filter (· != idx)
             awaiting := if t.full || all then addNew t.awaiting ((List.range d.lengthSeg).map fun i => (idx, i)) else t.awaiting })
  if (s.grp g).role ≠ .standby then (s, 0x0A)
  else if same then (await_ (s.setDesc idx { d with backing := own.backing, state := .valid }) false, 0)
  else
    let s := if own.state = .free then s else (s.releaseRegion idx).setDesc idx { gen := own.gen }
    match backing with
    | none => (s, 0x04)
    | some a =>
      if !s.framesOk d || !s.placeOk d a then (s, 0x04)
      else
        let d := { d with backing := a, state := .valid }
        (await_ ((s.prepare idx d).setDesc idx d) true, 0)

/-- Apply a CONFIG op: the state and the result. -/
def State.applyConfig (s : State) (g op idx : Nat) (image : Bytes) (backing : Option Nat) : State × Nat :=
  let d := descOf (leNat image)
  let own := s.desc idx
  let mine : Bool := own.state ≠ .free && own.group == g
  match op with
  | 1 => s.twinRegister g idx d backing
  | 2 => if mine then (s.setDesc idx { own with gen := d.gen }, 0) else (s, 0x0A)
  | 3 => if mine then ((s.releaseRegion idx).setDesc idx { gen := d.gen }, 0) else (s, 0x0A)
  | 4 => s.twinSync g idx d backing
  | 5 =>
    if (s.grp g).role = .fenced && !(s.grp g).paired && !(s.reg.descs.any fun e => e.2.state ≠ .free && e.2.group == g) then
      (s.touchLgm.modGrp g fun _ => { paired := true }, 0)
    else (s, 0x0A)
  | 6 => (if (s.grp g).paired then s.unpairLocal g else s, 0)
  | _ => (s, 0x0A)

/-- The answer that a repeated CONFIG had. A region or pairing command is repeated for 1 ms at most, so an older answer is another
CONFIG's. -/
def State.configAnswered (s : State) (g op idx : Nat) (image : Bytes) : Option ConfigResult :=
  s.mir.configResults.find? fun c =>
    c.group == g && c.op == op && c.idx == idx && c.image == image && (op == cfgSync || s.now ≤ c.at_ + msNs)

/-- A CONFIG arrives; a repeated one is answered with the result that it had. -/
def State.config (s : State) (g : Nat) (retx : Bool) (op idx : Nat) (image : Bytes) (backing : Option Nat) : State :=
  let reply := fun (s : State) (r : Nat) => s.twinSend g (s.grp g).epoch 0 (.configAck op idx r)
  match (if retx then s.configAnswered g op idx image else none) with
  | some c => reply s c.result
  | none =>
    let r := s.applyConfig g op idx image backing
    let c : ConfigResult := { group := g, op := op, idx := idx, image := image, result := r.2, at_ := s.now }
    reply (r.1.modMir fun m => { m with configResults := (m.configResults.filter fun c => !(c.group == g && c.idx == idx)) ++ [c] }) r.2

def execConfig (h : TwinHdr) (op : BitVec 8) (idx : BitVec 24) (image : Bytes) (fwBacking : Option Nat) (s : State) :
    Host.Outcome State Fault Refusal :=
  .next (s.groupFrame h 1 fun g s =>
    if op = 0 || op.toNat > 6 || image.length != 64 then s.bump P.pdd_malformed
    else s.config g h.retx op.toNat idx.toNat image fwBacking).settle

/-! ### CONFIG_ACK (R216, R227) -/

def State.dropConfig (s : State) (g op idx : Nat) : State :=
  s.modMir fun m => { m with configs := m.configs.filter fun c => !(c.group == g && c.op == op && c.idx == idx) }

/-- A registration that waits on the twin goes on, or fails and leaves nothing. -/
def State.regAnswered (s : State) (idx : Nat) (ok : Bool) : State :=
  match s.reg.pendingReg with
  | some p =>
    if p.idx ≠ idx ∨ !p.waitTwin then s
    else if ok then (s.modReg fun r => { r with pendingReg := some { p with waitTwin := false } }).checkRegister
    else (s.modReg fun r => { r with pendingReg := none }).failed P.region_register 0x09
  | none => s

/-- A rekey or deregistration that waits on the twin goes on; the command fails when the twin refused. -/
def State.drainAnswered (s : State) (idx : Nat) (ok : Bool) : State :=
  match s.reg.drains.find? idx with
  | some dr =>
    let s := if ok then s else s.failCmd dr.cmd 0x09
    (s.modReg fun r => { r with drains := r.drains.set idx { dr with configDone := true, cmd := if ok then dr.cmd else 0 } }).checkDrain idx
  | none => s

/-- CONFIG_ACK arrives for what waits on it. -/
def State.configAck (s : State) (g op idx result : Nat) : State :=
  match s.mir.configs.find? (fun c => c.group == g && c.op == op && c.idx == idx) with
  | none => s
  | some c =>
    let s := s.dropConfig g op idx
    let ok := result == 0
    match op with
    | 1 => s.regAnswered idx ok
    | 2 | 3 => s.drainAnswered idx ok
    | 4 => if ok then s else s.resyncBreak g
    | 5 => if ok then s.openRequest opPair g 0 false 0 c.cmd else s.failCmd c.cmd 0x04
    | _ => if c.cmd = 0 then s else s.done c.cmd

def execConfigAck (h : TwinHdr) (op : BitVec 8) (idx : BitVec 24) (result : BitVec 8) (s : State) : Host.Outcome State Fault Refusal :=
  .next (s.groupFrame h 1 fun g s => s.configAck g op.toNat idx.toNat result.toNat).settle

/-- No CONFIG_ACK within 2p + `mirror_retx_us`. -/
def execConfigRetxTimer (g : Fin 255) (s : State) : Host.Outcome State Fault Refusal :=
  .next (if s.twinOn then
    (s.mir.configs.filter (·.group == g.val)).foldl (fun s c => s.twinSend g c.epoch 0 (.config c.op c.idx c.image true)) s
  else s)

/-- No CONFIG_ACK within 1 ms: a region command's group is handled as for a missing acknowledgement (R216); pairing and unpairing end
as R227 states. -/
def State.configTimeout (s : State) (c : PendingConfig) : State :=
  match c.op with
  | 1 => ((s.dropConfig c.group 1 c.idx).declareSolo c.group).regAnswered c.idx false
  | 2 | 3 => s.declareSolo c.group
  | 5 => (s.dropConfig c.group 5 c.idx).failCmd c.cmd 0x01
  | 6 =>
    let s := s.dropConfig c.group 6 c.idx
    if c.cmd = 0 then s else s.done c.cmd
  | _ => s

def execConfigAckTimeout (g : Fin 255) (s : State) : Host.Outcome State Fault Refusal :=
  .next ((s.mir.configs.filter (·.group == g.val)).foldl State.configTimeout s).settle

end Sys2Proof.Machine
end

