-- ==== Sys2Proof/Machine/Lease.lean ====
section
/-!
DEFINITION. Meanings of the lease commands at the member: renewal, requests and their grants, and the timing budget (R217–R229, R231,
R232, Table 8.14).
-/

namespace Sys2Proof.Machine

/-! ### Renewal (R218, R219) -/

/-- Groups held, and groups won by a TAKEOVER that is not yet applied. -/
def Grp.holds (gr : Grp) : Bool := gr.role = .active || gr.role = .solo
def Grp.won (gr : Grp) : Bool := gr.role = .standby && gr.takeover.isSome

/-- A lease message on the twin link; it carries this member's `caller_rtt_ns` (R222). -/
def State.twinLease (s : State) (m : LeaseMsg) : State :=
  s.twinSend 255 0 0 (.lease { m with residenceNs := BitVec.ofNat 32 s.callerRtt })

/-- Every `renew_us` a holder sends RENEW to the Caller and to the twin. -/
def State.renew (s : State) : State :=
  let held := fun g => (s.grp g).holds
  let solo := fun g => (s.grp g).role = .solo
  let won := fun g => (s.grp g).won
  if !s.twinOn || !(s.mir.groups.any fun e => e.2.holds || e.2.won) then s
  else
    let s := s.modMir fun m => { m with renewSeq := m.renewSeq + 1 }
    let m := s.leaseMsg opRenew 255 0 false false (groupMap fun g => held g || won g) (groupMap fun g => solo g || won g) 0
    let s := s.sendCallers m
    if s.mir.groups.any fun e => e.2.holds then
      (s.twinLease { m with mapA := groupMap held, mapB := groupMap fun g => decide (solo g) }).modMir fun m =>
        { m with lastTwinRenew := some s.now }
    else s

def execRenewTimer (s : State) : Host.Outcome State Fault Refusal := .next s.renew

/-- Groups of a bit map. -/
def mapGroups (m : BitVec 256) : List Nat := (List.range 255).filter fun g => m.getLsbD g

/-- The standby's part of a RENEW that names a group: a twin grant of 24 µs from its arrival, except where a TAKEOVER has been granted;
one that was only sent is withdrawn (R219). -/
def State.renewNamed (s : State) (g : Nat) : State :=
  let gr := s.grp g
  match gr.role with
  | .standby =>
    if gr.takeover.isSome then s
    else
      let s := if gr.takeoverSent then (s.sendRelease g false).modGrp g fun x => { x.dropReq opTakeover with takeoverSent := false } else s
      s.modGrp g fun x => { x with twinGrantEnd := some (s.now + s.param P.lease_us * usNs), lastRenew := some s.now }
  | .fenced => s.rejoin g
  | _ => s

/-- A RENEW or a PROBE on the twin link. -/
def State.twinRequest (s : State) (m : LeaseMsg) : State :=
  let s := s.modMir fun x => { x with twinRtt := m.residenceNs.toNat }
  if m.op.toNat = opRenew then
    let s := s.modMir fun x => { x with lastTwinRenew := some s.now }
    let s := (mapGroups m.mapA).foldl State.renewNamed s
    let granted := groupMap fun g => m.mapA.getLsbD g && (s.grp g).role = .standby && (s.grp g).takeover.isNone
    s.twinLease { m with member := BitVec.ofNat 12 s.fab.member, reply := true, mapA := granted, mapB := 0, result := 0 }
  else if m.op.toNat = opProbe then
    s.twinLease { m with member := BitVec.ofNat 12 s.fab.member, reply := true, result := 0 }
  else s

def execTwinRenew (h : TwinHdr) (m : LeaseMsg) (s : State) : Host.Outcome State Fault Refusal :=
  .next (s.twinFrame h 1 fun s => if m.reply then s else s.twinRequest m).settle

/-- A round trip to the Caller is measured (R222). -/
def State.sampleRtt (s : State) (m : LeaseMsg) : State :=
  let r := s.now - m.tSend.toNat - m.residenceNs.toNat
  s.modMir fun x => { x with rtts := (s.now, r) :: x.rtts.filter fun d => s.now < d.1 + secNs }

/-- A RENEW reply of the Caller or of the twin: the lease end advances; groups that the Caller names in map_b move to FENCED. -/
def State.renewReply (s : State) (m : LeaseMsg) (viaTwin : Bool) : State :=
  let t := s.leaseEndOf m.tSend.toNat
  let s := if viaTwin then s.modMir fun x => { x with twinRtt := m.residenceNs.toNat }
    else if m.mapA ≠ 0 then (s.sampleRtt m).modMir fun x => { x with claimed := false }
    else s
  let s := (mapGroups m.mapA).foldl (fun s g =>
    let gr := s.grp g
    if gr.holds then s.advanceLease g t
    else match gr.takeover with
      | some w => s.modGrp g fun x => { x with takeover := some (w.1, max w.2 t) }
      | none => s) s
  (mapGroups m.mapB).foldl (fun s g => if (s.grp g).holds then s.toFenced g (s.grp g).epoch else s) s

def execRenewReply (m : LeaseMsg) (viaTwin : Bool) (s : State) : Host.Outcome State Fault Refusal :=
  .next (if !s.twinOn then s else if viaTwin then s.renewReply m true else s.onceReply m fun s => s.renewReply m false).settle

/-- The lease end is reached (R218). -/
def execLeaseEnd (g : Fin 255) (s : State) : Host.Outcome State Fault Refusal :=
  .next (if (s.grp g).holds then s.toFenced g (s.grp g).epoch else s).settle

/-- No RENEW has named a group for 2 × `renew_us`: the standby stops granting, and one in sync asks for TAKEOVER. -/
def State.renewLapse (s : State) (g : Nat) : State :=
  let gr := s.grp g
  if !s.twinOn || gr.role ≠ .standby || !gr.inSync || gr.takeoverSent || gr.takeover.isSome || s.desig.change.isSome then s
  else (s.openRequest opTakeover g gr.epoch true 0 0).modGrp g fun x => { x with takeoverSent := true }

def execStandbyRenewLapse (g : Fin 255) (s : State) : Host.Outcome State Fault Refusal := .next (s.renewLapse g)

/-! ### Repeats and probes (R221, R222) -/

/-- Every `renew_us` a request that has no answer, or QUIET, is repeated. -/
def execLeaseRequestRepeat (g : Fin 255) (s : State) : Host.Outcome State Fault Refusal :=
  .next (match (s.grp g).req with
    | some r =>
      if s.twinOn && !(r.op = opTakeover && s.desig.change.isSome) then
        s.callerRequest r.op g r.epoch r.inSync false 0#256 (if r.op = opResume then s.param P.rejoin_wait_ms else 0)
      else s
    | none => s)

/-- Every 1 ms: PROBE to the Caller, and over the twin link when no RENEW has passed there for 1 ms. -/
def execLeaseProbeTimer (s : State) : Host.Outcome State Fault Refusal :=
  .next (
    if !s.twinOn then s
    else
      let s := s.modMir fun m => { m with renewSeq := m.renewSeq + 1 }
      let m := s.leaseMsg opProbe 255 0 false false 0#256 0#256 0
      let s := s.sendCallers m
      let still : Bool := match s.mir.lastTwinRenew with
        | some t => t + msNs ≤ s.now
        | none => true
      if still then s.twinLease m else s)

def execProbeReply (m : LeaseMsg) (viaTwin : Bool) (s : State) : Host.Outcome State Fault Refusal :=
  .next (if !s.twinOn then s
    else if viaTwin then s.modMir fun x => { x with twinRtt := m.residenceNs.toNat }
    else s.onceReply m fun s => s.sampleRtt m)

/-- budget_takeover_us and budget_solo_us of R222, in ns. -/
def State.budgetTakeover (s : State) : Nat :=
  s.param P.lease_us * usNs + 3 * usNs + max s.pDelay (usNs + (s.callerRtt + s.mir.twinRtt) / 2)
def State.budgetSolo (s : State) : Nat :=
  2 * s.pDelay + s.param P.mirror_ack_timeout_us * usNs + usNs + max s.callerRtt s.mir.twinRtt

/-- Every 1 s. -/
def State.leaseBudget (s : State) : State :=
  let a := s.budgetTakeover
  let b := s.budgetSolo
  let ok := decide (a ≤ 40 * usNs ∧ b ≤ 40 * usNs)
  let was := s.mir.budgetOk
  let s := s.modMir fun m => { m with budgetTakeoverNs := a, budgetSoloNs := b, budgetOk := ok }
  if was && !ok then s.event 0x2641 0 [a, b] else s

def execLeaseBudgetCompute (s : State) : Host.Outcome State Fault Refusal := .next (if s.twinOn then s.leaseBudget else s)

/-! ### Grants (R218, R223, R224, Table 8.14) -/

/-- Take a grant for which the group waits; a reply with an epoch above the member's own that is not its own grant moves the group to
FENCED. -/
def State.grant (s : State) (op : Nat) (m : LeaseMsg) (role : Role → Bool) (f : Nat → State → State) : State :=
  let g := m.group.toNat
  let gr := s.grp g
  let own : Bool := match gr.req with
    | some r => r.op == op && role gr.role
    | none => false
  if !s.twinOn || g = 255 then s
  else s.onceReply m fun s =>
    if own then f g s
    else if gr.paired && gr.epoch < m.epoch.toNat then s.fenceGroup g
    else s

/-- SOLO GRANTED (R226); a target that waits is answered. -/
def execSoloGranted (m : LeaseMsg) (s : State) : Host.Outcome State Fault Refusal :=
  .next (s.grant opSolo m (fun r => r = .active) fun g s =>
    (s.toSolo g m.epoch.toNat (max (s.leaseEndOf m.tSend.toNat) ((s.grp g).leaseEnd.getD 0))).tryDecide g).settle

/-- The TAKEOVER is applied: COMMITTED TWIN records hold what overlaps them until they are applied (R198, R200). -/
def State.takeOver (s : State) (g : Nat) : State :=
  match (s.grp g).takeover with
  | some w => s.becomeHolder g .solo w.1 w.2
  | none => s

/-- TAKEOVER GRANTED: applied once the member's own twin grant has ended. -/
def execTakeoverGranted (m : LeaseMsg) (s : State) : Host.Outcome State Fault Refusal :=
  .next (s.grant opTakeover m (fun r => r = .standby) fun g s =>
    let s := s.modGrp g fun x => { x with takeover := some (m.epoch.toNat, s.leaseEndOf m.tSend.toNat), req := none }
    let ended : Bool := match (s.grp g).twinGrantEnd with
      | some t => t ≤ s.now
      | none => true
    if ended then s.takeOver g else s).settle

/-- The member's own twin grant ends. -/
def execTwinGrantEnd (g : Fin 255) (s : State) : Host.Outcome State Fault Refusal :=
  .next (if s.twinOn && (s.grp g).role = .standby then s.takeOver g else s).settle

/-- ACTIVE GRANTED: RESYNC_END with ACTIVE goes to the target. A resync that was broken off meanwhile leaves the twin out of sync, and
SOLO is declared at once. -/
def State.activeGranted (s : State) (g epoch tEnd : Nat) : State :=
  let ended : Bool := match (s.grp g).source with
    | some r => r.endSent
    | none => false
  let s := ((s.setRole g .active epoch).advanceLease g tEnd).modGrp g fun x => { x with req := none }
  if ended then
    let s := s.modGrp g fun x => { x with source := none, syncEpoch := epoch }
    (s.issueFrame g
      { seq := 0, idx := 0, off := 0, data := some []
        fin := some { baseEpoch := 0, newEpoch := BitVec.ofNat 32 epoch, endSeq := 0, runs := 0, nextSeq := 0, done := false, active := true
                      full := false } }).1.advanceAll
  else s.declareSolo g

def execActiveGranted (m : LeaseMsg) (s : State) : Host.Outcome State Fault Refusal :=
  .next (s.grant opActive m (fun r => r = .solo) fun g s => s.activeGranted g m.epoch.toNat (s.leaseEndOf m.tSend.toNat)).settle

/-- The holder has handed over: an in-sync STANDBY that expects the number after its last, or FENCED (R228, R207). -/
def State.handedOver (s : State) (g epoch : Nat) (inSync : Bool) : State :=
  let gr := s.grp g
  if inSync then
    let s := (s.setRole g .standby epoch).modGrp g fun x =>
      { x.cleared with inSync := true, placed := x.issued, syncEpoch := epoch, twinGrantEnd := some (s.now + s.param P.lease_us * usNs) }
    let s := if gr.cmd = 0 then s else s.done gr.cmd
    s.advanceAll
  else s.toFenced g epoch

/-- The twin that a HANDOVER names: ACTIVE, or SOLO when the holder did not stay in sync (Table 8.14). -/
def State.takesOver (s : State) (g : Nat) (m : LeaseMsg) : State :=
  let s := s.becomeHolder g (if m.inSync then .active else .solo) m.epoch.toNat (s.leaseEndOf m.tSend.toNat)
  if m.inSync then s.modGrp g fun x => { x with syncEpoch := m.epoch.toNat } else s

def execHandoverGranted (m : LeaseMsg) (s : State) : Host.Outcome State Fault Refusal :=
  .next (
    let g := m.group.toNat
    let gr := s.grp g
    if s.twinOn && g ≠ 255 && gr.role = .standby && m.twin.toNat == s.fab.member && gr.epoch < m.epoch.toNat then s.takesOver g m
    else s.grant opHandover m (fun r => r = .active) fun g s => s.handedOver g m.epoch.toNat m.inSync).settle

def execResumeGranted (m : LeaseMsg) (s : State) : Host.Outcome State Fault Refusal :=
  .next (s.grant opResume m (fun r => r = .fenced) fun g s =>
    s.becomeHolder g .solo m.epoch.toNat (s.leaseEndOf m.tSend.toNat)).settle

/-- Command parameter that waits on the group's request. -/
def State.reqCmd (s : State) (g : Nat) : Nat :=
  match (s.grp g).req with
  | some r => r.cmd
  | none => 0

/-- FORCE GRANTED: the Critical forced-takeover event (R229). -/
def execForceGranted (m : LeaseMsg) (s : State) : Host.Outcome State Fault Refusal :=
  .next (s.grant opForce m (fun r => r = .fenced) fun g s =>
    let cmd := s.reqCmd g
    ((s.becomeHolder g .solo m.epoch.toNat (s.leaseEndOf m.tSend.toNat)).event 0x2643 0 [g, m.epoch.toNat]).done cmd).settle

/-- PAIR GRANTED: SOLO at epoch 1; the mirror sequence starts at 1 (R207, R227). -/
def execPairGranted (m : LeaseMsg) (s : State) : Host.Outcome State Fault Refusal :=
  .next (s.grant opPair m (fun r => r = .fenced) fun g s =>
    let cmd := s.reqCmd g
    let s := s.modGrp g fun _ => { paired := true }
    (s.becomeHolder g .solo m.epoch.toNat (s.leaseEndOf m.tSend.toNat)).done cmd).settle

/-! ### Refusals (R217, R219, R227, R228, R231) -/

/-- PAIR has failed: the twin returns to FENCED and unpaired. -/
def State.pairFails (s : State) (g cmd : Nat) : State :=
  ((s.failCmd cmd 0x05).modGrp g fun x => { x with req := none }).sendConfig g cfgUnpair 0 (List.replicate 64 0) 0

/-- HANDOVER of a switchover has failed. For a MAINT entry that waits, the group moves to SOLO (R228). -/
def State.handoverFails (s : State) (g cmd : Nat) : State :=
  let s := (s.failCmd cmd 0x05).modGrp g fun x => { x with req := none, switchover := none, cmd := 0 }
  if s.pwr.maintHeld then s.declareSolo g else s

/-- The outcome of the group's request is a refusal. -/
def State.refused (s : State) (g result : Nat) (r : LeaseReq) : State :=
  let drop := s.modGrp g fun x => { x with req := none, takeoverSent := false }
  if r.op = opSolo then s.toFenced g (s.grp g).epoch
  else if r.op = opTakeover then if result = 3 then (s.modGrp g fun x => { x with takeoverSent := false }).outOfSync g else drop
  else if r.op = opActive then drop.resyncBreak g
  else if r.op = opHandover then s.handoverFails g r.cmd
  else if r.op = opForce then drop.failCmd r.cmd 0x05
  else if r.op = opPair then s.pairFails g r.cmd
  else drop

/-- A lease reply refuses, or comes from a member that is not the Caller. NOT_CALLER is no reply in CHANGE; outside it the designator
designates again when the adopted Caller says so (R276, R277). -/
def State.leaseRefused (s : State) (m : LeaseMsg) : State :=
  let g := m.group.toNat
  let away : Bool := m.result.toNat == 5
  let s := if s.twinOn && away && m.member.toNat == s.desig.caller then s.designate else s
  if !s.twinOn || g = 255 || (away && s.desig.change.isSome) then s
  else
    let gr := s.grp g
    let s := match gr.req with
      | some r => if r.op = m.op.toNat then s.refused g m.result.toNat r else s
      | none => s
    if gr.paired && gr.epoch < m.epoch.toNat then s.fenceGroup g else s

def execLeaseRefused (m : LeaseMsg) (s : State) : Host.Outcome State Fault Refusal :=
  .next (s.onceReply m fun s => s.leaseRefused m).settle

/-- A group command's request has had no reply within 1 ms (R227). -/
def execCallerReplyTimeout (g : Fin 255) (s : State) : Host.Outcome State Fault Refusal :=
  .next (match (s.grp g).req with
    | some r => if r.cmd = 0 then s else s.refused g 5 r
    | none => s).settle

/-- A Caller in its quiet period: one CLAIM per group held (R221). -/
def execQuietReply (_m : LeaseMsg) (s : State) : Host.Outcome State Fault Refusal :=
  .next (
    if !s.twinOn || s.mir.claimed then s
    else
      let s := s.modMir fun x => { x with claimed := true }
      (s.mir.groups.keysWhere fun _ gr => gr.holds).foldl (fun s g =>
        s.callerRequest opClaim g (s.grp g).epoch false false (groupMap fun n => n == g && (s.grp g).role = .solo) 0) s)

end Sys2Proof.Machine
end

