-- ==== Sys2Proof/Machine/Caller.lean ====
section
/-!
DEFINITION. Meanings of the Caller's commands (R220–R222, R224, R229).
-/

namespace Sys2Proof.Machine

/-! ### Pairs and records (R220) -/

/-- Most pairs that a Caller serves. -/
abbrev maxPairs : Nat := 64

/-- Key of a pair in `callerPairs`. -/
def pairOf (a b : Nat) : Nat := min a b * 4096 + max a b

/-- Key of the pair that a request comes from. -/
def leasePair (m : LeaseMsg) : Nat := pairOf m.member.toNat m.twin.toNat

/-- Change a pair. -/
def State.modPair (s : State) (k : Nat) (f : CallerPairState → CallerPairState) : State :=
  { s with callerPairs := s.callerPairs.upd k {} f }

def State.callerRec (s : State) (k g : Nat) : Option CallerRec := (s.callerPairs.getD k {}).recs.find? g

/-- Write a record. -/
def State.setCallerRec (s : State) (k g : Nat) (r : CallerRec) : State := s.modPair k fun p => { p with recs := p.recs.set g r }

/-- Holder, epoch and SOLO of a record change: LGM is written before any reply (R220). -/
def State.writeRec (s : State) (k g : Nat) (r : CallerRec) : State := (s.setCallerRec k g r).touchLgm

/-! ### Replies (Tables 8.8 and 8.9) -/

abbrev resGranted : Nat := 0
abbrev resHolder : Nat := 1
abbrev resEpoch : Nat := 2
abbrev resSolo : Nat := 3
abbrev resQuiet : Nat := 4
abbrev resNotCaller : Nat := 5
abbrev resState : Nat := 6

/-- Reply to a request to a member; `since`: when the request arrived. -/
def State.callerReply (s : State) (dst : Nat) (m : LeaseMsg) (result epoch since : Nat) (mapA mapB : BitVec 256 := 0#256) : State :=
  s.sendLease dst { m with
    member := BitVec.ofNat 12 s.fab.member, reply := true, result := BitVec.ofNat 8 result, epoch := BitVec.ofNat 32 epoch
    mapA := mapA, mapB := mapB, residenceNs := BitVec.ofNat 32 (s.now - since) }

/-- Reply at once to the requester. -/
def State.answer (s : State) (m : LeaseMsg) (result epoch : Nat) : State := s.callerReply m.member.toNat m result epoch s.now

/-- Handle a request as Caller of its pair: NOT_CALLER for a pair that is not served, QUIET in the quiet period. -/
def State.asCaller (s : State) (m : LeaseMsg) (f : Nat → State → State) : State :=
  let k := leasePair m
  if !s.twinOn || m.reply then s
  else match s.callerPairs.find? k with
    | none => s.answer m resNotCaller 0
    | some p =>
      if !p.serving then s.answer m resNotCaller 0
      else if p.quietUntil.isSome then s.answer m resQuiet 0
      else f k s

/-! ### Grants -/

/-- A grant lasts 24 µs at the Caller. -/
def State.grantEndNow (s : State) : Nat := s.now + s.param P.lease_us * usNs

/-- The grant of a record has not ended. -/
def State.grantCurrent (s : State) (r : CallerRec) : Bool :=
  match r.grantEnd with
  | some t => s.now < t
  | none => false

/-- The grant end + 1 µs has passed. -/
def State.grantOver (s : State) (r : CallerRec) : Bool :=
  match r.grantEnd with
  | some t => t + usNs ≤ s.now
  | none => true

/-- Epoch at which the Caller refuses further ops (R224). -/
abbrev lastEpoch : Nat := 0xFFFFFFFE

/-- Refusal of a presented epoch. -/
def epochRefusal (presented recorded : Nat) : Option Nat :=
  if presented < recorded then some resEpoch
  else if recorded < presented ∨ lastEpoch ≤ recorded then some resState
  else none

/-- A TAKEOVER that is held for another member is refused with REFUSED_HOLDER (R220). -/
def State.refuseHeld (s : State) (k g : Nat) : State :=
  match s.callerRec k g with
  | some r => match r.takeover with
    | some h =>
      (s.setCallerRec k g { r with takeover := none }).callerReply h.msg.member.toNat h.msg resHolder r.epoch h.since
    | none => s
  | none => s

/-- A member is the recorded holder of a group. -/
def State.heldBy (s : State) (k member g : Nat) : Bool :=
  match s.callerRec k g with
  | some r => r.holder == member
  | none => false

/-- The grant of a group is extended for its holder; a TAKEOVER that is held for it is refused. -/
def State.renewRec (s : State) (k g : Nat) : State :=
  let s := s.refuseHeld k g
  match s.callerRec k g with
  | some r => s.setCallerRec k g { r with grantEnd := some s.grantEndNow }
  | none => s

/-- RENEW (R220). -/
def State.callerRenew (s : State) (m : LeaseMsg) : State :=
  s.asCaller m fun k s =>
    let named := mapGroups m.mapA
    let yes := named.filter (s.heldBy k m.member.toNat)
    let no := named.filter fun g => !s.heldBy k m.member.toNat g
    let s := yes.foldl (fun s g => s.renewRec k g) s
    s.callerReply m.member.toNat m resGranted 0 s.now (groupMap yes.contains) (groupMap no.contains)

def execCallerRenew (m : LeaseMsg) (s : State) : Host.Outcome State Fault Refusal := .next (s.callerRenew m)

/-- An op that is granted to the recorded holder at the recorded epoch while its grant is current: SOLO, ACTIVE and HANDOVER. -/
def State.holderOp (s : State) (m : LeaseMsg) (f : Nat → CallerRec → State → State) : State :=
  s.asCaller m fun k s =>
    match s.callerRec k m.group.toNat with
    | none => s.answer m resState 0
    | some r =>
      if r.holder ≠ m.member.toNat then s.answer m resHolder r.epoch
      else match epochRefusal m.epoch.toNat r.epoch with
        | some c => s.answer m c r.epoch
        | none => if s.grantCurrent r then f k r s else s.answer m resState r.epoch

/-- SOLO. -/
def State.callerSolo (s : State) (m : LeaseMsg) : State :=
  s.holderOp m fun k r s =>
    (s.writeRec k m.group.toNat { r with epoch := r.epoch + 1, solo := true }).answer m resGranted (r.epoch + 1)

def execCallerSolo (m : LeaseMsg) (s : State) : Host.Outcome State Fault Refusal := .next (s.callerSolo m)

/-- ACTIVE clears SOLO. -/
def State.callerActive (s : State) (m : LeaseMsg) : State :=
  s.holderOp m fun k r s =>
    (s.writeRec k m.group.toNat { r with epoch := r.epoch + 1, solo := false }).answer m resGranted (r.epoch + 1)

def execCallerActive (m : LeaseMsg) (s : State) : Host.Outcome State Fault Refusal := .next (s.callerActive m)

/-- HANDOVER names the twin; both members receive the reply. -/
def State.callerHandover (s : State) (m : LeaseMsg) : State :=
  s.holderOp m fun k r s =>
    let s := s.writeRec k m.group.toNat
      { r with holder := m.twin.toNat, epoch := r.epoch + 1, solo := !m.inSync, grantEnd := some s.grantEndNow, takeover := none }
    (s.answer m resGranted (r.epoch + 1)).callerReply m.twin.toNat m resGranted (r.epoch + 1) s.now

def execCallerHandover (m : LeaseMsg) (s : State) : Host.Outcome State Fault Refusal := .next (s.callerHandover m)

/-- TAKEOVER: held until the grant end + 1 µs; a repeat is the same request, with its later t_send. -/
def State.callerTakeover (s : State) (m : LeaseMsg) : State :=
  s.asCaller m fun k s =>
    match s.callerRec k m.group.toNat with
    | none => s.answer m resState 0
    | some r =>
      if !m.inSync || r.holder == m.member.toNat then s.answer m resState r.epoch
      else match epochRefusal m.epoch.toNat r.epoch with
        | some c => s.answer m c r.epoch
        | none => s.setCallerRec k m.group.toNat { r with takeover := some { msg := m, since := s.now } }

def execCallerTakeover (m : LeaseMsg) (s : State) : Host.Outcome State Fault Refusal := .next (s.callerTakeover m)

/-- The grant end + 1 µs of a held TAKEOVER is reached. -/
def State.takeoverDue (s : State) (k g : Nat) : State :=
  match s.callerRec k g with
  | some r => match r.takeover with
    | some h =>
      let free := { r with takeover := none }
      if r.solo then (s.setCallerRec k g free).callerReply h.msg.member.toNat h.msg resSolo r.epoch h.since
      else
        let s := (s.writeRec k g
          { free with holder := h.msg.member.toNat, epoch := r.epoch + 1, solo := true, grantEnd := some s.grantEndNow }).bump P.caller_takeovers
        s.callerReply h.msg.member.toNat h.msg resGranted (r.epoch + 1) h.since
    | none => s
  | none => s

def execCallerTakeoverDue (lower higher : BitVec 12) (g : Fin 255) (s : State) : Host.Outcome State Fault Refusal :=
  .next (if s.twinOn then s.takeoverDue (pairOf lower.toNat higher.toNat) g else s)

/-- The wait that the other member's first RESUME opened has passed, and the holder has sent no RESUME within it. -/
def State.rejoinOver (s : State) (first wait : Nat) (r : CallerRec) : Bool :=
  first + wait * msNs ≤ s.now &&
  match r.holderResume with
  | some t => t < first || first + wait * msNs < t
  | none => true

/-- RESUME. One that cannot be granted yet has no answer, and the requester repeats it. -/
def State.callerResume (s : State) (m : LeaseMsg) : State :=
  s.asCaller m fun k s =>
    let g := m.group.toNat
    match s.callerRec k g with
    | none => s.answer m resState 0
    | some r =>
      match epochRefusal m.epoch.toNat r.epoch with
      | some c => s.answer m c r.epoch
      | none =>
        if r.holder = m.member.toNat then
          let r := { r with holderResume := some s.now }
          if s.grantOver r then
            (s.writeRec k g { r with epoch := r.epoch + 1, solo := true, otherResume := none }).answer m resGranted (r.epoch + 1)
          else s.setCallerRec k g r
        else if r.solo then s.answer m resSolo r.epoch
        else
          let first := r.otherResume.getD (s.now, m.residenceNs.toNat)
          let r := { r with otherResume := some first }
          if s.grantOver r && s.rejoinOver first.1 first.2 r then
            (s.writeRec k g
              { r with holder := m.member.toNat, epoch := r.epoch + 1, solo := true, grantEnd := some s.grantEndNow, otherResume := none
                       holderResume := none, takeover := none }).answer m resGranted (r.epoch + 1)
          else s.setCallerRec k g r

def execCallerResume (m : LeaseMsg) (s : State) : Host.Outcome State Fault Refusal := .next (s.callerResume m)

/-- CLAIM, in the quiet period: the record becomes the highest epoch among the LGM record and the claims (R221). -/
def State.callerClaim (s : State) (m : LeaseMsg) : State :=
  let k := leasePair m
  let g := m.group.toNat
  match s.callerPairs.find? k with
  | some p =>
    if !s.twinOn || m.reply then s
    else if !p.serving || p.quietUntil.isNone then s.asCaller m fun _ s => s.answer m resState 0
    else
      let newer : Bool := match s.callerRec k g with
        | some r => decide (r.epoch < m.epoch.toNat)
        | none => true
      (if newer then s.writeRec k g { holder := m.member.toNat, epoch := m.epoch.toNat, solo := m.mapB.getLsbD g } else s).answer m resQuiet 0
  | none => s.asCaller m fun _ s => s

def execCallerClaim (m : LeaseMsg) (s : State) : Host.Outcome State Fault Refusal := .next (s.callerClaim m)

/-- RELEASE withdraws the requester's held request; with UNPAIR it erases the record. -/
def State.callerRelease (s : State) (m : LeaseMsg) : State :=
  s.asCaller m fun k s =>
    let g := m.group.toNat
    let s := match s.callerRec k g with
      | some r =>
        if m.unpair then (s.modPair k fun p => { p with recs := p.recs.del g }).touchLgm
        else match r.takeover with
          | some h => if h.msg.member = m.member then s.setCallerRec k g { r with takeover := none } else s
          | none => s
      | none => s
    s.answer m resGranted 0

def execCallerRelease (m : LeaseMsg) (s : State) : Host.Outcome State Fault Refusal := .next (s.callerRelease m)

def execCallerProbe (m : LeaseMsg) (s : State) : Host.Outcome State Fault Refusal :=
  .next (s.asCaller m fun _ s => s.answer m resGranted 0)

/-- FORCE: granted once every grant for the group has ended + 1 µs; until then it has no answer (R229). -/
def State.callerForce (s : State) (m : LeaseMsg) : State :=
  s.asCaller m fun k s =>
    let g := m.group.toNat
    match s.callerRec k g with
    | none => s.answer m resState 0
    | some r =>
      if lastEpoch ≤ r.epoch then s.answer m resState r.epoch
      else if s.grantOver r then
        (s.writeRec k g
          { holder := m.member.toNat, epoch := r.epoch + 1, solo := true, grantEnd := some s.grantEndNow }).answer m resGranted (r.epoch + 1)
      else s

def execCallerForce (m : LeaseMsg) (s : State) : Host.Outcome State Fault Refusal := .next (s.callerForce m)

/-- PAIR creates the record. -/
def State.callerPair (s : State) (m : LeaseMsg) : State :=
  s.asCaller m fun k s =>
    match s.callerRec k m.group.toNat with
    | some r => s.answer m resState r.epoch
    | none =>
      (s.writeRec k m.group.toNat { holder := m.member.toNat, epoch := 1, solo := true, grantEnd := some s.grantEndNow }).answer m resGranted 1

def execCallerPair (m : LeaseMsg) (s : State) : Host.Outcome State Fault Refusal := .next (s.callerPair m)

/-! ### The quiet period (R221) -/

/-- Begin to serve a pair, or serve it again after a restart: the quiet period starts. A 65th pair is not taken. -/
def State.callerStart (s : State) (k : Nat) : State :=
  if s.callerPairs.has k || s.callerPairs.length < maxPairs then
    s.modPair k fun p => { p with serving := true, quietUntil := some (s.now + s.param P.caller_quiet_us * usNs) }
  else s

def execCallerStart (lower higher : BitVec 12) (s : State) : Host.Outcome State Fault Refusal :=
  .next (if s.twinOn then s.callerStart (pairOf lower.toNat higher.toNat) else s)

/-- `caller_quiet_us` ends. -/
def execCallerQuietEnd (lower higher : BitVec 12) (s : State) : Host.Outcome State Fault Refusal :=
  .next (
    let k := pairOf lower.toNat higher.toNat
    if s.callerPairs.has k then s.modPair k fun p => { p with quietUntil := none } else s)

end Sys2Proof.Machine
end

