-- ==== Sys2Proof/Machine/Congestion.lean ====
section
/-!
DEFINITION. Meanings of the congestion commands (chapter 6): the marking fractions, the governor, and priority flow control.
-/

namespace Sys2Proof.Machine

/-! ### The governor (R162, R168) -/

/-- A CNP reaches the governor of a queue pair. -/
def State.governorCnp (s : State) (qpn : Nat) : State :=
  let s := (s.bump P.cnp_received).modGov qpn fun g => g.fill s.now
  let g := (s.qp qpn).gov
  let held : Bool := match g.lastCut with
    | some t => s.now < t + s.param P.gov_cut_hold_us * usNs
    | none => false
  if held then s
  else
    let rc := max (s.param P.gov_rate_min_mbps) (g.rc * s.param P.gov_cut_pct / 100)
    (s.modGov qpn fun x => { x with rt := g.rc, rc := rc, lastCut := some s.now }).bump P.gov_cuts

def execCnpReceived (p : Pkt) (s : State) : Host.Outcome State Fault Refusal :=
  .next (s.hostPacket p 0x81 fun qpn s =>
    if (s.qp qpn).state = .ready then (s.ceMark qpn p.ce).governorCnp qpn else s.bump P.rx_unknown_qp)

/-- A step of the recovery of a rate. -/
def Governor.step (g : Governor) (ai : Nat) : Governor :=
  if g.rc < g.rt then
    let rc := g.rc + (g.rt - g.rc) / 2
    { g with rc := if g.rt - rc < ai then g.rt else rc }
  else
    let rc := min 800000 (g.rc + ai)
    { g with rc := rc, rt := rc }

def execGovStepTimer (qpn : BitVec 18) (s : State) : Host.Outcome State Fault Refusal :=
  .next (if (s.qp qpn.toNat).state = .ready then
      s.modGov qpn.toNat fun g => (g.fill s.now).step (s.param P.gov_ai_mbps)
    else s)

/-! ### Marking fractions (R163, R164) -/

/-- f_budget as a numerator and a denominator, from n segments dirty or reserved and p permitted. -/
def budgetFraction (n p low high ramp : Nat) : Nat × Nat :=
  if p = 0 then (if n = 0 then 0 else 1, 1)
  else if 100 * n < low * p then (0, 1)
  else if 100 * n < high * p then (ramp * (100 * n - low * p), 100 * p * (high - low))
  else (1, 1)

/-- PDE computes u and f_budget. -/
def State.occupancyTick (s : State) : State :=
  if s.gated 4 then s
  else
    let n := s.dirtyCount + s.pde.reserved
    let p := s.permitted
    let f := budgetFraction n p (s.param P.mark_low_pct) (s.param P.mark_high_pct) (s.param P.mark_ramp_max_pct)
    let u := if p = 0 then (if n = 0 then 0 else 65535) else min (100 * n / p) 65535
    s.modXpt fun x => { x with fNum := f.1, fDen := f.2, occupancyPct := u }

def execBudgetOccupancyTick (s : State) : Host.Outcome State Fault Refusal := .next s.occupancyTick

/-- The 10 µs window of RQ0's regulator slides; `emptyPct` is its share without tokens. -/
def State.wregTick (s : State) (emptyPct : Nat) : State :=
  if s.gated 4 then s
  else
    let e := min emptyPct 100
    (s.modDram fun d => { d with emptyPct := d.emptyPct.set 0 e }).modXpt fun x =>
      { x with fWreg := if s.param P.wreg_sat_pct ≤ e then s.param P.wreg_mark_pct else 0 }

def execWregWindowTick (emptyPct : Nat) (s : State) : Host.Outcome State Fault Refusal := .next (s.wregTick emptyPct)

/-! ### Priority flow control (R170–R172) -/

/-- Send a PFC frame. -/
def State.sendPfc (s : State) (p quanta : Nat) : State :=
  (s.emit (.pfc p (s.param P.pfc_priority) quanta)).bump P.pfc_frames_sent

def execPfcRepeatTimer (port : Fin 4) (s : State) : Host.Outcome State Fault Refusal :=
  let h := s.port port.val
  .next (if h.linkUp && h.xoff && s.paramOn P.pfc_enable && s.param P.pfc_xon_kib < h.rxBufKib then s.sendPfc port.val 0xFFFF else s)

def execPfcXon (port : Fin 4) (levelKib : Nat) (s : State) : Host.Outcome State Fault Refusal :=
  let h := s.port port.val
  .next (if h.linkUp && levelKib < s.param P.pfc_xon_kib then
      let s := s.modPort port.val fun h => { h with rxBufKib := levelKib, xoff := false }
      if h.xoff && s.paramOn P.pfc_enable then s.sendPfc port.val 0 else s
    else s)

/-- A PFC frame: one quantum is 0.64 ns. -/
def State.pfcReceived (s : State) (p prio quanta : Nat) : State :=
  let h := s.port p
  if !h.linkUp || !s.paramOn P.pfc_enable || prio ≠ s.param P.pfc_priority || h.ignoring then s
  else if quanta = 0 then s.resumePort p
  else s.modPort p fun h =>
    { h with pausedSince := some (h.pausedSince.getD s.now), pausedUntil := some (s.now + ceilDiv (64 * quanta) 100) }

def execPfcFrameReceived (port : Fin 4) (prio : Fin 8) (quanta : BitVec 16) (s : State) : Host.Outcome State Fault Refusal :=
  .next (s.pfcReceived port.val prio.val quanta.toNat).settle

def execPfcPauseExpiry (port : Fin 4) (s : State) : Host.Outcome State Fault Refusal := .next (s.resumePort port.val).settle

/-- The watchdog trips: PFC frames are ignored, and the PFC-storm event is recorded. -/
def State.pfcTrip (s : State) (p : Nat) : State :=
  match (s.port p).pausedSince with
  | none => s
  | some t =>
    let s := (s.modPort p fun h => { h with ignoring := true }).bump P.pfc_watchdog_trips
    (s.event 0x3041 p [s.param P.pfc_priority, (s.now - t) / msNs]).resumePort p

def execPfcWatchdogTrip (port : Fin 4) (s : State) : Host.Outcome State Fault Refusal := .next (s.pfcTrip port.val).settle

def execPfcWatchdogRelease (port : Fin 4) (s : State) : Host.Outcome State Fault Refusal :=
  .next (s.modPort port.val fun h => { h with ignoring := false })

end Sys2Proof.Machine
end

