-- ==== Sys2Proof/Machine/Fabric.lean ====
section
/-!
DEFINITION. Meanings of the fabric commands: neighbours, member identifiers, routes, relaying, forwarding at the owner, and fabric time
(R258–R270, R274, R279–R281).
-/

namespace Sys2Proof.Machine

/-! ### FAB starts (R261, R266) -/

/-- FAB starts: a fresh nonce; a bound identifier joins at once, an unbound one is probed. -/
def State.fabStart (s : State) : State :=
  if !s.mode.fabric || s.fab.started then s
  else
    let nonce := s.draw
    let s := s.tick
    let f := s.fab
    let m := if f.bound then f.member else s.candidateId none
    { s with fab :=
      { f with
        started := true, nonce := nonce, helloSeq := 0, adjs := [], routes := [], member := m, advertise := true
        state := if f.bound then .joined else .probing
        ptp := { state := if s.paramOn P.ptp_enable then .listening else .disabled } } }

def execFabStart (s : State) : Host.Outcome State Fault Refusal := .next s.fabStart

def execFabricHelloTimer (s : State) : Host.Outcome State Fault Refusal :=
  .next (if s.fabOn then ((List.range 4).filter fun p => (s.port p).linkUp).foldl (fun s p => s.sendFabHello p none none) s else s)

/-! ### HELLO (R262–R264, R351) -/

/-- Equal nonces: the own nonce is drawn anew and every adjacency starts again. -/
def State.newNonce (s : State) : State :=
  let s := (s.fab.adjs.map (·.1)).foldl State.dropAdj s
  let n := s.draw
  s.tick.modFab fun f => { f with nonce := n, helloSeq := 0 }

/-- The adjacency of a source, or the slot it may take: the first free one of its port. -/
def State.adjSlot (s : State) (port : Nat) (mac : BitVec 48) : Option Nat :=
  match (s.fab.adjs.keysWhere fun k a => k / portSlots == port && a.mac == mac).head? with
  | some k => some k
  | none => ((List.range portSlots).map (adjKey port)).find? fun k => !s.fab.adjs.has k

/-- A HELLO whose tag verifies under a key slot, at adjacency `k`. A new source, a new nonce, or another key slot of the lower-nonce
member starts the adjacency again before the digest is judged. -/
def State.hearHello (s : State) (k : Nat) (mac : BitVec 48) (b : FabHello) (slot : Nat) : State :=
  let a := s.adj k
  let known := s.fab.adjs.has k
  let fresh := !known || a.nonce != b.nonce || (decide (b.nonce < s.fab.nonce) && a.keySlot != slot)
  let s := if fresh then s.dropAdj k else s
  let old : Adj := if fresh then { state := .init } else a
  let offered := old.offers != b.offers
  let s := s.modAdj k fun _ =>
    { old with
      mac := mac, uid := b.deviceUid, member := b.member.toNat, nonce := b.nonce, lastSeq := b.helloSeq.toNat, offers := b.offers
      configEpoch := b.configEpoch.toNat, digest := b.digest, callerOk := b.callerOk, lastHello := s.now, helloMs := b.helloIntervalMs.toNat
      port := b.port.toNat, keySlot := slot }
  let s := if fresh then s.sendFabHello (hopOf k).port (some (hopOf k).slot) (some b.nonce) else s
  let echo := b.echo && b.echoNonce == s.fab.nonce
  let s := if old.state = .refused ∧ offered then
      if versionChoice fpvOwn b.offers = 0 then s.refuseAdj k
      else (s.modAdj k fun a => { a with state := .init }).judgeAdj k echo
    else s.judgeAdj k echo
  s.seenMember b.member.toNat (uidTagOf b.deviceUid) (some b.deviceUid.toNat) b.tentative

/-- A HELLO arrives on a host port. -/
def State.fabricHello (s : State) (port : Nat) (fec : Fec) (mac : BitVec 48) (b : FabHello) (slot : Option Nat) : State :=
  if !s.fabOn || !(s.port port).linkUp then s
  else
  let s := s.portFrame port fec
  if fec.uncorrectable != 0 then s
  else match slot, s.adjSlot port mac with
    | some key, some k =>
      let a := s.adj k
      if s.fab.adjs.has k && a.nonce == b.nonce && decide (b.helloSeq.toNat ≤ a.lastSeq) then s.bump P.fabric_rx_dropped
      else if b.nonce = s.fab.nonce then s.newNonce
      else s.hearHello k mac b key
    | _, _ => s.bump P.fabric_rx_dropped

def execFabricHello (port : Fin 4) (srcMac : BitVec 48) (fec : Fec) (body : FabHello) (tagKeySlot : Option (Fin 2)) (s : State) :
    Host.Outcome State Fault Refusal :=
  .next (s.fabricHello port.val fec srcMac body (tagKeySlot.map (·.val))).settle

/-- A dead interval, three times the interval that the neighbour's last HELLO carried, without a HELLO; a HELLO in the same cycle
wins. -/
def State.adjDead (s : State) (k : Nat) : State :=
  let a := s.adj k
  if s.fabOn && s.fab.adjs.has k && a.lastHello != s.now && decide (a.lastHello + 3 * a.helloMs * msNs ≤ s.now) then s.dropAdj k else s

def execAdjacencyDead (port : Fin 4) (slot : Fin 16) (s : State) : Host.Outcome State Fault Refusal :=
  .next (s.adjDead (adjKey port.val slot.val))

/-! ### Datagrams from a neighbour (R259, R269) -/

/-- Take a datagram other than HELLO: it is dropped and counted when its ICV or replay check fails, when its source holds no adjacency in
FULL, HELD or FROZEN, or when the negotiated FPV does not define its kind. -/
def State.fabRx (s : State) (d : FabRx) (f : State → State) : State :=
  if !s.fabOn || !(s.port d.port.val).linkUp then s
  else
  let s := s.portFrame d.port.val d.fec
  if d.fec.uncorrectable != 0 then s
  else if !d.icvOk || !d.kindOk || !(s.adj (adjKey d.port.val d.slot.val)).state.usable then s.bump P.fabric_rx_dropped
  else f s

/-- DSCP of a traffic class (R260). -/
def State.classDscp (s : State) (c : Nat) : Nat :=
  if c = clsLease then s.param P.lease_dscp else if c = clsControl then s.param P.cnp_dscp else s.param P.fabric_data_dscp

/-- Relay a datagram to its destination, or drop it. -/
def State.relay (s : State) (d : FabRx) : State :=
  match s.hopsTo d.frh.dst.toNat with
  | h :: _ =>
    if d.frh.hopsLeft = 0 then s.bump P.relay_dropped_hops
    else (s.sendFab h.port (some h.slot) (s.classDscp d.frh.cls.toNat) d.ecn.toNat { d.frh with hopsLeft := d.frh.hopsLeft - 1 } .relayed).bump
      P.relay_packets
  | [] => s.bump P.relay_dropped_hops

/-- A datagram that may be for another member. -/
def State.fabFor (s : State) (d : FabRx) (f : State → State) : State :=
  s.fabRx d fun s => if d.frh.dst.toNat = s.fab.member then f s else s.relay d

/-! ### Routes (R268, R279) -/

/-- Is a next hop the neighbour `k`? -/
def isHop (h : Option Hop) (k : Nat) : Bool := match h with
  | some h => h.key == k
  | none => false

/-- Is neighbour `k`, at metric `m`, better than the secondary that a route has? At equal metric, a neighbour on another host port than
the primary's, then the lower member identifier. -/
def State.betterSecondary (s : State) (r : Route) (k m : Nat) : Bool :=
  match r.secondary with
  | none => true
  | some h =>
    let away := fun (p : Nat) => match r.primary with
      | some q => q.port != p
      | none => true
    let a := away (hopOf k).port
    let b := away h.port
    decide (m < r.secMetric) || (m == r.secMetric && ((a && !b) || (a == b && decide ((s.adj k).member < (s.adj h.key).member))))

/-- A route with what an entry says of its destination. -/
def Route.tagged (r : Route) (e : RouteEntry) : Route :=
  { r with uidTag := e.uidTag, configEpoch := e.configEpoch, digestTag := e.digestTag, tentative := e.tentative, callerOk := e.callerOk }

/-- A route after an entry from neighbour `k` that does not set it to 15. -/
def State.routeAfter (s : State) (r : Route) (k m : Nat) (frozen : Bool) (e : RouteEntry) : Route :=
  let tags := fun (r : Route) => { r with refreshed := s.now }.tagged e
  if isHop r.primary k then if frozen ∧ m < r.metric then r else tags { r with metric := m }
  else if !frozen && decide (m < r.metric) && (r.former.isNone || isHop r.former k) then
    tags { r with metric := m, secondary := r.primary, secMetric := r.metric, primary := some (hopOf k), former := none }
  else if isHop r.secondary k then
    if m = 15 then { r with secondary := none, secMetric := 15 }
    else if frozen ∧ m < r.secMetric then r
    else { r with secMetric := m }
  else if !frozen && decide (m < 15) && s.betterSecondary r k m then { r with secondary := some (hopOf k), secMetric := m }
  else r

/-- An entry of a ROUTE datagram from neighbour `k`. -/
def State.takeEntry (s : State) (k : Nat) (frozen : Bool) (e : RouteEntry) : State :=
  let n := e.member.toNat
  let shown := e.metric != 15
  let s := if shown then s.seenMember n e.uidTag.toNat none e.tentative else s
  if n = s.fab.member then s
  else
    let m1 := min 15 (e.metric.toNat + 1)
    let m := if s.param P.route_max_hops < m1 then 15 else m1
    let r := s.fabRoute n
    let s := if shown && decide (r.metric < 15) && !isHop r.primary k && e.uidTag != r.uidTag then
        s.modFab fun f => { f with routes := f.routes.upd n {} fun r => { r with rival := some (e.uidTag, s.now) } }
      else s
    if isHop r.primary k ∧ m = 15 then (s.modRoute n fun r => r.tagged e).routeTo15 n
    else
      let old := s.fabRoute n
      let new := s.routeAfter old k m frozen e
      if new = old then s
      else if { new with secondary := old.secondary, secMetric := old.secMetric, refreshed := old.refreshed } = old then
        s.modFab fun f => { f with routes := f.routes.set n new }
      else s.modRoute n fun _ => new

/-- A ROUTE datagram; an adjacency in HELD exchanges none. -/
def State.takeRoutes (s : State) (d : FabRx) (entries : List RouteEntry) : State :=
  s.fabRx d fun s =>
    let k := adjKey d.port.val d.slot.val
    let st := (s.adj k).state
    if st.routed && decide (1 ≤ entries.length ∧ entries.length ≤ 128) then
      (entries.foldl (fun s e => s.takeEntry k (st = .frozen) e) s).checkCaller
    else s

def execRoute (d : FabRx) (_updateSeq : BitVec 32) (_full : Bool) (entries : List RouteEntry) (s : State) :
    Host.Outcome State Fault Refusal :=
  .next (s.takeRoutes d entries)

/-- Neighbours that exchange routes. -/
def State.routedAdjs (s : State) : List Nat := s.fab.adjs.keysWhere fun _ a => a.state.routed

def execRouteUpdateTimer (s : State) : Host.Outcome State Fault Refusal :=
  .next (if s.fabOn then s.routedAdjs.foldl State.fullUpdate s else s)

/-- Changed entries go to a neighbour no sooner than 10 ms after its previous triggered update. -/
def State.triggered (s : State) (k : Nat) : State :=
  let a := s.adj k
  let early : Bool := match a.lastTriggered with
    | some t => s.now < t + 10 * msNs
    | none => false
  if a.changed.isEmpty || early then s
  else
    let l := a.changed.map (s.entryFor k)
    (s.modAdj k fun a => { a with changed := [], lastTriggered := some s.now }).sendRoutes k false l

def execTriggeredUpdate (s : State) : Host.Outcome State Fault Refusal :=
  .next (if s.fabOn then s.routedAdjs.foldl State.triggered s else s)

/-- A route has not been refreshed for 3 × `route_update_ms`. -/
def execRouteExpiry (member : BitVec 12) (s : State) : Host.Outcome State Fault Refusal :=
  .next (
    let r := s.fabRoute member.toNat
    if s.fabOn && decide (r.metric < 15 ∧ r.refreshed + 3 * s.param P.route_update_ms * msNs ≤ s.now) then s.routeTo15 member.toNat else s)

def execRouteHolddownEnd (member : BitVec 12) (s : State) : Host.Outcome State Fault Refusal :=
  .next (if s.fab.routes.has member.toNat then
      s.modFab fun f => { f with routes := f.routes.upd member.toNat {} fun r => { r with former := none } }
    else s)

/-! ### Member identifiers (R265, R266) -/

/-- The probe time passes: the identifier is bound in LGM. -/
def execMemberProbeTimeout (s : State) : Host.Outcome State Fault Refusal :=
  .next (if s.fab.state = .probing then
      (((s.modFab fun f => { f with state := .joined, bound := true }).touchLgm).routeChanged s.fab.member)
    else s)

def execConflictClearTimer (s : State) : Host.Outcome State Fault Refusal :=
  .next (if s.fab.state = .conflict then
      (s.modFab fun f => { f with state := .joined, advertise := true }).routeChanged s.fab.member
    else s)

/-! ### Relaying and forwarding (R269, R270, R274) -/

/-- A DATA datagram for this member: a request that the FABRIC queue pair's peer forwards, checked here under the FRH pd. -/
def State.ownerRequest (s : State) (d : FabRx) (b : InnerBth) (op : ReqOp) (icrcOk : Bool) : State :=
  let n := b.destQp.toNat
  let q := s.qp n
  if !icrcOk || !s.mode.traffic || q.ctx.kind != 1 || q.fab.peer != d.frh.src.toNat || q.fab.opening then s
  else
    let s := s.modXpt fun x => { x with qps := x.qps.upd n {} fun q => { q with fab := { q.fab with lastUse := s.now } } }
    match op with
    | .invalid 0x81 => if q.state = .ready then (s.ceMark n (d.ecn == 3)).governorCnp n else s
    | _ => s.receive n b.psn.toNat b.ackReq (d.ecn == 3) (some { pd := d.frh.pd, redirected := d.frh.redirected }) op

def execFabricData (d : FabRx) (bth : InnerBth) (op : ReqOp) (icrcOk : Bool) (s : State) : Host.Outcome State Fault Refusal :=
  .next (s.fabFor d fun s => s.ownerRequest d bth op icrcOk).settle

/-- A LEASE datagram; one for this member arrives as the command of its op. -/
def execFabricLeaseRelay (d : FabRx) (s : State) : Host.Outcome State Fault Refusal := .next (s.fabFor d id)

/-! ### Fabric time (R281) -/

def State.modPtp (s : State) (f : Ptp → Ptp) : State := s.modFab fun x => { x with ptp := f x.ptp }

/-- messageType of IEEE 1588. -/
abbrev ptpSync : Nat := 0x0
abbrev ptpDelayReq : Nat := 0x1
abbrev ptpFollowUp : Nat := 0x8
abbrev ptpDelayResp : Nat := 0x9
abbrev ptpAnnounce : Nat := 0xB

/-- A neighbour's port that PTP crosses: under the adjacency SA. -/
def State.ptpLink (s : State) (port slot : Nat) : Bool :=
  s.fabOn && (s.port port).linkUp && (s.adj (adjKey port slot)).state.usable

/-- A clock data set as the best master clock algorithm orders it: priority1 first. -/
def ptpData (priority1 : Nat) (quality : BitVec 104) : Nat := priority1 * 2 ^ 104 + quality.toNat

/-- The own data set. -/
def State.ptpOwn (s : State) : Nat := ptpData (s.param P.ptp_priority1) Config.ptpQuality

/-- Send a message of the ordinary clock. -/
def State.sendPtp (s : State) (port kind : Nat) : State :=
  s.emit (.ptp port kind (s.param P.ptp_domain) (s.param P.ptp_priority1))

/-- A message of the default profile at the ordinary clock. The offset is (receive stamp + base) − origin stamp − path delay; the
time base follows it at once. -/
def State.ptpTake (s : State) (k : Nat) (msg : PtpMsg) : State :=
  let p := s.fab.ptp
  let mine := p.state = .slave && p.parent == k
  match msg with
  | .announce pr q =>
    let gm := ptpData pr.toNat q
    if p.state = .disabled then s
    else if decide (gm < s.ptpOwn) && (p.state != .slave || mine || decide (gm < p.master)) then
      s.modPtp fun p => { p with state := .slave, parent := k, master := gm, pathNs := if p.parent = k then p.pathNs else 0 }
    else if decide (s.ptpOwn ≤ gm) && (p.state = .listening || mine) then s.modPtp fun p => { p with state := .master, offsetNs := 0 }
    else s
  | .sync rx => if mine then s.modPtp fun p => { p with syncRx := rx.toNat } else s
  | .followUp o =>
    if mine then s.modPtp fun p =>
      let d : Int := (p.syncRx : Int) + p.baseNs - o.toNat - p.pathNs
      { p with origin := o.toNat, offsetNs := d, baseNs := p.baseNs - d }
    else s
  | .delayReq _ => if p.state = .master then s.sendPtp (hopOf k).port ptpDelayResp else s
  | .delayResp rx =>
    if mine then s.modPtp fun p =>
      { p with pathNs := (((p.syncRx : Int) + p.baseNs - p.origin) + ((rx.toNat : Int) - ((p.delayTx : Int) + p.baseNs))) / 2 }
    else s

/-- A message of another domain is not the ordinary clock's. -/
def execPtpMessage (port : Fin 4) (slot : Fin 16) (fec : Fec) (msg : PtpRx) (s : State) : Host.Outcome State Fault Refusal :=
  .next (if !s.fabOn || !(s.port port.val).linkUp then s
    else
    let s := s.portFrame port.val fec
    if fec.uncorrectable != 0 then s
    else if s.ptpLink port.val slot.val && msg.domain.toNat != s.param P.ptp_domain then s
    else if s.ptpLink port.val slot.val then s.ptpTake (adjKey port.val slot.val) msg.body
    else s.bump P.fabric_rx_dropped)

/-- A PTP interval expires. -/
def State.ptpTimer (s : State) (k : Nat) (t : PtpTimer) : State :=
  let p := s.fab.ptp
  let port := (hopOf k).port
  match t with
  | .announceReceipt =>
    if p.state = .listening || (p.state = .slave && p.parent == k) then s.modPtp fun p => { p with state := .master, offsetNs := 0 } else s
  | .announceInterval => if p.state = .master then s.sendPtp port ptpAnnounce else s
  | .syncInterval => if p.state = .master then (s.sendPtp port ptpSync).sendPtp port ptpFollowUp else s
  | .delayReqInterval =>
    if p.state = .slave && p.parent == k then (s.modPtp fun p => { p with delayTx := s.now }).sendPtp port ptpDelayReq else s

def execPtpAnnounceReceiptTimeout (port : Fin 4) (slot : Fin 16) (kind : PtpTimer) (s : State) : Host.Outcome State Fault Refusal :=
  .next (if s.ptpLink port.val slot.val then s.ptpTimer (adjKey port.val slot.val) kind else s)

end Sys2Proof.Machine
end

