-- ==== Sys2Proof/Machine/FabricQp.lean ====
section
/-!
DEFINITION. Meanings of the commands of FABRIC queue pairs: sessions and the requester of the entry member (R270–R273, R124).
-/

namespace Sys2Proof.Machine

/-! ### Sessions (R271) -/

/-- Queue pairs with an open message on a FABRIC queue pair enter ERROR, cause RETRY_EXCEEDED (R273). -/
def State.failUsers (s : State) (fq : Nat) : State :=
  (s.xpt.qps.keysWhere fun _ q => q.msgs.any fun m => m.via == some fq).foldl (fun s n => s.enterError n Cause.retryExceeded) s

/-- A FABRIC queue pair ceases to exist. -/
def State.endFabQp (s : State) (fq : Nat) : State := (s.failUsers fq).freeQp fq

/-- Accept an OPEN on a queue pair: the version of R126 is chosen, and ACCEPT answers. An offer that shares no major is refused as R126
has it: chosen 0x0000, counted and recorded. -/
def State.acceptSession (s : State) (fq src : Nat) (b : SessionBody) : State :=
  let v := versionChoice [defaultOf P.hxv_current, defaultOf P.hxv_previous] [b.hxv]
  let s := s.modQp fq fun q =>
    { q with ctx := { q.ctx with destQpn := b.senderQpn.setWidth _ }, epsn := b.startPsn.toNat, hxv := v, hxvSet := true
             fab := { q.fab with opening := false, lastUse := s.now } }
  let s := if v = 0 then (s.bump P.hxv_refusals).event 0x2041 0 [fq, place 48 b.hxv.toNat] else s
  s.sendSession src 2 v fq (s.qp fq).ctx.psnOut b.senderQpn.toNat

/-- The FABRIC queue pairs to a member that satisfy a test. -/
def State.fabQpsTo (s : State) (m : Nat) (t : Qp → Bool) : List Nat := s.xpt.qps.keysWhere fun _ q => q.ctx.kind == 1 && q.fab.peer == m && t q

/-- OPEN: of two that cross, the one from the lower member stands; a queue pair that the peer no longer holds is replaced. -/
def State.sessionOpen (s : State) (src : Nat) (b : SessionBody) : State :=
  match (s.fabQpsTo src (·.fab.opening)).head? with
  | some n => if s.fab.member < src then s else s.acceptSession n src b
  | none =>
    let s := (s.fabQpsTo src fun _ => true).foldl State.endFabQp s
    match s.fabFreeQpn with
    | some n =>
      let psn := s.draw.toNat % 2 ^ 24
      let s := s.tick
      (s.modXpt fun x => { x with qps := x.qps.set n (fabricQp src psn false s.now) }).acceptSession n src b
    | none => s.closeIdlest.sendSession src 4 0 0 0 b.senderQpn.toNat

def execSessionOpen (d : FabRx) (body : SessionBody) (s : State) : Host.Outcome State Fault Refusal :=
  .next (s.fabFor d fun s => s.sessionOpen d.frh.src.toNat body).settle

/-- ACCEPT completes the queue pair at the opener. -/
def State.sessionAccept (s : State) (src : Nat) (b : SessionBody) : State :=
  let n := b.peerQpn.toNat
  let q := s.qp n
  if q.ctx.kind == 1 && q.fab.opening && q.fab.peer == src then
    s.modQp n fun q =>
      { q with ctx := { q.ctx with destQpn := b.senderQpn.setWidth _ }, epsn := b.startPsn.toNat, hxv := b.hxv.toNat, hxvSet := true
               fab := { q.fab with opening := false, retries := 0, lastUse := s.now } }
  else s

def execSessionAccept (d : FabRx) (body : SessionBody) (s : State) : Host.Outcome State Fault Refusal :=
  .next (s.fabFor d fun s => s.sessionAccept d.frh.src.toNat body)

/-- CLOSE ends the queue pair that it names. -/
def State.sessionClose (s : State) (src : Nat) (b : SessionBody) : State :=
  let n := b.peerQpn.toNat
  let q := s.qp n
  if q.ctx.kind == 1 && q.fab.peer == src && !q.fab.opening then s.endFabQp n else s

def execSessionClose (d : FabRx) (body : SessionBody) (s : State) : Host.Outcome State Fault Refusal :=
  .next (s.fabFor d fun s => s.sessionClose d.frh.src.toNat body).settle

/-- REFUSE ends an attempt to open. -/
def State.sessionRefuse (s : State) (src : Nat) (b : SessionBody) : State :=
  let n := b.peerQpn.toNat
  let q := s.qp n
  if q.ctx.kind == 1 && q.fab.peer == src && q.fab.opening then s.freeQp n else s

def execSessionRefuse (d : FabRx) (body : SessionBody) (s : State) : Host.Outcome State Fault Refusal :=
  .next (s.fabFor d fun s => s.sessionRefuse d.frh.src.toNat body)

/-- No message for `fabric_qp_idle_s`. -/
def execFabricQpIdle (qpn : BitVec 18) (s : State) : Host.Outcome State Fault Refusal :=
  .next (
    let n := qpn.toNat
    let q := s.qp n
    if q.ctx.kind == 1 && !q.fab.opening && q.idleFab then
      (s.sendSession q.fab.peer 3 q.hxv n q.ctx.psnOut q.ctx.destQpn.toNat).freeQp n
    else s)

/-! ### The requester (R272, R273) -/

/-- What answers the last packet of a request. -/
inductive Reply | ack | read | atomic | gx
  deriving DecidableEq, Repr

def opReply (op : ReqOp) : Reply :=
  match op with
  | .read _ | .tread _ => .read
  | .cswap _ | .fadd _ => .atomic
  | .flush _ | .cas16 .. => .gx
  | .dwrite p .. | .awg p .. => if p.ends then .gx else .ack
  | _ => .ack

def State.modFabSide (s : State) (n : Nat) (f : FabSide → FabSide) : State := s.modQp n fun q => { q with fab := f q.fab }

/-- Requests that still wait for tokens are taken back before they are sent again. -/
def State.unqueueReqs (s : State) (n : Nat) : State :=
  s.modGov n fun g => { g with queue := g.queue.filter fun p => !(p.body matches .request ..) }

/-- Send again, in order, the requests from a PSN on. -/
def State.resendFab (s : State) (n psn : Nat) : State :=
  let s := s.unqueueReqs n
  ((s.qp n).fab.reqs.dropWhile fun r => psnSub r.lastPsn psn ≥ 2 ^ 23).foldl (fun s r => s.sendFabReq n r) s

/-- Send again from the oldest unacknowledged PSN. -/
def State.resendAll (s : State) (n : Nat) : State := (s.qp n).fab.reqs.foldl (fun s r => s.sendFabReq n r) (s.unqueueReqs n)

/-- The owner has answered the host message of a request. -/
def State.hostAnswered (s : State) (r : FabReq) (f : OpenMsg → OpenMsg) : State :=
  (s.modMsg r.hostQpn r.hostMsg fun m => { f m with remote := true }).advance r.hostQpn

/-- Requests up to a PSN are acknowledged: each that an acknowledgement answers ends, and so does each whose message is answered; the
first that needs another answer stays, with what follows it. -/
def State.coverFab (s : State) (n psn : Nat) : Nat → State
  | 0 => s
  | fuel + 1 =>
    match (s.qp n).fab.reqs with
    | [] => s
    | r :: t =>
      if psnSub psn r.lastPsn < 2 ^ 23 && (r.done || opReply r.op = .ack) then
        let s := s.modFabSide n fun f => { f with reqs := t, retries := 0 }
        let s := if !r.done && (opPos r.op).ends then s.hostAnswered r id else s
        s.coverFab n psn fuel
      else s

def State.cover (s : State) (n psn : Nat) : State := s.coverFab n psn (s.qp n).fab.reqs.length

/-- Take an answer of the owner: it is for this member, and names one of its FABRIC queue pairs with the sender as its peer. -/
def State.fabAnswer (s : State) (d : FabRx) (n : Nat) (f : State → State) : State :=
  s.fabFor d fun s =>
    let q := s.qp n
    if q.ctx.kind == 1 && q.state = .ready && !q.fab.opening && q.fab.peer == d.frh.src.toNat then f s else s

/-- An answer other than an acknowledgement, at a PSN of the oldest request that needs one. -/
def State.fabReply (s : State) (n psn : Nat) (want : Reply) (f : FabReq → State → State) : State :=
  match (s.qp n).fab.reqs.find? fun r => !r.done && opReply r.op == want && psnSub psn r.firstPsn ≤ psnSub r.lastPsn r.firstPsn with
  | none => s
  | some r =>
    let s := s.cover n (psnSub r.firstPsn 1)
    match (s.qp n).fab.reqs with
    | h :: _ => if h = r then f r s else s
    | [] => s

/-- The oldest request ends with the answer of its message. -/
def State.endReq (s : State) (n : Nat) (r : FabReq) (f : OpenMsg → OpenMsg) : State :=
  (s.modFabSide n fun x => { x with reqs := x.reqs.drop 1, retries := 0 }).hostAnswered r f

def execFabricAckReceived (d : FabRx) (qpn : BitVec 18) (psn : BitVec 24) (s : State) : Host.Outcome State Fault Refusal :=
  .next (s.fabAnswer d qpn.toNat fun s => s.cover qpn.toNat psn.toNat).settle

/-- Bytes of a response packet of a FABRIC queue pair (R271). -/
abbrev fabricMtu : Nat := 4096

/-- A read response: responses are taken in order, and the last one completes the message. -/
def State.fabReadResponse (s : State) (n psn : Nat) (last : Bool) (data : Bytes) : State :=
  s.fabReply n psn .read fun r s =>
    let have_ := match (s.qp r.hostQpn).msg r.hostMsg with
      | some m => m.data.length
      | none => 0
    if have_ ≠ fabricMtu * psnSub psn r.firstPsn then s
    else if last then s.endReq n r fun m => { m with data := m.data ++ data }
    else (s.modMsg r.hostQpn r.hostMsg fun m => { m with data := m.data ++ data }).modFabSide n fun x => { x with retries := 0 }

def execFabricReadResponse (d : FabRx) (qpn : BitVec 18) (psn : BitVec 24) (last : Bool) (data : Bytes) (s : State) :
    Host.Outcome State Fault Refusal :=
  .next (s.fabAnswer d qpn.toNat fun s => s.fabReadResponse qpn.toNat psn.toNat last data).settle

def execFabricAtomicAck (d : FabRx) (qpn : BitVec 18) (psn : BitVec 24) (orig : BitVec 64) (s : State) : Host.Outcome State Fault Refusal :=
  .next (s.fabAnswer d qpn.toNat fun s => s.fabReply qpn.toNat psn.toNat .atomic fun r s =>
    s.endReq qpn.toNat r fun m => { m with result := orig.toNat }).settle

/-- The GRB that the host is given: epoch and group exist for it from HXV 2 on. -/
def hostGrb (hxv : Nat) (g : Grb) : Grb := if hxv / 256 ≥ 2 then g else { g with epoch := 0, regionGroup := 0 }

/-- A GX_RESPONSE: the answer of an extension operation, or the refusal of a TREAD. -/
def State.fabGx (s : State) (n psn : Nat) (g : Grb) : State :=
  let f := fun (r : FabReq) (s : State) =>
    s.endReq n r fun m =>
      { m with grb := some (hostGrb (s.qp r.hostQpn).hxv g)
               verdict := some (.gx g.status.toNat g.durability.toNat g.result.toNat) }
  match (s.qp n).fab.reqs.find? fun r => !r.done && psnSub psn r.firstPsn ≤ psnSub r.lastPsn r.firstPsn with
  | some r => if opReply r.op = .gx || r.op matches .tread _ then s.fabReply n psn (opReply r.op) f else s
  | none => s

def execFabricGxResponse (d : FabRx) (qpn : BitVec 18) (psn : BitVec 24) (grb : Grb) (s : State) : Host.Outcome State Fault Refusal :=
  .next (s.fabAnswer d qpn.toNat fun s => s.fabGx qpn.toNat psn.toNat grb).settle

/-- A forwarded request was refused at the owner (R124): counted in `violations` of the host's queue pair, with a completion entry. The
violation kind is a free value. -/
def State.remoteViolation (s : State) (r : FabReq) : State :=
  match (s.qp r.hostQpn).msg r.hostMsg with
  | none => s
  | some m =>
    if m.forwarded then s
    else
      let s := s.modQp r.hostQpn fun q => { q with cnt := { q.cnt with violations := q.cnt.violations + 1 } }
      let q := s.qp r.hostQpn
      if q.ctx.cqBound then
        let kind := (Config.remoteKind s.freeCount).toNat
        s.tick.cqNotice q.ctx.cq.toNat
          { tag := m.tag, gga := m.gga, imm := m.ak, byteCount := m.len, psn := m.firstPsn, status := 0x01
            opcode := m.opcode, vkind := kind, qpn := r.hostQpn }
      else s

/-- A NAK: RNR waits for its timer, a sequence error retransmits, any other outcome is the host's. The packets of an answered message
keep their PSNs until a later answer covers them. -/
def State.fabNak (s : State) (n psn syn : Nat) : State :=
  let s := s.cover n (psnSub psn 1)
  if syn / 32 = 1 then s.modFabSide n fun f => { f with rnrWait := true }
  else if syn = 0x60 then s.resendFab n psn
  else match (s.qp n).fab.reqs.find? fun r => !r.done && psnSub psn r.firstPsn ≤ psnSub r.lastPsn r.firstPsn with
    | none => s
    | some r =>
      let s := if syn = 0x62 then s.remoteViolation r else s
      let s := s.modFabSide n fun f =>
        { f with reqs := f.reqs.map fun x => if x.hostQpn = r.hostQpn ∧ x.hostMsg = r.hostMsg then { x with done := true } else x
                 retries := 0 }
      s.hostAnswered r fun m => { m with verdict := some (.nak syn) }

def execFabricNakReceived (d : FabRx) (qpn : BitVec 18) (psn : BitVec 24) (syndrome : BitVec 8) (s : State) :
    Host.Outcome State Fault Refusal :=
  .next (s.fabAnswer d qpn.toNat fun s => s.fabNak qpn.toNat psn.toNat syndrome.toNat).settle

/-- `fabric_ack_timeout_us` without an answer: retransmission, at most `fabric_retry_count` times in succession. An OPEN that has no
answer is sent again in the same way. -/
def State.fabTimeout (s : State) (n : Nat) : State :=
  let q := s.qp n
  if q.ctx.kind != 1 || q.state ≠ .ready || q.fab.rnrWait || (!q.fab.opening && q.fab.reqs.all (·.done)) then s
  else if q.fab.retries ≥ s.param P.fabric_retry_count then
    if q.fab.opening then s.freeQp n else (s.enterError n Cause.retryExceeded).failUsers n
  else
    let s := s.modFabSide n fun f => { f with retries := f.retries + 1 }
    if q.fab.opening then s.sendSession q.fab.peer 1 (defaultOf P.hxv_current) n q.ctx.psnOut 0 else s.resendAll n

def execFabricAckTimeout (qpn : BitVec 18) (s : State) : Host.Outcome State Fault Refusal := .next (s.fabTimeout qpn.toNat).settle

/-- The RNR timer ends: the requests are sent again, and no retry is counted. -/
def execFabricRnrRetry (qpn : BitVec 18) (s : State) : Host.Outcome State Fault Refusal :=
  .next (
    let n := qpn.toNat
    if (s.qp n).ctx.kind == 1 && (s.qp n).fab.rnrWait then (s.modFabSide n fun f => { f with rnrWait := false }).resendAll n else s)

/-! ### member_id_release (R266) -/

/-- The binding is erased and FAB restarts, without its FABRIC queue pairs. -/
def State.releaseId (s : State) : State :=
  let s := (s.xpt.qps.keysWhere fun _ q => q.ctx.kind == 1).foldl State.endFabQp s
  ({ s with fab := {} }).touchLgm

def execMemberIdRelease (r : Req) (s : State) : Host.Outcome State Fault Refusal :=
  .next (s.command r P.member_id_release (fun n _ s => s.releaseId.done n) (argsOk := fun a => leNat a == 0)).settle

end Sys2Proof.Machine
end

