-- ==== Sys2Proof/Machine/Designate.lean ====
section
/-!
DEFINITION. Meanings of the commands of Caller designation (R275–R277, R280).
-/

namespace Sys2Proof.Machine

/-- Pair of a designation message. -/
def bodyPair (b : CallerBody) : Nat := pairOf b.lower.toNat b.higher.toNat

/-! ### The candidate (R277 step 1, R280) -/

/-- Result of an OFFER: DIGEST where the designator's configuration differs from the own, NOT_ELIGIBLE, FULL, or ACCEPTED. -/
def State.offerResult (s : State) (src : Nat) (b : CallerBody) : Nat :=
  let r := s.fabRoute src
  if r.configEpoch.toNat ≠ s.param P.fabric_config_epoch ∨ r.digestTag.toNat ≠ s.digestTag then 3
  else if !s.paramOn P.caller_enable || !(s.mode = .resync || s.mode = .service || s.mode = .degraded) || s.fab.state ≠ .joined ||
      b.lower.toNat = s.fab.member || b.higher.toNat = s.fab.member then 2
  else if s.callerPairs.length ≥ maxPairs ∧ !s.callerPairs.has (bodyPair b) then 1
  else 0

/-- OFFER: the pair is reserved, or refused. -/
def State.takeOffer (s : State) (src : Nat) (b : CallerBody) : State :=
  let res := s.offerResult src b
  let s := if res = 0 then s.modPair (bodyPair b) fun p => { p with serving := false } else s
  s.sendControl src (.callerAnswer { b with caller := BitVec.ofNat 12 s.fab.member, result := BitVec.ofNat 8 res })

def execCallerOffer (d : FabRx) (b : CallerBody) (s : State) : Host.Outcome State Fault Refusal :=
  .next (s.fabFor d fun s => s.takeOffer d.frh.src.toNat b)

/-- NOTE START: the reserved member begins to serve with its quiet period. -/
def execNoteStart (d : FabRx) (b : CallerBody) (s : State) : Host.Outcome State Fault Refusal :=
  .next (s.fabFor d fun s => if s.callerPairs.has (bodyPair b) then s.callerStart (bodyPair b) else s)

/-- NOTE RELEASE: the records of the pair are erased, and RELEASED answers. -/
def State.takeRelease (s : State) (src : Nat) (b : CallerBody) : State :=
  let k := bodyPair b
  let s := if s.callerPairs.has k then ({ s with callerPairs := s.callerPairs.del k }).touchLgm else s
  s.sendControl src (.callerNote 4 b)

def execNoteRelease (d : FabRx) (b : CallerBody) (s : State) : Host.Outcome State Fault Refusal :=
  .next (s.fabFor d fun s => s.takeRelease d.frh.src.toNat b)

/-! ### The twins (R277 steps 2 to 5) -/

/-- A twin leaves CHANGE with the new Caller, and EVR records the Caller-change event. -/
def State.adopt (s : State) (caller seq : Nat) : State :=
  let s := (s.modDesig fun d => { d with caller := caller, change := none, run := none, seq := seq }).touchLgm
  (s.bump P.caller_designations).event 0x2844 0 [s.lowerTwin, s.higherTwin, caller, seq]

/-- The designator is done: NOTE DONE goes to the other twin. -/
def State.desigDone (s : State) (r : Desig) : State :=
  (s.sendControl s.higherTwin (.callerNote 5 (s.desigBody r.candidate))).adopt r.candidate r.seq

/-- A message of the present run of this designator, at a stage. -/
def State.inRun (s : State) (st : DesigStage) (b : CallerBody) (f : Desig → State → State) : State :=
  match s.desig.run with
  | some r => if r.stage = st ∧ b.desigSeq.toNat = r.seq ∧ bodyPair b = pairOf s.lowerTwin s.higherTwin then f r s else s
  | none => s

/-- ANSWER of the candidate being tried: accepted, the designator enters CHANGE and sends NOTE ADOPT; refused, the next one is tried. -/
def State.takeAnswer (s : State) (src : Nat) (b : CallerBody) : State :=
  s.inRun .offering b fun r s =>
    if src ≠ r.candidate then s
    else if b.result = 0 then
      (s.modDesig fun d => { d with change := some r.candidate, run := some { r with stage := .adopting } }).sendControl s.higherTwin
        (.callerNote 0 (s.desigBody r.candidate))
    else s.offerNext r.candidates

def execCallerAnswer (d : FabRx) (b : CallerBody) (s : State) : Host.Outcome State Fault Refusal :=
  .next (s.fabFor d fun s => s.takeAnswer d.frh.src.toNat b)

/-- No answer within 1 ms. -/
def execCallerOfferTimeout (s : State) : Host.Outcome State Fault Refusal :=
  .next (match s.desig.run with
    | some r => if r.stage = .offering then s.offerNext r.candidates else s
    | none => s)

/-- NOTE ADOPT at the higher twin: it enters CHANGE and answers REPLY. -/
def State.takeAdopt (s : State) (src : Nat) (b : CallerBody) : State :=
  if src ≠ s.mir.twinMember ∨ s.designator ∨ bodyPair b ≠ pairOf s.lowerTwin s.higherTwin then s
  else (s.modDesig fun d => { d with change := some b.caller.toNat, seq := b.desigSeq.toNat }).sendControl src (.callerNote 1 b)

def execNoteAdopt (d : FabRx) (b : CallerBody) (s : State) : Host.Outcome State Fault Refusal :=
  .next (s.fabFor d fun s => s.takeAdopt d.frh.src.toNat b)

/-- NOTE REPLY: START goes to the new Caller, then RELEASE to the old one; with no old Caller the designation is done. -/
def State.takeReply (s : State) (src : Nat) (b : CallerBody) : State :=
  s.inRun .adopting b fun r s =>
    if src ≠ s.mir.twinMember then s
    else
      let old := s.desig.caller
      let s := s.sendControl r.candidate (.callerNote 2 (s.desigBody r.candidate))
      if old = 0xFFFF ∨ old = r.candidate then s.desigDone r
      else (s.modDesig fun d => { d with run := some { r with stage := .releasing, since := s.now } }).sendControl old
        (.callerNote 3 (s.desigBody old))

def execNoteReply (d : FabRx) (b : CallerBody) (s : State) : Host.Outcome State Fault Refusal :=
  .next (s.fabFor d fun s => s.takeReply d.frh.src.toNat b)

/-- NOTE RELEASED of the old Caller. -/
def State.takeReleased (s : State) (src : Nat) (b : CallerBody) : State :=
  s.inRun .releasing b fun r s => if src = s.desig.caller then s.desigDone r else s

def execNoteReleased (d : FabRx) (b : CallerBody) (s : State) : Host.Outcome State Fault Refusal :=
  .next (s.fabFor d fun s => s.takeReleased d.frh.src.toNat b)

/-- NOTE DONE at the higher twin. -/
def State.takeDone (s : State) (src : Nat) (b : CallerBody) : State :=
  if src ≠ s.mir.twinMember ∨ s.designator ∨ bodyPair b ≠ pairOf s.lowerTwin s.higherTwin then s
  else s.adopt b.caller.toNat b.desigSeq.toNat

def execNoteDone (d : FabRx) (b : CallerBody) (s : State) : Host.Outcome State Fault Refusal :=
  .next (s.fabFor d fun s => s.takeDone d.frh.src.toNat b)

/-- The adopted Caller has been unreachable for `caller_lost_ms`; a pair that has found no Caller so far tries again. -/
def execCallerLost (s : State) : Host.Outcome State Fault Refusal :=
  .next (if (s.hopsTo s.desig.caller).isEmpty then s.designate else s)

/-- Every `caller_lost_ms` RELEASE is sent again; an old Caller that stays unreachable for twice that time counts as released. -/
def execCallerReleaseRepeat (s : State) : Host.Outcome State Fault Refusal :=
  .next (match s.desig.run with
    | some r =>
      if r.stage ≠ .releasing then s
      else if (s.hopsTo s.desig.caller).isEmpty ∧ r.since + 2 * s.param P.caller_lost_ms * msNs ≤ s.now then s.desigDone r
      else s.sendControl s.desig.caller (.callerNote 3 (s.desigBody s.desig.caller))
    | none => s)

/-- No REPLY of the higher twin within `caller_lost_ms`: CHANGE ends, the reserved member is released, and the old Caller is kept. -/
def execChangeReplyTimeout (s : State) : Host.Outcome State Fault Refusal :=
  .next (match s.desig.run with
    | some r =>
      if r.stage = .adopting then
        (s.sendControl r.candidate (.callerNote 3 (s.desigBody r.candidate))).modDesig fun d => { d with change := none, run := none }
      else s
    | none => s)

end Sys2Proof.Machine
end

