-- ==== Sys2Proof/Machine/Events.lean ====
section
/-!
DEFINITION. Fault messages, and the commands and timers of the event recorder (R367–R371, R373, R376, R378, R381).
-/

namespace Sys2Proof.Machine

/-- A fault message reaches FCO over the fault bus. -/
def execFaultMessage (msg : FaultMsg) (s : State) : Host.Outcome State Fault Refusal := .next (s.faultBus msg).settle

/-! ### Event records -/

/-- Insert a record into a list in ascending seq. -/
def insertRecord (r : EvtRec) : List EvtRec → List EvtRec
  | [] => [r]
  | x :: t => if r.seq < x.seq then r :: x :: t else x :: insertRecord r t

/-- Records of both partitions that meet a filter, in ascending seq; a torn record is never read. -/
def State.records (s : State) (q : EvtRec → Bool) : List EvtRec :=
  (s.evr.general.filter fun r => !r.torn && q r).foldr insertRecord (s.evr.reserved.filter fun r => !r.torn && q r)

/-- Result data of `evt_fetch` for its 12-byte argument. -/
def State.fetchEvents (s : State) (a : Bytes) : Bytes :=
  let start := leAt a 0 8
  let l := (s.records fun r => start ≤ r.seq && leAt a 8 1 ≤ r.sev && (!bit (leAt a 9 1) 0 || r.priv)).take (leAt a 10 1)
  let next := match l.getLast? with
    | some r => r.seq + 1
    | none => start
  leBytes 2 l.length ++ leBytes 2 0 ++ leBytes 8 next ++ l.flatMap EvtRec.encode

def execEvtFetch (r : Req) (s : State) : Host.Outcome State Fault Refusal :=
  .next (s.command r P.evt_fetch (fun n a s => s.done n (s.fetchEvents a))
    (argsOk := fun a => 1 ≤ leAt a 10 1 && leAt a 10 1 ≤ 16))

/-- The occurrence counters of R373 return to 0. -/
def execFaultCountersReset (r : Req) (s : State) : Host.Outcome State Fault Refusal :=
  .next (s.command r P.fault_counters_reset fun n _ s => ({ s with stickyCtr := [] }).done n)

/-- EVENTS_DROPPED, once per minute for each partition that has dropped records. -/
def State.droppedEvent (s : State) (part n : Nat) : State := if n = 0 then s else s.event 0x0240 0 [n, part]

def execEventsDroppedTimer (s : State) : Host.Outcome State Fault Refusal :=
  let a := s.evr.droppedRes
  let b := s.evr.droppedGen
  .next (((s.modEvr fun e => { e with droppedRes := 0, droppedGen := 0 }).droppedEvent 0 a).droppedEvent 1 b)

/-- An hour with VDD_AON present has passed. -/
def execOperatingHourTick (s : State) : Host.Outcome State Fault Refusal :=
  .next (if s.rst.vddAon then s.modEvr fun e => { e with hours := min (e.hours + 1) 1048575, hourStart := s.now } else s)

end Sys2Proof.Machine
end

