-- ==== Sys2Proof/Machine/GroupCommands.lean ====
section
/-!
DEFINITION. Meanings of the group commands (R227–R229, R235).
-/

namespace Sys2Proof.Machine

/-- Failure reasons of the group commands (R227). -/
abbrev noTwin : Nat := 0x01
abbrev digestMismatch : Nat := 0x02
abbrev overBudget : Nat := 0x03
abbrev wrongRole : Nat := 0x04

/-- The twin can be reached. -/
def State.twinReachable (s : State) : Bool := s.mir.twinMember != 0xFFFF && (s.tportUp 0 || s.tportUp 1)

/-- First failure of `group_pair`. -/
def State.pairRefusal (s : State) (g : Nat) : Option Nat :=
  if !s.twinReachable then some noTwin
  else if s.mir.twinDigest ≠ s.digestWord then some digestMismatch
  else if !s.mir.budgetOk then some overBudget
  else if (s.grp g).role ≠ .fenced ∨ (s.grp g).paired then some wrongRole
  else none

/-- `group_pair`: CONFIG PAIR to the twin first. -/
def State.groupPair (s : State) (num g : Nat) : State :=
  match s.pairRefusal g with
  | some r => s.failed num r
  | none => s.sendConfig g cfgPair 0 (List.replicate 64 0) num

def execGroupPair (r : Req) (s : State) : Host.Outcome State Fault Refusal :=
  .next (s.command r P.group_pair fun num a s => s.groupPair num (leNat a)).settle

/-- `group_unpair`: this member, and the twin where it can be reached. -/
def State.groupUnpair (s : State) (num g : Nat) : State :=
  if !(s.grp g).paired then s.failed num wrongRole
  else
    let epoch := (s.grp g).epoch
    let s := s.unpairLocal g
    if s.twinReachable then s.sendConfigAt g epoch cfgUnpair 0 (List.replicate 64 0) num else s.done num

def execGroupUnpair (r : Req) (s : State) : Host.Outcome State Fault Refusal :=
  .next (s.command r P.group_unpair fun num a s => s.groupUnpair num (leNat a)).settle

/-- `group_switchover` on the holder of an ACTIVE group: new messages are deferred from now on (R228). -/
def State.groupSwitchover (s : State) (num g : Nat) : State :=
  let gr := s.grp g
  if gr.role ≠ .active ∨ gr.soloPending ∨ gr.switchover.isSome ∨ gr.req.isSome then s.failed num wrongRole
  else s.modGrp g fun x => { x with switchover := some .waiting, cmd := num }

def execGroupSwitchover (r : Req) (s : State) : Host.Outcome State Fault Refusal :=
  .next (s.command r P.group_switchover fun num a s => s.groupSwitchover num (leNat a)).settle

/-- `group_force_solo` sends FORCE (R229). -/
def State.groupForce (s : State) (num g : Nat) : State :=
  let gr := s.grp g
  if gr.role ≠ .fenced ∨ !gr.paired then s.failed num wrongRole
  else s.openRequest opForce g gr.epoch false 0 num

def execGroupForceSolo (r : Req) (s : State) : Host.Outcome State Fault Refusal :=
  .next (s.command r P.group_force_solo fun num a s => s.groupForce num (leNat a)).settle

/-- `group_resync_full`: the next resync of the group is FULL (R235). -/
def State.groupFull (s : State) (num g : Nat) : State :=
  if !(s.grp g).paired then s.failed num wrongRole
  else (s.modGrp g fun x => { x with fullNext := true }).done num

def execGroupResyncFull (r : Req) (s : State) : Host.Outcome State Fault Refusal :=
  .next (s.command r P.group_resync_full fun num a s => s.groupFull num (leNat a))

end Sys2Proof.Machine
end

