-- ==== Sys2Proof/Machine/Operations.lean ====
section
/-!
DEFINITION. Meanings of the operation packets and of the completions of their placements and reads (chapter 5).
-/

namespace Sys2Proof.Machine

/-! ### Request packets (Table 5.1) -/

def execSend (p : Pkt) (pos : Pos) (imm : Option (BitVec 32)) (data : Bytes) (s : State) : Host.Outcome State Fault Refusal :=
  .next (s.hostRequest p (.send pos imm data))

def execRdmaWrite (p : Pkt) (pos : Pos) (reth : Option Reth) (data : Bytes) (s : State) : Host.Outcome State Fault Refusal :=
  .next (s.hostRequest p (.write pos reth none data))

def execRdmaWriteWithImmediate (p : Pkt) (only : Bool) (reth : Option Reth) (imm : BitVec 32) (data : Bytes) (s : State) :
    Host.Outcome State Fault Refusal :=
  .next (s.hostRequest p (.write (if only then .only else .last) reth (some imm) data))

def execRdmaReadRequest (p : Pkt) (reth : Reth) (s : State) : Host.Outcome State Fault Refusal := .next (s.hostRequest p (.read reth))

def execCompareSwap (p : Pkt) (h : AtomicEth) (s : State) : Host.Outcome State Fault Refusal := .next (s.hostRequest p (.cswap h))

def execFetchAdd (p : Pkt) (h : AtomicEth) (s : State) : Host.Outcome State Fault Refusal := .next (s.hostRequest p (.fadd h))

def execHxvOffer (p : Pkt) (o0 o1 o2 o3 : BitVec 16) (s : State) : Host.Outcome State Fault Refusal :=
  .next (s.hostRequest p (.hxvOffer o0 o1 o2 o3))

def execDwrite (p : Pkt) (pos : Pos) (gxh : Option Gxh) (data : Bytes) (s : State) : Host.Outcome State Fault Refusal :=
  .next (s.hostRequest p (.dwrite pos gxh data))

def execFlush (p : Pkt) (gxh : Gxh) (s : State) : Host.Outcome State Fault Refusal := .next (s.hostRequest p (.flush gxh))

def execCas16 (p : Pkt) (gxh : Gxh) (compare swap : BitVec 128) (s : State) : Host.Outcome State Fault Refusal :=
  .next (s.hostRequest p (.cas16 gxh compare swap))

def execAwg (p : Pkt) (pos : Pos) (gxh : Option Gxh) (data : Bytes) (s : State) : Host.Outcome State Fault Refusal :=
  .next (s.hostRequest p (.awg pos gxh data))

def execWait (p : Pkt) (threshold : BitVec 64) (cqn : BitVec 18) (s : State) : Host.Outcome State Fault Refusal :=
  .next (s.hostRequest p (.wait threshold cqn))

def execTread (p : Pkt) (gxh : Gxh) (s : State) : Host.Outcome State Fault Refusal := .next (s.hostRequest p (.tread gxh))

/-- A reserved opcode, or one that only the device sends (R130). -/
def execInvalidOpcode (p : Pkt) (op : BitVec 8) (s : State) : Host.Outcome State Fault Refusal := .next (s.hostRequest p (.invalid op))

/-! ### Completions -/

/-- The oldest placement on RQ0 completes (R135); the apply of an atomic write group completes by a command of its own. -/
def State.placementComplete (s : State) (bad : List Nat) : State :=
  match s.xpt.rq0 with
  | [] => s
  | j :: _ =>
    if j.op matches .awg _ then s
    else
      let r := (s.rqCount 0 j.op.len).placementDone bad
      r.1.lineFaults 0 3 r.2

def execPlacementComplete (bad : List Nat) (s : State) : Host.Outcome State Fault Refusal := .next (s.placementComplete bad).settle

/-- The oldest read on RQ1 returns; `corrected`: lines that the MC corrected (R298). -/
def State.readReturned (s : State) (bad corrected : List Nat) : State :=
  match s.xpt.rq1 with
  | [] => s
  | j :: _ =>
    let lines := if j.len = 0 then 0 else (j.off + j.len - 1) / 64 - j.off / 64 + 1
    let addr := fun (i : Nat) => (s.addrIn j.idx ((j.off / 64 + i) * 64)).getD 0
    let fixed := ((corrected.filter fun i => i < lines && !bad.contains i).map addr).filter fun a => !s.dram.poison.contains (a / 64)
    let s := fixed.foldl (fun s a => s.lineCorrected 1 a) s
    let r := (s.rqCount 1 j.len).readDone bad
    r.1.lineFaults 1 1 r.2

def execReadDataReturned (bad corrected : List Nat) (s : State) : Host.Outcome State Fault Refusal :=
  .next (s.readReturned bad corrected).settle

end Sys2Proof.Machine
end

