-- ==== Sys2Proof/Machine/Layouts.lean ====
section
/-!
DEFINITION. Layouts in which RO parameters show whole records: contexts (Tables 4.3 and 4.8), save records (Table 7.3), power-log
records (Table 15.5), fault messages (Table 14.2) and route entries (Table 10.7).
-/

namespace Sys2Proof.Machine

/-- A record whose first four bytes hold the CRC-32C of the rest: the bytes after the CRC are given. -/
def crcRecord (body : Bytes) : Bytes := leBytes 4 (crc32c body) ++ body

/-! ### Contexts -/

/-- State code of a queue pair (Table 4.3). -/
def QpState.code : QpState → Nat
  | .free => 0 | .ready => 1 | .error => 2 | .closing => 3 | .retained => 4

/-- State code of a completion queue (Table 4.8). -/
def CqState.code : CqState → Nat
  | .free => 0 | .ready => 1 | .error => 2

/-- A saturating 32-bit counter of a context. -/
def sat32 (n : Nat) : Nat := min n (2 ^ 32 - 1)

/-- Fields of Table 4.3 that describe the message in progress. -/
def Qp.msgWord (q : Qp) : Nat :=
  match q.inProgress with
  | none => 0
  | some i => match q.msgs.find? (·.id == i) with
    | none => 0
    | some m => place 1536 m.opcode + place 1504 ((m.len - m.rcvd) % 2 ^ 32) + place 1472 m.ak + place 1408 ((m.gga + m.rcvd) % 2 ^ 64)

/-- Context entry of a queue pair; the wrapped SA keys read as zero. A FREE entry reads as zero. -/
def Qp.word (q : Qp) (qpn : Nat) : Nat :=
  if q.state = .free then 0
  else
    let c := q.ctx
    place 2560 c.cookie.toNat + place 1760 (sat32 q.cnt.violations) + place 1728 (sat32 q.cnt.rnrNaks) + place 1696 (sat32 q.cnt.naks) +
    place 1664 (sat32 q.cnt.dupPackets) + place 1600 (q.cnt.rxPackets % 2 ^ 64) + q.msgWord + place 1344 c.predQpn.toNat +
    place 1280 (q.inheritDeadline % 2 ^ 64) + place 1248 (q.ring.producerCached % 2 ^ 32) + place 1216 q.ring.log2 +
    place 1184 (q.ring.consumer % 2 ^ 32) + place 1120 q.ring.gga.toNat + place 1088 q.ring.ak.toNat + place 1024 (q.wait.deadline % 2 ^ 64) +
    place 960 (q.wait.threshold % 2 ^ 64) + place 928 q.wait.cq + place 896 c.psnOut + place 895 (flag c.vlanEn) + place 892 c.pcp.toNat +
    place 880 c.vid.toNat + place 832 (octetSwap 6 c.peerMac.toNat) + place 824 q.port + place 816 c.hopLimit.toNat +
    place 800 c.udpSport.toNat + place 792 c.trafficClass.toNat + place 768 c.destQpn.toNat + place 640 (octetSwap 16 c.localIp.toNat) +
    place 512 (octetSwap 16 c.peerIp.toNat) + place 384 q.esp.replay.toNat + place 320 (q.esp.seqIn % 2 ^ 64) +
    place 256 (q.esp.seqOut % 2 ^ 64) + place 224 c.spiOut.toNat + place 192 c.spiIn.toNat + place 160 q.hxv + place 146 (flag c.cqBound) +
    place 128 c.cq.toNat + place 96 q.msn + place 64 q.epsn + place 56 q.errorCause + place 48 c.mtu.toNat + place 32 c.pd.toNat +
    place 29 (flag q.seqNaked) + place 28 (flag c.inherit) + place 27 (flag q.wait.active) + place 26 (flag q.errPending) +
    place 25 (flag q.hxvSet) + place 24 (flag c.ipsec) + place 22 c.kind.toNat + place 18 q.state.code + qpn

/-- Context entry of a completion queue. -/
def Cq.word (c : Cq) (cqn : Nat) : Nat :=
  if c.state = .free then 0
  else
    place 384 c.cookie.toNat + place 320 (sat32 c.lost) + place 256 (c.count % 2 ^ 64) + place 224 c.boundQps +
    place 192 (c.consumerCached % 2 ^ 32) + place 160 (c.producer % 2 ^ 32) + place 128 c.log2 + place 64 c.ringGga.toNat +
    place 32 c.ringAk.toNat + place 18 c.state.code + cqn

/-! ### Records -/

/-- State code of a save record. -/
def RecState.code : RecState → Nat
  | .empty => 0 | .writing => 1 | .complete => 2 | .incomplete => 3 | .obsolete => 4

/-- A save record: identity word and status word, each with its CRC. -/
def SaveRec.octets (r : SaveRec) : Bytes :=
  if r.state = .empty then List.replicate 128 0
  else
    let ident := (leBytes 64 (place 480 0x56535947 + place 464 0x0100 + place 456 r.slot + place 448 r.trigger +
      place 440 r.partsPlanned.toNat + place 432 r.budgetGib + place 368 (r.saveSeq % 2 ^ 64) + place 304 (r.dramBytes % 2 ^ 64) +
      place 280 (r.t0Cycle % 2 ^ 24) + place 258 (r.t0Ms % 2 ^ 22) + place 238 (r.t0Hours % 2 ^ 20) + place 192 (r.planEntries % 2 ^ 32) +
      place 160 r.keyId + place 32 (octetSwap 16 Config.deviceUid.toNat))).drop 4
    let status := (leBytes 64 (place 504 r.state.code + place 496 r.partsClosed.toNat + place 488 r.partsFailed.toNat +
      place 464 (min r.durationMs 0xFFFF) + place 416 (r.doneEntries % 2 ^ 32))).drop 4
    crcRecord ident ++ crcRecord status

/-- A power-log record. -/
def PowerRec.octets (r : PowerRec) : Bytes :=
  crcRecord ((leBytes 64 (place 448 (r.saveSeq % 2 ^ 64) + place 384 (r.time % 2 ^ 64) + place 360 (r.cycle % 2 ^ 24) +
    place 338 (r.ms % 2 ^ 22) + place 318 (r.hours % 2 ^ 20) + place 288 (min r.railMv 0xFFFF) + place 280 r.rail + place 272 r.mode +
    place 264 r.trigger + place 256 r.kind + place 248 r.step + place 240 r.feeds + place 208 (r.holdMv % 2 ^ 32) +
    place 176 (r.capMf % 2 ^ 32))).drop 4)

/-- A captured fault message. -/
def Capture.word (c : Capture) : Nat :=
  place 192 c.address.toNat + place 128 (c.time % 2 ^ 64) + place 96 c.detail.toNat + place 88 c.master.toNat + place 84 c.access.toNat +
  place 82 c.cls.code + place 81 (flag c.addrValid) + place 64 (min c.merges 0xFFFF) + place 48 c.code + place 40 c.inst + c.seq % 2 ^ 32

/-- A route entry: metrics, ports and next hops of the primary and the secondary. -/
def State.routeWord (s : State) (m : Nat) : Nat :=
  let r := s.fabRoute m
  let port : Option Hop → Nat := fun h => match h with | some h => h.port | none => 0
  let next : Option Hop → Nat := fun h => match h with | some h => (s.adj h.key).member % 4096 | none => 0
  place 60 r.metric + place 56 r.secMetric + place 54 (port r.primary) + place 52 (port r.secondary) + place 40 (next r.primary) +
  place 28 (next r.secondary)

end Sys2Proof.Machine
end

