-- ==== Sys2Proof/Machine/Security.lean ====
section
/-!
DEFINITION. Meanings of the security commands: the entropy source, the life cycle and its wipe, and firmware update (R347, R355–R360).
-/

namespace Sys2Proof.Machine

/-! ### Entropy (R347) -/

/-- The continuous health test fails: the DRBG stops, and FCO receives an FTL. -/
def execEntropyHealthFail (test : BitVec 8) (s : State) : Host.Outcome State Fault Refusal :=
  .next (if !s.rst.vddAon then s
    else ((s.modSec fun x => { x with drbgStopped := true }).bump P.entropy_failures).fault
      (faultMsg 0x23 0 .ftl Kind.entropy test.toNat)).settle

/-! ### Life-cycle transitions (R358, Table 13.6) -/

def lcOf : Nat → Option LcState
  | 0 => some .blank | 1 => some .provisioned | 2 => some .deployed | 3 => some .returned | 4 => some .decommissioned
  | _ => none

def LcState.code : LcState → Nat
  | .blank => 0 | .provisioned => 1 | .deployed => 2 | .returned => 3 | .decommissioned => 4

/-- A row of Table 13.6: the level it needs, its mode, and whether it wipes. -/
def lcRow : LcState → LcState → Option (Nat × Mode × Bool)
  | .blank, .provisioned => some (3, .sealed, false)
  | .provisioned, .deployed => some (2, .maint, true)
  | .deployed, .returned => some (2, .maint, true)
  | .returned, .provisioned => some (3, .sealed, false)
  | .deployed, .decommissioned => some (2, .maint, true)
  | .returned, .decommissioned => some (2, .sealed, false)
  | _, _ => none

/-- The confirmation that R358 asks for. -/
def lcConfirm : Nat := leNat ((beBytes 16 Config.deviceUid.toNat).take 4)

/-- A group of this member holds ACTIVE or SOLO. -/
def State.serving (s : State) : Bool := s.mir.groups.any fun e => e.2.role = .active || e.2.role = .solo

/-- The kill fuse: the DUS reads as zero, and no key can be derived. -/
def State.killFuse (s : State) : State := s.modSec fun x => { x with killFused := true, kekReady := false }

/-- The life-cycle state takes its new value. -/
def State.enterLc (s : State) (dest : LcState) : State :=
  let s := (s.touchLgm.modSec fun x => { x with lc := dest, lcRecord := none }).bump P.lc_transitions
  if dest = .decommissioned then s.killFuse else s

/-- The reason with which `lc_transition` fails, if any. -/
def State.lcFailure (s : State) (level : Nat) (a : Bytes) : Option Nat :=
  match lcOf (leAt a 0 1) with
  | none => some 0x01
  | some dest => match lcRow s.sec.lc dest with
    | none => some 0x01
    | some row =>
      if level < row.1 then some 0x02
      else if leAt a 4 4 ≠ lcConfirm then some 0x03
      else if s.serving then some 0x04
      else if s.mode ≠ row.2.1 then some 0x05
      else none

/-- `lc_transition`: a row that wipes passes its commit point and overwrites at once; another row takes effect at once. -/
def State.lcTransition (s : State) (num slot : Nat) (a : Bytes) : State :=
  match s.lcFailure (s.session slot).level a, lcOf (leAt a 0 1) with
  | some f, _ => s.failed num f
  | none, some dest =>
    let wipes := match lcRow s.sec.lc dest with
      | some row => row.2.2
      | none => false
    if dest.keyed && s.sec.drbgStopped then s.drawFails num
    else
      let s := s.event 0x2548 0 [s.sec.lc.code, dest.code, slot]
      if wipes then s.lcOverwrite { from_ := s.sec.lc, dest := dest, slot := slot, since := s.now }
      else if dest = .decommissioned then (s.enterLc dest).done num
      else (((s.reseed true).enterLc dest).done num).powerDown .offNoSave 7 false
  | none, none => s

def execLcTransition (r : Req) (s : State) : Host.Outcome State Fault Refusal :=
  .next (s.command r P.lc_transition fun n a s => s.lcTransition n r.slot.val a).settle

/-- Reel has filled the DRAM with zeros: contexts, descriptors, segment maps and logs that lay in it are gone with the data. -/
def State.zeroFilled (s : State) : State :=
  match s.sec.lcRecord with
  | none => s
  | some r =>
    if s.mode ≠ .maint ∨ r.zeroed then s
    else
      let s := (s.modSec fun x => { x with lcRecord := some { r with zeroed := true }, wipeZero := 100 }).rqCount 11 s.dramBytes
      { s with
        dram := { s.dram with mem := [], poison := [] }
        reg := { s.reg with descs := [], cache := [], drains := [], pendingReg := none, lost := [] }
        xpt := { s.xpt with qps := [], cqs := [], qcc := [], waiting := [], rq0 := [], rq1 := [] }
        tmv := { totalFrames := s.tmv.totalFrames, capacity := s.tmv.capacity }
        pde := { s.pde with segs := [], restAbsent := false, reserved := 0, drains := [], refills := [] }
        mir := { s.mir with divergent := [] } }

def execLcZeroFillComplete (s : State) : Host.Outcome State Fault Refusal := .next s.zeroFilled.settle

/-- Carriers that the erase of a transition reaches. -/
def CarState.attached : CarState → Bool
  | .foreign | .formatting | .inService | .retiring | .evacuating => true
  | _ => false

/-- A carrier is erased: formatted under a new key, or left BLANK. -/
def State.wipeCarrier (s : State) (keyed : Bool) (n : Nat) : State :=
  if !(s.carrier n).state.attached then s
  else if keyed then
    let s := s.drawn
    let d := s.sec.draws
    ((s.modSec fun x => { x with mediaKeys := x.mediaKeys.set d n }).modCarrier n fun c => { c with keyTag := mediaTag d, keyDraw := d }).asFormatted n
  else
    let s := s.modFlash fun f => { f with blks := List.filter (fun e => keyCarrier e.1 != n) f.blks }
    (s.modCarrier n fun c => { c with state := .foreign, keyTag := 0, keyDraw := 0, erasedSlot0 := false, erasedSlot1 := false }).writeDynamic n 0 false

/-- After a transition to RETURNED or DECOMMISSIONED every step above 2 is lowered (Table 15.8). -/
def State.toSealed (s : State) : State :=
  let off := s.pwr.lastOff
  (s.powerDown .offNoSave 7 false).modPwr fun p => { p with goal := .sealed, lastOff := off }

/-- FL has erased every carrier: the record completes and the state takes its target value. -/
def State.wiped (s : State) : State :=
  match s.sec.lcRecord with
  | none => s
  | some r =>
    if s.mode ≠ .maint ∨ !r.zeroed then s
    else
      let s := (List.range 8).foldl (fun s n => s.wipeCarrier r.dest.keyed n) s
      let s := (s.modFlash fun f => { f with sbs := [], holds := [] }).evalArea
      let s := (s.modSec fun x => { x with wipeErase := 100 }).enterLc r.dest
      let s := s.event 0x2549 0 [r.dest.code, (s.now - r.since) / msNs]
      let s := if s.running P.lc_transition then s.done P.lc_transition else s
      if r.dest.keyed then s else s.toSealed

def execLcEraseComplete (s : State) : Host.Outcome State Fault Refusal := .next s.wiped.settle

/-! ### Firmware update (R356) -/

/-- Size of a slot. -/
abbrev slotBytes : Nat := 67108864

/-- The chunk overlaps bytes written since the last erase. -/
def ImageSlot.overlaps (t : ImageSlot) (o n : Nat) : Bool := t.written.any fun w => decide (w.1 < o + n ∧ o < w.1 + w.2)

/-- `fw_update_chunk`: into the slot that is not active, which a chunk at offset 0 erases first. -/
def State.updateChunk (s : State) (num : Nat) (a : Bytes) : State :=
  let o := leAt a 0 4
  let n := leAt a 4 2
  let b := !s.sec.active
  if slotBytes < o + n then s.failed num 0x01
  else if n = 0 ∨ 1016 < n then s.failed num 0x02
  else if o ≠ 0 ∧ (s.imageSlot b).overlaps o n then s.failed num 0x03
  else
    let data := slice a 8 n
    let s := s.modSlot b fun t =>
      let t := if o = 0 then { t with bytes := [], written := [] } else t
      { t with
        state := .writing, written := (o, n) :: t.written
        bytes := (List.range n).foldl (fun m i => m.set (o + i) (data.getD i 0)) t.bytes }
    (s.modSec fun x => { x with preferred := x.active }).done num

def execFwUpdateChunk (r : Req) (s : State) : Host.Outcome State Fault Refusal :=
  .next (s.command r P.fw_update_chunk fun n a s => s.updateChunk n a)

/-- The first step of R355 at which the slot fails; 0 when it passes. `f`: step that the signature and digest checks name. -/
def State.commitStep (s : State) (h : Bytes) (f : Nat) : Nat :=
  if !headerSound h then 1
  else if 2 ≤ f ∧ f ≤ 4 then f
  else if headerSecurity h < s.sec.minSecurity then 5
  else if f = 6 then 6
  else 0

/-- `fw_update_commit`: BOOT checks the slot and makes it preferred. -/
def State.updateCommit (s : State) (num f : Nat) : State :=
  let b := !s.sec.active
  let step := s.commitStep (s.imageSlot b).header f
  if step = 0 then
    let s := s.event 0x0641 0 [flag b, headerSecurity (s.imageSlot b).header, 0]
    ((s.modSlot b fun t => { t with state := .valid }).modSec fun x => { x with preferred := b }).done num
  else (s.modSlot b fun t => { t with state := .invalid }).failed num step

def execFwUpdateCommit (r : Req) (failedStep : Option (BitVec 8)) (s : State) : Host.Outcome State Fault Refusal :=
  .next (s.command r P.fw_update_commit (fun n _ s => s.updateCommit n (match failedStep with | some f => f.toNat | none => 0))
    (argsOk := fun a => leNat a == 0))

/-- `fw_rollback_commit`: fuses are blown up to the running image's security_version; they never decrease. -/
def State.rollbackCommit (s : State) (num : Nat) : State :=
  if s.sec.preferred ≠ s.sec.active then s.failed num 1
  else
    let s := s.event 0x0641 0 [flag s.sec.active, s.sec.runningSecurity, 1]
    (s.modSec fun x => { x with minSecurity := max x.minSecurity (min x.runningSecurity 64) }).done num

def execFwRollbackCommit (r : Req) (s : State) : Host.Outcome State Fault Refusal :=
  .next (s.command r P.fw_rollback_commit (fun n _ s => s.rollbackCommit n) (argsOk := fun a => leNat a == 0))

end Sys2Proof.Machine
end

