-- ==== Sys2Proof/Machine/Sessions.lean ====
section
/-!
DEFINITION. Meanings of the commands that open and close dictionary sessions (R28–R36, R60, R62, R65, R66).
-/

namespace Sys2Proof.Machine

/-- A session that a close trigger of Table 2.2 closes. -/
def Session.live (t : Session) : Bool := t.state == .established || t.state == .open_

/-- MGT slots in use. -/
def State.mgtInUse (s : State) : Nat := s.dxe.sessions.countWhere fun k t => k < 16 && t.state != .free

/-- Close a session: its subscriptions go, close_notify is sent on MGT, and the slot is cleared. CLOSING passes within the step. -/
def State.closeSession (s : State) (slot : Nat) : State :=
  if (s.session slot).live then (if slot < 16 then s.emitMgt (.closeNotify slot) else s).freeSession slot else s

/-- Close several sessions. -/
def State.closeSessions (s : State) (slots : List Nat) : State := slots.foldl State.closeSession s

/-- MGT sessions that satisfy a test and are ESTABLISHED or OPEN. -/
def State.mgtLive (s : State) (q : Nat → Session → Bool) : List Nat :=
  s.dxe.sessions.keysWhere fun k t => k < 16 && t.live && q k t

/-! ### Frames at MGT (R30) -/

/-- An address of the device at MGT: the static IPv4 address where one is set, the link-local address, and the static IPv6 address where
one is set (R30). -/
def State.mgtAddress (s : State) (a : Nat) : Bool :=
  (s.paramOn P.mgt_ipv4_addr && a == mappedIpv4 (octetSwap 4 (s.param P.mgt_ipv4_addr))) ||
  a == linkLocal Config.mgtMac.toNat ||
  (s.paramOn P.mgt_ipv6_addr && a == octetSwap 16 (s.param P.mgt_ipv6_addr))

/-- What DXE does with a frame at MGT: ARP, neighbour discovery (duplicate address detection among it) and echo for an address of the
device are answered, a datagram to the dictionary port is handed to DTLS, whose records are commands of their own, and any other frame
and any fragment is discarded and counted. -/
def execMgtFrameReceived (k : MgtFrame) (s : State) : Host.Outcome State Fault Refusal :=
  .next (if s.mode = .off ∨ !s.mgtUp then s
    else match k with
      | .arpRequest target => if s.mgtAddress (mappedIpv4 target.toNat) then s.emitMgt (.mgtReply k) else s.bump P.mgt_discards
      | .neighbourSolicitation target _ =>
        if s.mgtAddress target.toNat && !isMapped target.toNat then s.emitMgt (.mgtReply k) else s.bump P.mgt_discards
      | .echo dst fragment => if s.mgtAddress dst.toNat && !fragment then s.emitMgt (.mgtReply k) else s.bump P.mgt_discards
      | .udp dst dport fragment =>
        s.bumpIf (fragment || !s.mgtAddress dst.toNat || dport.toNat != s.param P.mgt_udp_port) P.mgt_discards
      | .other => s.bump P.mgt_discards)

/-! ### Handshakes -/

/-- Handshakes completed in the last second. -/
def State.recentHandshakes (s : State) : List Nat := s.dxe.handshakes.filter fun t => s.now < t + secNs

/-- Handshakes in progress. -/
def State.handshaking (s : State) : Nat := s.dxe.sessions.countWhere fun k t => k < 16 && t.state == .handshake

/-- The rate of R32 is exceeded by one handshake more: with those in progress, more than `handshake_rate_per_s` could complete within a
second. -/
def State.rateExceeded (s : State) : Bool := decide (s.param P.handshake_rate_per_s ≤ s.recentHandshakes.length + s.handshaking)

/-- A ClientHello (Table 2.2). -/
def execClientHello (peerAddr : BitVec 128) (peerPort : BitVec 16) (cookieValid : Bool) (s : State) :
    Host.Outcome State Fault Refusal :=
  .next (if s.mode = .off ∨ !s.mgtUp then s
    else if !cookieValid then s.emitMgt (.helloRetry peerAddr peerPort)
    else match (List.range 16).find? fun k => (s.session k).state = .free with
      | none => s.bump P.handshakes_refused
      | some k =>
        if s.mgtInUse ≥ s.param P.session_max ∨ s.rateExceeded = true then
          s.bump P.handshakes_refused
        else
          (s.emitMgt (.flight k)).modDxe fun d =>
            { d with
              sessions := d.sessions.set k
                { state := .handshake, peerAddr := peerAddr, peerPort := peerPort, since := s.now, lastRecord := s.now } })

/-- Levels at which a chain's anchor is installed, and Factory for the provisioning anchor of a BLANK or RETURNED device (R353). -/
def State.anchorLevels (s : State) (anchor : Bytes) : List Nat :=
  let blank : Bool := s.sec.lc == .blank || s.sec.lc == .returned
  let own := (List.range 16).filter fun i =>
    anchor.length == 120 && s.param P.trust_anchor i != 0 && s.param P.trust_anchor i == leNat anchor
  own.map (fun i => s.param P.trust_anchor_level i) ++ (if blank && Config.isProvisioningAnchor anchor then [3] else [])

/-- Level at which a chain is admitted: the lowest of its anchor's, Factory only while BLANK or RETURNED (R34); none where it is
not. The profile of R31 limits its depth and its certificates. -/
def State.admission (s : State) (c : ClientChain) : Option Nat :=
  let blank : Bool := s.sec.lc == .blank || s.sec.lc == .returned
  let leaf := c.digests.headD []
  let denied := (List.range 256).any fun i => s.param P.cert_deny i != 0 && s.param P.cert_deny i == leNat leaf
  if !c.verified || c.depth == 0 || 3 < c.depth || 2048 < c.certBytesMax || denied then none
  else match s.anchorLevels c.anchor with
    | [] => none
    | l :: t => let m := t.foldl min l; if m == 3 && !blank then none else some m

/-- A handshake fails: a fatal alert, the counter, and the slot is FREE. -/
def State.failHandshake (s : State) (slot : Nat) : State :=
  if (s.session slot).state = .handshake then ((s.emitMgt (.alert slot)).bump P.handshakes_refused).freeSession slot else s

/-- A handshake completes with the client's chain: admitted or refused (R34). DXE completes none beyond `handshake_rate_per_s` in a second
(R32): the handshake then stays in progress. -/
def execHandshakeComplete (slot : Fin 16) (chain : ClientChain) (s : State) : Host.Outcome State Fault Refusal :=
  .next (if (s.session slot.val).state ≠ .handshake ∨ s.param P.handshake_rate_per_s ≤ s.recentHandshakes.length then s
    else match s.admission chain with
      | none => s.failHandshake slot.val
      | some l => (s.modDxe fun d => { d with handshakes := s.now :: s.recentHandshakes }).modSession slot.val fun t =>
          { t with state := .established, level := l, chain := some chain, certDigest := chain.digests.headD [],
                   since := s.now, lastRecord := s.now })

/-- `handshake_timeout_ms` passes before a handshake completes (R32). -/
def execHandshakeTimeout (slot : Fin 16) (s : State) : Host.Outcome State Fault Refusal := .next (s.failHandshake slot.val)

/-- An alert ends a handshake (Table 2.2). -/
def execHandshakeAlertReceived (slot : Fin 16) (s : State) : Host.Outcome State Fault Refusal := .next (s.failHandshake slot.val)

/-- The RFC 9147 timer of a flight runs out: the flight is sent again (R32). -/
def execDtlsRetransmitTimer (slot : Fin 16) (s : State) : Host.Outcome State Fault Refusal :=
  .next (if (s.session slot.val).state = .handshake then s.emitMgt (.flight slot.val) else s)

/-! ### Closing -/

/-- A close_notify is received (Table 2.2). -/
def execCloseNotify (slot : Fin 16) (s : State) : Host.Outcome State Fault Refusal := .next (s.closeSession slot.val)

/-- No authenticated record for `session_idle_timeout_s` (R36). -/
def execSessionIdleTimeout (slot : Fin 16) (s : State) : Host.Outcome State Fault Refusal := .next (s.closeSession slot.val)

/-! ### HELLO (R60) -/

/-- Versions that DXE speaks: `dsv_current` and `dsv_previous`. -/
def ownVersions : List Nat := [defaultOf P.dsv_current, defaultOf P.dsv_previous]

/-- The version words of a HELLO body. -/
def helloWords : Bytes → List (BitVec 16)
  | a :: b :: t => BitVec.ofNat 16 (leNat [a, b]) :: helloWords t
  | _ => []

/-- Up to four version words in one event argument, the first in [63:48], as HXV_OFFER and the HELLOs of chapters 8 and 10 place them
(DESIGN CHOICE). -/
def packedWords (l : List (BitVec 16)) : Nat := ((l.take 4).zipIdx.map fun p => place (48 - 16 * p.2) p.1.toNat).sum

/-- HELLO on a session that is ESTABLISHED: the DSV is fixed, or the session closes. DESIGN CHOICE (the spec is silent):
the response VERSION has the same body, with the chosen word 0. -/
def State.helloOpens (s : State) (r : Req) : State :=
  let v := versionChoice ownVersions (helloWords r.body)
  let reply := leBytes 2 v ++ leBytes 2 (defaultOf P.dsv_current) ++ leBytes 2 (defaultOf P.dsv_previous)
  if v = 0 then
    (((s.respond r .hello Status.version 0 false reply).bump P.version_refusals).event 0x0340 r.slot [r.slot, packedWords (helloWords r.body)]).closeSession
      r.slot
  else
    (s.respond r .hello Status.ok 0 false reply).modSession r.slot fun t => { t with state := .open_, dsv := v, notifySeq := 0 }

/-- A HELLO is MALFORMED on an OPEN session (Table 2.2), and where its header names a version (Table 2.3). -/
def helloMalformed (r : Req) (st : SessState) : Bool :=
  st == .open_ || !r.wellFormed .hello || r.dsvMajor != 0 || r.dsvMinor != 0

/-- A HELLO message. -/
def State.hello (s : State) (r : Req) : State :=
  let t := s.session r.slot
  if !t.live || s.unheard r then s
  else if 8 ≤ r.unanswered then s.discard r.slot
  else
    let s := s.arrive r .hello
    match t.kept.find? (·.tag == r.tag) with
    | some k =>
      if k.request = r.octets .hello then s.sendDict r.slot k.response
      else if helloMalformed r t.state then s.refuse r .hello Status.malformed
      else s.refuse r .hello Status.tagReuse
    | none =>
      if helloMalformed r t.state then s.refuse r .hello Status.malformed
      else s.helloOpens r

def execDictHello (r : Req) (s : State) : Host.Outcome State Fault Refusal := .next (s.hello r)

/-! ### Windows (R62) -/

/-- Firmware rings the open doorbell of a window: a session at Custodian level. -/
def execWindowOpenDoorbell (win : Fin 4) (cluster : Fin 4) (s : State) : Host.Outcome State Fault Refusal :=
  let k := 16 + win.val
  .next (if s.rst.coresUp ∧ cluster.val ∉ s.rst.heldClusters ∧ s.paramOn P.window_enable ∧ (s.session k).state = .free then
      s.modDxe fun d =>
        { d with
          sessions := d.sessions.set k
            { state := .established, level := 2, cluster := cluster.val, since := s.now, lastRecord := s.now } }
    else s)

/-- The close doorbell. -/
def execWindowCloseDoorbell (win : Fin 4) (s : State) : Host.Outcome State Fault Refusal := .next (s.closeSession (16 + win.val))

/-! ### Commands that close sessions -/

/-- `mgt_apply`: block 000 of area 1 becomes effective, and every MGT session closes (R47, R65). -/
def execMgtApply (r : Req) (s : State) : Host.Outcome State Fault Refusal :=
  .next (s.command r P.mgt_apply fun num _ s =>
    let s := s.applyStaged fun n => n / 2 ^ 16 == 0x1000
    (s.closeSessions (s.mgtLive fun _ _ => true)).done num)

/-- `session_close_all`: every MGT session but the requester's. -/
def execSessionCloseAll (r : Req) (s : State) : Host.Outcome State Fault Refusal :=
  .next (s.command r P.session_close_all fun num _ s =>
    let l := s.mgtLive fun k _ => k != r.slot.val
    (s.closeSessions l).done num (leBytes 1 l.length))

/-- `session_revalidate`: the chains of the MGT sessions are judged again. -/
def execSessionRevalidate (r : Req) (s : State) : Host.Outcome State Fault Refusal :=
  .next (s.command r P.session_revalidate fun num _ s =>
    let all := s.mgtLive fun _ _ => true
    let bad := s.mgtLive fun _ t => match t.chain with | some c => (s.admission c).isNone | none => false
    (s.closeSessions bad).done num (leBytes 1 all.length ++ leBytes 1 bad.length ++ leBytes 2 0))

/-- `sess_close` on a slot: its own at any level (R66). DESIGN CHOICE (R66 and Table 2.2 are silent on a slot in
HANDSHAKE): it reports DONE, and the handshake goes on. -/
def execSessClose (r : Req) (s : State) : Host.Outcome State Fault Refusal :=
  .next (s.command r P.sess_close
    (fun num _ s => (s.closeSession ((num - P.sess_close) / 65536)).done num)
    (own := fun num => num == perInst P.sess_close r.slot.val))

end Sys2Proof.Machine
end

