-- ==== Sys2Proof/Machine/Live.lean ====
section
/-!
DEFINITION. What a READ finds: the value of every RO parameter, by area, and when it is UNAVAILABLE (R445).
-/

namespace Sys2Proof.Machine

/-- Value of an RO parameter, of its instance and element; BYTES and STR as the number that their octets spell. -/
abbrev LiveFn := State → Nat → Nat → Nat

/-- Two's complement of w bits. -/
def twos (w : Nat) (v : Int) : Nat := (BitVec.ofInt w v).toNat

/-- Bit map of the numbers below n that satisfy a test. -/
def bitMap (n : Nat) (q : Nat → Bool) : Nat := ((List.range n).map fun i => if q i then 2 ^ i else 0).sum

/-! ### Codes -/

def SessState.code : SessState → Nat
  | .free => 0 | .handshake => 1 | .established => 2 | .open_ => 3 | .closing => 4

def RailState.code : RailState → Nat
  | .unused => 0 | .off => 1 | .ramping => 2 | .up => 3 | .failed => 4

def PmbusState.code : PmbusState → Nat
  | .unused => 0 | .ok => 1 | .refused => 2 | .lost => 3

def OptState.code : OptState → Nat
  | .ok => 0 | .repaired => 1 | .failed => 2

def BudgetLimit.code : BudgetLimit → Nat
  | .configured => 0 | .energy => 1 | .area => 2 | .noMeasurement => 3

def HelloState.code : HelloState → Nat
  | .down => 0 | .hello => 1 | .up => 2 | .refused => 3

def MemberState.code : MemberState → Nat
  | .isolated => 0 | .probing => 1 | .joined => 2 | .conflict => 3

def PtpState.code : PtpState → Nat
  | .disabled => 0 | .listening => 1 | .master => 2 | .slave => 3

def TrainState.code : TrainState → Nat
  | .notRun => 0 | .running => 1 | .passed => 2 | .passedFenced => 3 | .failed => 4

def McState.code : McState → Nat
  | .absent => 0 | .training => 1 | .inService => 2 | .fenced => 3

def CarState.code : CarState → Nat
  | .empty => 0 | .attaching => 1 | .refused => 2 | .foreign => 3 | .formatting => 4 | .inService => 5 | .retiring => 6
  | .evacuating => 7 | .detached => 8 | .offline => 9

def SlotState.code : SlotState → Nat
  | .empty => 0 | .valid => 1 | .invalid => 2 | .writing => 3

/-! ### Areas 0 to 3 -/

def liveArea0 : List (Nat × LiveFn) := [
  (P.device_stepping, fun _ _ _ => Config.deviceStepping.toNat),
  (P.serial_number, fun _ _ _ => Config.serialNumber.toNat),
  (P.device_uid, fun _ _ _ => octetSwap 16 Config.deviceUid.toNat),
  (P.mgt_mac_addr, fun _ _ _ => octetSwap 6 Config.mgtMac.toNat),
  (P.manufacture_date, fun _ _ _ => Config.manufactureDate.toNat),
  (P.fw_active_slot, fun s _ _ => flag s.sec.active),
  (P.fw_version, fun s _ _ => leNat s.sec.imageVersion),
  (P.fw_image_digest, fun s _ _ => leNat s.sec.imageDigest),
  (P.rom_version, fun _ _ _ => Config.romVersion.toNat)]

def liveArea1 : List (Nat × LiveFn) := [
  (P.sessions_open, fun s _ _ => s.dxe.sessions.countWhere fun _ t => t.state != .free),
  (P.sess_state, fun s i _ => (s.session i).state.code),
  (P.sess_level, fun s i _ => (s.session i).level),
  (P.sess_peer_addr, fun s i _ => octetSwap 16 (s.session i).peerAddr.toNat),
  (P.sess_peer_port, fun s i _ => (s.session i).peerPort.toNat),
  (P.sess_cert_digest, fun s i _ => leNat (s.session i).certDigest),
  (P.sess_dsv, fun s i _ => (s.session i).dsv),
  (P.sess_age_s, fun s i _ => if (s.session i).live then (s.now - (s.session i).since) / secNs else 0),
  (P.sess_requests, fun s i _ => min (s.session i).requests (2 ^ 64 - 1)),
  (P.sess_subscriptions, fun s i _ => s.dxe.subs.countP fun b => b.slot == i),
  (P.sess_notify_seq, fun s i _ => (s.session i).notifySeq % 2 ^ 32),
  (P.sess_dropped, fun s i _ => sat32 (s.session i).dropped)]

def liveArea2 : List (Nat × LiveFn) := [
  (P.mode_, fun s _ _ => s.mode.code),
  (P.degraded_causes, fun s _ _ => s.degradedCauses),
  (P.last_off_trigger, fun s _ _ => s.pwr.lastOff.code),
  (P.unsaved_pending, fun s _ _ => flag s.pwr.unsavedPending),
  (P.feeds_present, fun s _ _ => s.feedsPresent),
  (P.hold_mv, fun s _ _ => s.store.holdMv),
  (P.hold_ma, fun s _ _ => twos 32 s.store.holdMa),
  (P.power_mw, fun s _ _ => s.store.powerMw),
  (P.cap_mf, fun s _ _ => s.store.capMf),
  (P.cap_first_mf, fun s _ _ => s.store.capFirstMf),
  (P.cap_result_hours, fun s _ _ => s.store.capHours),
  (P.sns_value, fun s _ k => twos 32 (s.store.sense.getD k 0)),
  (P.rail_state, fun s _ k => (s.rail k).state.code),
  (P.rail_mv, fun s _ k => (s.rail k).mv),
  (P.rail_ma, fun s _ k => (s.rail k).ma),
  (P.pmbus_state, fun s _ k => (s.store.pmbus.getD k {}).state.code),
  (P.pmbus_status_word, fun s _ k => (s.store.pmbus.getD k {}).statusWord.toNat),
  (P.power_log, fun s _ k => match s.pwr.log.find? k with | some r => leNat r.octets | none => 0),
  (P.power_log_next, fun s _ _ => s.pwr.logNext)]

def liveArea3 : List (Nat × LiveFn) := [
  (P.refclk_ok, fun s _ _ => flag s.rst.refclkOk),
  (P.root_locked, fun s _ _ => flag s.rst.rootLocked),
  (P.ethref_ppm, fun s _ _ => twos 32 s.rst.ethrefPpm),
  (P.clk_mc_div, fun s _ _ => s.rst.mcDiv),
  (P.domain_gated, fun s _ _ => bitMap 40 s.gated),
  (P.domain_fenced, fun s _ _ => bitMap 40 fun d => s.rst.fenced.contains d || s.rst.clkFenced.contains d),
  (P.domain_freq_khz, fun s _ k => s.rst.freqKhz.getD k 0),
  (P.reset_cause, fun s _ _ => s.rst.cause.code),
  (P.cold_start_ms, fun s _ _ => s.rst.coldStartMs),
  (P.core_start_ms, fun s _ _ => s.rst.coreStartMs),
  (P.lgm_option_state, fun s _ _ => s.rst.option.code)]

/-! ### Areas 4 to 6 -/

def liveArea4 : List (Nat × LiveFn) := [
  (P.regions_valid, fun s _ _ => s.reg.descs.countWhere fun _ d => d.state = .valid),
  (P.region_desc, fun s _ k => (s.desc k).word),
  (P.pd_regions, fun s _ k => s.reg.descs.countWhere fun _ d => d.state ≠ .free && d.pd.toNat == k),
  (P.pd_qps, fun s _ k => s.xpt.qps.countWhere fun _ q => q.state ≠ .free && q.ctx.pd.toNat == k),
  (P.pool_free, fun s i _ => s.poolFree i),
  (P.pool_low_water, fun s i _ => min ((s.pool i).fewest.getD (s.poolCount i)) (s.poolFree i))]

def liveArea5 : List (Nat × LiveFn) := [
  (P.dirty_segments, fun s _ _ => s.dirtyH),
  (P.device_dirty_segments, fun s _ _ => s.dirtyD),
  (P.reserved_segments, fun s _ _ => s.pde.reserved),
  (P.budget_occupancy_pct, fun s _ _ => s.xpt.occupancyPct),
  (P.in_cap_mf, fun s _ _ => s.pde.budget.capMf),
  (P.in_hold_mv, fun s _ _ => s.pde.budget.holdMv),
  (P.in_save_rate_mbps, fun s _ _ => s.pde.budget.rateMbps),
  (P.in_save_power_w, fun s _ _ => s.pde.budget.powerW),
  (P.in_save_area_mib, fun s _ _ => s.saveAreaMib),
  (P.budget_energy_gib, fun s _ _ => twos 32 s.pde.budget.energyGib),
  (P.budget_limit, fun s _ _ => s.pde.budget.limit.code),
  (P.budget_area_gib, fun s _ _ => twos 32 s.pde.budget.areaGib),
  (P.budget_permitted_gib, fun s _ _ => s.pde.budget.permittedGib),
  (P.drain_rate_mbps, fun s _ _ => ((s.pde.drainLog.map fun e => if s.now < e.1 + 60 * secNs then e.2 else 0).sum) / 60000000),
  (P.save_seq, fun s _ _ => s.pde.saveSeq),
  (P.save_record, fun s _ k => leNat (s.saveRecord k).octets),
  (P.last_save_ms, fun s _ _ => s.pde.lastSaveMs),
  (P.last_restore_ms, fun s _ _ => s.pde.lastRestoreMs),
  (P.restore_incomplete_segments, fun s _ _ => s.pde.restoreIncomplete),
  (P.refill_pending_segments, fun s _ _ => s.absentCount),
  (P.regions_lost, fun s _ _ => s.reg.lost.length),
  (P.region_lost, fun s _ k => flag (s.reg.lost.contains k)),
  (P.awg_recovered, fun s _ _ => s.pde.awgRecovered)]

/-- Mirror sequence number that a group shows: the last placed as STANDBY, otherwise the last issued or placed. -/
def Grp.seqShown (g : Grp) : Nat := if g.role = .standby then g.placed else max g.issued g.placed

/-- Segments of a group that await resync. -/
def Grp.resyncLeft (g : Grp) : Nat :=
  (match g.source with | some r => r.todo.length + r.again.length | none => 0) +
  (match g.target with | some t => t.awaiting.length | none => 0)

/-- What is left of the lease of a holder. -/
def State.leaseLeft (s : State) (g : Grp) : Nat :=
  if g.role = .active ∨ g.role = .solo then min ((g.leaseEnd.getD 0) - s.now) (2 ^ 32 - 1) else 0

def liveArea6 : List (Nat × LiveFn) := [
  (P.mpv_negotiated, fun s _ _ => s.mir.mpv),
  (P.caller_member, fun s _ _ => s.desig.caller),
  (P.budget_takeover_ns, fun s _ _ => s.mir.budgetTakeoverNs),
  (P.budget_solo_ns, fun s _ _ => s.mir.budgetSoloNs),
  (P.caller_rtt_ns, fun s _ _ => s.callerRtt),
  (P.lease_budget_ok, fun s _ _ => flag s.mir.budgetOk),
  (P.caller_pairs, fun s _ _ => s.callerPairs.countWhere fun _ p => p.serving),
  (P.tp_delay_ns, fun s i _ => s.portDelay i),
  (P.tp_hello_state, fun s i _ => (s.tport i).state.code),
  (P.tp_window_kib, fun s i _ => (s.tport i).windowKib.getD 0),
  (P.tp_groups, fun s i _ => s.mir.groups.countWhere fun g x => x.paired && s.groupPort g == some i),
  (P.grp_role, fun s i _ => (s.grp i).role.code),
  (P.grp_paired, fun s i _ => flag (s.grp i).paired),
  (P.grp_in_sync, fun s i _ => flag ((s.grp i).role == .standby && (s.grp i).inSync)),
  (P.grp_epoch, fun s i _ => (s.grp i).epoch),
  (P.grp_sync_epoch, fun s i _ => (s.grp i).syncEpoch),
  (P.grp_mirror_seq, fun s i _ => (s.grp i).seqShown),
  (P.grp_acked_seq, fun s i _ => (s.grp i).acked),
  (P.grp_credit_pct, fun s i _ => min (s.creditPct i) 255),
  (P.grp_divergent_segments, fun s i _ => (s.divergentOf i).length),
  (P.grp_resync_remaining, fun s i _ => (s.grp i).resyncLeft),
  (P.grp_lease_remaining_ns, fun s i _ => s.leaseLeft (s.grp i))]

/-! ### Areas 7 to 9 -/

/-- The lowest number below n that satisfies a test, or n. -/
def lowest (n none_ : Nat) (q : Nat → Bool) : Nat := ((List.range n).find? q).getD none_

def State.linkUp (s : State) (i : Nat) : Bool := if i < 4 then (s.port i).linkUp else (s.tport (i - 4)).linkUp

def liveArea7 : List (Nat × LiveFn) := [
  (P.transport_area_bytes, fun s _ _ => 150994944 + s.param P.qp_max * 32768),
  (P.qps_ready, fun s _ _ => s.xpt.qps.countWhere fun _ q => q.state = .ready),
  (P.qps_error, fun s _ _ => s.xpt.qps.countWhere fun _ q => q.state = .error),
  (P.qp_context, fun s _ k => (s.qp k).word k),
  (P.cq_context, fun s _ k => (s.cq k).word k),
  (P.qp_lowest_free, fun s _ _ => lowest (s.param P.qp_max) 262144 fun n => (s.qp n).state = .free),
  (P.cq_lowest_free, fun s _ _ => lowest 262144 262144 fun n => (s.cq n).state = .free),
  (P.port_link_up, fun s i _ => flag (s.linkUp i)),
  (P.port_mac_addr, fun _ i _ => octetSwap 6 (Config.portMac i).toNat)]

def liveArea8 : List (Nat × LiveFn) := [
  (P.mark_fraction_pct, fun s _ _ => max (100 * s.xpt.fNum / s.xpt.fDen) s.xpt.fWreg)]

def liveArea9 : List (Nat × LiveFn) := [
  (P.tier_shared_frames, fun s _ _ => s.sharedFrames),
  (P.tier_window_frames, fun s _ _ => s.windowFrames),
  (P.tier_free_frames, fun s _ _ => s.tmv.totalFrames - s.lostFrames - s.tmv.frames.length),
  (P.poisoned_segments, fun s _ _ => s.tmv.maps.countWhere fun _ e => e.mstate = .poisoned),
  (P.tier_capacity_gib, fun s _ _ => gib s.tmv.capacity),
  (P.tier_provisioned_gib, fun s _ _ => gib s.tmv.provisioned),
  (P.tier_stored_gib, fun s _ _ => gib s.tmv.stored),
  (P.tier_overcommit, fun s _ _ => flag s.tmv.overcommit)]

/-! ### Areas A to C -/

/-- A member other than this one that a usable route reaches. -/
def State.reaches (s : State) (m : Nat) (r : Route) : Bool := m != s.fab.member && !r.tentative && !(s.hopsTo m).isEmpty

/-- A route's tags agree with this member's configuration (R279). -/
def State.agrees (s : State) (r : Route) : Bool :=
  r.configEpoch.toNat == s.param P.fabric_config_epoch && r.digestTag.toNat == s.digestTag

def liveAreaA : List (Nat × LiveFn) := [
  (P.member_id, fun s _ _ => s.fab.member),
  (P.member_state, fun s _ _ => s.fab.state.code),
  (P.member_id_bound, fun s _ _ => flag s.fab.bound),
  (P.adjacencies, fun s _ _ => s.fab.adjs.countWhere fun _ a => a.state.usable),
  (P.adjacency_state, fun s _ k => (s.adj k).state.code),
  (P.members_reachable, fun s _ _ => 1 + s.fab.routes.countWhere s.reaches),
  (P.route_, fun s _ k => s.routeWord k),
  (P.fabric_qps_open, fun s _ _ => s.xpt.qps.countWhere fun _ q => q.state ≠ .free && q.ctx.kind == 1),
  (P.fabric_digest, fun s _ _ => leNat s.fabricDigest),
  (P.cfg_agree_members, fun s _ _ => 1 + s.fab.routes.countWhere fun m r => s.reaches m r && s.agrees r),
  (P.cfg_disagree_members, fun s _ _ => s.fab.routes.countWhere fun m r => s.reaches m r && !s.agrees r),
  (P.cfg_disagree_map, fun s _ _ => ((s.fab.routes.keysWhere fun m r => s.reaches m r && !s.agrees r).map (2 ^ ·)).sum),
  (P.ptp_state, fun s _ _ => s.fab.ptp.state.code),
  (P.ptp_offset_ns, fun s _ _ => twos 64 s.fab.ptp.offsetNs),
  (P.ptp_time_ns, fun s _ _ => if s.fab.ptp.state = .disabled then 0 else twos 64 (s.fab.ptp.baseNs + s.now))]

def liveAreaB : List (Nat × LiveFn) := [
  (P.dram_speed_mts, fun s _ _ => s.dram.speedMts),
  (P.dram_dpc, fun s _ _ => s.dram.dpc),
  (P.dram_channels, fun s _ _ => s.dram.channels),
  (P.dram_bytes, fun s _ _ => s.dramBytes),
  (P.dram_sets, fun s _ _ => s.nsets),
  (P.dram_train_state, fun s _ _ => s.dram.train.code),
  (P.scrub_progress_pct, fun s _ _ => 6400 * s.dram.scrubLine / s.dramBytes),
  (P.ppr_pending, fun s _ _ => s.dram.pprPending.length),
  (P.poisoned_lines, fun s _ _ => s.dram.poison.length),
  (P.mc_state, fun s i _ => (s.mc i).state.code),
  (P.mc_spd, fun s i k => leNat (if k = 0 then (s.mc i).spd0 else (s.mc i).spd1)),
  (P.mc_capacity_gib, fun s i _ => (s.mc i).capacityGib),
  (P.mc_remap_used, fun s i _ => (s.mc i).remaps.length),
  (P.mc_temp_c, fun s i _ => max (s.mc i).tempC0 (s.mc i).tempC1),
  (P.mc_first_err_loc, fun s i _ => (s.mc i).firstErrLoc.toNat),
  (P.mc_train_margin_ps, fun s i _ => (s.mc i).marginPs),
  (P.rq_empty_pct, fun s i _ => s.dram.emptyPct.getD i 0)]

/-- Mean erase count of a carrier's good blocks × 100 ÷ rated_pe. -/
def State.wearPct (s : State) (n : Nat) : Nat :=
  let c := s.carrier n
  100 * s.erasesOf n / (c.goodBlocks * c.ratedPe)

def liveAreaC : List (Nat × LiveFn) := [
  (P.carriers_ready, fun s _ _ => s.readyCarriers.length),
  (P.stripe_width, fun s _ _ => s.stripeWidth),
  (P.deep_usable_gib, fun s _ _ => gib s.usableDeep),
  (P.deep_stored_gib, fun s _ _ => gib ((s.flash.deep.map fun e => if e.2.noRead then 0 else e.2.units * 4096).sum)),
  (P.write_amp_milli, fun s _ _ => s.writeAmp),
  (P.save_area_low, fun s _ _ => flag s.flash.saveAreaLow),
  (P.exposed_segments, fun s _ _ => s.exposedCount),
  (P.car_state, fun s i _ => (s.carrier i).state.code),
  (P.car_refuse_reason, fun s i _ => (s.carrier i).refuseReason),
  (P.car_option_area, fun s i _ => leNat (s.carrier i).option),
  (P.car_civ, fun s i _ => (s.carrier i).civ),
  (P.car_raw_gib, fun s i _ => gib (s.carrier i).rawBytes),
  (P.car_spare_blocks, fun s i _ => (s.carrier i).spareBlocks),
  (P.car_retired_blocks, fun s i _ => (s.carrier i).retiredBlocks),
  (P.car_wear_pct, fun s i _ => s.wearPct i),
  (P.car_max_pe, fun s i _ => (s.carrier i).maxPe),
  (P.car_slot_usable_mib, fun s i _ => (s.carrier i).usableMib),
  (P.car_channels_fenced, fun s i _ => (s.carrier i).fenced.toNat)]

/-! ### Areas D to F -/

/-- Key of the capture of an instance of area E, from the number of its block less 0x400. -/
def captureKey (i : Nat) : Nat := (faultBlockOf i).1 * 256 + (faultBlockOf i).2

/-- The capture of an instance, all zero when it is CLEAR. -/
def State.captureWord (s : State) (i : Nat) : Nat :=
  match s.fco.captures.find? (captureKey i) with
  | some c => c.word
  | none => 0

/-- Occurrence counters of a STICKY parameter: 32 of 16 bits (R373). -/
def State.stickyWord (s : State) (num : Nat) : Nat := ((List.range 32).map fun b => place (16 * b) (s.flagCount num b)).sum

/-- Records held that a test accepts; a torn slot holds none. -/
def State.recordCount (s : State) (q : EvtRec → Bool) : Nat :=
  (s.evr.reserved ++ s.evr.general).countP fun r => !r.torn && q r

def liveAreaD : List (Nat × LiveFn) := [
  (P.lc_state, fun s _ _ => s.sec.lc.code),
  (P.lc_wipe_progress_pct, fun s _ _ => (s.sec.wipeZero + s.sec.wipeErase) / 2),
  (P.kill_fused, fun s _ _ => flag s.sec.killFused),
  (P.device_pubkey, fun s _ _ => octetSwap 97 (if s.sec.killFused then Config.killedPubkey else Config.devicePubkey).toNat),
  (P.fw_min_security, fun s _ _ => s.sec.minSecurity),
  (P.fw_slot_state, fun s _ k => (s.imageSlot (k == 1)).state.code)]

def liveAreaE : List (Nat × LiveFn) := [
  (P.blocks_captured, fun s _ _ => s.fco.captures.length),
  (P.last_fatal, fun s _ _ => match s.fco.lastFatal with | some c => c.word | none => 0),
  (P.fences_in_force, fun s _ _ => s.fco.fences.length),
  (P.sticky_counts, fun s _ k => s.stickyWord k),
  (P.evt_last_seq, fun s _ _ => s.evr.lastSeq),
  (P.evt_records_valid, fun s _ _ => s.recordCount fun _ => true),
  (P.evt_priv_records, fun s _ _ => s.recordCount (·.priv)),
  (P.operating_hours, fun s _ _ => s.evr.hours),
  (P.power_cycles, fun s _ _ => s.evr.cycles),
  (P.blk_fault_state, fun s i _ => flag (s.fco.captures.has (captureKey i))),
  (P.blk_first_error, fun s i _ => s.captureWord i)]

def liveAreaF : List (Nat × LiveFn) := [
  (P.tj_c, fun s _ k => twos 32 (s.thermal.sensors.getD k 0).toInt),
  (P.tj_max_c, fun s _ _ => twos 32 s.thermal.hottest),
  (P.tj_peak_c, fun s _ _ => twos 32 (s.thermal.peak.getD 0)),
  (P.tj_life_avg_c, fun s _ _ => twos 32 (s.thermal.lifeSum / s.thermal.samples)),
  (P.tj_hours_above_95, fun s _ _ => s.thermal.hotMs / 3600000)]

/-- The live parameters of an area. -/
def liveArea : Nat → List (Nat × LiveFn)
  | 0 => liveArea0 | 1 => liveArea1 | 2 => liveArea2 | 3 => liveArea3 | 4 => liveArea4 | 5 => liveArea5 | 6 => liveArea6
  | 7 => liveArea7 | 8 => liveArea8 | 9 => liveArea9 | 10 => liveAreaA | 11 => liveAreaB | 12 => liveAreaC | 13 => liveAreaD
  | 14 => liveAreaE | 15 => liveAreaF | _ => []

/-! ### The value of a parameter -/

/-- Effective value: a live value, a counter saturating at its width, flags, a stored value, or a constant. -/
def State.value (s : State) (p : Param) (num idx : Nat) : Nat :=
  if bit p.flags 3 then s.flags num
  else if p.access = .ro then
    match (liveArea (num / 2 ^ 28)).lookup p.num with
    | some f => f s ((num - p.num) / 65536) idx
    | none => if bit p.flags 2 then min (s.count num idx) (2 ^ (8 * p.len) - 1) else defaultOf num
  else s.param num idx

/-! ### UNAVAILABLE (R445) -/

/-- RO parameters of areas 4 to C that are constants or are held in CD39 or LGM. -/
def heldParams : List Nat := [
  P.pool_buf_size, P.save_reserve_mib, P.save_fixed_ms, P.awg_redo_mib, P.awg_rate_limit_per_s, P.lease_us, P.renew_us
  , P.lease_guard_ns, P.caller_quiet_us, P.recovery_records_max, P.erase_suspend_max, P.erase_suspend_total_ms, P.prog_suspend_max
  , P.prog_suspend_total_us, P.transport_area_bytes, P.port_mac_addr, P.grp_role, P.grp_epoch, P.grp_paired, P.member_id
  , P.member_id_bound, P.save_seq, P.save_record, P.mc_train_margin_ps, P.ppr_pending, P.mc_spd, P.car_spare_blocks
  , P.car_retired_blocks, P.car_max_pe]

/-- Clock domain of the block that produces a live value; none: the value is held in CD39 or LGM. -/
def liveDomain (p : Param) (num : Nat) : Option Nat :=
  let inst := (num - p.num) / 65536
  if p.access ≠ .ro || heldParams.contains p.num || (bit p.flags 2 && !bit p.flags 1) then none
  else match num / 2 ^ 28 with
    | 4 | 5 | 6 | 9 | 10 => some 4
    | 7 => if p.inst = 6 then some (5 + inst) else some 11
    | 8 => some 11
    | 11 => if p.inst = 16 ∧ p.num ≠ P.mc_state ∧ p.num ≠ P.mc_capacity_gib then some (14 + inst) else some 4
    | 12 => if p.inst = 8 ∧ p.num ≠ P.car_state ∧ p.num ≠ P.car_refuse_reason then some (30 + inst) else some 4
    | _ => none

/-- A READ of this parameter returns UNAVAILABLE for want of power. -/
def State.unavailable (s : State) (p : Param) (num : Nat) : Bool :=
  match liveDomain p num with
  | some d => s.gated d
  | none => false

end Sys2Proof.Machine
end

