-- ==== Sys2Proof/Machine/Reading.lean ====
section
/-!
DEFINITION. Requests that change no parameter: READ, MULTI_READ, DESCRIBE, DIGEST, subscriptions and their notifications
(R42, R43, R51–R58, R445).
-/

namespace Sys2Proof.Machine

/-! ### Value records -/

/-- Parameters that their chapters keep in LGM, besides the configuration store. -/
def lgmParams : List Nat := [
  P.cap_mf, P.cap_first_mf, P.cap_result_hours, P.unsaved_pending, P.power_log, P.power_log_next, P.fatal_stops, P.rail_failures
  , P.ramp_failures, P.sys_rst_events, P.last_fatal, P.evt_last_seq, P.operating_hours, P.power_cycles, P.tj_life_avg_c
  , P.tj_hours_above_95, P.thermtrip_events, P.lc_state, P.lc_transitions, P.boot_failures, P.entropy_failures, P.grp_role
  , P.grp_epoch, P.grp_paired, P.member_id, P.member_id_bound, P.save_seq, P.save_record, P.mc_train_margin_ps, P.ppr_pending
  , P.car_spare_blocks, P.car_retired_blocks, P.car_max_pe, P.car_bytes_programmed]

/-- Is the value read from LGM? -/
def State.inLgm (s : State) (p : Param) (num idx : Nat) : Bool :=
  match p.access with
  | .ro => lgmParams.contains p.num
  | .rw | .rwr => !bit p.flags 3 && !s.standby.has (pkey num idx)
  | .wo | .cmd => false

/-- Body of a result object (R55): state, length and data. -/
def Result.octets (r : Result) : Bytes :=
  let st := match r.state with | .idle => 0 | .pending => 1 | .done => 2 | .failed => 3 | .aborted => 4
  let data := if r.state = .pending then [] else r.data
  leBytes 1 st ++ leBytes 1 0 ++ leBytes 2 data.length ++ data

/-- What a read of an item shows: status, type code, value octets, and whether the value is staged. -/
structure Shown where
  status : Nat := Status.ok
  code : Nat := 0
  value : Bytes := []
  staged : Bool := false
  deriving DecidableEq, Repr

/-- Type code in the record of an item whose index does not exist: that of the parameter; 0 where the schema has no such parameter. -/
def State.knownCode (s : State) (slot num : Nat) : Nat :=
  let n := schemaNum (s.session slot).dsv num
  if n = P.sticky_counts then 10
  else match s.schemaParam slot num 0 with
    | some p => if p.access = .cmd then 10 else p.ty.code
    | none => 0

/-- Read an item of the schema; `staged`: the staged value of an RWR parameter is asked for (R35, R47, R446). -/
def State.show (s : State) (slot num idx : Nat) (staged : Bool) : Shown :=
  let n := schemaNum (s.session slot).dsv num
  match s.schemaParam slot num idx with
  | none => { status := Status.noSuchParam, code := s.knownCode slot num }
  | some p =>
    if !s.served n then { status := Status.noSuchParam }
    else if p.access = .wo then
      if p.ty = .key then { code := p.ty.code, value := List.replicate p.len 0 } else { status := Status.wrongKind, code := p.ty.code }
    else if s.unavailable p n || s.fwBlocked p then { status := Status.unavailable, code := if p.access = .cmd then 10 else p.ty.code }
    else if p.access = .cmd then { code := 10, value := (s.result n).octets }
    else match (if staged && p.access == .rwr then s.stagedParam n idx else none) with
      | some v => { code := p.ty.code, value := leBytes p.len v, staged := true }
      | none => { code := p.ty.code, value := leBytes p.len (s.value p n idx) }

/-- Value record of an item; a refused one carries length 0. -/
def Shown.record (v : Shown) (num idx : Nat) : Bytes :=
  valueRecord num idx v.status v.code (if v.status = Status.ok then v.value else [])

/-- What a read leaves behind: LGM is accessed, and `last_fatal` has been read. -/
def State.readMarks (s : State) (slot num idx : Nat) : State :=
  let n := schemaNum (s.session slot).dsv num
  match s.schemaParam slot num idx with
  | none => s
  | some p =>
    let s := if s.inLgm p n idx then s.touchLgm else s
    if p.num = P.last_fatal ∧ s.fco.lastFatalCold then s.modFco fun f => { f with lastFatalRead := true } else s

/-! ### READ and MULTI_READ -/

/-- READ of a CMD parameter: its result object (R56). -/
def State.readResult (s : State) (r : Req) (num : Nat) : State :=
  let o := s.result num
  if r.opSeq ≠ 0 ∧ r.opSeq.toNat ≠ o.opSeq then s.respond r .read Status.staleSequence o.opSeq false []
  else s.respond r .read (if o.state = .pending then Status.pending else Status.ok) o.opSeq false o.octets

/-- READ. -/
def State.readItem (s : State) (r : Req) : State :=
  let i := itemAt r.body
  let v := s.show r.slot i.1 i.2 r.staged
  let cmd : Bool := match s.schemaParam r.slot i.1 i.2 with
    | some p => p.access == .cmd
    | none => false
  if cmd ∧ v.status = Status.ok then s.readResult r (schemaNum (s.session r.slot).dsv i.1)
  else (s.respond r .read v.status 0 v.staged (v.record i.1 i.2)).readMarks r.slot i.1 i.2

def execRead (r : Req) (s : State) : Host.Outcome State Fault Refusal := .next (s.request r .read fun s => s.readItem r)

/-- Items of a MULTI_READ body. -/
def itemsOf (b : Bytes) : List (Nat × Nat) := (List.range (b.length / 8)).map fun k => itemAt b (8 * k)

/-- Records of the items, in order: from the first that would not leave room for the heads of the rest, TOO_LARGE (R43). -/
def State.records43 (s : State) (slot : Nat) (staged : Bool) : List (Nat × Nat) → Nat → Bool → List (Bytes × Bool)
  | [], _, _ => []
  | i :: t, used, big =>
    let v := s.show slot i.1 i.2 staged
    let rec_ := v.record i.1 i.2
    let big := big || 1264 < used + rec_.length + 12 * t.length
    let out := if big then valueRecord i.1 i.2 Status.tooLarge v.code [] else rec_
    (out, !big && v.staged) :: s.records43 slot staged t (used + out.length) big

/-- MULTI_READ: every item is read in one step, so nothing is applied between them. -/
def State.multiRead (s : State) (r : Req) : State :=
  let items := itemsOf r.body
  let l := s.records43 r.slot r.staged items 0 false
  items.foldl (fun s i => s.readMarks r.slot i.1 i.2) (s.respond r .multiRead Status.ok 0 (l.any (·.2)) (l.flatMap (·.1)))

def execMultiRead (r : Req) (s : State) : Host.Outcome State Fault Refusal := .next (s.request r .multiRead fun s => s.multiRead r)

/-! ### DESCRIBE (R58) -/

/-- Range bound in 64 bits, sign-extended for signed types; 0 for BYTES, STR and KEY. -/
def Param.bound (p : Param) (num : Nat) (top : Bool) : Nat :=
  if p.num = P.pool_count then (if top then (poolCountRange num).2 else (poolCountRange num).1)
  else match p.ty with
  | .bytes | .str | .key => 0
  | .s32 => if top then 2 ^ 31 - 1 else twos 64 (-(2 ^ 31 : Int))
  | .s64 => if top then 2 ^ 63 - 1 else twos 64 (-(2 ^ 63 : Int))
  | _ => match (if top then p.ranges.getLast? else p.ranges.head?) with
    | some r => if top then r.2 else r.1
    | none => 0

/-- Octets of a name. -/
def nameOctets (n : String) : Bytes := n.toList.map fun c => BitVec.ofNat 8 c.toNat

/-- Default of a parameter; that of a fused one is what the fuses or the mask hold (Table 2.10). -/
def fusedDefault (num : Nat) : Nat :=
  if num == P.device_stepping then Config.deviceStepping.toNat
  else if num == P.mgt_mac_addr then octetSwap 6 Config.mgtMac.toNat
  else if num == P.manufacture_date then Config.manufactureDate.toNat
  else if num == P.rom_version then Config.romVersion.toNat
  else defaultOf num

/-- Descriptor record of a parameter under the number that the session's schema gives it. -/
def Param.descriptor (p : Param) (num shown : Nat) : Bytes :=
  leBytes 4 shown ++ leBytes 1 p.ty.code ++ leBytes 1 p.access.code ++ leBytes 1 p.level ++
  leBytes 1 (place 5 (flag (bit p.flags 0)) + place 4 (flag (bit p.flags 1)) + place 3 (flag (bit p.flags 2)) +
    place 2 (flag (bit p.flags 3)) + place 1 (flag (bit p.flags 5)) + flag (bit p.flags 4)) ++
  leBytes 2 p.len ++ leBytes 2 p.modes ++ leBytes 4 p.count ++ leBytes 8 (if p.len ≤ 8 then fusedDefault num else 0) ++
  leBytes 8 (p.bound num false) ++ leBytes 8 (p.bound num true) ++ takePad 48 (nameOctets p.name) ++ leBytes 8 0

/-- The first number above `n` that a catalogue entry covers. -/
def Param.after (p : Param) (n : Nat) : Option Nat :=
  if n < p.num then some p.num
  else
    let k := (n - p.num) / 65536 + 1
    ((List.range (p.inst - k)).map fun i => perInst p.num (k + i)).find? p.covers

/-- Numbers of the negotiated schema above `n`: the nearest. -/
def State.nextNumber (s : State) (slot n : Nat) : Option Nat :=
  let known := fun (m : Nat) => (s.schemaParam slot m 0).isSome || m == P.sticky_counts
  if (s.session slot).dsv / 256 == 1 then (Config.previousSchema.map (·.1)).find? fun m => n < m && known m
  else
    let least : Option Nat → Nat → Option Nat := fun a m => match a with
      | some x => some (min x m)
      | none => some m
    (catalogue.filterMap fun p => match p.after n with
      | some m => if known m then some m else none
      | none => none).foldl least none

/-- DESCRIBE, of the parameter itself or of the next one. -/
def State.describe (s : State) (r : Req) : State :=
  let i := itemAt r.body
  let num := if r.staged then s.nextNumber r.slot i.1 else some i.1
  match num with
  | none => s.refuse r .describe Status.noSuchParam
  | some m =>
    let n := schemaNum (s.session r.slot).dsv m
    let idx := if n = P.sticky_counts then P.clk_status else if r.staged then 0 else i.2
    match s.schemaParam r.slot m idx with
    | none => s.refuse r .describe Status.noSuchParam
    | some p => if s.served n then s.respond r .describe Status.ok 0 false (p.descriptor n m) else s.refuse r .describe Status.noSuchParam

def execDescribe (r : Req) (s : State) : Host.Outcome State Fault Refusal := .next (s.request r .describe fun s => s.describe r)

/-! ### DIGEST (R57) -/

/-- Numbers of the RW and RWR parameters of the selected areas, less KEY and VOLATILE ones, in ascending order. -/
def coveredNumbers (mask : Nat) : List Nat :=
  (catalogue.flatMap fun p =>
    if (p.access == .rw || p.access == .rwr) && p.ty != .key && !bit p.flags 1 && bit mask (p.num / 2 ^ 28) then
      (List.range p.inst).map (perInst p.num)
    else []).foldr insertNat []

/-- Values hashed: number and index of each element. -/
def coveredItems (mask : Nat) : List (Param × Nat × Nat) :=
  (coveredNumbers mask).flatMap fun n =>
    match findParam n with
    | some p => (List.range p.count).map fun k => (p, n, k)
    | none => []

/-- DIGEST. DESIGN CHOICE (the spec is silent on a session of the previous major or of a lower minor): the numbers
hashed are those of the whole present catalogue in every session. -/
def State.digestReply (s : State) (r : Req) : State :=
  let mask := leAt r.body 0 2
  let scope := leAt r.body 2 1
  if scope = 2 then s.respond r .digest Status.ok 0 false (leBytes 4 16 ++ s.fabricDigest)
  else
    let l := coveredItems mask
    let val := fun (n k : Nat) => if scope = 1 then (s.stagedParam n k).getD (s.param n k) else s.param n k
    let h := sha256 (l.flatMap fun e => digestItem e.1 e.2.1 e.2.2 (val e.2.1 e.2.2))
    s.touchLgm.respond r .digest Status.ok 0 false (leBytes 4 l.length ++ h)

def execDigest (r : Req) (s : State) : Host.Outcome State Fault Refusal := .next (s.request r .digest fun s => s.digestReply r)

/-! ### Subscriptions (R51–R53) -/

/-- A free sub_id. -/
def State.freshSub (s : State) : Nat :=
  ((List.range 257).map fun i => (s.dxe.nextSub + i - 1) % 65534 + 1).find? (fun n => !s.dxe.subs.any (·.subId == n)) |>.getD 1

/-- SUBSCRIBE. The value at the subscription counts as the last one notified. -/
def State.subscribe (s : State) (r : Req) : State :=
  let i := itemAt r.body
  let periodic := leAt r.body 8 1 == 2
  let period := leAt r.body 12 4
  match s.schemaParam r.slot i.1 i.2 with
  | none => s.refuse r .subscribe Status.noSuchParam
  | some p =>
    if !s.served (schemaNum (s.session r.slot).dsv i.1) then s.refuse r .subscribe Status.noSuchParam
    else if p.access = .wo ∨ p.ty = .key then s.refuse r .subscribe Status.wrongKind
    else if periodic ∧ (period < 10 ∨ 3600000 < period) then s.refuse r .subscribe Status.outOfRange
    else if (s.dxe.subs.countP fun b => b.slot == r.slot.val) ≥ s.param P.subs_per_session_max ∨ s.dxe.subs.length ≥ 256 then
      s.refuse r .subscribe Status.limit
    else
      let id := s.freshSub
      let gap := max (leAt r.body 10 2) (s.param P.notify_min_interval_ms)
      let b : Sub :=
        { slot := r.slot, subId := id, param := i.1, index := i.2, periodic := periodic, intervalMs := leAt r.body 10 2, periodMs := period
          lastValue := (s.show r.slot i.1 i.2 false).record i.1 i.2 }
      (s.modDxe fun d => { d with subs := d.subs ++ [b], nextSub := id + 1 }).respond r .subscribe Status.ok 0 false
        (leBytes 2 id ++ leBytes 2 gap)

def execSubscribe (r : Req) (s : State) : Host.Outcome State Fault Refusal := .next (s.request r .subscribe fun s => s.subscribe r)

/-- UNSUBSCRIBE: one subscription of the session, or all. -/
def State.unsubscribe (s : State) (r : Req) : State :=
  let id := leAt r.body 0 2
  (s.modDxe fun d => { d with subs := d.subs.filter fun b => b.slot != r.slot.val || (id != 0xFFFF && b.subId != id) }).respond r .unsubscribe
    Status.ok 0 false []

def execUnsubscribe (r : Req) (s : State) : Host.Outcome State Fault Refusal := .next (s.request r .unsubscribe fun s => s.unsubscribe r)

/-- Send NOTIFY of a subscription with the value of this moment. -/
def State.notify (s : State) (b : Sub) : State :=
  let rec_ := (s.show b.slot b.param b.index false).record b.param b.index
  let t := s.session b.slot
  let seq := t.notifySeq + 1
  let body := leBytes 2 b.subId ++ leBytes 2 0 ++ rec_
  let msg := message MsgType.notify.code Status.ok (t.dsv / 256) (t.dsv % 256) 0 (seq % 2 ^ 32) false true body.length body
  ((s.sendDict b.slot msg).modSession b.slot fun t => { t with notifySeq := seq }).modDxe fun d =>
    { d with subs := d.subs.map fun x =>
        if x.slot == b.slot && x.subId == b.subId then { x with lastValue := rec_, lastSent := some s.now } else x }

/-- Is a NOTIFY of this ON_CHANGE subscription due: another value than the last one notified, and the effective interval
has passed? DESIGN CHOICE (the spec is silent on a later write of notify_min_interval_ms): the effective interval is
computed at each sample with the present value of the parameter. -/
def State.changed (s : State) (b : Sub) : Bool :=
  let gap := max b.intervalMs (s.param P.notify_min_interval_ms) * msNs
  !b.periodic && (s.show b.slot b.param b.index false).record b.param b.index != b.lastValue &&
  (match b.lastSent with
    | some t => decide (t + gap ≤ s.now)
    | none => true)

/-- The sample of every ON_CHANGE subscription (R52). -/
def execSubscriptionSample (s : State) : Host.Outcome State Fault Refusal :=
  .next (s.dxe.subs.foldl (fun s b => if s.changed b then s.notify b else s) s)

/-- A period of a PERIODIC subscription ends. -/
def execPeriodicNotify (slot : Fin 20) (subId : BitVec 16) (s : State) : Host.Outcome State Fault Refusal :=
  .next (match s.dxe.subs.find? fun b => b.slot == slot.val && b.subId == subId.toNat && b.periodic with
    | some b => s.notify b
    | none => s)

end Sys2Proof.Machine
end

