-- ==== Sys2Proof/Machine/RegionCommands.lean ====
section
/-!
DEFINITION. Meanings of the region and buffer commands (chapter 3).
-/

namespace Sys2Proof.Machine

def execRegionRegister (r : Req) (fwBacking : Option Nat) (s : State) : Host.Outcome State Fault Refusal :=
  .next (s.command r P.region_register fun num a s => s.registerRun num (leNat a) fwBacking)

def execRegionRekey (r : Req) (s : State) : Host.Outcome State Fault Refusal :=
  .next (s.command r P.region_rekey fun num a s => s.revokeRun num (leNat a) false)

def execRegionDeregister (r : Req) (s : State) : Host.Outcome State Fault Refusal :=
  .next (s.command r P.region_deregister fun num a s => s.revokeRun num (leNat a) true).settle

/-- `revoke_drain_timeout_ms` elapses (R85): queue pairs with a message of the old generation end it, and the drain completes. -/
def State.drainTimeout (s : State) (idx : Nat) : State :=
  match s.reg.drains.find? idx with
  | none => s
  | some dr =>
    let n := s.openUnder idx dr.oldGen
    if n = 0 then s.checkDrain idx
    else
      let s := s.modReg fun g => { g with drains := g.drains.set idx { dr with aborted := dr.aborted + n } }
      let holders := s.xpt.qps.keysWhere fun _ q => q.msgs.any fun m => m.keys.contains (idx, dr.oldGen)
      (holders.foldl (fun s q =>
        if (s.qp q).state = .closing then
          let mine := leNat (s.cmdArg P.qp_destroy) == q && s.running P.qp_destroy
          let k := (s.qp q).msgs.length
          let s := s.freeQp q
          if mine then s.done P.qp_destroy (leBytes 4 k) else s
        else s.enterError q Cause.revokeAbort) s).checkDrain idx

def execRevokeDrainTimeout (idx : BitVec 20) (s : State) : Host.Outcome State Fault Refusal := .next (s.drainTimeout idx.toNat).settle

/-- Byte address of a descriptor in the region table: one 64-byte line. -/
def State.descAddr (s : State) (idx : Nat) : Nat := s.areaLsn (64 * idx / segBytes) * segBytes + 64 * idx % segBytes

/-- First packets that wait for a descriptor. -/
def State.waitsFor (s : State) (idx : Nat) : List WaitPkt := s.xpt.waiting.filter fun w => w.idx == some idx

/-- A descriptor miss fill completes (R76). With its line uncorrected or poisoned, the first packets receive an RNR NAK until the line is
repaired, or, with no repair source, the region is LOST (Table 11.4). -/
def State.descFill (s : State) (idx : Nat) (bad : Bool) : State :=
  let l := s.waitsFor idx
  if l.isEmpty then s
  else
    let a := s.descAddr idx
    let s := s.rqCount 2 64
    let poisoned := s.dram.poison.contains (a / 64)
    let s := if bad && !poisoned then s.lineFault 2 a else s
    let qps := (l.map (·.qpn)).eraseDups
    if (bad || poisoned) && s.segState (a / segBytes) = .clean then
      let s := s.modXpt fun x => { x with waiting := x.waiting.filter fun w => !qps.contains w.qpn }
      l.foldl (fun s w => s.rnr w.qpn w.psn (s.param P.rnr_code)) s
    else
      let s := if bad || poisoned then s.loseRegion idx (s.desc idx).lengthSeg else s
      qps.foldl State.resumeQp (s.descTouch idx)

def execDescCacheFill (idx : BitVec 20) (uncorrected : Bool) (s : State) : Host.Outcome State Fault Refusal :=
  .next (s.descFill idx.toNat uncorrected).settle

/-- A free that BPM rejects (R91): a UCC fault with the bit that names the reason; the pool's state is unchanged. -/
def State.badFree (s : State) (pool b agent addr unit : Nat) : State :=
  let s := (s.bump (perInst P.pool_bad_frees pool)).setFlag (perInst P.pool_bad_free_status pool) b
  s.fault (faultMsg 0x22 pool .ucc Kind.badFree (2 ^ b) (.content unit) (some addr) (0x10 + agent) 7)

/-- Reads of a buffer have been issued and have not completed: the free of its owner takes effect when they have, which is when the
message or the job that holds it lets it go (R90). -/
def State.bufReads (s : State) (b : Nat × Nat) : Bool :=
  s.reg.holds.any (fun h => (h.pool, h.buf) == b && s.useReads h.use) ||
  s.xpt.qps.any fun e => e.2.msgs.any fun m => m.bufs.contains b && (m.outstanding > 0 || !m.jobs.isEmpty)

/-- A buffer is freed by its owner (R90). DESIGN CHOICE (R91 is silent): a free whose address lies in no pool is charged
to pool 0. -/
def State.bufferFree (s : State) (agent : Fin 8) (addr unit : Nat) : State :=
  match s.poolOf addr with
  | none => s.badFree 0 0 agent.val addr unit
  | some (p, k) =>
    let off := addr - s.poolBase p k
    let b := s.bufAt p k off
    if off % poolSize p ≠ 0 then s.badFree p 1 agent.val addr unit
    else match (s.pool p).held.find? b with
      | none => s.badFree p 2 agent.val addr unit
      | some o =>
        if o ≠ agent then s.badFree p 3 agent.val addr unit
        else if s.bufReads (p, b) then s
        else
          ((s.freeBuf (p, b)).modReg fun g => { g with holds := g.holds.filter fun h => !(h.pool == p && h.buf == b) }).modXpt fun x =>
            { x with qps := x.qps.mapVals fun _ q =>
                { q with msgs := q.msgs.map fun m => { m with bufs := m.bufs.filter (· != (p, b)) } } }

def execBufferFree (agent : Fin 8) (addr : BitVec 64) (unit : BitVec 32) (s : State) : Host.Outcome State Fault Refusal :=
  .next (s.bufferFree agent addr.toNat unit.toNat).settle

/-- Reel has written zeros over a new SCRATCH backing (R447). -/
def State.scratchZeroed (s : State) (idx : Nat) : State :=
  match s.reg.pendingReg with
  | some p =>
    if p.idx = idx ∧ p.waitZero then
      let s := (s.dramZero p.desc.backing (segBytes * p.desc.lengthSeg)).rqCount 11 (segBytes * p.desc.lengthSeg)
      (s.modReg fun g => { g with pendingReg := some { p with waitZero := false } }).checkRegister
    else s
  | none => s

def execScratchZeroFillComplete (idx : BitVec 20) (s : State) : Host.Outcome State Fault Refusal := .next (s.scratchZeroed idx.toNat)

end Sys2Proof.Machine
end

