-- ==== Sys2Proof/Machine/Transport.lean ====
section
/-!
DEFINITION. Meanings of the transport commands: ports, queue pairs, completion queues, their cache and their timers (R96–R109,
R114, R117–R121).
-/

namespace Sys2Proof.Machine

/-! ### Ports -/

/-- A port's domain is out: gated, fenced, or in reset. -/
def State.portHeld (s : State) (p : Nat) : Bool :=
  s.gated (5 + p) || s.rst.fenced.contains (5 + p) || s.rst.inReset.contains (5 + p)

/-- PCS lane alignment and FEC lock are held (R96). -/
def State.hostLinkUp (s : State) (p : Nat) : State :=
  if s.portHeld p ∨ (s.port p).linkUp then s
  else (s.modPort p fun h => { h with linkUp := true }).event 0x3040 p [1]

def execPortLinkUp (port : Fin 4) (s : State) : Host.Outcome State Fault Refusal := .next (s.hostLinkUp port.val)

def execPortLinkDown (port : Fin 4) (s : State) : Host.Outcome State Fault Refusal := .next (s.hostLinkDown port.val)

/-! ### Contexts as images (Tables 4.3 and 4.8) -/

/-- The context that a 512-byte image gives: its C fields. -/
def ctxOf (w : Nat) : QpCtx :=
  { cookie := BitVec.ofNat 64 (bits w 2623 2560), saIn := BitVec.ofNat 384 (bits w 2559 2176)
    saOut := BitVec.ofNat 384 (bits w 2175 1792), predQpn := BitVec.ofNat 18 (bits w 1361 1344), psnOut := bits w 919 896
    vlanEn := bit w 895, pcp := BitVec.ofNat 3 (bits w 894 892), vid := BitVec.ofNat 12 (bits w 891 880)
    peerMac := BitVec.ofNat 48 (octetSwap 6 (bits w 879 832)), hopLimit := BitVec.ofNat 8 (bits w 823 816)
    udpSport := BitVec.ofNat 16 (bits w 815 800), trafficClass := BitVec.ofNat 8 (bits w 799 792)
    destQpn := BitVec.ofNat 24 (bits w 791 768), localIp := BitVec.ofNat 128 (octetSwap 16 (bits w 767 640))
    peerIp := BitVec.ofNat 128 (octetSwap 16 (bits w 639 512)), spiOut := BitVec.ofNat 32 (bits w 255 224)
    spiIn := BitVec.ofNat 32 (bits w 223 192), cqBound := bit w 146, cq := BitVec.ofNat 18 (bits w 145 128)
    mtu := BitVec.ofNat 3 (bits w 50 48), pd := BitVec.ofNat 16 (bits w 47 32), inherit := bit w 28, ipsec := bit w 24
    kind := BitVec.ofNat 2 (bits w 23 22) }

/-- Every D and Reserved field of a context image is zero. -/
def ctxClean (w : Nat) : Bool :=
  [(4095, 2624), (1791, 1362), (1343, 1221), (1215, 1184), (1087, 920), (831, 824), (511, 256), (191, 147), (127, 88), (63, 51),
   (31, 29), (27, 25), (21, 18)].all fun r => bits w r.1 r.2 == 0

/-- The C fields of a context image lie in their ranges; a HOST queue pair has psn_out 0, and no image creates a FABRIC one (R271). -/
def ctxRanges (w : Nat) : Bool :=
  let c := ctxOf w
  let log2 := bits w 1220 1216
  c.kind == 0 && c.psnOut == 0 && 1 ≤ c.mtu.toNat && c.mtu.toNat ≤ 5 && (log2 == 0 || (6 ≤ log2 && log2 ≤ 16)) &&
  bits w 1183 1120 % 64 == 0 && (!c.vlanEn || (1 ≤ c.vid.toNat && c.vid.toNat ≤ 4094)) && 1 ≤ c.hopLimit.toNat &&
  49152 ≤ c.udpSport.toNat && c.trafficClass.toNat % 4 == 0 && 256 ≤ c.spiOut.toNat && 256 ≤ c.spiIn.toNat

/-- First QPN of the fabric range under the effective and the staged `qp_max` (R129, R271). -/
def State.fabricRange (s : State) : Nat :=
  let top := match s.stagedParam P.qp_max with
    | some v => min v (s.param P.qp_max)
    | none => s.param P.qp_max
  top - s.param P.fabric_qp_slots

/-- First failure reason of `qp_create` in its order (R107, Table 4.5). `saOk`: both wrapped keys pass their integrity check. -/
def State.qpCreateFails (s : State) (w : Nat) (saOk : Bool) : Option Nat :=
  let c := ctxOf w
  let n := bits w 17 0
  let gga := bits w 1183 1120
  let ak := bits w 1119 1088
  let log2 := bits w 1220 1216
  let ring := 32 * 2 ^ log2 + 64
  if n ≥ s.fabricRange then some 0x04
  else if (s.qp n).state ≠ .free then some 0x01
  else if !ctxClean w ∨ !ctxRanges w ∨ !saOk then some 0x03
  else if (s.portOfIp c.localIp.toNat).isNone then some 0x05
  else if (!c.ipsec ∧ !s.paramOn P.plaintext_allowed) ∨ s.xpt.qps.any (fun e => e.2.state ≠ .free && e.2.ctx.spiIn == c.spiIn) then
    some 0x06
  else if c.cqBound ∧ (s.cq c.cq.toNat).state ≠ .ready then some 0x07
  else if log2 ≠ 0 ∧ (!s.ringRegion gga ak ring ∨
      (s.placementCheck { pd := c.pd, ak := ak, gga := gga, len := ring, need := { read := true } }).isSome) then some 0x08
  else if c.inherit ∧ ((s.qp c.predQpn.toNat).state ≠ .error ∨ c.predQpn.toNat = n ∨ (s.qp c.predQpn.toNat).logDead) then some 0x09
  else none

/-- Create a queue pair (R107, Table 4.7). The context holds the SA keys as CRY wraps them again under CWK (R349). -/
def State.qpCreateRun (s : State) (num w : Nat) (saOk : Bool) : State :=
  let key := s.param P.sa_wrap_key
  let c := { ctxOf w with saIn := Config.rewrapSa key (ctxOf w).saIn, saOut := Config.rewrapSa key (ctxOf w).saOut }
  let n := bits w 17 0
  match s.qpCreateFails w saOk with
  | some r => s.failed num r
  | none =>
    let q : Qp :=
      { state := .ready, ctx := c, port := (s.portOfIp c.localIp.toNat).getD 0
        ring := { gga := BitVec.ofNat 64 (bits w 1183 1120), ak := BitVec.ofNat 32 (bits w 1119 1088), log2 := bits w 1220 1216 }
        epsn := bits w 87 64, inheritDeadline := if c.inherit then s.now + s.param P.inherit_window_ms * msNs else 0 }
    let s := s.modQp n fun _ => q
    let s := if c.cqBound then s.modCq c.cq.toNat fun k => { k with boundQps := k.boundQps + 1 } else s
    let s := if c.inherit then s.modQp c.predQpn.toNat fun p => { p with state := .retained } else s
    s.done num (leBytes 4 n)

def execQpCreate (r : Req) (saOk : Bool) (s : State) : Host.Outcome State Fault Refusal :=
  .next (s.command r P.qp_create fun num a s => s.qpCreateRun num (leNat a) saOk)

/-- The successor that inherits from a queue pair. -/
def State.successors (s : State) (n : Nat) : List Nat :=
  s.xpt.qps.keysWhere fun _ q => q.ctx.inherit && q.ctx.predQpn.toNat == n

/-- `qp_destroy` (Table 4.7): a READY queue pair closes, and is FREE once its messages have ended. -/
def State.qpDestroyRun (s : State) (num n : Nat) : State :=
  match (s.qp n).state with
  | .free => s.failed num 0x02
  | .ready => ((s.modQp n fun q => { q with state := .closing }).endInherit n).release n
  | .error => (s.freeQp n).done num (leBytes 4 0)
  | .retained =>
    let s := (s.successors n).foldl (fun s k => s.modQp k fun q =>
      { q with inheritDeadline := 0, ctx := { q.ctx with inherit := false } }) s
    (s.freeQp n).done num (leBytes 4 0)
  | .closing => s.failed num 0x0A

def execQpDestroy (r : Req) (s : State) : Host.Outcome State Fault Refusal :=
  .next (s.command r P.qp_destroy fun num a s => s.qpDestroyRun num (leNat a))

/-- `qp_force_error` (R107, Table 4.7). -/
def State.qpForceErrorRun (s : State) (num n : Nat) : State :=
  match (s.qp n).state with
  | .free => s.failed num 0x02
  | .ready => (s.enterError n Cause.forced).done num
  | _ => s.failed num 0x0A

def execQpForceError (r : Req) (s : State) : Host.Outcome State Fault Refusal :=
  .next (s.command r P.qp_force_error fun num a s => s.qpForceErrorRun num (leNat a))

/-! ### Completion queues -/

/-- The completion queue that a 64-byte image gives. -/
def cqOf (w : Nat) : Cq :=
  { cookie := BitVec.ofNat 64 (bits w 447 384), log2 := bits w 133 128, ringGga := BitVec.ofNat 64 (bits w 127 64)
    ringAk := BitVec.ofNat 32 (bits w 63 32) }

def cqClean (w : Nat) : Bool :=
  [(511, 448), (383, 134), (31, 18)].all fun r => bits w r.1 r.2 == 0

/-- First failure reason of `cq_create` in its order. -/
def State.cqCreateFails (s : State) (w : Nat) : Option Nat :=
  let c := cqOf w
  if (s.cq (bits w 17 0)).state ≠ .free then some 0x01
  else if !cqClean w ∨ c.log2 < 6 ∨ 22 < c.log2 ∨ c.ringGga.toNat % 64 ≠ 0 then some 0x03
  else if !s.ringRegion c.ringGga.toNat c.ringAk.toNat (32 * c.size + 64) then some 0x08
  else none

/-- Zero a range of a region. -/
def State.regionZero (s : State) (idx off len : Nat) : State :=
  let s := s.present idx off len
  let t := (pieces off len).foldl (fun s p => match s.addrIn idx p.1 with | some a => s.dramZero a p.2 | none => s) s
  t.wroteRange s idx off len

/-- Create a completion queue: ring and control line are zeroed (R117). -/
def State.cqCreateRun (s : State) (num w : Nat) : State :=
  let c := cqOf w
  let n := bits w 17 0
  let s := s.descUse (akIndex c.ringAk.toNat)
  match s.cqCreateFails w, s.ringAt c.ringGga.toNat c.ringAk.toNat (32 * c.size + 64) with
  | none, some (idx, off) =>
    ((s.regionZero idx off (32 * c.size + 64)).modCq n fun _ => { c with state := .ready }).done num (leBytes 4 n)
  | some r, _ => s.failed num r
  | none, none => s.failed num 0x08

def execCqCreate (r : Req) (s : State) : Host.Outcome State Fault Refusal :=
  .next (s.command r P.cq_create fun num a s => s.cqCreateRun num (leNat a))

/-- `cq_destroy` (Table 4.5). -/
def State.cqDestroyRun (s : State) (num n : Nat) : State :=
  if (s.cq n).state = .free then s.failed num 0x02
  else if (s.cq n).boundQps > 0 then s.failed num 0x0B
  else ((s.modXpt fun x => { x with cqs := x.cqs.del n }).dirtySeg (s.cqSeg n)).done num

def execCqDestroy (r : Req) (s : State) : Host.Outcome State Fault Refusal :=
  .next (s.command r P.cq_destroy fun num a s => s.cqDestroyRun num (leNat a))

/-! ### Timers and fills -/

/-- `qp_close_timeout_ms` elapses (R108): what is in progress ends, and `qp_destroy` reports the messages aborted. -/
def State.qpCloseTimeout (s : State) (n : Nat) : State :=
  let q := s.qp n
  if q.state = .closing then
    let mine := leNat (s.cmdArg P.qp_destroy) == n && s.running P.qp_destroy
    let s := s.freeQp n
    if mine then s.done P.qp_destroy (leBytes 4 q.msgs.length) else s
  else s

def execQpCloseTimeout (qpn : BitVec 18) (s : State) : Host.Outcome State Fault Refusal := .next (s.qpCloseTimeout qpn.toNat)

def execInheritDeadlinePassed (qpn : BitVec 18) (s : State) : Host.Outcome State Fault Refusal := .next (s.endInherit qpn.toNat)

def State.waitDeadline (s : State) (n : Nat) : State :=
  if (s.qp n).wait.active then s.enterError n Cause.waitTimeout else s

def execWaitDeadlinePassed (qpn : BitVec 18) (s : State) : Host.Outcome State Fault Refusal := .next (s.waitDeadline qpn.toNat).settle

/-- Byte address of a context entry (R102). -/
def State.ctxAddr (s : State) (n : Nat) : Nat := s.ctxSeg n * segBytes + n % 128 * 512

/-- A miss fill completes (R104): the victim is written back, the slot is filled, and the waiting packets go on. With the line
uncorrected or poisoned the queue pair enters ERROR, and its log cannot be inherited (Table 11.4). -/
def State.qccFill (s : State) (n : Nat) (bad : Bool) : State :=
  if s.qccHas n ∨ !(s.xpt.waiting.any fun w => w.qpn == n && w.idx.isNone) then s
  else if s.xpt.qcc.length ≥ qccSlots ∧ s.qccVictim.isNone then s
  else
    let old := if s.xpt.qcc.length ≥ qccSlots then s.qccVictim else none
    let back := s.xpt.qcc.any fun t => some t.qpn == old && t.modified
    let s := if back then s.rqCount 3 qccSlotBytes else s
    let s := s.modXpt fun x => { x with qcc := { qpn := n } :: x.qcc.filter fun t => some t.qpn != old }
    let s := s.rqCount 3 qccSlotBytes
    let a := s.ctxAddr n
    let poisoned := s.dram.poison.contains (a / 64)
    let s := if bad ∨ poisoned then
        (((if poisoned then s else s.lineFault 3 a).modQp n fun q => { q with logDead := true })).enterError n Cause.channelHalt
      else s
    s.resumeQp n

def execQccFill (qpn : BitVec 18) (uncorrected : Bool) (s : State) : Host.Outcome State Fault Refusal :=
  .next (s.qccFill qpn.toNat uncorrected).settle

/-- The control line of a CQ with pending entries is read again, and the free slots take them (R119). -/
def State.cqControl (s : State) (n : Nat) : State :=
  let c := s.cq n
  if c.pending.isEmpty ∨ c.state ≠ .ready then s else s.cqRefresh n

def execCqControlReread (cqn : BitVec 18) (s : State) : Host.Outcome State Fault Refusal := .next (s.cqControl cqn.toNat)

end Sys2Proof.Machine
end

