-- ==== Sys2Proof/Machine/Writing.lean ====
section
/-!
DEFINITION. WRITE (R44–R48, R372, R374, R446) and the parameters whose writes have an effect of their own (R278, R310, R351–R353,
R368).
-/

namespace Sys2Proof.Machine

/-! ### Range checks that rules state (R446) -/

/-- Bytes of the buffer pools first … last with the count of pool `i` replaced, the others staged or effective (R87). -/
def State.poolBytes (s : State) (first last i v : Nat) : Nat :=
  ((List.range (last + 1 - first)).map fun k =>
    let n := perInst P.pool_count (first + k)
    poolSize (first + k) * (if first + k = i then v else (s.stagedParam n).getD (s.param n))).sum

/-- Range checks that involve more than the parameter's own range. -/
def State.writeRange (s : State) (p : Param) (num idx v : Nat) : Bool :=
  if p.num = P.pool_count then
    let i := (num - p.num) / 65536
    let b := poolCountRange num
    decide (b.1 ≤ v ∧ v ≤ b.2) && (if i < 4 then s.poolBytes 0 3 i v ≤ 96 * 2 ^ 20 else s.poolBytes 4 7 i v ≤ 2 ^ 32)
  else if num = P.qp_max then
    v % 1024 == 0 && !s.xpt.qps.any fun e => e.2.state ≠ .free && e.2.ctx.kind == 0 && decide (v - s.param P.fabric_qp_slots ≤ e.1)
  else if num = P.fabric_qp_slots then v + 1024 ≤ s.param P.qp_max
  else if num = P.mark_high_pct then s.param P.mark_low_pct < v
  else if num = P.mark_low_pct then v < s.param P.mark_high_pct
  else if num = P.pfc_xon_kib then v < s.param P.pfc_xoff_kib
  else if num = P.pfc_xoff_kib then s.param P.pfc_xon_kib < v
  else if num = P.cache_free_high_pct then s.param P.cache_free_low_pct < v
  else if num = P.cache_free_low_pct then v < s.param P.cache_free_high_pct
  else if num = P.tier_dram_gib then (v == 0 && s.windowFrames == 0) || decide (s.windowFrames + 128 * 16384 ≤ v * 16384)
  else if num = P.mirror_retx_us then v < s.param P.mirror_ack_timeout_us
  else if num = P.feed_ok_mv then s.param P.feed_uv_mv < v
  else if num = P.feed_uv_mv then v < s.param P.feed_ok_mv
  else if num = P.sns_ratio_milli then decide (idx < 14) || v == 1000
  else if num = P.evt_limit_override then
    let code := bits v 31 16
    code == 0 || (1 ≤ bits v 7 0 && !(eventClass code).2 && code % 256 != 0x0E)
  else if num = P.twin_tx_an then s.sec.sakWritten.contains (2 * idx + v)
  else if num = P.mc_fence then v < 65536
  else true

/-- A write that only a Factory session may make: of an anchor at Factory level, or of the level of such an anchor (R353). -/
def State.factoryWrite (s : State) (num idx v : Nat) : Bool :=
  (num == P.trust_anchor || num == P.trust_anchor_level) && s.param P.trust_anchor_level idx == 3 ||
  num == P.trust_anchor_level && v == 3

/-- Is the STANDBY store full for this element (R48)? -/
def State.standbyFull (s : State) (num idx : Nat) : Bool :=
  s.mode == .standby && !s.standby.has (pkey num idx) && decide (64 ≤ s.standby.length)

/-- First refusal of a WRITE to a parameter of the schema, in the order of R446. -/
def State.writeRefusal (s : State) (r : Req) (p : Param) (num idx : Nat) : Option Nat :=
  let v := leNat r.args
  let level := (s.session r.slot).level
  if p.access = .cmd then some Status.wrongKind
  else if p.access = .ro then some Status.notWritable
  else if level < p.level ∨ (s.factoryWrite num idx v ∧ level < 3) then some Status.accessDenied
  else if !bit p.modes s.mode.code ∨ (num = P.twin_member ∧ s.mir.groups.any fun e => e.2.paired) then some Status.wrongMode
  else if r.args.length ≠ p.len then some Status.length
  else if !p.inRange v || enumUnknown (s.session r.slot).dsv p num v || !s.writeRange p num idx v then some Status.outOfRange
  else if s.fwBlocked p then some Status.unavailable
  else if !bit p.flags 3 && s.standbyFull num idx then some Status.busy
  else none

/-! ### Effects -/

/-- Condition bits of a STICKY parameter whose state holds (R374). -/
def State.conditions (s : State) (p : Param) (num : Nat) : Nat :=
  let i := (num - p.num) / 65536
  if p.num = P.blk_fault_status then (if s.fco.fences.contains (captureKey i) then 2 ^ 4 else 0)
  else if p.num = P.clk_status then (if s.rst.clkFenced.isEmpty then 0 else 2 ^ 4)
  else if p.num = P.car_err_status then (if (s.carrier i).fenced = 0 then 0 else 2 ^ 5)
  else 0

/-- A CAPTURED instance with no clearing bit left becomes CLEAR (Table 14.5). -/
def State.clearCapture (s : State) (num i : Nat) : State :=
  match s.fco.captures.find? (captureKey i) with
  | none => s
  | some c =>
    if bits (s.flags num) 5 1 ≠ 0 then s
    else
      let b := faultBlockOf i
      (s.modFco fun x => { x with captures := x.captures.del (captureKey i) }).event 0x0140 0 [b.1, b.2, c.merges]

/-- A WRITE of a STICKY parameter: the bits written as 1 are cleared, and a condition bit whose state holds is set again. -/
def State.clearSticky (s : State) (p : Param) (num v : Nat) : State :=
  let held := s.conditions p num &&& v
  let s := s.clearFlags num v
  let s := (List.range 32).foldl (fun s b => s.setFlagIf (bit held b) num b) s
  if p.num = P.blk_fault_status then s.clearCapture num ((num - p.num) / 65536) else s

/-- `fabric_key_tx` changes: towards a neighbour with a higher nonce this member is the lower one, and the adjacency falls to INIT as for
a new nonce (R351). -/
def State.keySlotChanged (s : State) : State :=
  if !s.fabOn then s
  else (s.fab.adjs.keysWhere fun _ a => a.state.usable && decide (s.fab.nonce < a.nonce)).foldl (fun s k =>
    let s := (s.loseHop k).modAdj k fun a => { a with state := .init, saUp := false }
    s.sendFabHello (hopOf k).port (some (hopOf k).slot) (some (s.adj k).nonce)) s

/-- What the write of an effective value does beyond storing it. -/
def State.writeEffect (s : State) (num idx old v : Nat) : State :=
  if fabricScope.contains num || num == P.fabric_config_epoch then (if s.fabOn && old != v then s.rejudge else s)
  else if num = P.mc_fence then s.mcFenceWrite old v
  else if num = P.fabric_key_tx then (if old = v then s else s.keySlotChanged)
  else if num = P.twin_sak then s.modSec fun x => { x with sakWritten := insertNat idx x.sakWritten, twinPn := x.twinPn.set idx 1 }
  else s

/-- Store an accepted value: in CD39 while in STANDBY, and in RAMP while the STANDBY store still holds the element; staged for RWR; and
otherwise in LGM (R45–R48). -/
def State.storeValue (s : State) (p : Param) (num idx v : Nat) : State :=
  let old := s.param num idx
  if s.mode = .standby ∨ s.standby.has (pkey num idx) then
    ({ s with standby := s.standby.set (pkey num idx) (decide (p.access = PAccess.rwr), v) }).writeEffect num idx old v
  else if p.access = .rwr then { s with staged := s.staged.set (pkey num idx) v }
  else (s.setCfg num idx v).writeEffect num idx old v

/-- Apply an accepted WRITE and answer it. -/
def State.applyWrite (s : State) (r : Req) (p : Param) (num idx : Nat) : State :=
  let v := leNat r.args
  let s := if bit p.flags 3 then s.clearSticky p num v else s.storeValue p num idx v
  let st := if p.access = .rwr then Status.acceptedStaged else Status.ok
  (s.respond r .write st 0 false []).levelWrite r.slot num idx

/-- A WRITE request: refused, or applied at the arbitration point (R45). -/
def State.writeRequest (s : State) (r : Req) : State :=
  s.request r .write fun s =>
    let i := itemAt r.body
    let num := schemaNum (s.session r.slot).dsv i.1
    match s.schemaParam r.slot i.1 i.2 with
    | none => s.refuse r .write Status.noSuchParam
    | some p =>
      if !s.served num then s.refuse r .write Status.noSuchParam
      else match s.writeRefusal r p num i.2 with
        | some st => s.refuse r .write st
        | none => s.applyWrite r p num i.2

/-! ### The rows -/

/-- WRITE of a parameter that has no row of its own. -/
def execWrite (r : Req) (s : State) : Host.Outcome State Fault Refusal := .next (s.writeRequest r).settle

/-- WRITE of a STICKY parameter. -/
def execStickyFlagClear (r : Req) (s : State) : Host.Outcome State Fault Refusal := .next (s.writeRequest r)

/-- WRITE of `trust_anchor` or `trust_anchor_level`. -/
def execTrustAnchorWrite (r : Req) (s : State) : Host.Outcome State Fault Refusal := .next (s.writeRequest r)

/-- WRITE of `fabric_key_tx`. -/
def execFabricKeyTxWrite (r : Req) (s : State) : Host.Outcome State Fault Refusal := .next (s.writeRequest r).settle

/-- WRITE of `twin_tx_an`. -/
def execTwinTxAnWrite (r : Req) (s : State) : Host.Outcome State Fault Refusal := .next (s.writeRequest r)

/-- WRITE of `mc_fence`. -/
def execMcFenceWrite (r : Req) (s : State) : Host.Outcome State Fault Refusal := .next (s.writeRequest r).settle

/-- WRITE of `blk_fault_status`. -/
def execBlkFaultStatusClear (r : Req) (s : State) : Host.Outcome State Fault Refusal := .next (s.writeRequest r)

end Sys2Proof.Machine
end

