-- ==== Sys2Proof/Machine/Dispatch.lean ====
section
/-!
DEFINITION. Dispatch: one arm per command, each a direct call of that command's meaning.
-/

namespace Sys2Proof.Machine

/-- The effect of a command on everything but the queue of waiting commands. -/
def exec (i : Instr) (s : State) : Host.Outcome State Fault Refusal :=
  match i with
  | .mgtFrameReceived k => Sys2Proof.Machine.execMgtFrameReceived k s
  | .clientHello peerAddr peerPort cookieValid => Sys2Proof.Machine.execClientHello peerAddr peerPort cookieValid s
  | .handshakeComplete slot chain => Sys2Proof.Machine.execHandshakeComplete slot chain s
  | .handshakeTimeout slot => Sys2Proof.Machine.execHandshakeTimeout slot s
  | .dtlsRetransmitTimer slot => Sys2Proof.Machine.execDtlsRetransmitTimer slot s
  | .closeNotify slot => Sys2Proof.Machine.execCloseNotify slot s
  | .sessionIdleTimeout slot => Sys2Proof.Machine.execSessionIdleTimeout slot s
  | .dictHello r => Sys2Proof.Machine.execDictHello r s
  | .read r => Sys2Proof.Machine.execRead r s
  | .write r => Sys2Proof.Machine.execWrite r s
  | .multiRead r => Sys2Proof.Machine.execMultiRead r s
  | .subscribe r => Sys2Proof.Machine.execSubscribe r s
  | .unsubscribe r => Sys2Proof.Machine.execUnsubscribe r s
  | .digest r => Sys2Proof.Machine.execDigest r s
  | .describe r => Sys2Proof.Machine.execDescribe r s
  | .subscriptionSample => Sys2Proof.Machine.execSubscriptionSample s
  | .periodicNotify slot subId => Sys2Proof.Machine.execPeriodicNotify slot subId s
  | .windowOpenDoorbell win cluster => Sys2Proof.Machine.execWindowOpenDoorbell win cluster s
  | .windowCloseDoorbell win => Sys2Proof.Machine.execWindowCloseDoorbell win s
  | .mgtApply r => Sys2Proof.Machine.execMgtApply r s
  | .sessionCloseAll r => Sys2Proof.Machine.execSessionCloseAll r s
  | .sessionRevalidate r => Sys2Proof.Machine.execSessionRevalidate r s
  | .sessClose r => Sys2Proof.Machine.execSessClose r s
  | .stickyFlagClear r => Sys2Proof.Machine.execStickyFlagClear r s
  | .trustAnchorWrite r => Sys2Proof.Machine.execTrustAnchorWrite r s
  | .fabricKeyTxWrite r => Sys2Proof.Machine.execFabricKeyTxWrite r s
  | .twinTxAnWrite r => Sys2Proof.Machine.execTwinTxAnWrite r s
  | .mcFenceWrite r => Sys2Proof.Machine.execMcFenceWrite r s
  | .regionRegister r fwBacking => Sys2Proof.Machine.execRegionRegister r fwBacking s
  | .regionRekey r => Sys2Proof.Machine.execRegionRekey r s
  | .regionDeregister r => Sys2Proof.Machine.execRegionDeregister r s
  | .revokeDrainTimeout idx => Sys2Proof.Machine.execRevokeDrainTimeout idx s
  | .descCacheFill idx uncorrected => Sys2Proof.Machine.execDescCacheFill idx uncorrected s
  | .bufferFree agent addr unit => Sys2Proof.Machine.execBufferFree agent addr unit s
  | .send p pos imm data => Sys2Proof.Machine.execSend p pos imm data s
  | .rdmaWrite p pos reth data => Sys2Proof.Machine.execRdmaWrite p pos reth data s
  | .rdmaWriteWithImmediate p only reth imm data => Sys2Proof.Machine.execRdmaWriteWithImmediate p only reth imm data s
  | .rdmaReadRequest p reth => Sys2Proof.Machine.execRdmaReadRequest p reth s
  | .compareSwap p h => Sys2Proof.Machine.execCompareSwap p h s
  | .fetchAdd p h => Sys2Proof.Machine.execFetchAdd p h s
  | .hxvOffer p o0 o1 o2 o3 => Sys2Proof.Machine.execHxvOffer p o0 o1 o2 o3 s
  | .dwrite p pos gxh data => Sys2Proof.Machine.execDwrite p pos gxh data s
  | .flush p gxh => Sys2Proof.Machine.execFlush p gxh s
  | .cas16 p gxh compare swap => Sys2Proof.Machine.execCas16 p gxh compare swap s
  | .awg p pos gxh data => Sys2Proof.Machine.execAwg p pos gxh data s
  | .wait p threshold cqn => Sys2Proof.Machine.execWait p threshold cqn s
  | .tread p gxh => Sys2Proof.Machine.execTread p gxh s
  | .invalidOpcode p op => Sys2Proof.Machine.execInvalidOpcode p op s
  | .cnpReceived p => Sys2Proof.Machine.execCnpReceived p s
  | .fabricAckReceived d qpn psn => Sys2Proof.Machine.execFabricAckReceived d qpn psn s
  | .fabricNakReceived d qpn psn syndrome => Sys2Proof.Machine.execFabricNakReceived d qpn psn syndrome s
  | .fabricReadResponse d qpn psn last data => Sys2Proof.Machine.execFabricReadResponse d qpn psn last data s
  | .fabricAtomicAck d qpn psn orig => Sys2Proof.Machine.execFabricAtomicAck d qpn psn orig s
  | .fabricGxResponse d qpn psn grb => Sys2Proof.Machine.execFabricGxResponse d qpn psn grb s
  | .portLinkUp port => Sys2Proof.Machine.execPortLinkUp port s
  | .portLinkDown port => Sys2Proof.Machine.execPortLinkDown port s
  | .qpCreate r saOk => Sys2Proof.Machine.execQpCreate r saOk s
  | .qpDestroy r => Sys2Proof.Machine.execQpDestroy r s
  | .qpForceError r => Sys2Proof.Machine.execQpForceError r s
  | .cqCreate r => Sys2Proof.Machine.execCqCreate r s
  | .cqDestroy r => Sys2Proof.Machine.execCqDestroy r s
  | .qpCloseTimeout qpn => Sys2Proof.Machine.execQpCloseTimeout qpn s
  | .inheritDeadlinePassed qpn => Sys2Proof.Machine.execInheritDeadlinePassed qpn s
  | .waitDeadlinePassed qpn => Sys2Proof.Machine.execWaitDeadlinePassed qpn s
  | .qccFill qpn uncorrected => Sys2Proof.Machine.execQccFill qpn uncorrected s
  | .placementComplete bad => Sys2Proof.Machine.execPlacementComplete bad s
  | .readDataReturned bad corrected => Sys2Proof.Machine.execReadDataReturned bad corrected s
  | .cqControlReread cqn => Sys2Proof.Machine.execCqControlReread cqn s
  | .awgStageComplete => Sys2Proof.Machine.execAwgStageComplete s
  | .awgCommitWritten => Sys2Proof.Machine.execAwgCommitWritten s
  | .awgApplyComplete awgSeq => Sys2Proof.Machine.execAwgApplyComplete awgSeq s
  | .budgetOccupancyTick => Sys2Proof.Machine.execBudgetOccupancyTick s
  | .wregWindowTick emptyPct => Sys2Proof.Machine.execWregWindowTick emptyPct s
  | .govStepTimer qpn => Sys2Proof.Machine.execGovStepTimer qpn s
  | .pfcRepeatTimer port => Sys2Proof.Machine.execPfcRepeatTimer port s
  | .pfcXon port levelKib => Sys2Proof.Machine.execPfcXon port levelKib s
  | .pfcFrameReceived port prio quanta => Sys2Proof.Machine.execPfcFrameReceived port prio quanta s
  | .pfcWatchdogTrip port => Sys2Proof.Machine.execPfcWatchdogTrip port s
  | .pfcWatchdogRelease port => Sys2Proof.Machine.execPfcWatchdogRelease port s
  | .budgetCompute sense => Sys2Proof.Machine.execBudgetCompute sense s
  | .budgetOverWarning => Sys2Proof.Machine.execBudgetOverWarning s
  | .promenadeSelect frameLen bad => Sys2Proof.Machine.execPromenadeSelect frameLen bad s
  | .drainComplete lsn => Sys2Proof.Machine.execDrainComplete lsn s
  | .refillNext => Sys2Proof.Machine.execRefillNext s
  | .refillComplete lsn => Sys2Proof.Machine.execRefillComplete lsn s
  | .saveShed => Sys2Proof.Machine.execSaveShed s
  | .saveRecordWriting => Sys2Proof.Machine.execSaveRecordWriting s
  | .saveDirectoryPlanned => Sys2Proof.Machine.execSaveDirectoryPlanned s
  | .saveSegmentProgrammed entry frameLen bad => Sys2Proof.Machine.execSaveSegmentProgrammed entry frameLen bad s
  | .saveComplete powerMw => Sys2Proof.Machine.execSaveComplete powerMw s
  | .restoreSegmentRead entry outcome => Sys2Proof.Machine.execRestoreSegmentRead entry outcome s
  | .restoreComplete => Sys2Proof.Machine.execRestoreComplete s
  | .regionLostClear r => Sys2Proof.Machine.execRegionLostClear r s
  | .saveRateTest r => Sys2Proof.Machine.execSaveRateTest r s
  | .saveRateTestDone rateMbps powerMw => Sys2Proof.Machine.execSaveRateTestDone rateMbps powerMw s
  | .pddLinkUp port => Sys2Proof.Machine.execPddLinkUp port s
  | .pddLinkDown port => Sys2Proof.Machine.execPddLinkDown port s
  | .pddHelloTimer port => Sys2Proof.Machine.execPddHelloTimer port s
  | .pddHello h body => Sys2Proof.Machine.execPddHello h body s
  | .pddEcho h t1 echoId => Sys2Proof.Machine.execPddEcho h t1 echoId s
  | .pddEchoReply h t1 t2 t3 echoId => Sys2Proof.Machine.execPddEchoReply h t1 t2 t3 echoId s
  | .echoIntervalTimer => Sys2Proof.Machine.execEchoIntervalTimer s
  | .mirrorWrite h body data bad => Sys2Proof.Machine.execMirrorWrite h body data bad s
  | .mack h ackedSeq freeBudget windowKib => Sys2Proof.Machine.execMack h ackedSeq freeBudget windowKib s
  | .mnak h ackedSeq freeBudget windowKib reason frameSeq => Sys2Proof.Machine.execMnak h ackedSeq freeBudget windowKib reason frameSeq s
  | .mackTimer g => Sys2Proof.Machine.execMackTimer g s
  | .mirrorRetxTimer g => Sys2Proof.Machine.execMirrorRetxTimer g s
  | .mirrorAckTimeout g => Sys2Proof.Machine.execMirrorAckTimeout g s
  | .mirrorGapTimeout g => Sys2Proof.Machine.execMirrorGapTimeout g s
  | .readReq h body bad => Sys2Proof.Machine.execReadReq h body bad s
  | .readResp h body status data => Sys2Proof.Machine.execReadResp h body status data s
  | .resyncBegin h b => Sys2Proof.Machine.execResyncBegin h b s
  | .resyncMap h runs => Sys2Proof.Machine.execResyncMap h runs s
  | .resyncEnd h b => Sys2Proof.Machine.execResyncEnd h b s
  | .resyncBeginRepeat g => Sys2Proof.Machine.execResyncBeginRepeat g s
  | .resyncSegmentSend g => Sys2Proof.Machine.execResyncSegmentSend g s
  | .rejoinWaitExpiry g => Sys2Proof.Machine.execRejoinWaitExpiry g s
  | .twinHelloTimeout => Sys2Proof.Machine.execTwinHelloTimeout s
  | .resyncGiveupTimer g => Sys2Proof.Machine.execResyncGiveupTimer g s
  | .config h op idx image fwBacking => Sys2Proof.Machine.execConfig h op idx image fwBacking s
  | .configAck h op idx result => Sys2Proof.Machine.execConfigAck h op idx result s
  | .configRetxTimer g => Sys2Proof.Machine.execConfigRetxTimer g s
  | .configAckTimeout g => Sys2Proof.Machine.execConfigAckTimeout g s
  | .renewTimer => Sys2Proof.Machine.execRenewTimer s
  | .twinRenew h m => Sys2Proof.Machine.execTwinRenew h m s
  | .renewReply m viaTwin => Sys2Proof.Machine.execRenewReply m viaTwin s
  | .leaseEnd g => Sys2Proof.Machine.execLeaseEnd g s
  | .standbyRenewLapse g => Sys2Proof.Machine.execStandbyRenewLapse g s
  | .leaseRequestRepeat g => Sys2Proof.Machine.execLeaseRequestRepeat g s
  | .leaseProbeTimer => Sys2Proof.Machine.execLeaseProbeTimer s
  | .probeReply m viaTwin => Sys2Proof.Machine.execProbeReply m viaTwin s
  | .leaseBudgetCompute => Sys2Proof.Machine.execLeaseBudgetCompute s
  | .soloGranted m => Sys2Proof.Machine.execSoloGranted m s
  | .takeoverGranted m => Sys2Proof.Machine.execTakeoverGranted m s
  | .activeGranted m => Sys2Proof.Machine.execActiveGranted m s
  | .handoverGranted m => Sys2Proof.Machine.execHandoverGranted m s
  | .resumeGranted m => Sys2Proof.Machine.execResumeGranted m s
  | .forceGranted m => Sys2Proof.Machine.execForceGranted m s
  | .pairGranted m => Sys2Proof.Machine.execPairGranted m s
  | .leaseRefused m => Sys2Proof.Machine.execLeaseRefused m s
  | .quietReply m => Sys2Proof.Machine.execQuietReply m s
  | .callerRenew m => Sys2Proof.Machine.execCallerRenew m s
  | .callerSolo m => Sys2Proof.Machine.execCallerSolo m s
  | .callerTakeover m => Sys2Proof.Machine.execCallerTakeover m s
  | .callerTakeoverDue lower higher g => Sys2Proof.Machine.execCallerTakeoverDue lower higher g s
  | .callerActive m => Sys2Proof.Machine.execCallerActive m s
  | .callerHandover m => Sys2Proof.Machine.execCallerHandover m s
  | .callerResume m => Sys2Proof.Machine.execCallerResume m s
  | .callerClaim m => Sys2Proof.Machine.execCallerClaim m s
  | .callerRelease m => Sys2Proof.Machine.execCallerRelease m s
  | .callerProbe m => Sys2Proof.Machine.execCallerProbe m s
  | .callerForce m => Sys2Proof.Machine.execCallerForce m s
  | .callerPair m => Sys2Proof.Machine.execCallerPair m s
  | .callerStart lower higher => Sys2Proof.Machine.execCallerStart lower higher s
  | .callerQuietEnd lower higher => Sys2Proof.Machine.execCallerQuietEnd lower higher s
  | .groupPair r => Sys2Proof.Machine.execGroupPair r s
  | .groupUnpair r => Sys2Proof.Machine.execGroupUnpair r s
  | .groupSwitchover r => Sys2Proof.Machine.execGroupSwitchover r s
  | .groupForceSolo r => Sys2Proof.Machine.execGroupForceSolo r s
  | .groupResyncFull r => Sys2Proof.Machine.execGroupResyncFull r s
  | .flashReadComplete k units => Sys2Proof.Machine.execFlashReadComplete k units s
  | .parityRebuildComplete k ok => Sys2Proof.Machine.execParityRebuildComplete k ok s
  | .promotionComplete idx seg => Sys2Proof.Machine.execPromotionComplete idx seg s
  | .readDeadlinePassed idx seg qpn psn => Sys2Proof.Machine.execReadDeadlinePassed idx seg qpn psn s
  | .cacheEviction => Sys2Proof.Machine.execCacheEviction s
  | .evictUnmapWritten idx seg => Sys2Proof.Machine.execEvictUnmapWritten idx seg s
  | .tierEvict r => Sys2Proof.Machine.execTierEvict r s
  | .tierPoisonClear r => Sys2Proof.Machine.execTierPoisonClear r s
  | .tierCapacityTick => Sys2Proof.Machine.execTierCapacityTick s
  | .fabStart => Sys2Proof.Machine.execFabStart s
  | .fabricHelloTimer => Sys2Proof.Machine.execFabricHelloTimer s
  | .fabricHello port srcMac fec body tagKeySlot => Sys2Proof.Machine.execFabricHello port srcMac fec body tagKeySlot s
  | .adjacencyDead port slot => Sys2Proof.Machine.execAdjacencyDead port slot s
  | .route d updateSeq full entries => Sys2Proof.Machine.execRoute d updateSeq full entries s
  | .routeUpdateTimer => Sys2Proof.Machine.execRouteUpdateTimer s
  | .triggeredUpdate => Sys2Proof.Machine.execTriggeredUpdate s
  | .routeExpiry member => Sys2Proof.Machine.execRouteExpiry member s
  | .routeHolddownEnd member => Sys2Proof.Machine.execRouteHolddownEnd member s
  | .memberProbeTimeout => Sys2Proof.Machine.execMemberProbeTimeout s
  | .conflictClearTimer => Sys2Proof.Machine.execConflictClearTimer s
  | .memberIdRelease r => Sys2Proof.Machine.execMemberIdRelease r s
  | .fabricData d bth op icrcOk => Sys2Proof.Machine.execFabricData d bth op icrcOk s
  | .fabricLeaseRelay d => Sys2Proof.Machine.execFabricLeaseRelay d s
  | .sessionOpen d body => Sys2Proof.Machine.execSessionOpen d body s
  | .sessionAccept d body => Sys2Proof.Machine.execSessionAccept d body s
  | .sessionClose d body => Sys2Proof.Machine.execSessionClose d body s
  | .sessionRefuse d body => Sys2Proof.Machine.execSessionRefuse d body s
  | .fabricQpIdle qpn => Sys2Proof.Machine.execFabricQpIdle qpn s
  | .fabricAckTimeout qpn => Sys2Proof.Machine.execFabricAckTimeout qpn s
  | .callerOffer d b => Sys2Proof.Machine.execCallerOffer d b s
  | .callerAnswer d b => Sys2Proof.Machine.execCallerAnswer d b s
  | .callerOfferTimeout => Sys2Proof.Machine.execCallerOfferTimeout s
  | .noteAdopt d b => Sys2Proof.Machine.execNoteAdopt d b s
  | .noteReply d b => Sys2Proof.Machine.execNoteReply d b s
  | .noteStart d b => Sys2Proof.Machine.execNoteStart d b s
  | .noteRelease d b => Sys2Proof.Machine.execNoteRelease d b s
  | .noteReleased d b => Sys2Proof.Machine.execNoteReleased d b s
  | .noteDone d b => Sys2Proof.Machine.execNoteDone d b s
  | .callerLost => Sys2Proof.Machine.execCallerLost s
  | .callerReleaseRepeat => Sys2Proof.Machine.execCallerReleaseRepeat s
  | .changeReplyTimeout => Sys2Proof.Machine.execChangeReplyTimeout s
  | .ptpMessage port slot fec msg => Sys2Proof.Machine.execPtpMessage port slot fec msg s
  | .spdReadComplete slots => Sys2Proof.Machine.execSpdReadComplete slots s
  | .trainingStepComplete ch step ok marginPs => Sys2Proof.Machine.execTrainingStepComplete ch step ok marginPs s
  | .dramTrainComplete rows => Sys2Proof.Machine.execDramTrainComplete rows s
  | .spdTemperaturePoll ch slot temp => Sys2Proof.Machine.execSpdTemperaturePoll ch slot temp s
  | .dramUncorrectedRead rq addr unit => Sys2Proof.Machine.execDramUncorrectedRead rq addr unit s
  | .lineRepair addr => Sys2Proof.Machine.execLineRepair addr s
  | .alertN ch entries retired => Sys2Proof.Machine.execAlertN ch entries retired s
  | .scrubRead addr outcome => Sys2Proof.Machine.execScrubRead addr outcome s
  | .pageRetire r => Sys2Proof.Machine.execPageRetire r s
  | .pageCopyComplete ch page => Sys2Proof.Machine.execPageCopyComplete ch page s
  | .pprCopyBack ch page => Sys2Proof.Machine.execPprCopyBack ch page s
  | .dramRetrain r slots failed => Sys2Proof.Machine.execDramRetrain r slots failed s
  | .carrierPresenceChange c present => Sys2Proof.Machine.execCarrierPresenceChange c present s
  | .carrierAttachChecks c obs => Sys2Proof.Machine.execCarrierAttachChecks c obs s
  | .carrierPgoodLow c => Sys2Proof.Machine.execCarrierPgoodLow c s
  | .carrierFormat r => Sys2Proof.Machine.execCarrierFormat r s
  | .carrierFormatComplete c factoryBad => Sys2Proof.Machine.execCarrierFormatComplete c factoryBad s
  | .carrierDetach r => Sys2Proof.Machine.execCarrierDetach r s
  | .evacuationComplete c noSpace => Sys2Proof.Machine.execEvacuationComplete c noSpace s
  | .optionAreaUpdate => Sys2Proof.Machine.execOptionAreaUpdate s
  | .flashProgramComplete b page res => Sys2Proof.Machine.execFlashProgramComplete b page res s
  | .flashEraseComplete b ok => Sys2Proof.Machine.execFlashEraseComplete b ok s
  | .flashOperationTimeout b kind => Sys2Proof.Machine.execFlashOperationTimeout b kind s
  | .rowPadTimer => Sys2Proof.Machine.execRowPadTimer s
  | .mapFlush => Sys2Proof.Machine.execMapFlush s
  | .flashPatrol b worst => Sys2Proof.Machine.execFlashPatrol b worst s
  | .garbageCollect => Sys2Proof.Machine.execGarbageCollect s
  | .wearLevel c => Sys2Proof.Machine.execWearLevel c s
  | .zqShortTimer => Sys2Proof.Machine.execZqShortTimer s
  | .rawRead r outcome bits => Sys2Proof.Machine.execRawRead r outcome bits s
  | .deepMapLookup r => Sys2Proof.Machine.execDeepMapLookup r s
  | .entropyHealthFail test => Sys2Proof.Machine.execEntropyHealthFail test s
  | .lcTransition r => Sys2Proof.Machine.execLcTransition r s
  | .lcZeroFillComplete => Sys2Proof.Machine.execLcZeroFillComplete s
  | .lcEraseComplete => Sys2Proof.Machine.execLcEraseComplete s
  | .fwUpdateChunk r => Sys2Proof.Machine.execFwUpdateChunk r s
  | .fwUpdateCommit r failedStep => Sys2Proof.Machine.execFwUpdateCommit r failedStep s
  | .fwRollbackCommit r => Sys2Proof.Machine.execFwRollbackCommit r s
  | .faultMessage msg => Sys2Proof.Machine.execFaultMessage msg s
  | .blkFaultStatusClear r => Sys2Proof.Machine.execBlkFaultStatusClear r s
  | .evtFetch r => Sys2Proof.Machine.execEvtFetch r s
  | .faultCountersReset r => Sys2Proof.Machine.execFaultCountersReset r s
  | .eventsDroppedTimer => Sys2Proof.Machine.execEventsDroppedTimer s
  | .operatingHourTick => Sys2Proof.Machine.execOperatingHourTick s
  | .railFault rail mv => Sys2Proof.Machine.execRailFault rail mv s
  | .pmbusPoll sense readings => Sys2Proof.Machine.execPmbusPoll sense readings s
  | .pmbusAlert answers => Sys2Proof.Machine.execPmbusAlert answers s
  | .feedPresent feed mv => Sys2Proof.Machine.execFeedPresent feed mv s
  | .feedCrossing feed => Sys2Proof.Machine.execFeedCrossing feed s
  | .feedLossConfirmed feed mv => Sys2Proof.Machine.execFeedLossConfirmed feed mv s
  | .pwrBtnPress => Sys2Proof.Machine.execPwrBtnPress s
  | .pwrBtnHold => Sys2Proof.Machine.execPwrBtnHold s
  | .powerOn r => Sys2Proof.Machine.execPowerOn r s
  | .powerOff r => Sys2Proof.Machine.execPowerOff r s
  | .modeRequest r => Sys2Proof.Machine.execModeRequest r s
  | .railStepStable => Sys2Proof.Machine.execRailStepStable s
  | .railStepTimeout failed => Sys2Proof.Machine.execRailStepTimeout failed s
  | .powerDownStep => Sys2Proof.Machine.execPowerDownStep s
  | .minOffExpiry => Sys2Proof.Machine.execMinOffExpiry s
  | .standbyLgmIdle => Sys2Proof.Machine.execStandbyLgmIdle s
  | .capTest r => Sys2Proof.Machine.execCapTest r s
  | .capTestSchedule => Sys2Proof.Machine.execCapTestSchedule s
  | .capTestFirstSample mv => Sys2Proof.Machine.execCapTestFirstSample mv s
  | .capTestEnd ma dtUs mv => Sys2Proof.Machine.execCapTestEnd ma dtUs mv s
  | .capTestTimeout => Sys2Proof.Machine.execCapTestTimeout s
  | .quiesceTimeout => Sys2Proof.Machine.execQuiesceTimeout s
  | .fatalPlanTimeout => Sys2Proof.Machine.execFatalPlanTimeout s
  | .vddAonRise => Sys2Proof.Machine.execVddAonRise s
  | .vddAonLoss => Sys2Proof.Machine.execVddAonLoss s
  | .sysRstN => Sys2Proof.Machine.execSysRstN s
  | .coldResetRelease refclkOk => Sys2Proof.Machine.execColdResetRelease refclkOk s
  | .rootLock copyAOk copyBOk => Sys2Proof.Machine.execRootLock copyAOk copyBOk s
  | .bootHeaderChecked outcome => Sys2Proof.Machine.execBootHeaderChecked outcome s
  | .imageBodyVerified ok => Sys2Proof.Machine.execImageBodyVerified ok s
  | .imageCopyComplete => Sys2Proof.Machine.execImageCopyComplete s
  | .coreRestart r => Sys2Proof.Machine.execCoreRestart r s
  | .portReset r clockOk => Sys2Proof.Machine.execPortReset r clockOk s
  | .clusterWatchdog cluster core pc => Sys2Proof.Machine.execClusterWatchdog cluster core pc s
  | .clockCheck source freqKhz => Sys2Proof.Machine.execClockCheck source freqKhz s
  | .thermalSample temps => Sys2Proof.Machine.execThermalSample temps s
  | .thermtripRelease => Sys2Proof.Machine.execThermtripRelease s
  | .handshakeAlertReceived slot => Sys2Proof.Machine.execHandshakeAlertReceived slot s
  | .scratchZeroFillComplete idx => Sys2Proof.Machine.execScratchZeroFillComplete idx s
  | .domainResetRelease domain => Sys2Proof.Machine.execDomainResetRelease domain s
  | .lgmPatrolRewrite => Sys2Proof.Machine.execLgmPatrolRewrite s
  | .callerReplyTimeout g => Sys2Proof.Machine.execCallerReplyTimeout g s
  | .twinGrantEnd g => Sys2Proof.Machine.execTwinGrantEnd g s
  | .ptpAnnounceReceiptTimeout port slot kind => Sys2Proof.Machine.execPtpAnnounceReceiptTimeout port slot kind s
  | .pfcPauseExpiry port => Sys2Proof.Machine.execPfcPauseExpiry port s
  | .fabricRnrRetry qpn => Sys2Proof.Machine.execFabricRnrRetry qpn s

end Sys2Proof.Machine
end

