-- ==== Sys2Proof/Machine/Step.lean ====
section
/-!
DEFINITION. The step: take the command at the front of the queue and run it; with no command waiting, let time pass.
-/

namespace Sys2Proof.Machine

/-- One cycle of CLK_MGT, 5 ns, with no command: TIME advances while CD39 is supplied, token buckets fill, and the governed packets that
they now hold leave (DESIGN CHOICE, assumption 1). -/
def idleTick (s : State) : State := if s.rst.vddAon then { s with now := s.now + 5 }.pumpGovs else s

/-- Take the command at the front of `pending` and run it with the rest of the queue. -/
def step (s : State) : Host.Outcome State Fault Refusal :=
  match s.pending with
  | [] => .next (idleTick s)
  | c :: rest => exec c { s with pending := rest }

/-- The state with the command that a table word spells put at the front of the queue. The table gives no row any bits, so
no word spells a command and the state is unchanged. -/
def State.withFetchWord (s : State) (nbits w : Nat) : State :=
  match Sys2Proof.decodeTableWord nbits w with
  | none => s
  | some c => { s with pending := c :: s.pending }

end Sys2Proof.Machine
end

