-- ==== Sys2Proof/Machine/Pins.lean ====
section
/-!
DEFINITION. Signals: the level at which the device drives an output that State decides, and what reaches it of the JTAG inputs (Table
17.9, R431, R432, R434, R441).
-/

namespace Sys2Proof.Machine

/-- Outputs whose level follows from the device's state. -/
inductive Pin
  | jtagTdo
  | seqEn (k : Fin 8)
  | holdTestEn
  | thermtripN
  | mgtPhyRstN
  | carPwren (n : Fin 8)
  | carAttnN (n : Fin 8)
  | flWpN (ch : Fin 32)
  /-- Transmit lanes of a port: 0–3 host, 4–5 twin. -/
  | txLanes (p : Fin 6)
  deriving DecidableEq, Repr

/-- What an output shows: a level, nothing (high-impedance, or released where it is open drain), electrical idle, or a level that the
spec does not decide. -/
inductive PinLevel | low | high | released | idle | driven
  deriving DecidableEq, Repr

def pinLevel (b : Bool) : PinLevel := if b then .high else .low

/-- JTAG is open in these life-cycle states only (R432). -/
def State.jtagOpen (s : State) : Bool := s.sec.lc == .blank || s.sec.lc == .returned

/-- What a level on a JTAG input is to the device: nothing while JTAG is closed. -/
def State.jtagInput (s : State) (level : Bool) : Option Bool := if s.jtagOpen then some level else none

/-- CD39 has left its reset. -/
def State.awake (s : State) : Bool := s.rst.vddAon && s.rst.cold != .held

/-- A domain is in reset or gated, so that its outputs show their reset state (R431). -/
def State.quietDomain (s : State) (d : Nat) : Bool := !s.awake || s.gated d || s.rst.inReset.contains d

/-- Level of an output. -/
def State.pin (s : State) : Pin → PinLevel
  | .jtagTdo => if s.awake && s.jtagOpen then .driven else .released
  | .seqEn k => pinLevel (s.awake && s.pwr.seqEn.getLsbD k.val)
  | .holdTestEn => pinLevel (s.awake && s.store.holdTestEn)
  | .thermtripN => if s.thermal.tripped then .low else .released
  | .mgtPhyRstN => if s.awake && s.rst.rootLocked then .released else .low
  | .carPwren n => pinLevel (s.awake && (s.carrier n.val).pwren)
  | .carAttnN n => pinLevel (!(s.awake && (s.carrier n.val).attn))
  | .flWpN ch => pinLevel (!s.quietDomain (30 + ch.val / 4) && !(s.carrier (ch.val / 4)).wp)
  | .txLanes p => if s.quietDomain (5 + p.val) then .idle else .driven

end Sys2Proof.Machine
end

