-- ==== Sys2Proof/Safety.lean ====
section
/-!
DEFINITION. What the statements say of states and operands: when a request is taken, when a COMMAND starts and what its answer leaves,
when a packet reaches its queue pair, and the invariants of the whole machine.
-/

namespace Sys2Proof.Machine

/-! ### Requests (R36, R42–R61, R446) -/

/-- The session is OPEN, its record is heard and is not the ninth unanswered one, the message is well formed, of a type that the session's
schema has and of its version, and no kept response bears its tag. -/
def State.takes (s : State) (r : Req) (ty : MsgType) : Bool :=
  let t := s.session r.slot
  t.state == .open_ && !s.unheard r && decide (r.unanswered < 8) && (t.kept.find? (·.tag == r.tag)).isNone && r.wellFormed ty &&
  !typeUnknown t.dsv ty && (r.dsvMajor.toNat, r.dsvMinor.toNat) == (t.dsv / 256, t.dsv % 256)

/-- Number, in the present numbering, of the item that a request names. -/
def State.namedBy (s : State) (r : Req) : Nat := schemaNum (s.session r.slot).dsv (itemAt r.body).1

/-- The session's schema has the item that the request names, as an element of the parameter `first` or of one of its instances. -/
def State.names (s : State) (r : Req) (first : Nat) (p : Param) : Prop :=
  s.schemaParam r.slot (itemAt r.body).1 (itemAt r.body).2 = some p ∧ p.num = first ∧ s.served (s.namedBy r) = true

/-- A COMMAND on `first` is accepted: no refusal of R446 stands against it. -/
def State.starts (s : State) (r : Req) (first : Nat) (p : Param) (own : Bool := false) (argsOk : Bool := true) : Prop :=
  s.takes r .command = true ∧ s.names r first p ∧ s.commandRefusal r p (s.namedBy r) own argsOk = none

/-- An accepted COMMAND has been answered with its new op_seq, and its operation is PENDING (R54, R55). -/
def State.answered (s : State) (r : Req) : State :=
  let num := s.namedBy r
  let s := s.arrive r .command
  let q := nextOpSeq (s.dxe.opSeqs.getD num 0)
  let s := s.touchLgm.modDxe fun d =>
    { d with
      opSeqs := d.opSeqs.set num q
      results := d.results.set num { state := .pending, opSeq := q, slot := r.slot, arg := r.args } }
  (s.respond r .command Status.ok q false []).levelWrite r.slot num (itemAt r.body).2

/-! ### Request packets (R94–R97, R104, R110, R158–R166, R448) -/

/-- A frame on a host port survives every discard of Table 4.2 and reaches the queue pair `qpn`. -/
def State.accepts (s : State) (p : Pkt) (op qpn : Nat) : Prop :=
  (s.port p.port.val).linkUp = true ∧ s.mode.traffic = true ∧ 11 ∉ s.rst.inReset ∧ 12 ∉ s.rst.inReset ∧ p.fec.uncorrectable = 0 ∧
  (s.rxLevel p).target p op = .ok qpn

/-- The accepted frame has been counted: receive buffer level, port counters, and the ESP number of its association. -/
def State.counted (s : State) (p : Pkt) (qpn : Nat) : State :=
  match p.esp with
  | some e => (s.rxLevel p).modQp qpn fun q => { q with esp := q.esp.accept e.seq.toNat }
  | none => s.rxLevel p

/-- The accepted request packet has been marked and counted (R158–R166). -/
def State.judged (s : State) (p : Pkt) (qpn : Nat) (op : ReqOp) : State :=
  let s := (s.counted p qpn).bumpIf p.ce P.ce_received
  let e := s.endpointMark qpn p.psn.toNat op
  let s := if p.ce || e.2 then e.1.mark qpn else e.1
  s.modQp qpn fun q => { q with cnt := { q.cnt with rxPackets := q.cnt.rxPackets + 1 } }

/-- The state in which a request packet, its context and its descriptors at hand, is examined as the first of its message. -/
def State.presented (s : State) (p : Pkt) (qpn : Nat) (op : ReqOp) : State :=
  let d := s.judged p qpn op
  let t := (d.bump P.qcc_hits).qccUse qpn
  let need := t.descNeeds (t.qp qpn) none op
  (need.foldl State.descTouch t).bumpIf (!need.isEmpty) P.desc_cache_hits

/-- The packet is accepted, its context and descriptors are cached, and it stands, as the first of a message, at the expected PSN of a
READY queue pair with no message in progress. -/
def State.presents (s : State) (p : Pkt) (op : ReqOp) (qpn : Nat) : Prop :=
  s.accepts p (opCode op) qpn ∧
  (s.judged p qpn op).xpt.waiting.any (·.qpn == qpn) = false ∧ (s.judged p qpn op).qccHas qpn = true ∧
  let t := ((s.judged p qpn op).bump P.qcc_hits).qccUse qpn
  (t.qp qpn).state = .ready ∧ psnSub (t.qp qpn).epsn p.psn.toNat = 0 ∧ (t.qp qpn).discarding = false ∧ (t.qp qpn).inProgress = none ∧
  (opPos op).starts = true ∧ (t.descNeeds (t.qp qpn) none op).find? (fun i => !t.descCached i) = none ∧
  ((s.presented p qpn op).qp qpn).state = .ready

/-- The packet opens a message that nothing turns away before its own checks: its header is well formed, its tag is not in the log that
the queue pair inherits, the device is not in QUIESCE and the queue pair does not wait. -/
def State.opens (s : State) (p : Pkt) (op : ReqOp) (qpn : Nat) : Prop :=
  s.presents p op qpn ∧
  let u := s.presented p qpn op
  headerOk (u.qp qpn) op = true ∧ u.inherited (u.qp qpn) (openMsg (u.qp qpn) p.psn.toNat none op).tag = none ∧
  u.mode ≠ .quiesce ∧ (u.qp qpn).wait.active = false

/-- Steps 6 to 9 of R448 turn the message away nowhere: no switchover, solo or save-area refusal, the budget fits, the completion queue,
the frames, the redo area and the buffers have room. -/
def State.roomFor (s : State) (qpn : Nat) (m : OpenMsg) (segs : List (Nat × Nat)) (redo n : Nat) (local_ : Bool) : Prop :=
  let q := s.qp qpn
  let needCq := m.cqe.isSome && q.ctx.cqBound
  let c := if needCq then s.cqRoom q.ctx.cq.toNat else (s, true)
  let frames := c.1.framesNeeded m
  (local_ && (s.grp m.group).switchover.isSome && m.group != 255) = false ∧
  (local_ && m.noSolo && s.isSolo m.group) = false ∧
  (local_ && s.areaLow && s.localOnly m.group && m.cls != clsScratch && (m.kind = .dwrite || m.kind = .awg || (m.kind = .cas16 && m.dur))) = false ∧
  (if m.kind.writes && m.via.isNone then s.budgetTest m.group (s.chargeOf segs) else .fits) = .fits ∧ c.2 = true ∧
  frames.length ≤ c.1.framesFor m.idx m.touches ∧
  (decide (1024 ≤ c.1.tmv.records.length) && frames.any (fun g => (c.1.entry m.idx g).home != 0)) = false ∧
  (m.kind = .awg → c.1.redoUsed + redo ≤ redoSegs * segBytes ∧ c.1.awgRecent < defaultOf P.awg_rate_limit_per_s) ∧
  (n = 0 ∨ (c.1.stage m n).2.isSome = true)

/-- What an admitted message has reserved: its charge, its completion entry, its frames and its staging buffer. -/
def State.charged (s : State) (qpn : Nat) (m : OpenMsg) (segs : List (Nat × Nat)) (n : Nat) : State × OpenMsg :=
  let q := s.qp qpn
  let charge := s.chargeOf segs
  let needCq := m.cqe.isSome && q.ctx.cqBound
  let c := if needCq then s.cqRoom q.ctx.cq.toNat else (s, true)
  let frames := c.1.framesNeeded m
  let b := c.1.stage m n
  let s := b.1.reserveCharge charge
  let s := if needCq then s.modCq q.ctx.cq.toNat fun c => { c with reserved := c.reserved + 1 } else s
  (s.reserveFrames qpn m.id m.idx frames m.touches,
   { m with charge := charge, bufs := b.2.toList })

/-- The state in which a later packet of a message, its context at hand, is examined. -/
def State.continued (s : State) (p : Pkt) (qpn : Nat) (op : ReqOp) : State := ((s.judged p qpn op).bump P.qcc_hits).qccUse qpn

/-- Immediate data of a packet. -/
def opImm : ReqOp → Option (BitVec 32)
  | .write _ _ i _ | .send _ i _ => i
  | _ => none

/-- A message in progress and a packet are of one kind. -/
def MsgKind.continuedBy (k l : MsgKind) : Bool :=
  match k, l with
  | .write, .write | .write, .writeImm | .send, .send | .dwrite, .dwrite | .awg, .awg => true
  | _, _ => false

/-- The packet is accepted, its context is cached, and it stands, as a later packet of the message `m` of this member, at the expected PSN
of a READY queue pair; it is of the message's kind, carries what its place allows, and stays within the message's length. -/
def State.continues (s : State) (p : Pkt) (op : ReqOp) (qpn : Nat) (m : OpenMsg) : Prop :=
  s.accepts p (opCode op) qpn ∧
  (s.judged p qpn op).xpt.waiting.any (·.qpn == qpn) = false ∧ (s.judged p qpn op).qccHas qpn = true ∧
  let q := (s.continued p qpn op).qp qpn
  let total := m.rcvd + (opData op).length
  q.state = .ready ∧ psnSub q.epsn p.psn.toNat = 0 ∧ q.discarding = false ∧ q.inProgress = some m.id ∧ q.msg m.id = some m ∧
  m.via = none ∧ m.forwarded = false ∧ (opPos op).starts = false ∧ payloadFits q.ctx.mtuBytes op = true ∧
  m.kind.continuedBy (opKind op) = true ∧
  (m.kind ≠ .send → if (opPos op).ends then total = m.total else total < m.total) ∧
  (m.kind = .send → total ≤ 2 ^ 30 ∧ total ≤ m.bufLen)

/-! ### Twin frames and lease messages (R203–R205, R212, R220) -/

/-- A frame other than HELLO survives the checks of its twin port, and its type exists in the negotiated MPV. -/
def State.twinAccepts (s : State) (h : TwinHdr) (major : Nat) : Prop :=
  s.twinOn = true ∧ (s.tport h.port).linkUp = true ∧ h.fec.uncorrectable = 0 ∧ h.macsecOk = true ∧ s.tportUp h.port = true ∧
  h.bodyLenOk = true ∧ major ≤ s.mir.mpv / 256

/-- A frame of a group 0–254, of an epoch that is not older than the group's, is taken for that group. -/
def State.groupAccepts (s : State) (h : TwinHdr) (major : Nat) : Prop :=
  s.twinAccepts h major ∧ h.group.toNat ≠ 255 ∧ (s.grp h.group.toNat).epoch ≤ h.epoch.toNat

/-- A twin frame without uncorrectable codewords has been counted. -/
def State.twinCounted (s : State) (h : TwinHdr) : State := s.portFrame (4 + h.port) h.fec

/-- The device serves the pair that a lease request comes from, outside its quiet period. -/
def State.callerServes (s : State) (m : LeaseMsg) (p : CallerPairState) : Prop :=
  s.twinOn = true ∧ m.reply = false ∧ s.callerPairs.find? (leasePair m) = some p ∧ p.serving = true ∧ p.quietUntil = none

/-- A reply comes for the grant of an op that the group waits for in a role that may take it; it is the first with its renew_seq from that
member. -/
def State.awaitsGrant (s : State) (op : Nat) (m : LeaseMsg) (role : Role) (r : LeaseReq) : Prop :=
  s.twinOn = true ∧ s.firstReply m = true ∧ m.group.toNat ≠ 255 ∧ (s.grp m.group.toNat).req = some r ∧ r.op = op ∧ (s.grp m.group.toNat).role = role

/-! ### Fabric datagrams (R259, R269) -/

/-- A datagram other than HELLO is taken from its neighbour. -/
def State.fabAccepts (s : State) (d : FabRx) : Prop :=
  s.fabOn = true ∧ (s.port d.port.val).linkUp = true ∧ d.fec.uncorrectable = 0 ∧ d.icvOk = true ∧ d.kindOk = true ∧
  (s.adj (adjKey d.port.val d.slot.val)).state.usable = true

/-- A datagram is taken, and is for this member. -/
def State.fabMine (s : State) (d : FabRx) : Prop := s.fabAccepts d ∧ d.frh.dst.toNat = s.fab.member

/-- The taken datagram has been counted. -/
def State.fabCounted (s : State) (d : FabRx) : State := s.portFrame d.port.val d.fec

/-- The queue pair is a READY FABRIC queue pair whose session with the sender stands. -/
def State.sessionWith (s : State) (d : FabRx) (n : Nat) : Prop :=
  (s.qp n).ctx.kind = 1 ∧ (s.qp n).state = .ready ∧ (s.qp n).fab.opening = false ∧ (s.qp n).fab.peer = d.frh.src.toNat

/-! ### The life cycle (R345, R356–R359, Table 13.6) -/

/-- What only a life-cycle transition and `fw_rollback_commit` change: the life-cycle state, the kill fuse, the minimum security version
and the target of an outstanding transition. -/
def Sec.lifeOf (x : Sec) : LcState × Bool × Nat × Option LcState := (x.lc, x.killFused, x.minSecurity, x.lcRecord.map (·.dest))

/-- An operation from `s` to `t` leaves the queue of commands and the life cycle as they were. -/
def State.KeepsLife (s t : State) : Prop := t.pending = s.pending ∧ t.sec.lifeOf = s.sec.lifeOf

/-- The fuses hold a security version of at most 64, the kill fuse is burnt in the state DECOMMISSIONED and in no other, and a transition
that is recorded as outstanding is a row of Table 13.6 from the present state. -/
def State.LifeInv (s : State) : Prop :=
  s.sec.minSecurity ≤ 64 ∧ (s.sec.killFused = true ↔ s.sec.lc = .decommissioned) ∧
  (∀ r, s.sec.lcRecord = some r → (lcRow s.sec.lc r.dest).isSome = true)

end Sys2Proof.Machine
end

