-- ==== Sys2Proof/WellFormed.lean ====
section
/-!
DEFINITION. Well-formed commands: the operand shapes that the wire layouts and the sampled inputs of the spec allow. A term that
breaks one of these checks stands for nothing that can reach the block.
-/

namespace Sys2Proof

/-- The body of a message is no longer than the 16-bit body_len field can name (Table 2.3). -/
def Req.wf (r : Req) : Bool := decide (r.body.length < 65536)

/-- The frame holds the payload it carries (R97). -/
def Pkt.carries (p : Pkt) (data : Bytes) : Bool := decide (data.length ≤ p.frameBytes)

/-- A header that only the first packet of a message carries (R105, Table 5.1). -/
def headerFits {α : Type} (pos : Pos) (h : Option α) : Bool := pos.starts == h.isSome

/-- Immediate data rides in the last packet only (Table 5.1). -/
def immFits (pos : Pos) (imm : Option (BitVec 32)) : Bool := pos.ends || imm.isNone

/-- Strictly rising: a list of line indexes names each line once. -/
def rising : List Nat → Bool
  | [] => true
  | [_] => true
  | a :: b :: l => decide (a < b) && rising (b :: l)

/-- The operation after BTH carries a header exactly in the first packet of a message. -/
def ReqOp.wf : ReqOp → Bool
  | .send pos imm _ => immFits pos imm
  | .write pos reth imm _ => headerFits pos reth && immFits pos imm
  | .dwrite pos gxh _ => headerFits pos gxh
  | .awg pos gxh _ => headerFits pos gxh
  | .read _ | .cswap _ | .fadd _ | .hxvOffer _ _ _ _ | .flush _ | .cas16 _ _ _ | .wait _ _ | .tread _ | .invalid _ => true

/-- Four offered versions, and at most one role for each of the 255 groups (Table 8.6). -/
def HelloBody.wf (b : HelloBody) : Bool := decide (b.offers.length = 4) && decide (b.roles.length ≤ 255)

/-- Four offered versions (Table 10.2). -/
def FabHello.wf (b : FabHello) : Bool := decide (b.offers.length = 4)

/-- A command that can reach the block, judged by its operands alone. -/
def Instr.wf : Instr → Bool
  | .mgtFrameReceived _ => true
  | .clientHello _ _ _ => true
  | .handshakeComplete _ chain => decide (chain.digests.length = chain.depth)
  | .handshakeTimeout _ => true
  | .dtlsRetransmitTimer _ => true
  | .closeNotify _ => true
  | .sessionIdleTimeout _ => true
  | .dictHello r => r.wf
  | .read r => r.wf
  | .write r => r.wf
  | .multiRead r => r.wf
  | .subscribe r => r.wf
  | .unsubscribe r => r.wf
  | .digest r => r.wf
  | .describe r => r.wf
  | .subscriptionSample => true
  | .periodicNotify _ _ => true
  | .windowOpenDoorbell _ _ => true
  | .windowCloseDoorbell _ => true
  | .mgtApply r => r.wf
  | .sessionCloseAll r => r.wf
  | .sessionRevalidate r => r.wf
  | .sessClose r => r.wf
  | .stickyFlagClear r => r.wf
  | .trustAnchorWrite r => r.wf
  | .fabricKeyTxWrite r => r.wf
  | .twinTxAnWrite r => r.wf
  | .mcFenceWrite r => r.wf
  | .regionRegister r _ => r.wf
  | .regionRekey r => r.wf
  | .regionDeregister r => r.wf
  | .revokeDrainTimeout _ => true
  | .descCacheFill _ _ => true
  | .bufferFree _ _ _ => true
  | .send p pos imm data => p.carries data && immFits pos imm
  | .rdmaWrite p pos reth data => p.carries data && headerFits pos reth
  | .rdmaWriteWithImmediate p only reth _ data => p.carries data && only == reth.isSome
  | .rdmaReadRequest _ _ => true
  | .compareSwap _ _ => true
  | .fetchAdd _ _ => true
  | .hxvOffer _ _ _ _ _ => true
  | .dwrite p pos gxh data => p.carries data && headerFits pos gxh
  | .flush _ _ => true
  | .cas16 _ _ _ _ => true
  | .awg p pos gxh data => p.carries data && headerFits pos gxh
  | .wait _ _ _ => true
  | .tread _ _ => true
  | .invalidOpcode _ _ => true
  | .cnpReceived _ => true
  | .fabricAckReceived _ _ _ => true
  | .fabricNakReceived _ _ _ _ => true
  | .fabricReadResponse _ _ _ _ data => decide (data.length ≤ 4096)
  | .fabricAtomicAck _ _ _ _ => true
  | .fabricGxResponse _ _ _ _ => true
  | .portLinkUp _ => true
  | .portLinkDown _ => true
  | .qpCreate r _ => r.wf
  | .qpDestroy r => r.wf
  | .qpForceError r => r.wf
  | .cqCreate r => r.wf
  | .cqDestroy r => r.wf
  | .qpCloseTimeout _ => true
  | .inheritDeadlinePassed _ => true
  | .waitDeadlinePassed _ => true
  | .qccFill _ _ => true
  | .placementComplete bad => rising bad
  | .readDataReturned bad corrected => rising bad && rising corrected
  | .cqControlReread _ => true
  | .awgStageComplete => true
  | .awgCommitWritten => true
  | .awgApplyComplete _ => true
  | .budgetOccupancyTick => true
  | .wregWindowTick emptyPct => decide (emptyPct ≤ 100)
  | .govStepTimer _ => true
  | .pfcRepeatTimer _ => true
  | .pfcXon _ _ => true
  | .pfcFrameReceived _ _ _ => true
  | .pfcWatchdogTrip _ => true
  | .pfcWatchdogRelease _ => true
  | .budgetCompute sense => decide (sense.length = 24)
  | .budgetOverWarning => true
  | .promenadeSelect _ bad => rising bad
  | .drainComplete _ => true
  | .refillNext => true
  | .refillComplete _ => true
  | .saveShed => true
  | .saveRecordWriting => true
  | .saveDirectoryPlanned => true
  | .saveSegmentProgrammed _ _ bad => rising bad
  | .saveComplete _ => true
  | .restoreSegmentRead _ _ => true
  | .restoreComplete => true
  | .regionLostClear r => r.wf
  | .saveRateTest r => r.wf
  | .saveRateTestDone _ _ => true
  | .pddLinkUp _ => true
  | .pddLinkDown _ => true
  | .pddHelloTimer _ => true
  | .pddHello _ body => body.wf
  | .pddEcho _ _ _ => true
  | .pddEchoReply _ _ _ _ _ => true
  | .echoIntervalTimer => true
  | .mirrorWrite _ body data bad => decide (data.length = body.length.toNat) && rising bad
  | .mack _ _ _ _ => true
  | .mnak _ _ _ _ _ _ => true
  | .mackTimer _ => true
  | .mirrorRetxTimer _ => true
  | .mirrorAckTimeout _ => true
  | .mirrorGapTimeout _ => true
  | .readReq _ _ bad => rising bad
  | .readResp _ _ _ data => decide (data.length ≤ 4096)
  | .resyncBegin _ _ => true
  | .resyncMap _ runs => decide (1 ≤ runs.length) && decide (runs.length ≤ 256)
  | .resyncEnd _ _ => true
  | .resyncBeginRepeat _ => true
  | .resyncSegmentSend _ => true
  | .rejoinWaitExpiry _ => true
  | .twinHelloTimeout => true
  | .resyncGiveupTimer _ => true
  | .config _ _ _ image _ => decide (image.length ≤ 4096)
  | .configAck _ _ _ _ => true
  | .configRetxTimer _ => true
  | .configAckTimeout _ => true
  | .renewTimer => true
  | .twinRenew _ _ => true
  | .renewReply _ _ => true
  | .leaseEnd _ => true
  | .standbyRenewLapse _ => true
  | .leaseRequestRepeat _ => true
  | .leaseProbeTimer => true
  | .probeReply _ _ => true
  | .leaseBudgetCompute => true
  | .soloGranted _ => true
  | .takeoverGranted _ => true
  | .activeGranted _ => true
  | .handoverGranted _ => true
  | .resumeGranted _ => true
  | .forceGranted _ => true
  | .pairGranted _ => true
  | .leaseRefused _ => true
  | .quietReply _ => true
  | .callerRenew _ => true
  | .callerSolo _ => true
  | .callerTakeover _ => true
  | .callerTakeoverDue _ _ _ => true
  | .callerActive _ => true
  | .callerHandover _ => true
  | .callerResume _ => true
  | .callerClaim _ => true
  | .callerRelease _ => true
  | .callerProbe _ => true
  | .callerForce _ => true
  | .callerPair _ => true
  | .callerStart _ _ => true
  | .callerQuietEnd _ _ => true
  | .groupPair r => r.wf
  | .groupUnpair r => r.wf
  | .groupSwitchover r => r.wf
  | .groupForceSolo r => r.wf
  | .groupResyncFull r => r.wf
  | .flashReadComplete _ units => decide (1 ≤ units.length)
  | .parityRebuildComplete _ _ => true
  | .promotionComplete _ _ => true
  | .readDeadlinePassed _ _ _ _ => true
  | .cacheEviction => true
  | .evictUnmapWritten _ _ => true
  | .tierEvict r => r.wf
  | .tierPoisonClear r => r.wf
  | .tierCapacityTick => true
  | .fabStart => true
  | .fabricHelloTimer => true
  | .fabricHello _ _ _ body _ => body.wf
  | .adjacencyDead _ _ => true
  | .route _ _ _ entries => decide (1 ≤ entries.length) && decide (entries.length ≤ 128)
  | .routeUpdateTimer => true
  | .triggeredUpdate => true
  | .routeExpiry _ => true
  | .routeHolddownEnd _ => true
  | .memberProbeTimeout => true
  | .conflictClearTimer => true
  | .memberIdRelease r => r.wf
  | .fabricData _ _ op _ => op.wf
  | .fabricLeaseRelay _ => true
  | .sessionOpen _ _ => true
  | .sessionAccept _ _ => true
  | .sessionClose _ _ => true
  | .sessionRefuse _ _ => true
  | .fabricQpIdle _ => true
  | .fabricAckTimeout _ => true
  | .callerOffer _ _ => true
  | .callerAnswer _ _ => true
  | .callerOfferTimeout => true
  | .noteAdopt _ _ => true
  | .noteReply _ _ => true
  | .noteStart _ _ => true
  | .noteRelease _ _ => true
  | .noteReleased _ _ => true
  | .noteDone _ _ => true
  | .callerLost => true
  | .callerReleaseRepeat => true
  | .changeReplyTimeout => true
  | .ptpMessage _ _ _ _ => true
  | .spdReadComplete slots => decide (slots.length = 32)
  | .trainingStepComplete _ step _ _ => decide (1 ≤ step) && decide (step ≤ 7)
  | .dramTrainComplete _ => true
  | .spdTemperaturePoll _ _ _ => true
  | .dramUncorrectedRead _ _ _ => true
  | .lineRepair _ => true
  | .alertN _ entries _ => decide (entries ≤ 64)
  | .scrubRead _ _ => true
  | .pageRetire r => r.wf
  | .pageCopyComplete _ _ => true
  | .pprCopyBack _ _ => true
  | .dramRetrain r slots _ => r.wf && decide (slots.length = 32)
  | .carrierPresenceChange _ _ => true
  | .carrierAttachChecks _ obs => decide (obs.optionArea.length = 0) || decide (obs.optionArea.length = 192)
  | .carrierPgoodLow _ => true
  | .carrierFormat r => r.wf
  | .carrierFormatComplete _ _ => true
  | .carrierDetach r => r.wf
  | .evacuationComplete _ _ => true
  | .optionAreaUpdate => true
  | .flashProgramComplete _ _ _ => true
  | .flashEraseComplete _ _ => true
  | .flashOperationTimeout _ _ => true
  | .rowPadTimer => true
  | .mapFlush => true
  | .flashPatrol _ _ => true
  | .garbageCollect => true
  | .wearLevel _ => true
  | .zqShortTimer => true
  | .rawRead r _ _ => r.wf
  | .deepMapLookup r => r.wf
  | .entropyHealthFail _ => true
  | .lcTransition r => r.wf
  | .lcZeroFillComplete => true
  | .lcEraseComplete => true
  | .fwUpdateChunk r => r.wf
  | .fwUpdateCommit r _ => r.wf
  | .fwRollbackCommit r => r.wf
  | .faultMessage _ => true
  | .blkFaultStatusClear r => r.wf
  | .evtFetch r => r.wf
  | .faultCountersReset r => r.wf
  | .eventsDroppedTimer => true
  | .operatingHourTick => true
  | .railFault _ _ => true
  | .pmbusPoll sense _ => decide (sense.length = 24)
  | .pmbusAlert _ => true
  | .feedPresent _ _ => true
  | .feedCrossing _ => true
  | .feedLossConfirmed _ _ => true
  | .pwrBtnPress => true
  | .pwrBtnHold => true
  | .powerOn r => r.wf
  | .powerOff r => r.wf
  | .modeRequest r => r.wf
  | .railStepStable => true
  | .railStepTimeout _ => true
  | .powerDownStep => true
  | .minOffExpiry => true
  | .standbyLgmIdle => true
  | .capTest r => r.wf
  | .capTestSchedule => true
  | .capTestFirstSample _ => true
  | .capTestEnd _ _ _ => true
  | .capTestTimeout => true
  | .quiesceTimeout => true
  | .fatalPlanTimeout => true
  | .vddAonRise => true
  | .vddAonLoss => true
  | .sysRstN => true
  | .coldResetRelease _ => true
  | .rootLock _ _ => true
  | .bootHeaderChecked _ => true
  | .imageBodyVerified _ => true
  | .imageCopyComplete => true
  | .coreRestart r => r.wf
  | .portReset r _ => r.wf
  | .clusterWatchdog _ _ _ => true
  | .clockCheck _ _ => true
  | .thermalSample temps => decide (temps.length = 8)
  | .thermtripRelease => true
  | .handshakeAlertReceived _ => true
  | .scratchZeroFillComplete _ => true
  | .domainResetRelease _ => true
  | .lgmPatrolRewrite => true
  | .callerReplyTimeout _ => true
  | .twinGrantEnd _ => true
  | .ptpAnnounceReceiptTimeout _ _ _ => true
  | .pfcPauseExpiry _ => true
  | .fabricRnrRetry _ => true

end Sys2Proof
end

