-- ==== Sys2Proof/Certificates/Slice0/Obligations.lean ====
section
/-!
DEFINITION. The statements for the provers: what each command does, from the rules of the spec, and what every step keeps.
-/

open Sys2Proof Sys2Proof.Machine

/-! ### The queue of commands -/

/-- A step with a command waiting runs that command on the state with the rest of the queue. -/
def Obligations.StepRunsFrontCommand : Prop :=
  ∀ (c : Instr) (rest : List Instr) (s : State),
    step { s with pending := c :: rest } = exec c { s with pending := rest }

/-- With no command waiting the step lets 5 ns of TIME pass while VDD_AON is present, in which the governors send the packets that their
tokens have come to cover, and changes nothing else; without VDD_AON it changes nothing: the model's own choice (DESIGN CHOICE, log
entry 1). -/
def Obligations.EmptyQueueLetsTimePass : Prop :=
  ∀ s : State, s.pending = [] →
    (s.rst.vddAon = true → step s = .next ({ s with now := s.now + 5 } : State).pumpGovs) ∧ (s.rst.vddAon = false → step s = .next s)

/-! ### Sessions (R30–R36, R60, R62, Table 2.2) -/

/-- Frames at MGT while its MAC runs: an ARP request, a neighbour solicitation and an unfragmented echo request for an address of the
device are answered; those for another address, and any fragment, only advance `mgt_discards`, as does every other frame; a datagram
to the dictionary port of an address of the device goes to DTLS and changes nothing. -/
def Obligations.MgtFramesAnsweredOrDiscarded : Prop :=
  ∀ s : State, s.mode ≠ .off → s.mgtUp = true →
    let discarded := { s with ctr := s.ctr.upd (pkey P.mgt_discards 0) 0 (· + 1) }
    (∀ a : BitVec 32, exec (.mgtFrameReceived (.arpRequest a)) s =
      .next (if s.mgtAddress (mappedIpv4 a.toNat) then s.emitMgt (.mgtReply (.arpRequest a)) else discarded)) ∧
    (∀ (a : BitVec 128) (dad : Bool), exec (.mgtFrameReceived (.neighbourSolicitation a dad)) s =
      .next (if s.mgtAddress a.toNat && !isMapped a.toNat then s.emitMgt (.mgtReply (.neighbourSolicitation a dad)) else discarded)) ∧
    (∀ (a : BitVec 128) (fragment : Bool), exec (.mgtFrameReceived (.echo a fragment)) s =
      .next (if s.mgtAddress a.toNat && !fragment then s.emitMgt (.mgtReply (.echo a fragment)) else discarded)) ∧
    (∀ (a : BitVec 128) (dport : BitVec 16) (fragment : Bool), exec (.mgtFrameReceived (.udp a dport fragment)) s =
      .next (if fragment = false ∧ s.mgtAddress a.toNat = true ∧ dport.toNat = s.param P.mgt_udp_port then s else discarded)) ∧
    exec (.mgtFrameReceived .other) s = .next discarded

/-- The handshake, while the MGT MAC runs: a ClientHello without a cookie draws only a retry; with one, while `session_max` and the
handshake rate leave room, the lowest FREE slot begins a handshake and its flight is sent, and otherwise the refusal is counted; the
end of a handshake with an admitted chain, within the rate, makes the session ESTABLISHED at the chain's level and notes its time, and
with a chain that is not admitted sends an alert, counts the refusal and frees the slot; a retransmission timer sends the flight
again; a timeout or an alert sends an alert, counts the refusal and frees the slot. A live session closes on a received close_notify
or when it has been idle: close_notify is sent on MGT, its subscriptions end and its slot is FREE; a window's close doorbell does the
same without a close_notify. The open doorbell of an enabled window, rung by firmware that runs, gives a FREE window slot an
ESTABLISHED session at Custodian level. HELLO on an ESTABLISHED session, in a record that is heard and is not the ninth unanswered
one: the version that both sides share is fixed and the session is OPEN; where they share none the answer is VERSION (with the chosen
word 0: the model's choice, log entry 189), the refusal is counted and recorded, and the session closes. -/
def Obligations.SessionsOpenAndClose : Prop :=
  ((∀ (a : BitVec 128) (p : BitVec 16) (s : State), s.mode ≠ .off → s.mgtUp = true →
     exec (.clientHello a p false) s = .next (s.emitMgt (.helloRetry a p)) ∧
     (∀ k : Nat, (List.range 16).find? (fun j => (s.session j).state = .free) = some k →
       (s.mgtInUse < s.param P.session_max → s.rateExceeded = false →
         exec (.clientHello a p true) s = .next ((s.emitMgt (.flight k)).modDxe fun d => { d with
           sessions := d.sessions.set k
             { state := .handshake, peerAddr := a, peerPort := p, since := s.now, lastRecord := s.now } })) ∧
       ((s.param P.session_max ≤ s.mgtInUse ∨ s.rateExceeded = true) →
         exec (.clientHello a p true) s = .next (s.bump P.handshakes_refused))) ∧
     ((∀ j < 16, (s.session j).state ≠ .free) → exec (.clientHello a p true) s = .next (s.bump P.handshakes_refused))) ∧
   (∀ (k : Fin 16) (c : ClientChain) (s : State), (s.session k).state = .handshake →
     s.recentHandshakes.length < s.param P.handshake_rate_per_s →
     (∀ l : Nat, s.admission c = some l →
       ∃ t, exec (.handshakeComplete k c) s = .next t ∧ (t.session k).state = .established ∧ (t.session k).level = l ∧
         (∀ j, j ≠ k.val → t.session j = s.session j) ∧
         t = { s with dxe := { s.dxe with sessions := t.dxe.sessions, handshakes := s.now :: s.recentHandshakes } }) ∧
     (s.admission c = none →
       exec (.handshakeComplete k c) s = .next (((s.emitMgt (.alert k)).bump P.handshakes_refused).freeSession k))) ∧
   (∀ (k : Fin 16) (s : State), (s.session k).state = .handshake →
     exec (.dtlsRetransmitTimer k) s = .next (s.emitMgt (.flight k)) ∧
     exec (.handshakeTimeout k) s = .next (((s.emitMgt (.alert k)).bump P.handshakes_refused).freeSession k) ∧
     exec (.handshakeAlertReceived k) s = .next (((s.emitMgt (.alert k)).bump P.handshakes_refused).freeSession k))) ∧
  ((∀ (k : Fin 16) (s : State), (s.session k).live = true →
     let t := (s.emitMgt (.closeNotify k)).modDxe fun d =>
       { d with sessions := d.sessions.del k, subs := d.subs.filter (·.slot != k.val) }
     exec (.closeNotify k) s = .next t ∧ exec (.sessionIdleTimeout k) s = .next t) ∧
   (∀ (w : Fin 4) (s : State), (s.session (16 + w)).live = true →
     exec (.windowCloseDoorbell w) s = .next
       { s with dxe := { s.dxe with
           sessions := s.dxe.sessions.del (16 + w), subs := s.dxe.subs.filter (·.slot != 16 + w.val) } }) ∧
   (∀ (w : Fin 4) (c : Fin 4) (s : State), s.rst.coresUp = true → c.val ∉ s.rst.heldClusters → s.param P.window_enable ≠ 0 →
     (s.session (16 + w)).state = .free →
     exec (.windowOpenDoorbell w c) s = .next
       { s with
         dxe := { s.dxe with
           sessions := s.dxe.sessions.set (16 + w)
             { state := .established, level := 2, cluster := c, since := s.now, lastRecord := s.now } } })) ∧
  (∀ (r : Req) (s : State), (s.session r.slot).state = .established → s.unheard r = false → r.unanswered < 8 →
     ((s.session r.slot).kept.find? (·.tag == r.tag)) = none → r.wellFormed .hello = true → r.dsvMajor = 0 → r.dsvMinor = 0 →
     let v := versionChoice [0x0204, 0x0107] (helloWords r.body)
     let a := s.arrive r .hello
     let reply := leBytes 2 v ++ leBytes 2 0x0204 ++ leBytes 2 0x0107
     (v ≠ 0 → exec (.dictHello r) s =
       .next ((a.respond r .hello Status.ok 0 false reply).modSession r.slot fun t => { t with state := .open_, dsv := v, notifySeq := 0 })) ∧
     (v = 0 → exec (.dictHello r) s =
       .next ((((a.respond r .hello Status.version 0 false reply).bump P.version_refusals).event 0x0340 r.slot
         [r.slot, packedWords (helloWords r.body)]).closeSession r.slot)))

/-! ### Requests that change no parameter -/

/-- READ of an item answers one value record of it; READ of a CMD parameter answers its result object with its op_seq. MULTI_READ answers
the records of its items in order in one message, and DESCRIBE the descriptor of an item's parameter. DIGEST with scope 2 answers the
fabric digest; with scope 0, the number and the SHA-256 of the effective values of the covered parameters of the selected areas. -/
def Obligations.QueriesAnswered : Prop :=
  (∀ (r : Req) (s : State) (p : Param), s.takes r .read = true →
     s.schemaParam r.slot (itemAt r.body).1 (itemAt r.body).2 = some p →
     let a := s.arrive r .read
     let i := itemAt r.body
     let v := a.show r.slot i.1 i.2 r.staged
     (p.access ≠ .cmd →
       exec (.read r) s = .next ((a.respond r .read v.status 0 v.staged (v.record i.1 i.2)).readMarks r.slot i.1 i.2)) ∧
     (p.access = .cmd → v.status = Status.ok → r.opSeq = 0 →
       let o := a.result (s.namedBy r)
       exec (.read r) s = .next (a.respond r .read (if o.state = .pending then Status.pending else Status.ok) o.opSeq false o.octets))) ∧
  ((∀ (r : Req) (s : State), s.takes r .multiRead = true →
     let a := s.arrive r .multiRead
     let l := a.records43 r.slot r.staged (itemsOf r.body) 0 false
     exec (.multiRead r) s = .next ((itemsOf r.body).foldl (fun s i => s.readMarks r.slot i.1 i.2)
       (a.respond r .multiRead Status.ok 0 (l.any (·.2)) (l.flatMap (·.1))))) ∧
   (∀ (r : Req) (s : State) (p : Param), s.takes r .describe = true → r.staged = false →
     s.namedBy r ≠ P.sticky_counts → s.schemaParam r.slot (itemAt r.body).1 (itemAt r.body).2 = some p → s.served (s.namedBy r) = true →
     exec (.describe r) s =
       .next ((s.arrive r .describe).respond r .describe Status.ok 0 false (p.descriptor (s.namedBy r) (itemAt r.body).1)))) ∧
  (∀ (r : Req) (s : State), s.takes r .digest = true →
     let a := s.arrive r .digest
     (leAt r.body 2 1 = 2 →
       exec (.digest r) s = .next (a.respond r .digest Status.ok 0 false (leBytes 4 16 ++ a.fabricDigest))) ∧
     (leAt r.body 2 1 = 0 →
       let l := coveredItems (leAt r.body 0 2)
       exec (.digest r) s = .next (a.touchLgm.respond r .digest Status.ok 0 false
         (leBytes 4 l.length ++ sha256 (l.flatMap fun e => digestItem e.1 e.2.1 e.2.2 (a.param e.2.1 e.2.2))))))

/-- What an item of the schema shows: a stored or computed value in its type's octets, the staged value where STAGED asks for one, a KEY
as zeros, and nothing while its domain has no power. -/
def Obligations.ShownValue : Prop :=
  ∀ (s : State) (slot num idx : Nat) (staged : Bool) (p : Param),
    s.schemaParam slot num idx = some p → s.served (schemaNum (s.session slot).dsv num) = true →
    let n := schemaNum (s.session slot).dsv num
    (p.access = .wo → p.ty = .key → s.show slot num idx staged = { code := p.ty.code, value := List.replicate p.len 0 }) ∧
    (p.access ≠ .wo → (s.unavailable p n || s.fwBlocked p) = true →
      (s.show slot num idx staged).status = Status.unavailable ∧ (s.show slot num idx staged).value = []) ∧
    (p.access ≠ .wo → p.access ≠ .cmd → s.unavailable p n = false → s.fwBlocked p = false →
      (∀ v, staged = true → p.access = .rwr → s.stagedParam n idx = some v →
        s.show slot num idx staged = { code := p.ty.code, value := leBytes p.len v, staged := true }) ∧
      ((staged = false ∨ p.access ≠ .rwr ∨ s.stagedParam n idx = none) →
        s.show slot num idx staged = { code := p.ty.code, value := leBytes p.len (s.value p n idx) }))

/-- SUBSCRIBE adds one subscription under a fresh sub_id and answers it with the effective interval; UNSUBSCRIBE removes the one named, or
all of the session with 0xFFFF. A sample notifies an ON_CHANGE subscription whose value has changed, and the end of a period a
PERIODIC one, each with the value of the moment; a sample in which no value has changed notifies nothing. -/
def Obligations.SubscriptionsAndNotifications : Prop :=
  ((∀ (r : Req) (s : State) (p : Param), s.takes r .subscribe = true →
     let i := itemAt r.body
     let a := s.arrive r .subscribe
     let periodic := leAt r.body 8 1 == 2
     s.schemaParam r.slot i.1 i.2 = some p → s.served (s.namedBy r) = true → p.access ≠ .wo → p.ty ≠ .key →
     (periodic = true → 10 ≤ leAt r.body 12 4 ∧ leAt r.body 12 4 ≤ 3600000) →
     (s.dxe.subs.countP fun b => b.slot == r.slot.val) < s.param P.subs_per_session_max → s.dxe.subs.length < 256 →
     exec (.subscribe r) s = .next
       (State.respond
         { a with dxe := { a.dxe with
             nextSub := a.freshSub + 1
             subs := a.dxe.subs ++
               [{ slot := r.slot, subId := a.freshSub, param := i.1, index := i.2, periodic := periodic, intervalMs := leAt r.body 10 2
                  periodMs := leAt r.body 12 4, lastValue := (a.show r.slot i.1 i.2 false).record i.1 i.2 }] } }
         r .subscribe Status.ok 0 false
         (leBytes 2 a.freshSub ++ leBytes 2 (max (leAt r.body 10 2) (a.param P.notify_min_interval_ms))))) ∧
   (∀ (r : Req) (s : State), s.takes r .unsubscribe = true →
     let a := s.arrive r .unsubscribe
     let id := leAt r.body 0 2
     exec (.unsubscribe r) s = .next
       (State.respond
         { a with dxe := { a.dxe with subs := a.dxe.subs.filter fun b => b.slot != r.slot.val || (id != 0xFFFF && b.subId != id) } }
         r .unsubscribe Status.ok 0 false []))) ∧
  ((∀ (s : State) (b : Sub), s.dxe.subs = [b] → s.changed b = true → exec .subscriptionSample s = .next (s.notify b)) ∧
   (∀ s : State, (∀ b, b ∈ s.dxe.subs → s.changed b = false) → exec .subscriptionSample s = .next s) ∧
   (∀ (k : Fin 20) (id : BitVec 16) (s : State) (b : Sub),
     s.dxe.subs.find? (fun b => b.slot == k.val && b.subId == id.toNat && b.periodic) = some b →
     exec (.periodicNotify k id) s = .next (s.notify b)))

/-! ### Writes -/

/-- A WRITE of an element that is not STICKY, against which no refusal of R446 stands, stores its value: in STANDBY, and while a value
written there waits, the STANDBY store of CD39 holds it; else an RWR element is staged and any other takes it at once. A value that takes
effect (one that is not staged) has its effect: a changed fabric-scope value has the neighbours' digests judged again, `mc_fence` fences
and lifts channels, a changed `fabric_key_tx` restarts adjacencies, and a written `twin_sak` starts its packet numbers at 1. WRITE,
TRUST_ANCHOR_WRITE, TWIN_TX_AN_WRITE, FABRIC_KEY_TX_WRITE and MC_FENCE_WRITE each complete so. -/
def Obligations.WriteStores : Prop :=
  ∀ (r : Req) (s : State) (p : Param), s.takes r .write = true →
    s.schemaParam r.slot (itemAt r.body).1 (itemAt r.body).2 = some p → s.served (s.namedBy r) = true →
    (s.arrive r .write).writeRefusal r p (s.namedBy r) (itemAt r.body).2 = none → bit p.flags 3 = false →
    let num := s.namedBy r
    let idx := (itemAt r.body).2
    let v := leNat r.args
    let a := s.arrive r .write
    let old := a.param num idx
    let held := s.mode = .standby ∨ a.standby.has (pkey num idx) = true
    let status := if p.access = .rwr then Status.acceptedStaged else Status.ok
    let t : State :=
      if held then { a with standby := a.standby.set (pkey num idx) (decide (p.access = .rwr), v) }
      else if p.access = .rwr then { a with staged := a.staged.set (pkey num idx) v }
      else a.setCfg num idx v
    let u : State :=
      if ¬held ∧ p.access = .rwr then t
      else if fabricScope.contains num = true ∨ num = P.fabric_config_epoch then (if (t.fabOn && old != v) = true then t.rejudge else t)
      else if num = P.mc_fence then t.mcFenceWrite old v
      else if num = P.fabric_key_tx then (if old = v then t else t.keySlotChanged)
      else if num = P.twin_sak then t.modSec fun x => { x with sakWritten := insertNat idx x.sakWritten, twinPn := x.twinPn.set idx 1 }
      else t
    let w := (u.respond r .write status 0 false []).levelWrite r.slot num idx
    exec (.write r) s = .next w.settle ∧ exec (.fabricKeyTxWrite r) s = .next w.settle ∧ exec (.mcFenceWrite r) s = .next w.settle ∧
    exec (.trustAnchorWrite r) s = .next w ∧ exec (.twinTxAnWrite r) s = .next w

/-- A WRITE of a STICKY parameter, by WRITE, STICKY_FLAG_CLEAR or BLK_FAULT_STATUS_CLEAR, completes: its flags are cleared as written,
less the condition bits whose state still holds, and it is answered OK. Of a parameter without condition bits exactly the bits written
as 1 are cleared, and no flag of another parameter changes. -/
def Obligations.StickyWriteClears : Prop :=
  ∀ (r : Req) (s : State) (p : Param), s.takes r .write = true →
    s.schemaParam r.slot (itemAt r.body).1 (itemAt r.body).2 = some p → s.served (s.namedBy r) = true →
    (s.arrive r .write).writeRefusal r p (s.namedBy r) (itemAt r.body).2 = none → bit p.flags 3 = true → p.access = .rw →
    let num := s.namedBy r
    let a := s.arrive r .write
    let w := ((a.clearSticky p num (leNat r.args)).respond r .write Status.ok 0 false []).levelWrite r.slot num (itemAt r.body).2
    exec (.write r) s = .next w.settle ∧ exec (.stickyFlagClear r) s = .next w ∧ exec (.blkFaultStatusClear r) s = .next w ∧
    (p.num ≠ P.blk_fault_status → p.num ≠ P.clk_status → p.num ≠ P.car_err_status →
      (∀ b, b < 32 → bit ((a.clearSticky p num (leNat r.args)).flags num) b = (bit (s.flags num) b && !bit (leNat r.args) b)) ∧
      (∀ n, n ≠ num → (a.clearSticky p num (leNat r.args)).flags n = s.flags n))

/-! ### COMMANDs (R54–R56, R446) -/

/-- An accepted COMMAND: the parameter's op_seq is the next one, its result object is PENDING with that op_seq, the session and the
arguments, and every other result object is as before; an OK response bearing the op_seq has been sent, and the session stays OPEN. The
region, transport, persistence, tier, mirror, fabric, DRAM, flash and security state, the mode, the configuration and the queue are as
before. -/
def Obligations.CommandAnswered : Prop :=
  ∀ (r : Req) (s : State) (first : Nat) (p : Param), s.starts r first p →
    let num := s.namedBy r
    let a := s.answered r
    let q := nextOpSeq (s.dxe.opSeqs.getD num 0)
    a.dxe.opSeqs.getD num 0 = q ∧ q ≠ 0 ∧
    a.result num = { state := .pending, opSeq := q, slot := r.slot, arg := r.args } ∧
    (∀ n, n ≠ num → a.result n = s.result n) ∧
    (a.session r.slot).state = .open_ ∧
    (let v := (s.session r.slot).dsv
     Out.dict r.slot (message MsgType.command.code Status.ok (v / 256) (v % 256) r.tag.toNat q false true 0 []) ∈ a.out) ∧
    a.reg = s.reg ∧ a.xpt = s.xpt ∧ a.pde = s.pde ∧ a.tmv = s.tmv ∧ a.mir = s.mir ∧ a.fab = s.fab ∧ a.dram = s.dram ∧
    a.flash = s.flash ∧ a.sec = s.sec ∧ a.mode = s.mode ∧ a.cfg = s.cfg ∧ a.pending = s.pending

/-- The first refusal of a COMMAND, in the order of R446: WRONG_KIND, ACCESS_DENIED, WRONG_MODE, LENGTH, OUT_OF_RANGE, UNAVAILABLE,
BUSY, where each test before it passes; a refusal of `cap_test` is its answer, and the state is otherwise that in which the request has
arrived. -/
def Obligations.CommandRefusalsInOrder : Prop :=
  (∀ (s : State) (r : Req) (p : Param) (num : Nat) (own argsOk : Bool),
    (p.access ≠ .cmd → s.commandRefusal r p num own argsOk = some Status.wrongKind) ∧
    (p.access = .cmd → (s.session r.slot).level < p.level → own = false →
      s.commandRefusal r p num own argsOk = some Status.accessDenied) ∧
    (p.access = .cmd → p.level ≤ (s.session r.slot).level → bit p.modes s.mode.code = false →
      s.commandRefusal r p num own argsOk = some Status.wrongMode) ∧
    (p.access = .cmd → p.level ≤ (s.session r.slot).level → bit p.modes s.mode.code = true → r.args.length ≠ p.len →
      s.commandRefusal r p num own argsOk = some Status.length) ∧
    (p.access = .cmd → p.level ≤ (s.session r.slot).level → bit p.modes s.mode.code = true → r.args.length = p.len →
      (p.inRange (leNat r.args) = false ∨ enumUnknown (s.session r.slot).dsv p num (leNat r.args) = true ∨ argsOk = false) →
      s.commandRefusal r p num own argsOk = some Status.outOfRange) ∧
    (p.access = .cmd → p.level ≤ (s.session r.slot).level → bit p.modes s.mode.code = true → r.args.length = p.len → argsOk = true →
      p.inRange (leNat r.args) = true → enumUnknown (s.session r.slot).dsv p num (leNat r.args) = false → p.fw = true → s.rst.coresUp = false →
      s.commandRefusal r p num own argsOk = some Status.unavailable) ∧
    (p.access = .cmd → p.level ≤ (s.session r.slot).level → bit p.modes s.mode.code = true → r.args.length = p.len → argsOk = true →
      p.inRange (leNat r.args) = true → enumUnknown (s.session r.slot).dsv p num (leNat r.args) = false → (p.fw = true → s.rst.coresUp = true) → s.running num = true →
      s.commandRefusal r p num own argsOk = some Status.busy)) ∧
  (∀ (r : Req) (s : State) (p : Param) (st : Nat), s.takes r .command = true → s.names r P.cap_test p →
    s.commandRefusal r p (s.namedBy r) false true = some st →
    exec (.capTest r) s = .next ((s.arrive r .command).respond r .command st 0 false []))

/-- The COMMANDs on sessions complete: `mgt_apply` makes the staged block 000 of area 1 effective and closes every MGT session;
`session_close_all` closes every other MGT session and reports how many; `session_revalidate` closes those whose chain is no longer
admitted; `sess_close` closes the session of its instance. -/
def Obligations.SessionCommands : Prop :=
  (∀ (r : Req) (s : State) (p : Param), s.starts r P.mgt_apply p →
    let a := (s.answered r).applyStaged fun n => n / 2 ^ 16 == 0x1000
    exec (.mgtApply r) s = .next ((a.closeSessions (a.mgtLive fun _ _ => true)).done (s.namedBy r))) ∧
  (∀ (r : Req) (s : State) (p : Param), s.starts r P.session_close_all p →
    let a := s.answered r
    let l := a.mgtLive fun k _ => k != r.slot.val
    exec (.sessionCloseAll r) s = .next ((a.closeSessions l).done (s.namedBy r) (leBytes 1 l.length))) ∧
  (∀ (r : Req) (s : State) (p : Param), s.starts r P.session_revalidate p →
    let a := s.answered r
    let all := a.mgtLive fun _ _ => true
    let bad := a.mgtLive fun _ t => match t.chain with | some c => (a.admission c).isNone | none => false
    exec (.sessionRevalidate r) s =
      .next ((a.closeSessions bad).done (s.namedBy r) (leBytes 1 all.length ++ leBytes 1 bad.length ++ leBytes 2 0))) ∧
  (∀ (r : Req) (s : State) (p : Param), s.starts r P.sess_close p (own := s.namedBy r == perInst P.sess_close r.slot.val) →
    exec (.sessClose r) s =
      .next (((s.answered r).closeSession ((s.namedBy r - P.sess_close) / 65536)).done (s.namedBy r)))

/-! ### Regions (R82–R86, R447) -/

/-- `region_register` completes: its backing is prepared at the lowest FREE index under its present generation; a region of no group that
is not SCRATCH is then VALID, and its AK is reported; a SCRATCH one of no group waits for Reel's zeros, whose completion ends the
registration; one of a paired group sends CONFIG REGISTER to the twin and waits for its answer. A registration that fails reports its
reason and changes nothing else. Revocation completes: on an AK that is valid and current, `region_rekey` and `region_deregister`
advance the generation at once and begin the drain; a rekey of a region with an ACTIVE twin also sends CONFIG REKEY, and a
deregistration clears the rights. On any other AK they fail with NOT_VALID or BAD_AK. When `revoke_drain_timeout_ms` passes, the
messages still open under the old generation count as aborted, each queue pair that holds one enters ERROR (a CLOSING one is
destroyed), and the drain is looked at again. The descriptor cache and the buffers: a fill of a descriptor that packets wait for, read
without an error, puts it into the cache and lets those packets go on. A buffer freed by its owner, which no read of it holds back,
leaves its pool's list and the message that held it; a free of an address in no pool (charged to pool 0: the model's choice, log entry
189), inside a buffer, of a free buffer or by another agent is a bad free with its reason. -/
def Obligations.RegionCommands : Prop :=
  (∀ (r : Req) (s : State) (p : Param) (backing : Nat), s.starts r P.region_register p →
     let a := s.answered r
     let w := leNat r.args
     let idx := a.freeIndex
     let d := { regDesc w with gen := (a.desc idx).gen, backing := backing }
     let wait : PendingReg := { idx := idx, desc := d, waitTwin := d.group != 255, waitZero := d.cls == clsScratch }
     let b := (a.prepare idx d).modReg fun g => { g with pendingReg := some wait }
     let ended := fun t : State =>
       ((t.setDesc idx { d with state := .valid }).modReg fun g => { g with pendingReg := none }).done P.region_register
         (leBytes 4 (akOf idx d.gen))
     (a.regFails w (some backing) = none →
       (d.group = 255 → d.cls ≠ clsScratch → exec (.regionRegister r (some backing)) s = .next (ended b)) ∧
       (d.group = 255 → d.cls = clsScratch → exec (.regionRegister r (some backing)) s = .next b ∧
         ∀ t : State, t.reg.pendingReg = some wait → idx < 1048576 →
           let z := (t.dramZero backing (65536 * d.lengthSeg)).rqCount 11 (65536 * d.lengthSeg)
           exec (.scratchZeroFillComplete (BitVec.ofNat 20 idx)) t =
             .next (ended (z.modReg fun g => { g with pendingReg := some { wait with waitZero := false } }))) ∧
       (d.group ≠ 255 → exec (.regionRegister r (some backing)) s =
         .next (b.sendConfig d.group cfgRegister idx (leBytes 64 d.word) (s.namedBy r)).checkRegister)) ∧
     (∀ (place : Option Nat) (e : Nat), a.regFails w place = some e →
       exec (.regionRegister r place) s = .next (a.failed (s.namedBy r) e))) ∧
  ((∀ (r : Req) (s : State) (p : Param), (s.starts r P.region_rekey p ∨ s.starts r P.region_deregister p) →
     let a := s.answered r
     let num := s.namedBy r
     let i := akIndex (leNat r.args)
     let d := a.desc i
     let twin := a.twinActive d.group
     (i < 1048576 → d.state = .valid → d.gen = akGen (leNat r.args) →
       (s.starts r P.region_rekey p →
         let d' := { d with gen := nextGen d.gen, state := .draining, dereg := false }
         let t := (a.setDesc i d').modReg fun g =>
           { g with drains := g.drains.set i { oldGen := d.gen, cmd := num, configOut := twin, configDone := !twin } }
         exec (.regionRekey r) s =
           .next ((if twin then t.sendConfig d.group cfgRekey i (leBytes 64 d'.word) num else t).checkDrain i)) ∧
       (s.starts r P.region_deregister p →
         let t := (a.setDesc i { d with gen := nextGen d.gen, state := .draining, dereg := true, rights := {} }).modReg fun g =>
           { g with drains := g.drains.set i { oldGen := d.gen, cmd := num, configOut := false, configDone := true } }
         exec (.regionDeregister r) s = .next (t.checkDrain i).settle)) ∧
     ((1048576 ≤ i ∨ d.state ≠ .valid) →
       (s.starts r P.region_rekey p → exec (.regionRekey r) s = .next (a.failed num 0x0A)) ∧
       (s.starts r P.region_deregister p → exec (.regionDeregister r) s = .next (a.failed num 0x0A).settle)) ∧
     (i < 1048576 → d.state = .valid → d.gen ≠ akGen (leNat r.args) →
       (s.starts r P.region_rekey p → exec (.regionRekey r) s = .next (a.failed num 0x0B)) ∧
       (s.starts r P.region_deregister p → exec (.regionDeregister r) s = .next (a.failed num 0x0B).settle))) ∧
   (∀ (i : BitVec 20) (s : State) (dr : Drain), s.reg.drains.find? i.toNat = some dr →
     let n := s.openUnder i.toNat dr.oldGen
     (n = 0 → exec (.revokeDrainTimeout i) s = .next (s.checkDrain i.toNat).settle) ∧
     (n ≠ 0 →
       let t := s.modReg fun g => { g with drains := g.drains.set i.toNat { dr with aborted := dr.aborted + n } }
       let holders := t.xpt.qps.keysWhere fun _ q => q.msgs.any fun m => m.keys.contains (i.toNat, dr.oldGen)
       let close := fun (u : State) (q : Nat) =>
         if (leNat (u.cmdArg P.qp_destroy) == q && u.running P.qp_destroy) = true then
           (u.freeQp q).done P.qp_destroy (leBytes 4 (u.qp q).msgs.length)
         else u.freeQp q
       exec (.revokeDrainTimeout i) s =
         .next ((holders.foldl (fun u q => if (u.qp q).state = .closing then close u q else u.enterError q Cause.revokeAbort)
           t).checkDrain i.toNat).settle))) ∧
  ((∀ (i : BitVec 20) (s : State), (s.waitsFor i.toNat).isEmpty = false →
     (s.rqCount 2 64).dram.poison.contains (s.descAddr i.toNat / 64) = false →
     exec (.descCacheFill i false) s =
       .next (((s.waitsFor i.toNat).map (·.qpn)).eraseDups.foldl State.resumeQp ((s.rqCount 2 64).descTouch i.toNat)).settle) ∧
   (∀ (g : Fin 8) (x : BitVec 64) (u : BitVec 32) (s : State),
     (s.poolOf x.toNat = none → exec (.bufferFree g x u) s = .next (s.badFree 0 0 g.val x.toNat u.toNat).settle) ∧
     (∀ p k, s.poolOf x.toNat = some (p, k) →
       let off := x.toNat - s.poolBase p k
       let b := s.bufAt p k off
       (off % poolSize p ≠ 0 → exec (.bufferFree g x u) s = .next (s.badFree p 1 g.val x.toNat u.toNat).settle) ∧
       (off % poolSize p = 0 → (s.pool p).held.find? b = none →
         exec (.bufferFree g x u) s = .next (s.badFree p 2 g.val x.toNat u.toNat).settle) ∧
       (∀ o, off % poolSize p = 0 → (s.pool p).held.find? b = some o → o ≠ g →
         exec (.bufferFree g x u) s = .next (s.badFree p 3 g.val x.toNat u.toNat).settle) ∧
       (off % poolSize p = 0 → (s.pool p).held.find? b = some g → s.bufReads (p, b) = false →
         exec (.bufferFree g x u) s = .next
           (((s.setPool p { s.pool p with held := (s.pool p).held.del b }).modReg fun y =>
             { y with holds := y.holds.filter fun h => !(h.pool == p && h.buf == b) }).modXpt fun y =>
             { y with qps := y.qps.mapVals fun _ q => { q with msgs := q.msgs.map fun m => { m with bufs := m.bufs.filter (· != (p, b)) } } }).settle))))

/-! ### Ports, queue pairs and completion queues (R96–R98, R107–R109, R117–R121) -/

/-- Port links: lane alignment and FEC lock bring an unheld port up with its event; their loss drops what waits on the port, resets the
port's own state, records the event and counts it, and drops the adjacencies of the port. Priority flow control on a host port whose
link is up, with pfc_enable set; PFC_REPEAT_TIMER, PFC_XON, PFC_FRAME_RECEIVED, PFC_PAUSE_EXPIRY, PFC_WATCHDOG_TRIP and
PFC_WATCHDOG_RELEASE complete. Quanta FFFF go out again while the level stays above XON, one frame of quanta 0 when it falls below. A
received pause of the port's priority holds the port for its quanta and quanta 0 ends it; one of another priority, or at a port that
ignores pauses, does nothing. A pause's expiry sends what waited. The watchdog makes the port ignore pauses, counts and records the
storm and sends what waited; its release lets the port be paused again. -/
def Obligations.PortsAndFlowControl : Prop :=
  ((∀ (k : Fin 4) (s : State), s.portHeld k = false → (s.port k).linkUp = false →
     exec (.portLinkUp k) s = .next ((s.modPort k fun h => { h with linkUp := true }).event 0x3040 k [1])) ∧
   (∀ (k : Fin 4) (s : State), (s.port k).linkUp = true →
     let t : State := { s with paused := s.paused.filter fun o => !o.onPort k }
     exec (.portLinkDown k) s =
       .next ((((t.modPort k fun _ => {}).event 0x3040 k [0]).bump (perInst P.port_link_downs k)).dropPortAdjs k))) ∧
  ((∀ (k : Fin 4) (s : State), (s.port k.val).linkUp = true → s.paramOn P.pfc_enable = true →
     ((s.port k.val).xoff = true → s.param P.pfc_xon_kib < (s.port k.val).rxBufKib →
       exec (.pfcRepeatTimer k) s = .next ((s.emit (.pfc k.val (s.param P.pfc_priority) 0xFFFF)).bump P.pfc_frames_sent)) ∧
     (∀ level, (s.port k.val).xoff = true → level < s.param P.pfc_xon_kib →
       let t := s.modPort k.val fun h => { h with rxBufKib := level, xoff := false }
       exec (.pfcXon k level) s = .next ((t.emit (.pfc k.val (s.param P.pfc_priority) 0)).bump P.pfc_frames_sent)) ∧
     (∀ (prio : Fin 8) (quanta : BitVec 16), prio.val = s.param P.pfc_priority → (s.port k.val).ignoring = false →
       (quanta = 0 → exec (.pfcFrameReceived k prio quanta) s = .next (s.resumePort k.val).settle) ∧
       (quanta ≠ 0 → exec (.pfcFrameReceived k prio quanta) s = .next (s.modPort k.val fun h => { h with
         pausedSince := some (h.pausedSince.getD s.now), pausedUntil := some (s.now + ceilDiv (64 * quanta.toNat) 100) }).settle)) ∧
     (∀ (prio : Fin 8) (quanta : BitVec 16), (prio.val ≠ s.param P.pfc_priority ∨ (s.port k.val).ignoring = true) →
       exec (.pfcFrameReceived k prio quanta) s = .next s.settle)) ∧
   (∀ (k : Fin 4) (s : State),
     exec (.pfcPauseExpiry k) s = .next (s.resumePort k.val).settle ∧
     ((s.port k.val).pausedSince = none → exec (.pfcWatchdogTrip k) s = .next s.settle) ∧
     (∀ t, (s.port k.val).pausedSince = some t →
       let u := (s.modPort k.val fun h => { h with ignoring := true }).bump P.pfc_watchdog_trips
       exec (.pfcWatchdogTrip k) s =
         .next ((u.event 0x3041 k.val [u.param P.pfc_priority, (u.now - t) / 1000000]).resumePort k.val).settle) ∧
     exec (.pfcWatchdogRelease k) s = .next (s.modPort k.val fun h => { h with ignoring := false })))

/-- The queue pair COMMANDs complete: `qp_create` whose image no check of R107 refuses makes a READY queue pair from it, with its SA keys
wrapped again under CWK, counts it at its completion queue, makes an inherited predecessor RETAINED and reports the number, and
otherwise fails with the first reason; `qp_destroy` begins to close a READY queue pair, frees one in ERROR, frees a RETAINED one and
ends what inherits from it, and fails for a FREE or a CLOSING one; `qp_force_error` brings a READY queue pair to ERROR with cause 0x0B
and fails for any other. The completion queue COMMANDs and its control line complete: `cq_create` whose image no check refuses looks
its ring's descriptor up, zeroes the ring and its control line and makes the queue READY, and otherwise fails with the first reason;
`cq_destroy` frees a queue that no queue pair is bound to, and fails for a FREE or a bound one; a control line read again, while
entries wait, places as many of them as there is room for. The timers and fills of queue pairs complete: a close timeout frees the
CLOSING queue pair, and reports the messages aborted where its `qp_destroy` still runs; an inheritance deadline ends the inheritance,
and frees the predecessor that it retains; a wait deadline brings the waiting queue pair to ERROR with cause 0x06; a context fill that
packets wait for writes back the modified context it takes the slot of, fills the slot and lets the packets go on, and where its line
is uncorrected or poisoned the queue pair first enters ERROR with a log that none can inherit. -/
def Obligations.QueuePairsAndCompletionQueues : Prop :=
  ((∀ (r : Req) (s : State) (p : Param) (saOk : Bool), s.starts r P.qp_create p →
     let a := s.answered r
     let w := leNat r.args
     let key := a.param P.sa_wrap_key
     let c := { ctxOf w with saIn := Config.rewrapSa key (ctxOf w).saIn, saOut := Config.rewrapSa key (ctxOf w).saOut }
     let n := bits w 17 0
     (a.qpCreateFails w saOk = none →
       let t1 := a.modQp n fun _ =>
         { state := .ready, ctx := c, port := (a.portOfIp c.localIp.toNat).getD 0
           ring := { gga := BitVec.ofNat 64 (bits w 1183 1120), ak := BitVec.ofNat 32 (bits w 1119 1088), log2 := bits w 1220 1216 }
           epsn := bits w 87 64, inheritDeadline := if c.inherit then a.now + a.param P.inherit_window_ms * 1000000 else 0 }
       let t2 := if c.cqBound then t1.modCq c.cq.toNat fun k => { k with boundQps := k.boundQps + 1 } else t1
       let t3 := if c.inherit then t2.modQp c.predQpn.toNat fun q => { q with state := .retained } else t2
       exec (.qpCreate r saOk) s = .next (t3.done (s.namedBy r) (leBytes 4 n))) ∧
     (∀ e, a.qpCreateFails w saOk = some e → exec (.qpCreate r saOk) s = .next (a.failed (s.namedBy r) e))) ∧
   (∀ (r : Req) (s : State) (p : Param), s.starts r P.qp_destroy p →
     let a := s.answered r
     let n := leNat r.args
     ((a.qp n).state = .ready →
       exec (.qpDestroy r) s = .next (((a.modQp n fun q => { q with state := .closing }).endInherit n).release n)) ∧
     ((a.qp n).state = .error → exec (.qpDestroy r) s = .next ((a.freeQp n).done (s.namedBy r) (leBytes 4 0))) ∧
     ((a.qp n).state = .retained →
       let t := (a.successors n).foldl (fun t k => t.modQp k fun q =>
         { q with inheritDeadline := 0, ctx := { q.ctx with inherit := false } }) a
       exec (.qpDestroy r) s = .next ((t.freeQp n).done (s.namedBy r) (leBytes 4 0))) ∧
     ((a.qp n).state = .free → exec (.qpDestroy r) s = .next (a.failed (s.namedBy r) 0x02)) ∧
     ((a.qp n).state = .closing → exec (.qpDestroy r) s = .next (a.failed (s.namedBy r) 0x0A))) ∧
   (∀ (r : Req) (s : State) (p : Param), s.starts r P.qp_force_error p →
     let a := s.answered r
     let st := (a.qp (leNat r.args)).state
     (st = .ready → exec (.qpForceError r) s = .next ((a.enterError (leNat r.args) 0x0B).done (s.namedBy r))) ∧
     (st = .free → exec (.qpForceError r) s = .next (a.failed (s.namedBy r) 0x02)) ∧
     (st ≠ .ready → st ≠ .free → exec (.qpForceError r) s = .next (a.failed (s.namedBy r) 0x0A)))) ∧
  ((∀ (r : Req) (s : State) (p : Param), s.starts r P.cq_create p →
     let w := leNat r.args
     let c := cqOf w
     let n := bits w 17 0
     let a := (s.answered r).descUse (akIndex c.ringAk.toNat)
     (∀ idx off, a.cqCreateFails w = none → a.ringAt c.ringGga.toNat c.ringAk.toNat (32 * 2 ^ c.log2 + 64) = some (idx, off) →
       exec (.cqCreate r) s = .next
         (((a.regionZero idx off (32 * 2 ^ c.log2 + 64)).modCq n fun _ => { c with state := .ready }).done (s.namedBy r) (leBytes 4 n))) ∧
     (∀ e, a.cqCreateFails w = some e → exec (.cqCreate r) s = .next (a.failed (s.namedBy r) e))) ∧
   (∀ (r : Req) (s : State) (p : Param), s.starts r P.cq_destroy p →
     let a := s.answered r
     let n := leNat r.args
     ((a.cq n).state ≠ .free → (a.cq n).boundQps = 0 →
       exec (.cqDestroy r) s =
         .next (((a.modXpt fun x => { x with cqs := x.cqs.del n }).dirtySeg (a.cqSeg n)).done (s.namedBy r))) ∧
     ((a.cq n).state = .free → exec (.cqDestroy r) s = .next (a.failed (s.namedBy r) 0x02)) ∧
     ((a.cq n).state ≠ .free → 0 < (a.cq n).boundQps → exec (.cqDestroy r) s = .next (a.failed (s.namedBy r) 0x0B))) ∧
   (∀ (n : BitVec 18) (s : State), (s.cq n.toNat).pending.isEmpty = false → (s.cq n.toNat).state = .ready →
     exec (.cqControlReread n) s = .next ((s.cqReread n.toNat).cqFlush n.toNat (s.cq n.toNat).pending.length))) ∧
  ((∀ (n : BitVec 18) (s : State), (s.qp n.toNat).state = .closing →
     (leNat (s.cmdArg P.qp_destroy) = n.toNat → s.running P.qp_destroy = true →
       exec (.qpCloseTimeout n) s = .next ((s.freeQp n.toNat).done P.qp_destroy (leBytes 4 (s.qp n.toNat).msgs.length))) ∧
     ((leNat (s.cmdArg P.qp_destroy) ≠ n.toNat ∨ s.running P.qp_destroy = false) →
       exec (.qpCloseTimeout n) s = .next (s.freeQp n.toNat))) ∧
   (∀ (n : BitVec 18) (s : State), (s.qp n.toNat).ctx.inherit = true →
     let t := s.modQp n.toNat fun q => { q with inheritDeadline := 0, ctx := { q.ctx with inherit := false } }
     let k := (s.qp n.toNat).ctx.predQpn.toNat
     exec (.inheritDeadlinePassed n) s = .next (if (t.qp k).state = .retained then t.freeQp k else t)) ∧
   (∀ (n : BitVec 18) (s : State), (s.qp n.toNat).wait.active = true →
     exec (.waitDeadlinePassed n) s = .next (s.enterError n.toNat 0x06).settle) ∧
   (∀ (n : BitVec 18) (s : State) (bad : Bool), s.qccHas n.toNat = false →
     s.xpt.waiting.any (fun w => w.qpn == n.toNat && w.idx.isNone) = true →
     (s.xpt.qcc.length < 16384 ∨ s.qccVictim.isSome = true) →
     let old := if 16384 ≤ s.xpt.qcc.length then s.qccVictim else none
     let back := if s.xpt.qcc.any (fun x => some x.qpn == old && x.modified) then s.rqCount 3 1536 else s
     let t := (back.modXpt fun x => { x with qcc := { qpn := n.toNat } :: x.qcc.filter fun y => some y.qpn != old }).rqCount 3 1536
     let poisoned := t.dram.poison.contains (t.ctxAddr n.toNat / 64)
     (bad = false → poisoned = false → exec (.qccFill n bad) s = .next (t.resumeQp n.toNat).settle) ∧
     ((bad = true ∨ poisoned = true) →
       let u := (if poisoned then t else t.lineFault 3 (t.ctxAddr n.toNat)).modQp n.toNat fun q => { q with logDead := true }
       exec (.qccFill n bad) s = .next ((u.enterError n.toNat Cause.channelHalt).resumeQp n.toNat).settle)))

/-! ### Request packets (chapter 5) -/

/-- The first packet of an RDMA WRITE or DWRITE into a region of this member completes: with the access granted and room for the message
it is taken (its PSN accepted, its payload made placements) under the charge, frames and buffer it has reserved. A MIDDLE or LAST
packet of the SEND, RDMA WRITE, DWRITE or AWG in progress on its queue pair, of the message's kind and within its length, for which
buffers are free, completes: its PSN is accepted, its payload joins the message (an AWG's its data, any other's its placements), a
LAST packet ends the message, and what can be issued is issued. The LAST packet of a write that carries the immediate takes the next
receive entry and a place in the completion queue (the model's choice, log entry 189). READ, TREAD and the atomics (COMPARE SWAP,
FETCH ADD, CAS16) on a region of this member complete: with room for the message it is taken, with no access check before its DRAM
access is issued (R80). -/
def Obligations.WritesReadsAndAtomicsAdmitted : Prop :=
  (∀ (p : Pkt) (pos : Pos) (data : Bytes) (s : State) (n : Nat) (op : ReqOp),
     (∃ reth, op = .write pos (some reth) none data) ∨ (∃ g, op = .dwrite pos (some g) data) →
     s.opens p op n →
     let u := s.presented p n op
     let m := openMsg (u.qp n) p.psn.toNat none op
     let lm := u.located m m.gga m.ak
     let segs := (segsOf lm.off m.len).map fun g => (lm.idx, g)
     u.foreign m.gga m.ak = false →
     u.placementCheck { pd := m.pd, ak := m.ak, gga := m.gga, len := m.len, need := m.rights } = none → lm.idx ∉ u.reg.lost →
     u.roomFor n lm segs 0 data.length true →
     let c := u.charged n lm segs data.length
     let t := (c.1.takeMsg n c.2 op).ackRequested n p.ackReq op
     (∀ reth, op = .write pos (some reth) none data → exec (.rdmaWrite p pos (some reth) data) s = .next t) ∧
     (∀ g, op = .dwrite pos (some g) data → exec (.dwrite p pos (some g) data) s = .next t)) ∧
  (∀ (p : Pkt) (op : ReqOp) (s : State) (n : Nat) (m : OpenMsg), s.continues p op n m →
     let q := (s.continued p n op).qp n
     let data := opData op
     let total := m.rcvd + data.length
     let last := (opPos op).ends
     let imm := opImm op
     let late : Bool := m.kind = .write && imm.isSome
     let r := if late then (s.continued p n op).nextRecv n else (s.continued p n op, .entry ⟨0, 0, 0, 2 ^ 30⟩)
     ∀ e, r.2 = .entry e → (late = true → m.len ≤ e.len) →
     let c := if late && q.ctx.cqBound then r.1.cqRoom q.ctx.cq.toNat else (r.1, true)
     let b := c.1.stage m data.length
     c.2 = true → (0 < data.length → b.2.isSome = true) →
     let s1 := if late && q.ctx.cqBound then b.1.modCq q.ctx.cq.toNat fun k => { k with reserved := k.reserved + 1 } else b.1
     let s2 := if late then s1.consumeRecv n else s1
     let s3 := (s2.acceptPsn n 1).modMsg n m.id fun x =>
       let x := { x with lastPsn := p.psn.toNat, bufs := x.bufs ++ b.2.toList, ended := last }
       let x := if x.kind = .send then
           { x with len := total, cqe := x.cqe.map fun c => match imm with | some i => { c with imm := i.toNat } | none => c }
         else x
       let x := if late then { x with kind := .writeImm, cqe := some { tag := e.wrId, gga := x.gga, imm := (imm.getD 0).toNat } } else x
       if x.via.isSome then { x with rcvd := total }
       else if x.kind = .awg then { x with data := x.data ++ data, rcvd := total }
       else x.addData n data
     let s4 := s3.modQp n fun y => { y with inProgress := if last then none else y.inProgress }
     let t := (s4.advance n).ackRequested n p.ackReq op
     (∀ pos reth d, op = .write pos reth none d → exec (.rdmaWrite p pos reth d) s = .next t) ∧
     (∀ reth i d, op = .write .last reth (some i) d → exec (.rdmaWriteWithImmediate p false reth i d) s = .next t) ∧
     (∀ pos g d, op = .dwrite pos g d → exec (.dwrite p pos g d) s = .next t) ∧
     (∀ pos i d, op = .send pos i d → exec (.send p pos i d) s = .next t) ∧
     (∀ pos g d, op = .awg pos g d → exec (.awg p pos g d) s = .next t)) ∧
  (∀ (p : Pkt) (s : State) (n : Nat) (op : ReqOp),
     (∃ h, op = .read h) ∨ (∃ h, op = .cswap h) ∨ (∃ h, op = .fadd h) ∨ (∃ g c w, op = .cas16 g c w) ∨ (∃ g, op = .tread g) →
     s.opens p op n →
     let u := s.presented p n op
     let m := openMsg (u.qp n) p.psn.toNat none op
     let lm := { u.located m m.gga m.ak with keys := [] }
     let segs := if m.kind.isAtomic then (segsOf lm.off m.len).map fun g => (lm.idx, g) else []
     u.foreign m.gga m.ak = false → u.roomFor n lm segs 0 0 true →
     let c := u.charged n lm segs 0
     let t := c.1.takeMsg n c.2 op
     (∀ h, op = .read h → exec (.rdmaReadRequest p h) s = .next t) ∧
     (∀ h, op = .cswap h → exec (.compareSwap p h) s = .next t) ∧
     (∀ h, op = .fadd h → exec (.fetchAdd p h) s = .next t) ∧
     (∀ g k w, op = .cas16 g k w → exec (.cas16 p g k w) s = .next t) ∧
     (∀ g, op = .tread g → exec (.tread p g) s = .next t))

/-- SEND and RDMA WRITE WITH IMMEDIATE take the next receive entry: the first packet of a SEND that fits the entry, into a buffer that may
be written, is admitted into it and consumes the entry; a single-packet write with immediate consumes the entry once its message is
admitted. -/
def Obligations.SendsTakeReceiveEntries : Prop :=
  (∀ (p : Pkt) (pos : Pos) (imm : Option (BitVec 32)) (data : Bytes) (s : State) (n : Nat) (e : RecvEntry),
    let op := ReqOp.send pos imm data
    s.opens p op n →
    let u := s.presented p n op
    let w := (u.nextRecv n).1.descUse (akIndex e.ak)
    (u.nextRecv n).2 = .entry e → data.length ≤ e.len →
    let m := { openMsg (u.qp n) p.psn.toNat none op with
      gga := e.gga, ak := e.ak, len := data.length, bufLen := e.len
      cqe := some { tag := e.wrId, gga := e.gga, imm := (imm.getD 0).toNat } }
    let span := if pos.ends then data.length else e.len
    w.placementCheck { pd := ((u.nextRecv n).1.qp n).ctx.pd, ak := e.ak, gga := e.gga, len := span, need := m.rights } = none →
    let lm := w.located m e.gga e.ak
    let segs := (segsOf lm.off span).map fun g => (lm.idx, g)
    lm.idx ∉ w.reg.lost → w.roomFor n lm segs 0 data.length true →
    let c := w.charged n lm segs data.length
    exec (.send p pos imm data) s = .next (((c.1.consumeRecv n).takeMsg n c.2 op).ackRequested n p.ackReq op)) ∧
  (∀ (p : Pkt) (h : Reth) (imm : BitVec 32) (data : Bytes) (s : State) (n : Nat) (e : RecvEntry),
    let op := ReqOp.write .only (some h) (some imm) data
    s.opens p op n →
    let u := s.presented p n op
    let w := (u.nextRecv n).1
    (u.nextRecv n).2 = .entry e →
    let m0 := openMsg (u.qp n) p.psn.toNat none op
    let m := { m0 with cqe := m0.cqe.map fun c => { c with tag := e.wrId } }
    let lm := w.located m m.gga m.ak
    let segs := (segsOf lm.off m.len).map fun g => (lm.idx, g)
    m.len ≤ e.len → u.foreign m.gga m.ak = false →
    w.placementCheck { pd := m.pd, ak := m.ak, gga := m.gga, len := m.len, need := m.rights } = none → lm.idx ∉ w.reg.lost →
    w.roomFor n lm segs 0 data.length true →
    let c := w.charged n lm segs data.length
    let t := c.1.takeMsg n c.2 op
    (w.qp n).nextId < (t.qp n).nextId → (∃ x, (t.qp n).msg m.id = some x ∧ x.verdict = none) →
    exec (.rdmaWriteWithImmediate p true (some h) imm data) s = .next (t.consumeRecv n))

/-- The operations without a target complete: the first HXV_OFFER that shares a version fixes it and is taken; a FLUSH with room is taken;
a WAIT on a READY completion queue makes the queue pair wait where the count is below the threshold, and is taken; a reserved opcode draws
NAK 0x61 and brings the queue pair to ERROR with cause 0x02. -/
def Obligations.TargetlessOperations : Prop :=
  (∀ (p : Pkt) (o0 o1 o2 o3 : BitVec 16) (s : State) (n : Nat),
    let op := ReqOp.hxvOffer o0 o1 o2 o3
    s.opens p op n →
    let u := s.presented p n op
    let m := openMsg (u.qp n) p.psn.toNat none op
    (u.qp n).hxvSet = false → hxvChoice [o0, o1, o2, o3] ≠ 0 →
    let t := u.modQp n fun q => { q with hxvSet := true, hxv := hxvChoice [o0, o1, o2, o3] }
    exec (.hxvOffer p o0 o1 o2 o3) s = .next (((t.acceptPsn n 1).pushMsg n m).advance n)) ∧
  (∀ (p : Pkt) (g : Gxh) (s : State) (n : Nat),
    let op := ReqOp.flush g
    s.opens p op n →
    let u := s.presented p n op
    let m := openMsg (u.qp n) p.psn.toNat none op
    u.roomFor n m [] 0 0 false →
    exec (.flush p g) s = .next ((u.charged n m [] 0).1.takeMsg n (u.charged n m [] 0).2 op)) ∧
  (∀ (p : Pkt) (th : BitVec 64) (cqn : BitVec 18) (s : State) (n : Nat),
    let op := ReqOp.wait th cqn
    s.opens p op n →
    let u := s.presented p n op
    let m := openMsg (u.qp n) p.psn.toNat none op
    (u.cq cqn.toNat).state = .ready →
    let t := if (u.cq cqn.toNat).count < th.toNat then u.modQp n fun q =>
        { q with wait := { active := true, cq := cqn.toNat, threshold := th.toNat
                           deadline := u.now + u.param P.wait_timeout_ms * 1000000 } }
      else u
    exec (.wait p th cqn) s = .next (((t.acceptPsn n 1).pushMsg n m).advance n)) ∧
  (∀ (p : Pkt) (o : BitVec 8) (s : State) (n : Nat), s.presents p (.invalid o) n →
    exec (.invalidOpcode p o) s = .next (((s.presented p n (.invalid o)).nak n p.psn.toNat 0x61).enterError n 0x02))

/-- The first packet of a well-structured AWG whose extents may be written, all in MIRRORED or LOCAL regions of one group and none of them
LOST, completes: with room for it, its redo record is reserved and STAGING, and its packet is taken. -/
def Obligations.AtomicWriteGroupAdmitted : Prop :=
  ∀ (p : Pkt) (pos : Pos) (g : Gxh) (data : Bytes) (s : State) (n : Nat),
    let op := ReqOp.awg pos (some g) data
    s.opens p op n →
    let u := s.presented p n op
    let x := g.extents.toNat
    let m0 := openMsg (u.qp n) p.psn.toNat none op
    let m := if 0 < x then
        { m0 with gga := beAt data 0 8, ak := beAt data 8 4, cqe := m0.cqe.map fun c => { c with gga := beAt data 0 8 } }
      else m0
    let ext := awgExtents x data
    (0 < x → u.foreign (beAt data 0 8) (beAt data 8 4) = false) →
    awgStructure (u.qp n).ctx.mtuBytes x m.len (u.ownExtents ext) = none → u.awgAccess m ext = none →
    let descs := ext.map fun e => u.desc (akIndex e.2.1)
    let group := match descs with
      | d :: _ => d.group
      | [] => 255
    (descs.any fun d => d.group != group) = false → (descs.any fun d => d.cls != clsMirrored && d.cls != clsLocal) = false →
    (ext.any fun e => u.reg.lost.contains (akIndex e.2.1)) = false →
    let places := ext.map fun e => (akIndex e.2.1, ggaOffset e.1 - (u.desc (akIndex e.2.1)).base, e.2.2)
    let segs := (places.flatMap fun q => (segsOf q.2.1 q.2.2).map fun k => (q.1, k)).eraseDups
    let redo := ceilDiv (16 * x + m.len) 64 * 64
    let lm := { m with
      group := group, cls := clsMirrored, idx := (places.getD 0 (0, 0, 0)).1
      keys := (ext.map fun e => (akIndex e.2.1, (u.desc (akIndex e.2.1)).gen)).eraseDups }
    u.roomFor n lm segs redo data.length true →
    let c := u.charged n lm segs data.length
    let t := c.1.modPde fun y =>
      { y with
        awgs := y.awgs ++ [{ qpn := n, msg := m.id, group := group, extents := places.map fun e => (e.1, e.2.1, [])
                             redoOffset := y.redoHead, redoLen := redo }]
        redoHead := (y.redoHead + redo) % (512 * 65536)
        awgAdmits := c.1.now :: y.awgAdmits.filter fun k => c.1.now < k + 1000000000 }
    exec (.awg p pos (some g) data) s = .next ((t.takeMsg n c.2 op).ackRequested n p.ackReq op)

/-- The oldest placement on RQ0, where it is not a group's apply, and the oldest read on RQ1 complete: the placement is carried out, what
follows is issued, and every line found bad for the first time is reported; the read of good lines gives its data to its message, which
goes on. -/
def Obligations.PlacementsAndReadsComplete : Prop :=
  (∀ (bad : List Nat) (s : State) (j : Job) (rest : List Job), s.xpt.rq0 = j :: rest → (∀ k, j.op ≠ .awg k) →
    let r := ((s.rqCount 0 j.op.len).modXpt fun x => { x with rq0 := rest }).placeJob j bad
    exec (.placementComplete bad) s = .next (r.1.advanceAll.lineFaults 0 3 r.2).settle) ∧
  (∀ (s : State) (j : ReadJob) (rest : List ReadJob) (m : OpenMsg), s.xpt.rq1 = j :: rest →
    let t := (s.rqCount 1 j.len).modXpt fun x => { x with rq1 := rest }
    (∀ i, t.dram.poison.contains i = false) → (t.qp j.qpn).msg j.msg = some m →
    let t1 := (t.modMsg j.qpn j.msg fun x => { x with data := x.data ++ t.regionRead j.idx j.off j.len }).modMsg j.qpn j.msg fun x =>
      { x with outstanding := x.outstanding - 1 }
    exec (.readDataReturned [] []) s = .next (t1.reserveLater j.qpn j.msg).advanceAll.settle)

/-- A placement of a write changes exactly its own bytes of the DRAM: with no bad or poisoned line under it, every byte of the payload
reads as placed and every other byte reads as before. -/
def Obligations.PlacementWritesExactlyItsBytes : Prop :=
  ∀ (s : State) (j : Job) (d : Bytes) (lsn : Nat), j.op = .write d → 0 < d.length → Memory.wf s.dram.mem = true →
    (s.desc j.idx).tiered = false → s.lsnOf j.idx (j.off / 65536) = some lsn → s.dram.poison = [] →
    let base := lsn * 65536 + j.off % 65536
    let t := (s.placeJob j []).1
    (∀ i, (h : i < d.length) → Memory.readByte t.dram.mem (base + i) = d[i]) ∧
    (∀ x, (x < base ∨ base + d.length ≤ x) → Memory.readByte t.dram.mem x = Memory.readByte s.dram.mem x) ∧
    Memory.wf t.dram.mem = true

/-! ### Congestion (R163, R164, R168, R170–R172) -/

/-- The marking fractions: BUDGET_OCCUPANCY_TICK and WREG_WINDOW_TICK complete. With PDE clocked, the tick sets u (the occupancy in per
cent, 65,535 at most) and f_budget: 0 below the low mark, the ramp between the marks, 1 from the high mark on. With a permitted budget
of 0, u and f_budget are 0 while nothing is dirty or reserved, and 65,535 and 1 otherwise. The regulator's window keeps its share
without tokens and sets f_wreg to wreg_mark_pct when that share is at least wreg_sat_pct, to 0 otherwise. CNP_RECEIVED and
GOV_STEP_TIMER complete. A CNP that reaches a READY queue pair is marked if it carries CE, is counted, brings the queue pair's token
bucket up to the moment, and then cuts the rate: R_T becomes R_C, and R_C its gov_cut_pct per cent but no less than gov_rate_min_mbps,
and gov_cuts counts; within gov_cut_hold_us of the last cut nothing is cut. A CNP for a queue pair that is not READY is counted in
rx_unknown_qp. A step of the timer closes half of the gap to R_T, closes it whole when less than the increment is left, and once there
raises both by the increment up to 800,000 Mb/s; on a queue pair that is not READY it changes nothing. -/
def Obligations.CongestionControl : Prop :=
  ((∀ (s : State), s.gated 4 = false →
     let n := s.dirtyCount + s.pde.reserved
     let p := s.permitted
     let low := s.param P.mark_low_pct
     let high := s.param P.mark_high_pct
     let ramp := s.param P.mark_ramp_max_pct
     (p = 0 → n = 0 → exec .budgetOccupancyTick s =
       .next { s with xpt := { s.xpt with fNum := 0, fDen := 1, occupancyPct := 0 } }) ∧
     (p = 0 → 0 < n → exec .budgetOccupancyTick s =
       .next { s with xpt := { s.xpt with fNum := 1, fDen := 1, occupancyPct := 65535 } }) ∧
     (0 < p → 100 * n < low * p → exec .budgetOccupancyTick s =
       .next { s with xpt := { s.xpt with fNum := 0, fDen := 1, occupancyPct := min (100 * n / p) 65535 } }) ∧
     (0 < p → low * p ≤ 100 * n → 100 * n < high * p → exec .budgetOccupancyTick s =
       .next { s with xpt := { s.xpt with
         fNum := ramp * (100 * n - low * p), fDen := 100 * p * (high - low), occupancyPct := min (100 * n / p) 65535 } }) ∧
     (0 < p → low * p ≤ 100 * n → high * p ≤ 100 * n → exec .budgetOccupancyTick s =
       .next { s with xpt := { s.xpt with fNum := 1, fDen := 1, occupancyPct := min (100 * n / p) 65535 } })) ∧
   (∀ (k : Nat) (s : State), s.gated 4 = false → k ≤ 100 →
     exec (.wregWindowTick k) s = .next { s with
       dram := { s.dram with emptyPct := s.dram.emptyPct.set 0 k }
       xpt := { s.xpt with fWreg := if s.param P.wreg_sat_pct ≤ k then s.param P.wreg_mark_pct else 0 } })) ∧
  ((∀ (p : Pkt) (s : State) (n : Nat), s.accepts p 0x81 n →
     (((s.counted p n).qp n).state = .ready →
       let b := ((s.counted p n).ceMark n p.ce).bump P.cnp_received
       let c := b.modGov n fun g => g.fill b.now
       let g := (c.qp n).gov
       let rc := max (c.param P.gov_rate_min_mbps) (g.rc * c.param P.gov_cut_pct / 100)
       let cut := (c.modGov n fun x => { x with rt := g.rc, rc := rc, lastCut := some c.now }).bump P.gov_cuts
       (g.lastCut = none → exec (.cnpReceived p) s = .next cut) ∧
       (∀ t, g.lastCut = some t → t + c.param P.gov_cut_hold_us * 1000 ≤ c.now → exec (.cnpReceived p) s = .next cut) ∧
       (∀ t, g.lastCut = some t → c.now < t + c.param P.gov_cut_hold_us * 1000 → exec (.cnpReceived p) s = .next c)) ∧
     (((s.counted p n).qp n).state ≠ .ready → exec (.cnpReceived p) s = .next ((s.counted p n).bump P.rx_unknown_qp))) ∧
   (∀ (n : BitVec 18) (s : State),
     let ai := s.param P.gov_ai_mbps
     let g := (s.qp n.toNat).gov
     let half := g.rc + (g.rt - g.rc) / 2
     let put := fun (rc rt : Nat) => s.modGov n.toNat fun x => { x.fill s.now with rc := rc, rt := rt }
     ((s.qp n.toNat).state = .ready → g.rc < g.rt → ai ≤ g.rt - half → exec (.govStepTimer n) s = .next (put half g.rt)) ∧
     ((s.qp n.toNat).state = .ready → g.rc < g.rt → g.rt - half < ai → exec (.govStepTimer n) s = .next (put g.rt g.rt)) ∧
     ((s.qp n.toNat).state = .ready → g.rt ≤ g.rc →
       exec (.govStepTimer n) s = .next (put (min 800000 (g.rc + ai)) (min 800000 (g.rc + ai)))) ∧
     ((s.qp n.toNat).state ≠ .ready → exec (.govStepTimer n) s = .next s)))

/-! ### Atomic write groups (R198) -/

/-- AWG_STAGE_COMPLETE, AWG_COMMIT_WRITTEN and AWG_APPLY_COMPLETE complete, at the group's own member and at the twin. The oldest group
whose message, or whose unit, has arrived whole is staged: its list and data go to the redo ring, counted on RQ6. The oldest staged
group takes the next number of the device's commit order and, mirrored under MPV 2, its UNIT frames; at the twin its MACK is due. A
group whose apply heads RQ0 places its extents, becomes APPLIED and lets its message be acknowledged; while another operation heads
RQ0, or with none there, the command moves no data. With nothing to stage or to commit the commands leave the groups as they are. -/
def Obligations.AtomicWriteGroupLife : Prop :=
  (∀ (s : State), s.pde.awgs.find? s.awgArrived = none → exec .awgStageComplete s = .next s) ∧
  (∀ (s : State) (a : Awg), s.pde.awgs.find? s.awgArrived = some a →
    let b := s.awgStream a
    let ext := fillExtents (b.drop (16 * a.extents.length)) ((awgExtents a.extents.length b).map (·.2.2)) a.extents
    let t := (s.redoWrite a.redoOffset (b ++ List.replicate (a.redoLen - b.length) 0) 514).rqCount 6 a.redoLen
    exec .awgStageComplete s = .next (t.modAwgs a.same fun x => { x with state := .staged, stream := b, extents := ext })) ∧
  (∀ (s : State),
    let n := s.pde.awgSeq
    let commit := fun (t : State) (a : Awg) (first epoch : Nat) => (t.bump P.awg_commits).modPde fun p =>
      { p with
        awgSeq := n + 1
        awgs := (p.awgs.filter fun x => !((x.state = .applied || x.state = .left) && x.seqNo + 1048576 == n)).map fun x =>
          if x.same a then { x with state := .committed, seqNo := n, mirrorSeq := first, epoch := epoch } else x }
    (s.pde.awgs.find? (·.state = .staged) = none → exec .awgCommitWritten s = .next s.advanceAll) ∧
    (∀ a, s.pde.awgs.find? (·.state = .staged) = some a → a.twin = true →
      exec .awgCommitWritten s =
        .next ((commit s a a.mirrorSeq a.epoch).modGrp a.group fun g => { g with mackDue := true }).advanceAll) ∧
    (∀ a, s.pde.awgs.find? (·.state = .staged) = some a → a.twin = false → (s.mirrors a.group && s.mpv2) = false →
      exec .awgCommitWritten s =
        .next ((commit s a a.mirrorSeq (if a.group = 255 then 0 else (s.grp a.group).epoch)).modMsg a.qpn a.msg id).advanceAll) ∧
    (∀ a, s.pde.awgs.find? (·.state = .staged) = some a → a.twin = false → (s.mirrors a.group && s.mpv2) = true →
      let r := s.issueUnit a.group a.stream a.redoLen a.extents.length
      exec .awgCommitWritten s = .next ((commit r.1 a r.2.1
        (if a.group = 255 then 0 else ((r.1.bump P.awg_commits).grp a.group).epoch)).modMsg a.qpn a.msg fun m =>
          { m with lastSeq := r.2.2, mirrored := true }).advanceAll)) ∧
  (∀ (n : BitVec 64) (s : State) (j : Job) (t : List Job) (a : Awg), s.xpt.rq0 = j :: t →
    s.pde.awgs.find? (fun a => a.state = .committed && a.seqNo == n.toNat) = some a →
    (j.op ≠ .awg n.toNat → exec (.awgApplyComplete n) s = .next s.settle) ∧
    (j.op = .awg n.toNat →
      let u := (({ s with xpt := { s.xpt with rq0 := t } } : State).applyExtents a).rqCount 0 ((a.extents.map (·.2.2.length)).sum)
      let v := u.modAwgs a.same fun x => { x with state := .applied, stream := [] }
      (a.twin = true → exec (.awgApplyComplete n) s = .next v.advanceAll.settle) ∧
      (a.twin = false →
        exec (.awgApplyComplete n) s = .next ((v.modMsg a.qpn a.msg fun m => { m with awgDone := true }).advanceAll).settle))) ∧
  (∀ (n : BitVec 64) (s : State), s.xpt.rq0 = [] → exec (.awgApplyComplete n) s = .next s.settle)

/-! ### Budget and drain (R182–R186) -/

/-- BUDGET_COMPUTE and BUDGET_OVER_WARNING complete. With PDE clocked, the 1 ms computation keeps its inputs; then a candidate below the
permitted budget lowers it at once, counted and recorded; the first candidate above 0 sets it without a hold, and until then 0 stands;
a later candidate at least 1 GiB above it raises it when the hold has passed, and starts or continues the hold before; an equal one
ends the hold. With u at 100 percent or more and PDE clocked, the warning is recorded; otherwise it is not. -/
def Obligations.BudgetFollowsCandidate : Prop :=
  (∀ (codes : List (BitVec 12)) (s : State), (s.sample codes).gated 4 = false →
    let t := s.sample codes
    let c := t.candidate.1
    let e := t.energyBytes
    let u := t.modPde fun p => { p with budget := { p.budget with
      energyGib := e.1 / e.2 / 2 ^ 30, areaGib := t.areaBytes / 2 ^ 30, areaMib := t.saveAreaMib, limit := t.candidate.2
      capMf := t.store.capMf, holdMv := t.holdLow } }
    let b := t.pde.budget
    let now := u.modPde fun p => { p with budget := { p.budget with permittedGib := c, raiseSince := none, firstSet := true } }
    (c < b.permittedGib →
      let l := match t.candidate.2 with
        | .configured => 0
        | .energy => 1
        | .area => 2
        | .noMeasurement => 3
      exec (.budgetCompute codes) s = .next ((now.bump P.budget_decreases).event 0x2540 0 [b.permittedGib, c, l])) ∧
    (b.permittedGib ≤ c → b.firstSet = false → 0 < c → exec (.budgetCompute codes) s = .next now) ∧
    (b.permittedGib ≤ c → b.firstSet = false → c = 0 → exec (.budgetCompute codes) s = .next u) ∧
    (b.firstSet = true → b.permittedGib + 1 ≤ c →
      b.raiseSince.getD u.now + u.param P.budget_raise_hold_s * secNs ≤ u.now → exec (.budgetCompute codes) s = .next now) ∧
    (b.firstSet = true → b.permittedGib + 1 ≤ c →
      u.now < b.raiseSince.getD u.now + u.param P.budget_raise_hold_s * secNs →
      exec (.budgetCompute codes) s =
        .next (u.modPde fun p => { p with budget := { p.budget with raiseSince := some (b.raiseSince.getD u.now) } })) ∧
    (b.firstSet = true → b.permittedGib = c → exec (.budgetCompute codes) s =
      .next (u.modPde fun p => { p with budget := { p.budget with raiseSince := none } }))) ∧
  (∀ (s : State), s.occAtLeast 100 = true → s.gated 4 = false →
    exec .budgetOverWarning s = .next (s.event 0x2541 0 [s.occupancyPct, s.pde.budget.permittedGib])) ∧
  (∀ (s : State), (s.occAtLeast 100 = false ∨ s.gated 4 = true) → exec .budgetOverWarning s = .next s) ∧
  (∀ (codes : List (BitVec 12)) (s : State), (s.sample codes).gated 4 = true → exec (.budgetCompute codes) s = .next (s.sample codes))

/-- PROMENADE_SELECT and DRAIN_COMPLETE complete. Promenade, in a live mode, takes the segment that `nextDrain` selects and a buffer for
it: with the buffer the segment enters the pipeline, without one nothing is drained, and where lines of it are newly found bad their
faults are raised and nothing is drained; with no segment to take it drains none. A completed drain of a DRAINING segment maps its
copy and makes it CLEAN, of a REDIRTY one maps its copy and makes it DIRTY, and one that flash had no room for makes it DIRTY with no
copy mapped. REFILL_NEXT and REFILL_COMPLETE complete. In a mode that refills, the lowest ABSENT segment that no refill has taken is
filled with zeros at once where its copy takes no read, and fetched otherwise (counted as taken once its fetch has its buffer); in
another mode, or with none ABSENT, nothing is refilled. A fetch whose data are ready fills the segment if it is still ABSENT, leaves
it alone if it was written meanwhile, and lets waiting accesses go on; one that is not ready, or not in progress, changes nothing. -/
def Obligations.DrainAndRefill : Prop :=
  ((∀ (frameLen : Nat) (s : State) (lsn : Nat), s.live = true → s.nextDrain = some lsn →
     (s.pde.drains.any fun d => d.lsn == lsn) = false →
     let b := s.holdFor 2 65536 (.drain lsn)
     (b.2 = true → exec (.promenadeSelect frameLen []) s = .next (b.1.drainSeg lsn frameLen).settle) ∧
     (b.2 = false → exec (.promenadeSelect frameLen []) s = .next b.1.settle) ∧
     (∀ (bad : List Nat) (i : Nat) (rest : List Nat), bad.filter (· < 1024) = i :: rest →
       exec (.promenadeSelect frameLen bad) s = .next (s.lineFaults 5 1 ((i :: rest).map fun i => lsn * 65536 + 64 * i)).settle)) ∧
   (∀ (frameLen : Nat) (bad : List Nat) (s : State),
     (s.live = false ∨ s.nextDrain = none) → exec (.promenadeSelect frameLen bad) s = .next s.settle) ∧
   (∀ (lsn : BitVec 32) (s : State) (d : DrainJob) (key : Nat), s.pde.drains.find? (·.lsn == lsn.toNat) = some d →
     let t := s.modPde fun p => { p with drains := p.drains.filter fun x => x.lsn != lsn.toNat }
     t.copyKey lsn.toNat = some key →
     (d.copy = none → (s.segState lsn.toNat = .draining ∨ s.segState lsn.toNat = .redirty) →
       exec (.drainComplete lsn) s = .next (t.setSegState lsn.toNat .dirty).settle) ∧
     (∀ e, d.copy = some e →
       let u := (((t.setDeep key e).bump P.drain_segments).bump P.drain_bytes_in 0 65536).bump P.drain_bytes_stored 0 d.len
       let v := u.bumpIf (d.kind = .raw) P.drain_raw_segments
       let done := fun (w : State) (x : Drained) => (w.modPde fun q =>
         { q with
           drainLog := (w.now, d.len) :: q.drainLog.filter fun e => w.now < e.1 + 60 * secNs
           segs := q.segs.upd lsn.toNat {} fun g => { g with exposed := false, state := x } }).noteUnits 0 e.units
       (s.segState lsn.toNat = .draining → exec (.drainComplete lsn) s = .next (done v .clean).settle) ∧
       (s.segState lsn.toNat = .redirty → exec (.drainComplete lsn) s = .next (done (v.bump P.drain_redirty) .dirty).settle)))) ∧
  ((∀ (s : State) (lsn : Nat), s.mode.refills = true → s.firstAbsent (s.dramBytes / 65536) 0 = some lsn →
     ((s.deepOf lsn).noRead = true →
       exec .refillNext s = .next (((s.fillSegment lsn []).setSegState lsn .clean).rqCount 6 65536).advanceAll) ∧
     ((s.deepOf lsn).noRead = false → (s.fetchDram lsn).fetching (.dram lsn) = true →
       exec .refillNext s = .next ((s.fetchDram lsn).modPde fun p => { p with refills := p.refills ++ [lsn] })) ∧
     ((s.deepOf lsn).noRead = false → (s.fetchDram lsn).fetching (.dram lsn) = false →
       exec .refillNext s = .next (s.fetchDram lsn))) ∧
   (∀ (s : State), (s.mode.refills = false ∨ s.firstAbsent (s.dramBytes / 65536) 0 = none) → exec .refillNext s = .next s) ∧
   (∀ (lsn : BitVec 32) (s : State) (f : Fetch), s.fetchOf (.dram lsn.toNat) = some f →
     let t := (s.dropFetch (.dram lsn.toNat)).modPde fun p => { p with refills := p.refills.filter (· != lsn.toNat) }
     (f.ready = true → t.segState lsn.toNat = .absent →
       exec (.refillComplete lsn) s =
         .next (((t.fillSegment lsn.toNat f.content).setSegState lsn.toNat .clean).rqCount 6 65536).advanceAll) ∧
     (f.ready = true → t.segState lsn.toNat ≠ .absent → exec (.refillComplete lsn) s = .next t.advanceAll) ∧
     (f.ready = false → exec (.refillComplete lsn) s = .next s)) ∧
   (∀ (lsn : BitVec 32) (s : State), s.fetchOf (.dram lsn.toNat) = none → exec (.refillComplete lsn) s = .next s))

/-! ### Save and restore (R188–R196) -/

/-- SAVE_SHED, SAVE_RECORD_WRITING, SAVE_DIRECTORY_PLANNED, SAVE_SEGMENT_PROGRAMMED and SAVE_COMPLETE complete. With a save running: the
first SAVE_SHED gates the ports and the cores and lowers steps 6 and 5 and the SHED rails. SAVE_RECORD_WRITING, once no placement
stands on RQ0, writes the target slot's record as WRITING, with the next save number, the trigger, the parts and the values of t0,
fails the parts whose key is refused and, if the data phase is over, closes the save. SAVE_DIRECTORY_PLANNED then writes one PLANNED
entry for each segment of the save set, in its order, parts round-robin, and notes it in the power log. With the directory planned,
SAVE_SEGMENT_PROGRAMMED makes one entry final (for lines newly found bad it raises their faults and leaves the entry) and
SAVE_COMPLETE keeps the measured power and closes the save. Out of its turn, or with no save running, each of them changes nothing.
RESTORE_SEGMENT_READ completes. For an entry of the selected record's plan, once the on-chip pools are built: data that are read and
named, of a part that can be read and a key that is kept, fill its segment, which is DIRTY, on RQ6, and the segment is restored; data
that are named and cannot be read, or a set out of service, an unsaved_pending device or a lost key, make the segment incomplete; a
unit or an entry that names another save makes the whole plan unnamed. An entry beyond the plan, or one before the pools are built,
changes nothing. REGION_LOST_CLEAR, SAVE_RATE_TEST, SAVE_RATE_TEST_DONE and RESTORE_COMPLETE complete. `region_lost_clear` of a LOST
region takes its LOST mark away; of another generation it fails with 0x0B, of a region that is not LOST with 0x0A. `save_rate_test`
starts the measured write, whose end erases the slot, keeps rate and power and reports both; with no test running that end changes
nothing. RESTORE_COMPLETE in RESTORE, with the supply not falling, ends the restore (`restoreEnd`, steps 4 to 8 of R194); otherwise it
changes nothing. -/
def Obligations.SaveAndRestore : Prop :=
  ((∀ (s : State) (r : SaveRun), s.pde.run = some r →
     (r.shed = false →
       let t := s.modPde fun p => { p with run := some { r with shed := true } }
       let u := (t.modXpt fun x => { x with ports := [] }).modMir fun m => { m with ports := [], mpv := 0 }
       let v := u.modRst fun x => { x with coresUp := false }
       exec .saveShed s = .next (v.lowerRails (v.stepRails 6 ++ v.stepRails 5 ++ v.shedRails))) ∧
     (r.shed = true → exec .saveShed s = .next s) ∧
     (r.frozen = false → s.xpt.rq0 = [] → r.stopped = false → exec .saveRecordWriting s = .next s.freezeSave.refuseParts) ∧
     (r.frozen = false → s.xpt.rq0 = [] → r.stopped = true → exec .saveRecordWriting s = .next s.freezeSave.refuseParts.closeSave) ∧
     (s.sec.drbgStopped = false →
       let rec_ := s.freezeSave.saveRecord r.slot
       rec_.state = .writing ∧ rec_.slot = r.slot ∧ rec_.trigger = r.trigger ∧ rec_.partsFailed = r.failed ∧
       rec_.partsPlanned = BitVec.ofNat 8 ((r.t0.parts.map fun k => 2 ^ k).sum) ∧ rec_.budgetGib = r.t0.budgetGib ∧
       rec_.t0Cycle = r.t0.cycle ∧ rec_.t0Ms = r.t0.ms ∧ rec_.t0Hours = r.t0.hours ∧ rec_.keyId = r.slot ∧ rec_.partsClosed = 0 ∧
       rec_.durationMs = 0 ∧ rec_.doneEntries = 0) ∧
     ((r.frozen = true ∨ s.xpt.rq0 ≠ []) → exec .saveRecordWriting s = .next s) ∧
     (r.frozen = true → r.planned = false →
       let l := s.saveSet
       let rec_ := s.saveRecord r.slot
       let t := (s.setDir r.slot ((List.range l.length).map fun i =>
         { lsn := l.getD i 0, part := rec_.parts.getD (i % max 1 rec_.parts.length) 0, seqLo := rec_.saveSeq % 64 })).modPde fun p =>
         { p with run := some { r with planned := true, dataFrom := s.now, dataTo := s.now } }
       exec .saveDirectoryPlanned s =
         .next ((t.powerLog logPlanWritten rec_.saveSeq).modPwr fun p => { p with unsavedPending := false })) ∧
     ((r.frozen = false ∨ r.planned = true) → exec .saveDirectoryPlanned s = .next s) ∧
     (∀ (n : BitVec 32) (frameLen : Nat), r.planned = true →
       exec (.saveSegmentProgrammed n frameLen []) s =
         .next (((s.rqCount 5 65536).saveEntry n.toNat frameLen false).lineFaults 5 1 [])) ∧
     (∀ (n : BitVec 32) (frameLen : Nat) (e : DirEntry) (bad : List Nat) (i : Nat) (rest : List Nat), r.planned = true →
       (s.dir r.slot)[n.toNat]? = some e → bad.filter (· < 1024) = i :: rest →
       exec (.saveSegmentProgrammed n frameLen bad) s =
         .next ((s.rqCount 5 65536).lineFaults 5 1 ((i :: rest).map fun i => e.lsn * 65536 + 64 * i))) ∧
     (∀ (mw : BitVec 32), r.planned = true → exec (.saveComplete mw) s =
       .next (s.modPde fun p => { p with budget := { p.budget with powerW := mw.toNat / 1000 } }).closeSave) ∧
     (∀ (n : BitVec 32) (frameLen : Nat) (bad : List Nat) (mw : BitVec 32), r.planned = false →
       exec (.saveSegmentProgrammed n frameLen bad) s = .next s ∧ exec (.saveComplete mw) s = .next s)) ∧
   (∀ (s : State) (n : BitVec 32) (frameLen : Nat) (bad : List Nat) (mw : BitVec 32), s.pde.run = none →
     exec .saveShed s = .next s ∧ exec .saveRecordWriting s = .next s ∧ exec .saveDirectoryPlanned s = .next s ∧
     exec (.saveSegmentProgrammed n frameLen bad) s = .next s ∧ exec (.saveComplete mw) s = .next s)) ∧
  (∀ (n : BitVec 32) (s : State) (r : RestoreRun) (slot : Nat) (e : DirEntry), s.pde.restore = some r → r.slot = some slot →
     (s.dir slot)[n.toNat]? = some e →
     (n.toNat < (s.saveRecord slot).planEntries → s.rst.copied = true →
       let can : Bool := e.kind ≠ .planned && (e.kind = .zero || (s.carrier e.part).state.readable) &&
         s.sec.saveKeys.has (s.saveRecord slot).keyId && !s.pwr.unsavedPending && !s.setFenced (s.setOf e.lsn) && e.lsn * 65536 < s.dramBytes
       let bad := s.modPde fun p => { p with restore := some { r with incomplete := insertNat e.lsn r.incomplete } }
       let none_ := s.modPde fun p => { p with restore := some { r with unnamed := true } }
       (e.seqLo = (s.saveRecord slot).saveSeq % 64 → can = true →
         let t := (s.fillSegment e.lsn e.content).setSeg e.lsn { state := .dirty, lastMs := s.now / 1000000 }
         exec (.restoreSegmentRead n .restored) s = .next
           ((t.rqCount 6 65536).modPde fun p => { p with restore := some { r with restored := insertNat e.lsn r.restored } })) ∧
       (e.seqLo = (s.saveRecord slot).saveSeq % 64 → can = false → exec (.restoreSegmentRead n .restored) s = .next bad) ∧
       (e.seqLo = (s.saveRecord slot).saveSeq % 64 → exec (.restoreSegmentRead n .failed) s = .next bad) ∧
       (∀ o, e.seqLo ≠ (s.saveRecord slot).saveSeq % 64 → exec (.restoreSegmentRead n o) s = .next none_) ∧
       exec (.restoreSegmentRead n .unnamed) s = .next none_) ∧
     (∀ o, ((s.saveRecord slot).planEntries ≤ n.toNat ∨ s.rst.copied = false) → exec (.restoreSegmentRead n o) s = .next s)) ∧
  ((∀ (r : Req) (s : State) (p : Param), s.starts r P.region_lost_clear p →
     let a := s.answered r
     let ak := leNat r.args
     let i := akIndex ak
     ((a.desc i).gen = akGen ak → i ∈ a.reg.lost → exec (.regionLostClear r) s =
       .next ((a.modReg fun g => { g with lost := g.lost.filter (· != i) }).done (s.namedBy r)).settle) ∧
     ((a.desc i).gen ≠ akGen ak → exec (.regionLostClear r) s = .next (a.failed (s.namedBy r) 0x0B).settle) ∧
     ((a.desc i).gen = akGen ak → i ∉ a.reg.lost → exec (.regionLostClear r) s = .next (a.failed (s.namedBy r) 0x0A).settle)) ∧
   (∀ (r : Req) (s : State) (p : Param), s.starts r P.save_rate_test p →
     exec (.saveRateTest r) s = .next (s.answered r).rateTestStart) ∧
   (∀ (rate mw : BitVec 32) (s : State), s.pde.rateTest = true →
     let w := min (mw.toNat / 1000) 65535
     let t := s.modPde fun p =>
       { p with
         rateTest := false, testedRate := some rate.toNat
         budget := { p.budget with rateMbps := min rate.toNat (p.savedRate.getD rate.toNat), powerW := w } }
     exec (.saveRateTestDone rate mw) s =
       .next (((t.eraseSlot t.targetSlot).evalArea).done P.save_rate_test (leBytes 4 rate.toNat ++ leBytes 2 w))) ∧
   (∀ (rate mw : BitVec 32) (s : State), s.pde.rateTest = false → exec (.saveRateTestDone rate mw) s = .next s) ∧
   (∀ (s : State), s.mode = .restore → s.pwr.falling = false → exec .restoreComplete s = .next s.restoreEnd.settle) ∧
   (∀ (s : State), (s.mode ≠ .restore ∨ s.pwr.falling = true) → exec .restoreComplete s = .next s))

/-! ### The twin link (R203–R216, R231–R235) -/

/-- PDD_LINK_UP, PDD_LINK_DOWN, PDD_HELLO_TIMER, PDD_HELLO, PDD_ECHO, PDD_ECHO_REPLY and ECHO_INTERVAL_TIMER complete. A twin port whose
clock runs and whose link was down comes up, recorded, and HELLO starts once the twin link is in use. A link that goes down is recorded
and counted, takes the session with it when it was the last, and is lost to the groups if it was up. HELLO goes out again while the
port waits for one. At a port with its link up that is not refused, a sound HELLO that agrees is served; one that does not refuses the
port, counted for a version, recorded with its cause, and lost to the groups if it was up. ECHO is answered with the time it carries;
the answer gives the one-way delay, kept for a second; at the interval every up port sends ECHO. -/
def Obligations.TwinPortsAndHello : Prop :=
  (∀ (k : Fin 2) (s : State), s.gated (9 + k) = false → 9 + k.val ∉ s.rst.fenced → 9 + k.val ∉ s.rst.inReset →
    (s.tport k).linkUp = false →
    let t := (s.modTport k fun t => { t with linkUp := true }).event 0x3140 k [1]
    (t.twinOn = true → exec (.pddLinkUp k) s = .next (t.helloStarts k)) ∧ (t.twinOn = false → exec (.pddLinkUp k) s = .next t)) ∧
  (∀ (k : Fin 2) (s : State),
    (s.tport k).linkUp = true →
    let t := (s.modTport k fun t => { t with linkUp := false, state := .down, windowKib := none, delays := [] }).event 0x3140 k [0]
    let t := t.bump (perInst P.port_link_downs (4 + k))
    let u := if (t.tport 0).linkUp || (t.tport 1).linkUp then t else t.modMir fun m => { m with mpv := 0 }
    exec (.pddLinkDown k) s = .next (if s.tportUp k then u.twinPortLost k else u).settle) ∧
  (∀ (k : Fin 2) (s : State), (s.tport k).linkUp = false → exec (.pddLinkDown k) s = .next s.settle) ∧
  (∀ (k : Fin 2) (s : State),
    (s.twinOn = true → (s.tport k).state = .hello → exec (.pddHelloTimer k) s = .next (s.sendHello k false 0)) ∧
    ((s.tport k).state ≠ .hello → exec (.pddHelloTimer k) s = .next s)) ∧
  (∀ (h : TwinHdr) (b : HelloBody) (s : State), s.twinOn = true → (s.tport h.port).linkUp = true → h.fec.uncorrectable = 0 →
    h.macsecOk = true → h.bodyLenOk = true → (s.tport h.port).state ≠ .down → (s.tport h.port).state ≠ .refused →
    let c := s.twinCounted h
    (c.helloCause h.port b = 0 → exec (.pddHello h b) s = .next (c.helloAgree h.port b).settle) ∧
    (∀ n, c.helloCause h.port b = n → n ≠ 0 →
      let u := (c.modTport h.port fun t => { t with state := .refused }).bumpIf (n == 3) P.mpv_refusals
      let v := u.event 0x2640 0 [h.port.val, n, b.member.toNat]
      (c.tportUp h.port = false → exec (.pddHello h b) s = .next v.settle) ∧
      (c.tportUp h.port = true → exec (.pddHello h b) s = .next (v.twinPortLost h.port).settle))) ∧
  (∀ (h : TwinHdr) (s : State), s.twinAccepts h 1 →
    let c := s.twinCounted h
    (∀ t1 id, exec (.pddEcho h t1 id) s = .next (c.emitTwin h.port 255 0 0 (.echoReply t1.toNat c.now c.now id.toNat))) ∧
    (∀ t1 t2 t3 id, exec (.pddEchoReply h t1 t2 t3 id) s = .next (c.modTport h.port fun t => { t with
      delays := (c.now, ((((c.now : Int) - t1.toNat) - ((t3.toNat : Int) - t2.toNat)) / 2).toNat) ::
        t.delays.filter fun d => c.now < d.1 + 1000000000 }))) ∧
  (∀ (s : State),
    (s.twinOn = true → exec .echoIntervalTimer s = .next (([0, 1].filter s.tportUp).foldl State.sendEcho s)) ∧
    (s.twinOn = false → exec .echoIntervalTimer s = .next s))

/-- MIRROR_WRITE, MACK_TIMER, MACK, MNAK, MIRROR_RETX_TIMER, MIRROR_ACK_TIMEOUT and MIRROR_GAP_TIMEOUT complete. A WRITE frame of the
twin goes into its group's sequence and reads that waited go on; one whose length is not that of its data, is over 4,096 octets, or is 0
in a UNIT frame is malformed; one of a lower epoch is answered with MNAK STALE_EPOCH. (A frame of no data keeps the number of an atomic
whose line failed: the model's choice, log entry 191.) The MACK interval of a standby places what is held, serves reads that waited and
sends MACK when one is due or a window of 0 ends. MACK covers frames at the source and lets what waited go on; MNAK first has the action
of its reason. The oldest sent frame that was not sent again goes with RETX. With a sent frame uncovered in time an ACTIVE group becomes
SOLO, and at a SOLO group each late frame's segments are left to resync. A gap that stays open takes a standby out of sync. -/
def Obligations.MirroredWritesFlow : Prop :=
  (∀ (h : TwinHdr) (b : WriteBody) (d : Bytes) (bad : List Nat) (s : State), s.groupAccepts h (if h.unit then 2 else 1) →
    let c := s.twinCounted h
    ((d ≠ [] ∨ h.unit = false) → d.length ≤ 4096 → b.length.toNat = d.length →
      let f : HeldFrame :=
        { seq := h.seq.toNat, epoch := h.epoch.toNat, body := b, data := d, bad := bad, last := h.last, unit := h.unit, resync := h.resync }
      exec (.mirrorWrite h b d bad) s = .next ((c.numbered h.group.toNat f).serveWaiting).settle) ∧
    ((d = [] ∧ h.unit = true ∨ 4096 < d.length ∨ b.length.toNat ≠ d.length) →
      exec (.mirrorWrite h b d bad) s = .next (c.bump P.pdd_malformed).settle)) ∧
  (∀ (h : TwinHdr) (b : WriteBody) (d : Bytes) (bad : List Nat) (s : State), s.twinAccepts h (if h.unit then 2 else 1) →
    h.group.toNat ≠ 255 → h.epoch.toNat < ((s.twinCounted h).grp h.group.toNat).epoch →
    exec (.mirrorWrite h b d bad) s = .next ((s.twinCounted h).sendMnak h.group.toNat 1 h.seq.toNat).settle) ∧
  (∀ (g : Fin 255) (s : State),
    (s.twinOn = true → (s.grp g).role = .standby →
      let t := (s.drainHeld g).serveWaiting
      let due := (t.grp g).role = .standby ∧ ((t.grp g).mackDue = true ∨ (t.grp g).windowZero = true ∧ 0 < t.mackWindow)
      (due → exec (.mackTimer g) s = .next (t.sendMack g).settle) ∧ (¬ due → exec (.mackTimer g) s = .next t.settle)) ∧
    ((s.twinOn = false ∨ (s.grp g).role ≠ .standby) → exec (.mackTimer g) s = .next s.settle)) ∧
  (∀ (h : TwinHdr) (acked : BitVec 64) (free window : BitVec 32) (s : State), s.groupAccepts h 1 →
    let c := s.twinCounted h
    let g := h.group.toNat
    exec (.mack h acked free window) s = .next ((c.takeAck h.port g acked.toNat free.toNat window.toNat).afterAck).settle ∧
    (∀ (reason : BitVec 8) (seq : BitVec 64),
      let frame := (c.grp g).frames.find? (·.seq == seq.toNat)
      let t := (c.bump P.mnak_received).nakAction g reason.toNat seq.toNat frame
      exec (.mnak h acked free window reason seq) s =
        .next ((t.takeAck h.port g acked.toNat free.toNat window.toNat).afterAck).settle)) ∧
  (∀ (g : Fin 255) (s : State),
    (∀ f, s.twinOn = true → (s.grp g).frames.find? (fun f => f.sentAt.isSome && !f.retx) = some f →
      exec (.mirrorRetxTimer g) s = .next (s.transmit g f true)) ∧
    ((s.twinOn = false ∨ (s.grp g).frames.find? (fun f => f.sentAt.isSome && !f.retx) = none) →
      exec (.mirrorRetxTimer g) s = .next s)) ∧
  (∀ (g : Fin 255) (s : State),
    (∀ f, (s.grp g).frames.find? (·.sentAt.isSome) = some f →
      ((s.grp g).role = .active → exec (.mirrorAckTimeout g) s = .next (s.declareSolo g).settle) ∧
      ((s.grp g).role = .solo →
        exec (.mirrorAckTimeout g) s = .next ((s.lateFrames g f).foldl (fun s x => s.frameMissed g x) s).settle)) ∧
    ((s.grp g).frames.find? (·.sentAt.isSome) = none → exec (.mirrorAckTimeout g) s = .next s.settle) ∧
    (∀ x : OutFrame, x.fin = none → x.resync = false → x.unit = false → s.frameMissed g x = s.setDivergent x.idx (x.off / 65536))) ∧
  (∀ (g : Fin 255) (s : State),
    (s.twinOn = true → (s.grp g).role = .standby → ((s.grp g).held.any fun f => f.seq == (s.grp g).placed + 1) = false →
      ((s.grp g).held ≠ [] ∨ (s.grp g).refused ≠ none) → exec (.mirrorGapTimeout g) s = .next (s.outOfSync g).settle) ∧
    ((s.grp g).held = [] → (s.grp g).refused = none → exec (.mirrorGapTimeout g) s = .next s.settle))

/-- What a MACK does to its group at the holder: the numbers it covers leave the list of uncovered frames, the acknowledged number
never falls and never passes the last one issued, and no frame that it does not cover is forgotten. -/
def Obligations.MackCovers : Prop :=
  ∀ (s : State) (p g acked free window : Nat),
    let t := s.takeAck p g acked free window
    (s.grp g).acked ≤ (t.grp g).acked ∧
    ((s.grp g).acked ≤ (s.grp g).issued → (t.grp g).acked ≤ (t.grp g).issued) ∧
    (t.grp g).issued = (s.grp g).issued ∧ (t.grp g).role = (s.grp g).role ∧ (t.grp g).epoch = (s.grp g).epoch ∧
    (∀ f, f ∈ (t.grp g).frames → f ∈ (s.grp g).frames) ∧
    (∀ f, f ∈ (s.grp g).frames → (t.grp g).acked < f.seq → f ∈ (t.grp g).frames) ∧
    ((s.grp g).role = .active → (∀ f, f ∈ (s.grp g).frames → (s.grp g).acked < f.seq) →
      ∀ f, f ∈ (t.grp g).frames → (t.grp g).acked < f.seq) ∧
    (t.tport p).windowKib = some window ∧ (s.mpv2 = true → t.mir.twinFree = some free) ∧ (s.mpv2 = false → t.mir.twinFree = s.mir.twinFree)

/-- READ_REQ and READ_RESP complete. A group that is no standby in sync, or holds no such range, answers with status 1. Otherwise the
request waits while the number it names is not acknowledged, or an atomic write group that overlaps it is not applied; with every
segment and line good it is answered with its data in frames of up to 4,096 octets, the last marked LAST. A READ_RESP that no read waits for changes
nothing. One with a status, or a last one that leaves the segment short, ends its read without a copy; one that is not the last is
collected; the last gives the whole segment to the repair of the lines or to the tier that waits for it. -/
def Obligations.TwinReads : Prop :=
  (∀ (h : TwinHdr) (b : ReadBody) (bad : List Nat) (s : State), s.groupAccepts h 2 →
    let c := s.twinCounted h
    let g := h.group.toNat
    let idx := b.index.toNat
    let n := b.length.toNat
    (((c.grp g).role ≠ .standby ∨ (c.grp g).inSync = false) → exec (.readReq h b bad) s = .next (c.readStatus h.port g b 1)) ∧
    ((c.grp g).role = .standby → (c.grp g).inSync = true → c.mirrorTarget g idx b.offset.toNat n = none →
      exec (.readReq h b bad) s = .next (c.readStatus h.port g b 1)) ∧
    (∀ off, (c.grp g).role = .standby → (c.grp g).inSync = true → c.mirrorTarget g idx b.offset.toNat n = some off →
      ((c.ackedSeq g < b.afterSeq.toNat ∨ c.unitHolds idx off n = true) → exec (.readReq h b bad) s =
        .next (c.modMir fun m => { m with waitReads := m.waitReads ++ [(h.port.val, g, b, bad)] })) ∧
      (b.afterSeq.toNat ≤ c.ackedSeq g → c.unitHolds idx off n = false →
        let r := (segsOf off n).foldl (fun (r : State × Avail) i =>
          let x := r.1.accessSeg idx i false true
          (x.1, if r.2 = .poison ∨ x.2 = .poison then .poison else if r.2 = .wait then .wait else x.2)) (c, .ready)
        let t := r.1.rqCount 4 n
        let lineAt := fun (i : Nat) => (t.addrIn idx ((off / 64 + i) * 64)).getD 0 / 64
        let k := ceilDiv n 4096
        r.2 = .ready →
        ((List.range ((off + n - 1) / 64 - off / 64 + 1)).filter fun i => t.dram.poison.contains (lineAt i) || bad.contains i) = [] →
        let u := t.lineFaults 4 1 []
        exec (.readReq h b bad) s = .next ((List.range k).foldl (fun s i =>
          let d := slice (u.regionRead idx off n) (4096 * i) 4096
          s.emitTwin h.port g (s.grp g).epoch 0 (.readResp
            { b with offset := b.offset + BitVec.ofNat 64 (4096 * i), length := BitVec.ofNat 32 d.length } 0 d (i + 1 == k))) u)))) ∧
  (∀ (h : TwinHdr) (b : ReadBody) (st : BitVec 8) (d : Bytes) (s : State), s.groupAccepts h 2 →
    let c := s.twinCounted h
    (c.tmv.reads.find? (·.reqId == b.reqId.toNat) = none → exec (.readResp h b st d) s = .next c.settle) ∧
    (∀ r, c.tmv.reads.find? (·.reqId == b.reqId.toNat) = some r →
      let u := c.modTmv fun t => { t with reads := t.reads.filter (·.reqId != r.reqId) }
      let ends := if r.line.isSome then u else u.twinNoCopy r.idx r.seg
      let got := (b.offset.toNat - (c.desc r.idx).base - r.seg * 65536, d) :: r.got
      let all := (got.mergeSort fun x y => x.1 ≤ y.1).flatMap (·.2)
      (st ≠ 0 → exec (.readResp h b st d) s = .next ends.settle) ∧
      (st = 0 → h.last = false → exec (.readResp h b st d) s = .next (c.modTmv fun t => { t with
        reads := t.reads.map fun x => if x.reqId = r.reqId then { x with got := got } else x }).settle) ∧
      (st = 0 → h.last = true → (got.map (·.2.length)).sum < 65536 → exec (.readResp h b st d) s = .next ends.settle) ∧
      (st = 0 → h.last = true → 65536 ≤ (got.map (·.2.length)).sum → r.line ≠ none →
        exec (.readResp h b st d) s = .next (u.repairSegment r.idx r.seg all).settle) ∧
      (st = 0 → h.last = true → 65536 ≤ (got.map (·.2.length)).sum → r.line = none →
        exec (.readResp h b st d) s = .next (u.twinCopy r.idx r.seg (cellsOf all)).settle)))

/-- RESYNC_BEGIN, RESYNC_MAP, RESYNC_END, RESYNC_SEGMENT_SEND, RESYNC_BEGIN_REPEAT, REJOIN_WAIT_EXPIRY, RESYNC_GIVEUP_TIMER and
TWIN_HELLO_TIMEOUT complete. RESYNC_BEGIN at a standby adopts the epoch and the next number and, full, marks every segment of the
group; at a holder, of whatever epoch, it starts the source (an ACTIVE group is SOLO first); at a FENCED member it changes nothing. A
map of 1 to 256 runs is added at a standby whose target was answered, and at a source that has not decided, which then may; another
length is malformed. RESYNC_END with a number takes its place in the sequence; an answer at the source that sent it makes it ask for
ACTIVE if DONE, and changes nothing if not. The source, with no descriptor unanswered, sends the next marked segment if it has credit,
then those to be sent once more, then RESYNC_END. RESYNC_BEGIN is repeated until it is answered; after the wait a target opens a new
resync, and a member with segments missing may resume; a group FENCED too long has settled; with no twin in time every group that may
resumes. CONFIG, CONFIG_ACK, CONFIG_RETX_TIMER and CONFIG_ACK_TIMEOUT complete. A CONFIG of an op from 1 to 6 with an image of 64
octets is applied, its result kept and answered; a RETX one whose answer is kept is answered with it and not applied; any other is
malformed. CONFIG_ACK takes its CONFIG off the list and goes on with what waits for it: a registration, a drain, a resync (broken by a
refusal), a pairing (asked of the callers, or failed with 0x04), an unpairing (done). Unanswered, every CONFIG of the group goes again
with RETX; after 1 ms a registration fails and the group is SOLO, for a rekey or deregistration it is SOLO, a pairing fails with 0x01,
an unpairing is done. -/
def Obligations.ResyncAndConfigExchange : Prop :=
  ((∀ (h : TwinHdr) (b : ResyncBody) (s : State), s.twinAccepts h 1 → h.group.toNat ≠ 255 →
     let c := s.twinCounted h
     let g := h.group.toNat
     let start := fun (s : State) =>
       s.modGrp g fun x => { x with source := some { baseEpoch := b.baseEpoch.toNat, runsExpected := b.runs.toNat } }
     ((c.grp g).role = .solo → exec (.resyncBegin h b) s = .next ((start (c.resyncBreak g)).tryDecide g).settle) ∧
     ((c.grp g).role = .active → exec (.resyncBegin h b) s = .next (start (c.declareSolo g)).settle)) ∧
   (∀ (h : TwinHdr) (b : ResyncBody) (s : State), s.groupAccepts h 1 →
     let c := s.twinCounted h
     let g := h.group.toNat
     ((c.grp g).role = .standby →
       let t := ((c.dropUnits g).setRole g .standby h.epoch.toNat).modMir fun m =>
         { m with configResults := m.configResults.filter fun c => !(c.group == g && c.op == cfgSync) }
       let u := t.setTarget g (some { answered := true, full := b.full, runsExpected := b.runs.toNat
                                      awaiting := if b.full then t.groupSegs g else [] })
       exec (.resyncBegin h b) s = .next (u.modGrp g fun x =>
         { x with placed := b.nextSeq.toNat - 1, held := [], refused := none, inSync := false }).settle) ∧
     ((c.grp g).role = .fenced → exec (.resyncBegin h b) s = .next c.settle) ∧
     (h.seq ≠ 0 → exec (.resyncEnd h b) s = .next ((c.numbered g
       { seq := h.seq.toNat, epoch := h.epoch.toNat, data := [], fin := some b
         body := { offset := 0, index := 0, length := 0, unitSeq := 0, unitLen := 0, extents := 0 } }).serveWaiting).settle) ∧
     (∀ r, (c.grp g).role = .solo → (c.grp g).source = some r → r.endSent = true → h.seq = 0 → h.epoch.toNat = (c.grp g).epoch →
       (b.done = true → exec (.resyncEnd h b) s =
         .next ((c.modGrp g fun x => { x with syncEpoch := x.epoch }).openRequest opActive g (c.grp g).epoch false 0 0).settle) ∧
       (b.done = false → exec (.resyncEnd h b) s = .next c.settle)) ∧
     (h.seq = 0 → ((c.grp g).role ≠ .solo ∨ (c.grp g).source = none ∨ h.epoch.toNat ≠ (c.grp g).epoch) →
       exec (.resyncEnd h b) s = .next c.settle)) ∧
   (∀ (h : TwinHdr) (runs : List ResyncRun) (s : State), s.groupAccepts h 1 →
     let c := s.twinCounted h
     let g := h.group.toNat
     ((runs = [] ∨ 256 < runs.length) → exec (.resyncMap h runs) s = .next (c.bump P.pdd_malformed).settle) ∧
     (runs ≠ [] → runs.length ≤ 256 →
       (∀ t, (c.grp g).role = .standby → (c.grp g).target = some t → t.answered = true →
         exec (.resyncMap h runs) s = .next (c.setTarget g
           (some { t with awaiting := addNew t.awaiting (segsOfRuns runs), runsGot := t.runsGot + runs.length })).settle) ∧
       (∀ r, ((c.grp g).role = .solo ∨ (c.grp g).role = .active) → (c.grp g).source = some r → r.started = false →
         exec (.resyncMap h runs) s = .next ((c.modGrp g fun x => { x with
           source := some { r with runs := addNew r.runs (segsOfRuns runs), runsGot := r.runsGot + runs.length } }).tryDecide g).settle) ∧
       ((c.grp g).role = .fenced → exec (.resyncMap h runs) s = .next c.settle))) ∧
   (∀ (g : Fin 255) (s : State) (r : ResyncSource), s.twinOn = true → (s.grp g).role = .solo → (s.grp g).source = some r →
     r.started = true → r.endSent = false → (s.mir.configs.any fun c => c.group == g && c.op == 4) = false →
     let todo := r.todo.filter fun p => (s.desc p.1).state ≠ .free
     (∀ p, todo.find? s.sendable = some p →
       (s.hasCredit g 65536 = true → exec (.resyncSegmentSend g) s = .next (s.sendSegment g { r with todo := todo } p).settle) ∧
       (s.hasCredit g 65536 = false → exec (.resyncSegmentSend g) s = .next s.settle)) ∧
     (todo ≠ [] → todo.find? s.sendable = none → exec (.resyncSegmentSend g) s = .next s.settle) ∧
     (todo = [] → r.again ≠ [] → r.resentOnce = false → exec (.resyncSegmentSend g) s = .next (s.modGrp g fun x =>
       { x with source := some { r with todo := r.again, again := [], resentOnce := true } }).settle) ∧
     (todo = [] → (r.again = [] ∨ r.resentOnce = true) → exec (.resyncSegmentSend g) s = .next
       (((s.modGrp g fun x => { x with source := some { r with endSeq := r.lastData, endSent := true } }).issueFrame g
         { seq := 0, idx := 0, off := 0, data := some []
           fin := some { baseEpoch := 0, newEpoch := 0, endSeq := BitVec.ofNat 64 r.lastData, runs := 0, nextSeq := 0, done := false
                         active := false, full := r.full } }).1).settle)) ∧
   (∀ (g : Fin 255) (s : State), s.twinOn = true →
     (∀ t, (s.grp g).role = .standby → (s.grp g).inSync = false → (s.grp g).target = some t →
       (t.answered = false → t.retryAt = none → exec (.resyncBeginRepeat g) s = .next (s.sendBegin g)) ∧
       (t.answered = true → exec (.resyncBeginRepeat g) s = .next s) ∧
       (t.retryAt ≠ none → exec (.rejoinWaitExpiry g) s = .next (s.openTarget g))) ∧
     ((s.grp g).role = .fenced → (s.grp g).mayResume = true → (s.grp g).incomplete = true →
       let t := s.modGrp g fun x => { x with incomplete := false }
       exec (.rejoinWaitExpiry g) s = .next (if t.twinAway g then t.sendResume g else t)) ∧
     ((s.grp g).role = .fenced → (s.grp g).paired = true →
       exec (.resyncGiveupTimer g) s = .next (s.modGrp g fun x => { x with settled := true }).settle) ∧
     ((s.grp g).role ≠ .fenced → exec (.resyncGiveupTimer g) s = .next s.settle)) ∧
   (∀ (s : State),
     (s.twinOn = true → s.mir.helloStart ≠ none → s.tportUp 0 = false → s.tportUp 1 = false →
       let t := s.modMir fun m => { m with twinUnreachable := true }
       exec .twinHelloTimeout s = .next
         ((t.mir.groups.keysWhere fun _ gr => gr.mayResume && !gr.incomplete).foldl (fun s g => s.sendResume g) t)) ∧
     ((s.tportUp 0 = true ∨ s.tportUp 1 = true) → exec .twinHelloTimeout s = .next s))) ∧
  ((∀ (h : TwinHdr) (op : BitVec 8) (idx : BitVec 24) (image : Bytes) (backing : Option Nat) (s : State), s.groupAccepts h 1 →
     let c := s.twinCounted h
     let g := h.group.toNat
     ((op = 0 ∨ 6 < op.toNat ∨ image.length ≠ 64) → exec (.config h op idx image backing) s = .next (c.bump P.pdd_malformed).settle) ∧
     (op ≠ 0 → op.toNat ≤ 6 → image.length = 64 →
       let apply :=
         let r := c.applyConfig g op.toNat idx.toNat image backing
         let k : ConfigResult := { group := g, op := op.toNat, idx := idx.toNat, image := image, result := r.2, at_ := c.now }
         let t := r.1.modMir fun m =>
           { m with configResults := (m.configResults.filter fun c => !(c.group == g && c.idx == idx.toNat)) ++ [k] }
         t.twinSend g (t.grp g).epoch 0 (.configAck op.toNat idx.toNat r.2)
       (h.retx = false → exec (.config h op idx image backing) s = .next apply.settle) ∧
       (h.retx = true → c.configAnswered g op.toNat idx.toNat image = none →
         exec (.config h op idx image backing) s = .next apply.settle) ∧
       (∀ k, h.retx = true → c.configAnswered g op.toNat idx.toNat image = some k →
         exec (.config h op idx image backing) s =
           .next (c.twinSend g (c.grp g).epoch 0 (.configAck op.toNat idx.toNat k.result)).settle))) ∧
   (∀ (h : TwinHdr) (op : BitVec 8) (idx : BitVec 24) (result : BitVec 8) (s : State), s.groupAccepts h 1 →
     let c := s.twinCounted h
     let g := h.group.toNat
     let waits := c.mir.configs.find? (fun c => c.group == g && c.op == op.toNat && c.idx == idx.toNat)
     (waits = none → exec (.configAck h op idx result) s = .next c.settle) ∧
     (∀ k, waits = some k →
       let t := c.dropConfig g op.toNat idx.toNat
       (op = 1 → exec (.configAck h op idx result) s = .next (t.regAnswered idx.toNat (result.toNat == 0)).settle) ∧
       ((op = 2 ∨ op = 3) → exec (.configAck h op idx result) s = .next (t.drainAnswered idx.toNat (result.toNat == 0)).settle) ∧
       (op = 4 → result = 0 → exec (.configAck h op idx result) s = .next t.settle) ∧
       (op = 4 → result ≠ 0 → exec (.configAck h op idx result) s = .next (t.resyncBreak g).settle) ∧
       (op = 5 → result = 0 → exec (.configAck h op idx result) s = .next (t.openRequest opPair g 0 false 0 k.cmd).settle) ∧
       (op = 5 → result ≠ 0 → exec (.configAck h op idx result) s = .next (t.failCmd k.cmd 0x04).settle) ∧
       (op = 6 → k.cmd = 0 → exec (.configAck h op idx result) s = .next t.settle) ∧
       (op = 6 → k.cmd ≠ 0 → exec (.configAck h op idx result) s = .next (t.done k.cmd).settle))) ∧
   (∀ (g : Fin 255) (s : State),
     let l := s.mir.configs.filter (·.group == g.val)
     (s.twinOn = true → exec (.configRetxTimer g) s =
       .next (l.foldl (fun s k => s.twinSend g k.epoch 0 (.config k.op k.idx k.image true)) s)) ∧
     (s.twinOn = false → exec (.configRetxTimer g) s = .next s) ∧
     exec (.configAckTimeout g) s = .next (l.foldl State.configTimeout s).settle) ∧
   (∀ (s : State) (k : PendingConfig),
     let t := s.dropConfig k.group k.op k.idx
     (k.op = 1 → s.configTimeout k = (t.declareSolo k.group).regAnswered k.idx false) ∧
     ((k.op = 2 ∨ k.op = 3) → s.configTimeout k = s.declareSolo k.group) ∧
     (k.op = 5 → s.configTimeout k = t.failCmd k.cmd 0x01) ∧
     (k.op = 6 → k.cmd ≠ 0 → s.configTimeout k = t.done k.cmd) ∧ (k.op = 6 → k.cmd = 0 → s.configTimeout k = t)))

/-! ### Leases (R217–R229) -/

/-- RENEW_TIMER, TWIN_RENEW, RENEW_REPLY, PROBE_REPLY, LEASE_END, STANDBY_RENEW_LAPSE, LEASE_REQUEST_REPEAT, CALLER_REPLY_TIMEOUT,
TWIN_GRANT_END, LEASE_PROBE_TIMER, QUIET_REPLY and LEASE_BUDGET_COMPUTE complete. A member that holds or has won a group sends RENEW
to the callers, and one that holds a group also to its twin. The twin's RENEW is answered with the groups granted, its PROBE with a
reply. A renewal reply that names one held group advances its lease end; a Caller's reply, or its PROBE reply, counts once. The lease
end of a held group makes it FENCED. A standby in sync asks for TAKEOVER once when renewals lapse; a request is repeated, but a
TAKEOVER not during CHANGE; a command's request unanswered is refused. A TAKEOVER won is applied when the member's own twin grant
ends. A probe goes to the callers, and to a twin not renewed for 1 ms. The first QUIET of a quiet period sends one CLAIM for each
group held. The budgets of R222 are kept, and the first excess is recorded. SOLO_GRANTED, TAKEOVER_GRANTED, ACTIVE_GRANTED,
HANDOVER_GRANTED, RESUME_GRANTED, FORCE_GRANTED, PAIR_GRANTED and LEASE_REFUSED complete. The first reply of a member to a request
takes effect, a repeat of it none. A grant that the group waits for gives it its new role: SOLO; a TAKEOVER is kept until the member's
own twin grant ends and applied at once if it has ended; ACTIVE (`activeGranted`); after HANDOVER what `handedOver` says; SOLO after
RESUME, after FORCE, recorded as forced, and after PAIR. A HANDOVER that names this member at a newer epoch makes a standby the
holder, ACTIVE if it stays in sync, else SOLO. A grant that a paired group does not wait for and whose epoch is newer fences it; an
older one changes nothing. A refusal of the group's request has the effect of its op, and fences a paired group of a lower epoch;
NOT_CALLER from a member that is not the Caller is no reply during CHANGE. -/
def Obligations.LeasesAtTheMember : Prop :=
  ((∀ (s : State),
     (s.twinOn = true → (s.mir.groups.any fun e => e.2.holds || e.2.won) = true →
       let t := s.modMir fun m => { m with renewSeq := m.renewSeq + 1 }
       let held := fun g => (s.grp g).holds
       let solo := fun g => decide ((s.grp g).role = .solo)
       let won := fun g => (s.grp g).won
       let m := t.leaseMsg opRenew 255 0 false false (groupMap fun g => held g || won g) (groupMap fun g => solo g || won g) 0
       let u := t.sendCallers m
       ((u.mir.groups.any fun e => e.2.holds) = true → exec .renewTimer s =
         .next ((u.twinLease { m with mapA := groupMap held, mapB := groupMap solo }).modMir fun m =>
           { m with lastTwinRenew := some u.now })) ∧
       ((u.mir.groups.any fun e => e.2.holds) = false → exec .renewTimer s = .next u)) ∧
     ((s.twinOn = false ∨ (s.mir.groups.any fun e => e.2.holds || e.2.won) = false) → exec .renewTimer s = .next s)) ∧
   (∀ (h : TwinHdr) (m : LeaseMsg) (s : State), s.twinAccepts h 1 →
     let c := s.twinCounted h
     let t := c.modMir fun x => { x with twinRtt := m.residenceNs.toNat }
     (m.reply = true → exec (.twinRenew h m) s = .next c.settle) ∧
     (m.reply = false → m.op.toNat = opRenew →
       let u := (mapGroups m.mapA).foldl State.renewNamed (t.modMir fun x => { x with lastTwinRenew := some t.now })
       let granted := groupMap fun g => m.mapA.getLsbD g && (u.grp g).role = .standby && (u.grp g).takeover.isNone
       exec (.twinRenew h m) s = .next (u.twinLease
         { m with member := BitVec.ofNat 12 u.fab.member, reply := true, mapA := granted, mapB := 0, result := 0 }).settle) ∧
     (m.reply = false → m.op.toNat = opProbe → exec (.twinRenew h m) s = .next (t.twinLease
       { m with member := BitVec.ofNat 12 t.fab.member, reply := true, result := 0 }).settle)) ∧
   (∀ (m : LeaseMsg) (s : State), s.twinOn = true →
     let t := s.noteReply m
     let stop := s.leaseEndOf m.tSend.toNat
     (∀ g, mapGroups m.mapA = [g] → mapGroups m.mapB = [] → (s.grp g).holds = true →
       exec (.renewReply m true) s =
         .next ((s.modMir fun x => { x with twinRtt := m.residenceNs.toNat }).advanceLease g stop).settle ∧
       (s.firstReply m = true → exec (.renewReply m false) s =
         .next (((t.sampleRtt m).modMir fun x => { x with claimed := false }).advanceLease g stop).settle)) ∧
     exec (.probeReply m true) s = .next (s.modMir fun x => { x with twinRtt := m.residenceNs.toNat }) ∧
     (s.firstReply m = true → exec (.probeReply m false) s = .next (t.modMir fun x =>
       { x with rtts := (t.now, t.now - m.tSend.toNat - m.residenceNs.toNat) :: x.rtts.filter fun d => t.now < d.1 + 1000000000 })) ∧
     (s.firstReply m = false → exec (.renewReply m false) s = .next s.settle ∧ exec (.probeReply m false) s = .next s)) ∧
   (∀ (g : Fin 255) (s : State),
     ((s.grp g).holds = true → exec (.leaseEnd g) s = .next (s.toFenced g (s.grp g).epoch).settle) ∧
     ((s.grp g).holds = false → exec (.leaseEnd g) s = .next s.settle) ∧
     (s.twinOn = true → (s.grp g).role = .standby → (s.grp g).inSync = true → (s.grp g).takeoverSent = false →
       (s.grp g).takeover = none → s.desig.change = none → exec (.standbyRenewLapse g) s =
         .next ((s.openRequest opTakeover g (s.grp g).epoch true 0 0).modGrp g fun x => { x with takeoverSent := true })) ∧
     (((s.grp g).role ≠ .standby ∨ (s.grp g).takeoverSent = true ∨ s.desig.change ≠ none) →
       exec (.standbyRenewLapse g) s = .next s) ∧
     (∀ r, (s.grp g).req = some r →
       (s.twinOn = true → (r.op ≠ opTakeover ∨ s.desig.change = none) → exec (.leaseRequestRepeat g) s = .next
         (s.callerRequest r.op g r.epoch r.inSync false 0#256 (if r.op = opResume then s.param P.rejoin_wait_ms else 0))) ∧
       (r.op = opTakeover → s.desig.change ≠ none → exec (.leaseRequestRepeat g) s = .next s) ∧
       (r.cmd ≠ 0 → exec (.callerReplyTimeout g) s = .next (s.refused g 5 r).settle) ∧
       (r.cmd = 0 → exec (.callerReplyTimeout g) s = .next s.settle)) ∧
     ((s.grp g).req = none → exec (.leaseRequestRepeat g) s = .next s ∧ exec (.callerReplyTimeout g) s = .next s.settle) ∧
     (∀ w, s.twinOn = true → (s.grp g).role = .standby → (s.grp g).takeover = some w →
       exec (.twinGrantEnd g) s = .next (s.becomeHolder g .solo w.1 w.2).settle) ∧
     ((s.grp g).takeover = none → exec (.twinGrantEnd g) s = .next s.settle)) ∧
   (∀ (s : State), s.twinOn = true →
     let t := s.modMir fun m => { m with renewSeq := m.renewSeq + 1 }
     let m := t.leaseMsg opProbe 255 0 false false 0#256 0#256 0
     let u := t.sendCallers m
     (∀ k, u.mir.lastTwinRenew = some k → u.now < k + 1000000 → exec .leaseProbeTimer s = .next u) ∧
     (∀ k, u.mir.lastTwinRenew = some k → k + 1000000 ≤ u.now → exec .leaseProbeTimer s = .next (u.twinLease m)) ∧
     (u.mir.lastTwinRenew = none → exec .leaseProbeTimer s = .next (u.twinLease m)) ∧
     (s.mir.claimed = false → ∀ m, exec (.quietReply m) s =
       .next (((s.modMir fun x => { x with claimed := true }).mir.groups.keysWhere fun _ gr => gr.holds).foldl (fun s g =>
         s.callerRequest opClaim g (s.grp g).epoch false false (groupMap fun n => n == g && (s.grp g).role = .solo) 0)
         (s.modMir fun x => { x with claimed := true }))) ∧
     (s.mir.claimed = true → ∀ m, exec (.quietReply m) s = .next s)) ∧
   (∀ (s : State), s.twinOn = true →
     let a := s.param P.lease_us * 1000 + 3000 + max s.pDelay (1000 + (s.callerRtt + s.mir.twinRtt) / 2)
     let b := 2 * s.pDelay + s.param P.mirror_ack_timeout_us * 1000 + 1000 + max s.callerRtt s.mir.twinRtt
     let keep := fun ok => s.modMir fun m => { m with budgetTakeoverNs := a, budgetSoloNs := b, budgetOk := ok }
     (a ≤ 40000 → b ≤ 40000 → exec .leaseBudgetCompute s = .next (keep true)) ∧
     ((40000 < a ∨ 40000 < b) → s.mir.budgetOk = true → exec .leaseBudgetCompute s = .next ((keep false).event 0x2641 0 [a, b])) ∧
     ((40000 < a ∨ 40000 < b) → s.mir.budgetOk = false → exec .leaseBudgetCompute s = .next (keep false)))) ∧
  ((∀ (m : LeaseMsg) (s : State) (r : LeaseReq),
     let g := m.group.toNat
     let e := m.epoch.toNat
     let stop := s.leaseEndOf m.tSend.toNat
     let n := s.noteReply m
     (s.awaitsGrant opSolo m .active r → exec (.soloGranted m) s =
       .next ((n.toSolo g e (max stop ((n.grp g).leaseEnd.getD 0))).tryDecide g).settle) ∧
     (s.awaitsGrant opTakeover m .standby r →
       let t := n.modGrp g fun x => { x with takeover := some (e, stop), req := none }
       (∀ k, (t.grp g).twinGrantEnd = some k → t.now < k → exec (.takeoverGranted m) s = .next t.settle) ∧
       (∀ k, (t.grp g).twinGrantEnd = some k → k ≤ t.now →
         exec (.takeoverGranted m) s = .next (t.becomeHolder g .solo e stop).settle) ∧
       ((t.grp g).twinGrantEnd = none → exec (.takeoverGranted m) s = .next (t.becomeHolder g .solo e stop).settle)) ∧
     (s.awaitsGrant opActive m .solo r → exec (.activeGranted m) s = .next (n.activeGranted g e stop).settle) ∧
     (s.awaitsGrant opHandover m .active r → exec (.handoverGranted m) s = .next (n.handedOver g e m.inSync).settle) ∧
     (s.awaitsGrant opResume m .fenced r → exec (.resumeGranted m) s = .next (n.becomeHolder g .solo e stop).settle) ∧
     (s.awaitsGrant opForce m .fenced r → exec (.forceGranted m) s =
       .next (((n.becomeHolder g .solo e stop).event 0x2643 0 [g, e]).done r.cmd).settle) ∧
     (s.awaitsGrant opPair m .fenced r → exec (.pairGranted m) s =
       .next (((n.modGrp g fun _ => { paired := true }).becomeHolder g .solo e stop).done r.cmd).settle)) ∧
   (∀ (m : LeaseMsg) (s : State), s.twinOn = true → m.group.toNat ≠ 255 →
     let g := m.group.toNat
     let e := m.epoch.toNat
     let stop := s.leaseEndOf m.tSend.toNat
     let n := s.noteReply m
     let grants := [Instr.soloGranted m, .takeoverGranted m, .activeGranted m, .resumeGranted m, .forceGranted m, .pairGranted m]
     ((s.grp g).role = .standby → m.twin.toNat = s.fab.member → (s.grp g).epoch < e →
       (m.inSync = false → exec (.handoverGranted m) s = .next (s.becomeHolder g .solo e stop).settle) ∧
       (m.inSync = true → exec (.handoverGranted m) s =
         .next ((s.becomeHolder g .active e stop).modGrp g fun x => { x with syncEpoch := e }).settle)) ∧
     (∀ c, c ∈ grants → s.firstReply m = false → exec c s = .next s.settle) ∧
     (∀ c, c ∈ grants → s.firstReply m = true → (s.grp g).req = none →
       ((s.grp g).paired = true → (s.grp g).epoch < e → exec c s = .next (n.fenceGroup g).settle) ∧
       (e ≤ (s.grp g).epoch → exec c s = .next n.settle)) ∧
     (s.firstReply m = false → exec (.leaseRefused m) s = .next s.settle) ∧
     (∀ r, s.firstReply m = true → m.result.toNat ≠ 5 → (s.grp g).req = some r → r.op = m.op.toNat →
       let t := n.refused g m.result.toNat r
       (((s.grp g).paired = false ∨ e ≤ (s.grp g).epoch) → exec (.leaseRefused m) s = .next t.settle) ∧
       ((s.grp g).paired = true → (s.grp g).epoch < e → exec (.leaseRefused m) s = .next (t.fenceGroup g).settle)) ∧
     (s.firstReply m = true → m.result.toNat = 5 → m.member.toNat ≠ s.desig.caller → s.desig.change ≠ none →
       exec (.leaseRefused m) s = .next n.settle)))

/-- CALLER_RENEW, CALLER_SOLO, CALLER_TAKEOVER, CALLER_ACTIVE, CALLER_HANDOVER, CALLER_RESUME, CALLER_RELEASE, CALLER_PROBE,
CALLER_FORCE, CALLER_PAIR, CALLER_CLAIM, CALLER_TAKEOVER_DUE, CALLER_START and CALLER_QUIET_END complete. A pair that the Caller does not
serve is answered NOT_CALLER, a quiet one QUIET; in the quiet period a CLAIM with a newer epoch than the record's, or for none, becomes
the record, and is answered QUIET. RENEW extends the grants of the groups that the requester holds, refuses a TAKEOVER held for them,
and names the groups granted and those of another holder. SOLO, ACTIVE and HANDOVER go to the holder at its epoch while its grant is
current and take the next epoch; to another member, at another epoch, at the last epoch or with the grant over they are refused.
TAKEOVER of another member in sync is held; when due it goes to that member, unless the record is SOLO. RESUME of the holder is granted
once the grant is over and noted before; of the other member it is refused for a SOLO record. FORCE is granted once the grant is over
and has no answer before; PAIR makes the record, once; RELEASE withdraws the requester's TAKEOVER, with UNPAIR it erases the record;
PROBE is answered. A Caller serves up to 64 pairs, each from a quiet period on, which ends. -/
def Obligations.CallerServesPairs : Prop :=
  (∀ (m : LeaseMsg) (s : State), s.twinOn = true → m.reply = false →
    let ops := [Instr.callerRenew m, .callerSolo m, .callerTakeover m, .callerActive m, .callerHandover m, .callerResume m,
      .callerRelease m, .callerProbe m, .callerForce m, .callerPair m]
    (s.callerPairs.find? (leasePair m) = none → (∀ c, c ∈ ops → exec c s = .next (s.answer m 5 0)) ∧
      exec (.callerClaim m) s = .next (s.answer m 5 0)) ∧
    (∀ p, s.callerPairs.find? (leasePair m) = some p → p.serving = false → ∀ c, c ∈ ops → exec c s = .next (s.answer m 5 0)) ∧
    (∀ p, s.callerPairs.find? (leasePair m) = some p → p.serving = true → p.quietUntil ≠ none →
      (∀ c, c ∈ ops → exec c s = .next (s.answer m 4 0)) ∧
      (let claim : CallerRec := { holder := m.member.toNat, epoch := m.epoch.toNat, solo := m.mapB.getLsbD m.group.toNat }
       (s.callerRec (leasePair m) m.group.toNat = none →
         exec (.callerClaim m) s = .next ((s.writeRec (leasePair m) m.group.toNat claim).answer m 4 0)) ∧
       (∀ r, s.callerRec (leasePair m) m.group.toNat = some r →
         (r.epoch < m.epoch.toNat →
           exec (.callerClaim m) s = .next ((s.writeRec (leasePair m) m.group.toNat claim).answer m 4 0)) ∧
         (m.epoch.toNat ≤ r.epoch → exec (.callerClaim m) s = .next (s.answer m 4 0)))))) ∧
  (∀ (m : LeaseMsg) (s : State) (p : CallerPairState), s.callerServes m p →
    let k := leasePair m
    let g := m.group.toNat
    let stop := s.now + s.param P.lease_us * 1000
    let new : CallerRec := { holder := m.member.toNat, epoch := 1, solo := true, grantEnd := some stop }
    let yes := (mapGroups m.mapA).filter (s.heldBy k m.member.toNat)
    let no := (mapGroups m.mapA).filter fun g => !s.heldBy k m.member.toNat g
    let renewed := yes.foldl (fun s g => s.renewRec k g) s
    exec (.callerRenew m) s =
      .next (renewed.callerReply m.member.toNat m 0 0 renewed.now (groupMap yes.contains) (groupMap no.contains)) ∧
    (∀ n r, s.callerRec k n = some r → r.takeover = none → s.renewRec k n = s.setCallerRec k n { r with grantEnd := some stop }) ∧
    exec (.callerProbe m) s = .next (s.answer m 0 0) ∧
    (s.callerRec k g = none →
      exec (.callerPair m) s = .next ((s.writeRec k g new).answer m 0 1) ∧ exec (.callerRelease m) s = .next (s.answer m 0 0) ∧
      (∀ c, c ∈ [Instr.callerSolo m, .callerActive m, .callerHandover m, .callerTakeover m, .callerResume m, .callerForce m] →
        exec c s = .next (s.answer m 6 0))) ∧
    (∀ r, s.callerRec k g = some r →
      let next := r.epoch + 1
      exec (.callerPair m) s = .next (s.answer m 6 r.epoch) ∧
      (m.unpair = true → exec (.callerRelease m) s =
        .next (((s.modPair k fun p => { p with recs := p.recs.del g }).touchLgm).answer m 0 0)) ∧
      (∀ h, m.unpair = false → r.takeover = some h → h.msg.member = m.member → exec (.callerRelease m) s =
        .next ((s.setCallerRec k g { r with takeover := none }).answer m 0 0)) ∧
      (r.holder ≠ m.member.toNat → ∀ c, c ∈ [Instr.callerSolo m, .callerActive m, .callerHandover m] →
        exec c s = .next (s.answer m 1 r.epoch)) ∧
      (∀ n, r.holder = m.member.toNat → epochRefusal m.epoch.toNat r.epoch = some n →
        ∀ c, c ∈ [Instr.callerSolo m, .callerActive m, .callerHandover m] → exec c s = .next (s.answer m n r.epoch)) ∧
      (0xFFFFFFFE ≤ r.epoch → exec (.callerForce m) s = .next (s.answer m 6 r.epoch)) ∧
      (r.epoch < 0xFFFFFFFE →
        (s.grantOver r = true → exec (.callerForce m) s = .next ((s.writeRec k g
          { holder := m.member.toNat, epoch := next, solo := true, grantEnd := some stop }).answer m 0 next)) ∧
        (s.grantOver r = false → exec (.callerForce m) s = .next s)) ∧
      ((m.inSync = false ∨ r.holder = m.member.toNat) → exec (.callerTakeover m) s = .next (s.answer m 6 r.epoch)) ∧
      (r.epoch < 0xFFFFFFFE → m.epoch.toNat = r.epoch →
        (r.holder = m.member.toNat → s.grantCurrent r = true →
          exec (.callerSolo m) s = .next ((s.writeRec k g { r with epoch := next, solo := true }).answer m 0 next) ∧
          exec (.callerActive m) s = .next ((s.writeRec k g { r with epoch := next, solo := false }).answer m 0 next) ∧
          (let t := s.writeRec k g { r with holder := m.twin.toNat, epoch := next, solo := !m.inSync, grantEnd := some stop
                                            takeover := none }
           let u := t.answer m 0 next
           exec (.callerHandover m) s = .next (u.callerReply m.twin.toNat m 0 next t.now))) ∧
        (r.holder = m.member.toNat → s.grantCurrent r = false →
          ∀ c, c ∈ [Instr.callerSolo m, .callerActive m, .callerHandover m] → exec c s = .next (s.answer m 6 r.epoch)) ∧
        (r.holder ≠ m.member.toNat → m.inSync = true → exec (.callerTakeover m) s =
          .next (s.setCallerRec k g { r with takeover := some { msg := m, since := s.now } })) ∧
        (r.holder = m.member.toNat → s.grantOver r = true → exec (.callerResume m) s =
          .next ((s.writeRec k g { r with
            holderResume := some s.now, epoch := next, solo := true, otherResume := none }).answer m 0 next)) ∧
        (r.holder = m.member.toNat → s.grantOver r = false → exec (.callerResume m) s =
          .next (s.setCallerRec k g { r with holderResume := some s.now })) ∧
        (r.holder ≠ m.member.toNat → r.solo = true → exec (.callerResume m) s = .next (s.answer m 3 r.epoch))))) ∧
  (∀ (lower higher : BitVec 12) (g : Fin 255) (s : State), s.twinOn = true →
    let k := pairOf lower.toNat higher.toNat
    (∀ r h, s.callerRec k g = some r → r.takeover = some h →
      (r.solo = true → exec (.callerTakeoverDue lower higher g) s =
        .next ((s.setCallerRec k g { r with takeover := none }).callerReply h.msg.member.toNat h.msg 3 r.epoch h.since)) ∧
      (r.solo = false →
        let t := (s.writeRec k g { r with
          takeover := none, holder := h.msg.member.toNat, epoch := r.epoch + 1, solo := true
          grantEnd := some (s.now + s.param P.lease_us * 1000) }).bump P.caller_takeovers
        exec (.callerTakeoverDue lower higher g) s =
          .next (t.callerReply h.msg.member.toNat h.msg 0 (r.epoch + 1) h.since))) ∧
    (s.callerRec k g = none → exec (.callerTakeoverDue lower higher g) s = .next s) ∧
    ((s.callerPairs.has k = true ∨ s.callerPairs.length < 64) → exec (.callerStart lower higher) s =
      .next (s.modPair k fun p => { p with serving := true, quietUntil := some (s.now + s.param P.caller_quiet_us * 1000) })) ∧
    (s.callerPairs.has k = false → 64 ≤ s.callerPairs.length → exec (.callerStart lower higher) s = .next s) ∧
    (s.callerPairs.has k = true → exec (.callerQuietEnd lower higher) s = .next (s.modPair k fun p => { p with quietUntil := none })) ∧
    (s.callerPairs.has k = false → exec (.callerQuietEnd lower higher) s = .next s))

/-- GROUP_PAIR, GROUP_UNPAIR, GROUP_SWITCHOVER, GROUP_FORCE_SOLO and GROUP_RESYNC_FULL complete. `group_pair` asks the twin, or fails with
the first reason of R227 that holds; `group_unpair` of a paired group unpairs it here and at a twin that can be reached;
`group_switchover` defers new messages of an ACTIVE group with nothing else under way; `group_force_solo` sends FORCE for a paired FENCED
group; `group_resync_full` of a paired group marks its next resync FULL. Otherwise the last four fail with WRONG_ROLE. -/
def Obligations.GroupCommands : Prop :=
  (∀ (r : Req) (s : State) (p : Param), s.starts r P.group_pair p →
    let a := s.answered r
    let g := leNat r.args
    (a.twinReachable = false → exec (.groupPair r) s = .next (a.failed (s.namedBy r) 0x01).settle) ∧
    (a.twinReachable = true → a.mir.twinDigest ≠ a.digestWord →
      exec (.groupPair r) s = .next (a.failed (s.namedBy r) 0x02).settle) ∧
    (a.twinReachable = true → a.mir.twinDigest = a.digestWord → a.mir.budgetOk = false →
      exec (.groupPair r) s = .next (a.failed (s.namedBy r) 0x03).settle) ∧
    (a.twinReachable = true → a.mir.twinDigest = a.digestWord → a.mir.budgetOk = true → ((a.grp g).role ≠ .fenced ∨ (a.grp g).paired = true) →
      exec (.groupPair r) s = .next (a.failed (s.namedBy r) 0x04).settle) ∧
    (a.twinReachable = true → a.mir.twinDigest = a.digestWord → a.mir.budgetOk = true → (a.grp g).role = .fenced → (a.grp g).paired = false →
      exec (.groupPair r) s = .next (a.sendConfig g 5 0 (List.replicate 64 0) (s.namedBy r)).settle)) ∧
  (∀ (r : Req) (s : State) (p : Param), s.starts r P.group_unpair p →
    let a := s.answered r
    let g := leNat r.args
    let u := a.unpairLocal g
    ((a.grp g).paired = false → exec (.groupUnpair r) s = .next (a.failed (s.namedBy r) 0x04).settle) ∧
    ((a.grp g).paired = true → u.twinReachable = true →
      exec (.groupUnpair r) s = .next (u.sendConfigAt g (a.grp g).epoch 6 0 (List.replicate 64 0) (s.namedBy r)).settle) ∧
    ((a.grp g).paired = true → u.twinReachable = false → exec (.groupUnpair r) s = .next (u.done (s.namedBy r)).settle)) ∧
  (∀ (r : Req) (s : State) (p : Param), s.starts r P.group_switchover p →
    let a := s.answered r
    let g := leNat r.args
    (((a.grp g).role ≠ .active ∨ (a.grp g).soloPending = true ∨ (a.grp g).switchover ≠ none ∨ (a.grp g).req ≠ none) →
      exec (.groupSwitchover r) s = .next (a.failed (s.namedBy r) 0x04).settle) ∧
    ((a.grp g).role = .active → (a.grp g).soloPending = false → (a.grp g).switchover = none → (a.grp g).req = none →
      exec (.groupSwitchover r) s =
        .next (a.modGrp g fun x => { x with switchover := some .waiting, cmd := s.namedBy r }).settle)) ∧
  (∀ (r : Req) (s : State) (p : Param), s.starts r P.group_force_solo p →
    let a := s.answered r
    let g := leNat r.args
    ((a.grp g).role = .fenced → (a.grp g).paired = true →
      exec (.groupForceSolo r) s = .next (a.openRequest opForce g (a.grp g).epoch false 0 (s.namedBy r)).settle) ∧
    (((a.grp g).role ≠ .fenced ∨ (a.grp g).paired = false) →
      exec (.groupForceSolo r) s = .next (a.failed (s.namedBy r) 0x04).settle)) ∧
  (∀ (r : Req) (s : State) (p : Param), s.starts r P.group_resync_full p →
    let a := s.answered r
    let g := leNat r.args
    ((a.grp g).paired = true →
      exec (.groupResyncFull r) s = .next ((a.modGrp g fun x => { x with fullNext := true }).done (s.namedBy r))) ∧
    ((a.grp g).paired = false → exec (.groupResyncFull r) s = .next (a.failed (s.namedBy r) 0x04)))

/-! ### Memory tiers (R236–R256) -/

/-- FLASH_READ_COMPLETE, PARITY_REBUILD_COMPLETE, PROMOTION_COMPLETE and READ_DEADLINE_PASSED complete. A read of a fetch that waits for
its units counts a map corruption for a unit whose block is being erased, and each other block read; with every unit decoded the fetch
is ready; with failed units a segment of a region opens a recovery and goes to parity, or waits on with every record in use, and a DRAM
segment goes to parity. A rebuild that succeeds places a region's segment DIRTY and makes a DRAM segment's fetch ready; one that fails is
counted and goes on (`afterParity`). A promotion whose fetch is ready places the copy and makes the segment RESIDENT. The deadline of a
read on a segment that flash has not delivered asks the twin within the rate, and is counted beyond it. Otherwise these change nothing. -/
def Obligations.TierFetches : Prop :=
  (∀ (k : FetchKey) (units : List UnitOutcome) (s : State) (f : Fetch), s.fetchOf k = some f →
    ((f.ready = true ∨ f.failed = true ∨ f.rebuild ≠ []) → exec (.flashReadComplete k units) s = .next s.settle) ∧
    (f.ready = false → f.failed = false → f.rebuild = [] → f.overtaken = false →
      let e := s.deepOf (s.fetchLsn k)
      let read := (List.range e.units).filter fun i => !s.unitHeld e i
      let blks := read.map (s.unitBlk e)
      let corrupt := blks.filter fun b => (s.blk b).state = .erasing
      let bad := (read.filter fun i =>
        units.getD i .hard == .uncorrectable || corrupt.contains (s.unitBlk e i)).map (s.unitBlk e)
      let t := corrupt.foldl State.mapCorrupt s
      let u := bad.foldl (fun s b => s.setFlag (perInst P.car_err_status (keyCarrier b)) 3) t
      let v := (blks.filter fun b => !corrupt.contains b).foldl State.blockRead u
      (bad = [] → exec (.flashReadComplete k units) s = .next (v.modFetch k fun f => { f with ready := true }).settle) ∧
      (∀ lsn, bad ≠ [] → k = .dram lsn →
        exec (.flashReadComplete k units) s = .next (v.modFetch k fun f => { f with rebuild := bad }).settle) ∧
      (∀ i seg, bad ≠ [] → k = .tier i seg →
        (v.tmv.records.length < defaultOf P.recovery_records_max →
          let w := (v.bump P.recoveries).modEntry i.toNat seg fun x => { x with mstate := .recovering }
          exec (.flashReadComplete k units) s = .next ((w.modTmv fun x =>
            { x with records := x.records ++ [{ idx := i.toNat, seg := seg }] }).modFetch k fun f => { f with rebuild := bad }).settle) ∧
        (defaultOf P.recovery_records_max ≤ v.tmv.records.length → exec (.flashReadComplete k units) s = .next v.settle)))) ∧
  (∀ (k : FetchKey) (units : List UnitOutcome) (ok : Bool) (s : State), s.fetchOf k = none →
    exec (.flashReadComplete k units) s = .next s.settle ∧ exec (.parityRebuildComplete k ok) s = .next s.settle) ∧
  (∀ (k : FetchKey) (s : State) (f : Fetch), s.fetchOf k = some f → f.rebuild ≠ [] →
    exec (.parityRebuildComplete k false) s = .next ((s.bump P.units_unrecovered).afterParity k).settle ∧
    (let t := f.rebuild.foldl (fun s b => (s.bump P.units_rebuilt).suspectBlock b) s
     (∀ i seg, k = .tier i seg →
       let u := (t.endFetch i.toNat seg).placeCopy i.toNat seg f.content
       exec (.parityRebuildComplete k true) s =
         .next (((u.residentNow i.toNat seg true).bump P.recovered_parity).rqCount 7 65536).advanceAll.settle) ∧
     (∀ lsn, k = .dram lsn → exec (.parityRebuildComplete k true) s =
       .next (t.modFetch k fun f => { f with rebuild := [], ready := true }).settle))) ∧
  (∀ (idx : BitVec 20) (seg : BitVec 32) (s : State) (f : Fetch), s.fetchOf (.tier (BitVec.ofNat 20 idx.toNat) seg.toNat) = some f →
    (f.ready = true → (s.entry idx.toNat seg.toNat).mstate = .promoting →
      let t := ((s.endFetch idx.toNat seg.toNat).placeCopy idx.toNat seg.toNat f.content).bump P.promote_bytes_flash 0 f.bytes
      exec (.promotionComplete idx seg) s = .next (((t.residentNow idx.toNat seg.toNat false).rqCount 7 65536).advanceAll).settle) ∧
    ((f.ready = false ∨ (s.entry idx.toNat seg.toNat).mstate ≠ .promoting) →
      exec (.promotionComplete idx seg) s = .next s.settle)) ∧
  (∀ (idx : BitVec 20) (seg : BitVec 32) (qpn : BitVec 18) (psn : BitVec 24) (s : State),
    let waits := (s.entry idx.toNat seg.toNat).mstate = .promoting ∨ (s.entry idx.toNat seg.toNat).mstate = .recovering
    (waits → ((s.qp qpn.toNat).msgs.any fun m => m.firstPsn == psn.toNat && s.hasDeadline m idx.toNat seg.toNat) = true →
      (s.desc idx.toNat).tiered = true → s.twinSource (s.desc idx.toNat).group = true →
      (s.tmv.reads.any fun r => r.idx == idx.toNat && r.seg == seg.toNat && r.line.isNone) = false →
      let log := s.tmv.fallbackLog.filter fun t => s.now < t + 1000000000
      (s.param P.fallback_rate_limit_per_s ≤ log.length →
        exec (.readDeadlinePassed idx seg qpn psn) s = .next (s.bump P.fallback_limited)) ∧
      (log.length < s.param P.fallback_rate_limit_per_s →
        exec (.readDeadlinePassed idx seg qpn psn) s =
          .next (((s.modTmv fun t => { t with fallbackLog := s.now :: log }).bump P.fallbacks).twinRead idx.toNat seg.toNat none))) ∧
    ((¬ waits ∨ s.twinSource (s.desc idx.toNat).group = false) → exec (.readDeadlinePassed idx seg qpn psn) s = .next s))

/-- CACHE_EVICTION, EVICT_UNMAP_WRITTEN, TIER_EVICT and TIER_POISON_CLEAR complete. Below the low mark victims are evicted one by one
(`evictN`, which ends at the high mark), otherwise none. The unmapping write of an EVICTING segment makes its entry ABSENT, gives its
frame back, and is counted; a pending access cancels it, counted; of another segment it changes nothing. On a range that is right,
`tier_evict` reports how many it evicted and deferred and `tier_poison_clear` how many POISONED segments it cleared; a region that is
not VALID or not of a tier fails with 0x0A, another generation with 0x0B, an empty range or one past the end with 0x0C.
TIER_CAPACITY_TICK completes. With PDE clocked, capacity, provisioned and stored sizes are taken, overcommit holds from full until
stored falls below 99 percent, and each of the two warnings is recorded when its condition begins; with PDE gated nothing changes. -/
def Obligations.TierEvictionAndCapacity : Prop :=
  ((∀ (s : State),
     (100 * s.sharedFree < s.param P.cache_free_low_pct * s.sharedFrames →
       exec .cacheEviction s = .next (s.evictN s.tmv.frames.length)) ∧
     (s.param P.cache_free_low_pct * s.sharedFrames ≤ 100 * s.sharedFree → exec .cacheEviction s = .next s)) ∧
   (∀ (idx : BitVec 20) (seg : BitVec 32) (s : State), (s.entry idx.toNat seg.toNat).mstate = .evicting →
     (s.referenced idx.toNat seg.toNat = true → exec (.evictUnmapWritten idx seg) s =
       .next ((s.modEntry idx.toNat seg.toNat fun e => { e with mstate := .resident }).bump P.evict_cancelled)) ∧
     (∀ n, s.referenced idx.toNat seg.toNat = false → s.frameOfLsn (s.entry idx.toNat seg.toNat).frame = some n →
       let t := s.setEntry idx.toNat seg.toNat { s.entry idx.toNat seg.toNat with mstate := .absent, frame := 0 }
       exec (.evictUnmapWritten idx seg) s = .next ((t.freeFrame n).bump P.evictions).advanceAll)) ∧
   (∀ (idx : BitVec 20) (seg : BitVec 32) (s : State), (s.entry idx.toNat seg.toNat).mstate ≠ .evicting →
     exec (.evictUnmapWritten idx seg) s = .next s) ∧
   (∀ (r : Req) (s : State) (p : Param), s.starts r P.tier_evict p →
     let a := s.answered r
     let ak := leAt r.args 0 4
     let first := leAt r.args 4 4
     let n := leAt r.args 8 4
     (a.rangeFails ak first n = none →
       let e := (List.range n).foldl (fun r i => State.evictRequest r (akIndex ak) (first + i)) (a, 0, 0)
       exec (.tierEvict r) s = .next (e.1.done (s.namedBy r) (leBytes 4 e.2.1 ++ leBytes 4 e.2.2))) ∧
     (∀ why, a.rangeFails ak first n = some why → exec (.tierEvict r) s = .next (a.failed (s.namedBy r) why))) ∧
   (∀ (r : Req) (s : State) (p : Param), s.starts r P.tier_poison_clear p →
     let a := s.answered r
     let ak := leAt r.args 0 4
     let first := leAt r.args 4 4
     let n := leAt r.args 8 4
     (a.rangeFails ak first n = none →
       let due := ((List.range n).map (first + ·)).filter fun i => (a.entry (akIndex ak) i).mstate = .poisoned
       exec (.tierPoisonClear r) s = .next
         (((due.foldl (fun s i => s.clearPoison (akIndex ak) i) a).advanceAll).done (s.namedBy r) (leBytes 4 due.length))) ∧
     (∀ why, a.rangeFails ak first n = some why → exec (.tierPoisonClear r) s = .next (a.failed (s.namedBy r) why))) ∧
   (∀ (s : State) (ak first n : Nat),
     (((s.desc (akIndex ak)).state ≠ .valid ∨ (s.desc (akIndex ak)).tiered = false) → s.rangeFails ak first n = some 0x0A) ∧
     (akIndex ak < maxRegions → (s.desc (akIndex ak)).state = .valid → (s.desc (akIndex ak)).tiered = true →
       ((s.desc (akIndex ak)).gen ≠ akGen ak → s.rangeFails ak first n = some 0x0B) ∧
       ((s.desc (akIndex ak)).gen = akGen ak → (n = 0 ∨ (s.desc (akIndex ak)).lengthSeg < first + n) →
         s.rangeFails ak first n = some 0x0C) ∧
       ((s.desc (akIndex ak)).gen = akGen ak → 0 < n → first + n ≤ (s.desc (akIndex ak)).lengthSeg → s.rangeFails ak first n = none)))) ∧
  ((∀ (s : State), s.gated 4 = false →
     let cap := s.tierCapacity
     let prov := s.tierProvisioned
     let stored := s.tierStored
     let exceeds := decide (cap * s.param P.tier_provision_pct < prov * 100)
     let full := decide (cap ≤ stored) && decide (0 < stored)
     let t := s.modTmv fun x =>
       { x with capacity := cap, provisioned := prov, stored := stored, overProv := exceeds
                overcommit := full || (x.overcommit && decide (99 * cap ≤ 100 * stored)) }
     let u := if exceeds && !s.tmv.overProv then t.event 0x2741 0 [gib prov, gib cap] else t
     exec .tierCapacityTick s = .next (if full && !s.tmv.overcommit then u.event 0x2742 0 [gib stored, gib cap] else u)) ∧
   (∀ (s : State), s.gated 4 = true → exec .tierCapacityTick s = .next s))

/-! ### The fabric (R258–R281) -/

/-- Neighbours. `fabStart` starts FAB once in a fabric mode, joined with a bound identifier and probing without one, and does nothing
otherwise; `fabricHelloTimer` sends HELLO on every host port that is up. `fabricHello` counts a HELLO whose tag verifies under no slot,
whose number is not new or whose source finds no slot; equal nonces start anew; one that is new is heard; a frame with an uncorrectable
symbol, and one while FAB is off or the link down, is no more. `adjacencyDead` drops an adjacency three of its own HELLO intervals after
the last HELLO, `route` takes 1 to 128 entries of a neighbour in FULL or FROZEN one by one and nothing of any other; `routeUpdateTimer`
and `triggeredUpdate` send updates to each neighbour that exchanges routes, `routeExpiry` sets a route to 15 that was not refreshed for
three update intervals, and `routeHolddownEnd` ends a hold-down. -/
def Obligations.FabricNeighbours : Prop :=
  (∀ (s : State),
    (s.mode.fabric = true → s.fab.started = false →
      let m := if s.fab.bound then s.fab.member else s.tick.candidateId none
      exec .fabStart s = .next (s.tick.modFab fun f =>
        { f with
          started := true, nonce := s.draw, helloSeq := 0, adjs := [], routes := [], member := m, advertise := true
          state := if f.bound then .joined else .probing
          ptp := { state := if s.tick.paramOn P.ptp_enable then .listening else .disabled } })) ∧
    ((s.mode.fabric = false ∨ s.fab.started = true) → exec .fabStart s = .next s)) ∧
  (∀ (s : State),
    (s.fabOn = true → exec .fabricHelloTimer s =
      .next (((List.range 4).filter fun p => (s.port p).linkUp).foldl (fun s p => s.sendFabHello p none none) s)) ∧
    (s.fabOn = false → exec .fabricHelloTimer s = .next s)) ∧
  (∀ (port : Fin 4) (mac : BitVec 48) (fec : Fec) (b : FabHello) (s : State),
    ((s.fabOn = false ∨ (s.port port.val).linkUp = false) → ∀ t, exec (.fabricHello port mac fec b t) s = .next s.settle) ∧
    (s.fabOn = true → (s.port port.val).linkUp = true →
      let c := s.portFrame port.val fec
      (fec.uncorrectable ≠ 0 → ∀ t, exec (.fabricHello port mac fec b t) s = .next c.settle) ∧
      (fec.uncorrectable = 0 →
        exec (.fabricHello port mac fec b none) s = .next (c.bump P.fabric_rx_dropped).settle ∧
        (∀ (key : Fin 2), c.adjSlot port.val mac = none →
          exec (.fabricHello port mac fec b (some key)) s = .next (c.bump P.fabric_rx_dropped).settle) ∧
        (∀ (key : Fin 2) k, c.adjSlot port.val mac = some k →
          let old := c.fab.adjs.has k = true ∧ (c.adj k).nonce = b.nonce ∧ b.helloSeq.toNat ≤ (c.adj k).lastSeq
          (old → exec (.fabricHello port mac fec b (some key)) s = .next (c.bump P.fabric_rx_dropped).settle) ∧
          (¬ old → b.nonce = c.fab.nonce → exec (.fabricHello port mac fec b (some key)) s = .next c.newNonce.settle) ∧
          (¬ old → b.nonce ≠ c.fab.nonce →
            exec (.fabricHello port mac fec b (some key)) s = .next (c.hearHello k mac b key.val).settle))))) ∧
  (∀ (port : Fin 4) (slot : Fin 16) (s : State),
    let k := adjKey port.val slot.val
    let dead := s.fabOn = true ∧ s.fab.adjs.has k = true ∧ (s.adj k).lastHello ≠ s.now ∧
      (s.adj k).lastHello + 3 * (s.adj k).helloMs * 1000000 ≤ s.now
    (dead → exec (.adjacencyDead port slot) s = .next (s.dropAdj k)) ∧
    (¬ dead → exec (.adjacencyDead port slot) s = .next s)) ∧
  (∀ (d : FabRx) (seq : BitVec 32) (full : Bool) (l : List RouteEntry) (s : State), s.fabAccepts d →
    let c := s.fabCounted d
    let k := adjKey d.port.val d.slot.val
    (0 < l.length → l.length ≤ 128 → (c.adj k).state = .full →
      exec (.route d seq full l) s = .next (l.foldl (fun s e => s.takeEntry k false e) c).checkCaller) ∧
    (0 < l.length → l.length ≤ 128 → (c.adj k).state = .frozen →
      exec (.route d seq full l) s = .next (l.foldl (fun s e => s.takeEntry k true e) c).checkCaller) ∧
    ((l = [] ∨ 128 < l.length ∨ (c.adj k).state = .held) → exec (.route d seq full l) s = .next c)) ∧
  (∀ (s : State),
    (s.fabOn = true →
      exec .routeUpdateTimer s = .next (s.routedAdjs.foldl State.fullUpdate s) ∧
      exec .triggeredUpdate s = .next (s.routedAdjs.foldl State.triggered s)) ∧
    (s.fabOn = false → exec .routeUpdateTimer s = .next s ∧ exec .triggeredUpdate s = .next s) ∧
    (∀ m : BitVec 12,
      let r := s.fabRoute m.toNat
      let stale := s.fabOn = true ∧ r.metric < 15 ∧ r.refreshed + 3 * s.param P.route_update_ms * 1000000 ≤ s.now
      (stale → exec (.routeExpiry m) s = .next (s.routeTo15 m.toNat)) ∧
      (¬ stale → exec (.routeExpiry m) s = .next s)) ∧
    (∀ m : BitVec 12,
      (s.fab.routes.has m.toNat = true → exec (.routeHolddownEnd m) s =
        .next (s.modFab fun f => { f with routes := f.routes.upd m.toNat {} fun r => { r with former := none } })) ∧
      (s.fab.routes.has m.toNat = false → exec (.routeHolddownEnd m) s = .next s)))

/-- The member identifier and fabric time. `memberProbeTimeout` binds the identifier that was probed, `conflictClearTimer` advertises it
again after a conflict, and each does nothing in any other state; `memberIdRelease` ends every FABRIC queue pair and leaves FAB as after
reset. `ptpMessage`: while FAB or the link is off nothing happens; a frame with an uncorrectable symbol is counted at the port alone, one
of no usable neighbour in fabric_rx_dropped; a message of another domain changes nothing; Sync and Follow_Up of the master set the time
base of a slave, Delay_Req is answered by a master and by nothing else, Delay_Resp sets the slave's path delay. The intervals of
`ptpAnnounceReceiptTimeout` send what the state asks for: Announce, Sync and Follow_Up of a master, Delay_Req of a slave to its master;
an announce receipt timeout of a listening clock or of the slave's master makes a master; without a usable neighbour nothing happens. -/
def Obligations.MemberIdAndTime : Prop :=
  (∀ (s : State),
    (s.fab.state = .probing → exec .memberProbeTimeout s =
      .next ((s.modFab fun f => { f with state := .joined, bound := true }).touchLgm.routeChanged s.fab.member)) ∧
    (s.fab.state ≠ .probing → exec .memberProbeTimeout s = .next s) ∧
    (s.fab.state = .conflict → exec .conflictClearTimer s =
      .next ((s.modFab fun f => { f with state := .joined, advertise := true }).routeChanged s.fab.member)) ∧
    (s.fab.state ≠ .conflict → exec .conflictClearTimer s = .next s)) ∧
  (∀ (r : Req) (s : State) (p : Param), s.starts r P.member_id_release p (argsOk := leNat r.args == 0) →
    let a := s.answered r
    let t := (a.xpt.qps.keysWhere fun _ q => q.ctx.kind == 1).foldl State.endFabQp a
    exec (.memberIdRelease r) s = .next (({ t with fab := {} } : State).touchLgm.done (s.namedBy r)).settle) ∧
  (∀ (port : Fin 4) (slot : Fin 16) (fec : Fec) (msg : PtpRx) (s : State),
    let k := adjKey port.val slot.val
    let c := s.portFrame port.val fec
    ((s.fabOn = false ∨ (s.port port.val).linkUp = false) → exec (.ptpMessage port slot fec msg) s = .next s) ∧
    (s.fabOn = true → (s.port port.val).linkUp = true →
      (fec.uncorrectable ≠ 0 → exec (.ptpMessage port slot fec msg) s = .next c) ∧
      (fec.uncorrectable = 0 → c.ptpLink port.val slot.val = false →
        exec (.ptpMessage port slot fec msg) s = .next (c.bump P.fabric_rx_dropped)) ∧
      (fec.uncorrectable = 0 → c.ptpLink port.val slot.val = true → msg.domain.toNat ≠ c.param P.ptp_domain →
        exec (.ptpMessage port slot fec msg) s = .next c) ∧
      (fec.uncorrectable = 0 → c.ptpLink port.val slot.val = true → msg.domain.toNat = c.param P.ptp_domain →
        let p := c.fab.ptp
        (p.state = .slave → p.parent = k →
          (∀ rx, msg.body = .sync rx →
            exec (.ptpMessage port slot fec msg) s = .next (c.modPtp fun p => { p with syncRx := rx.toNat })) ∧
          (∀ o, msg.body = .followUp o → exec (.ptpMessage port slot fec msg) s = .next (c.modPtp fun p =>
            let d : Int := (p.syncRx : Int) + p.baseNs - o.toNat - p.pathNs
            { p with origin := o.toNat, offsetNs := d, baseNs := p.baseNs - d })) ∧
          (∀ rx, msg.body = .delayResp rx → exec (.ptpMessage port slot fec msg) s = .next (c.modPtp fun p =>
            { p with pathNs :=
              (((p.syncRx : Int) + p.baseNs - p.origin) + ((rx.toNat : Int) - ((p.delayTx : Int) + p.baseNs))) / 2 }))) ∧
        ((p.state ≠ .slave ∨ p.parent ≠ k) → ∀ x, (msg.body = .sync x ∨ msg.body = .followUp x ∨ msg.body = .delayResp x) →
          exec (.ptpMessage port slot fec msg) s = .next c) ∧
        (∀ x, msg.body = .delayReq x →
          (p.state = .master → exec (.ptpMessage port slot fec msg) s = .next (c.sendPtp port.val 9)) ∧
          (p.state ≠ .master → exec (.ptpMessage port slot fec msg) s = .next c))))) ∧
  (∀ (port : Fin 4) (slot : Fin 16) (s : State),
    let k := adjKey port.val slot.val
    let p := s.fab.ptp
    let run (t : PtpTimer) := exec (.ptpAnnounceReceiptTimeout port slot t) s
    (s.ptpLink port.val slot.val = false → ∀ t, run t = .next s) ∧
    (s.ptpLink port.val slot.val = true →
      (p.state = .master →
        run .announceInterval = .next (s.sendPtp port.val 0xB) ∧ run .syncInterval = .next ((s.sendPtp port.val 0).sendPtp port.val 8)) ∧
      (p.state ≠ .master → run .announceInterval = .next s ∧ run .syncInterval = .next s) ∧
      (p.state = .slave → p.parent = k →
        run .delayReqInterval = .next ((s.modPtp fun p => { p with delayTx := s.now }).sendPtp port.val 1)) ∧
      ((p.state ≠ .slave ∨ p.parent ≠ k) → run .delayReqInterval = .next s) ∧
      ((p.state = .listening ∨ (p.state = .slave ∧ p.parent = k)) →
        run .announceReceipt = .next (s.modPtp fun p => { p with state := .master, offsetNs := 0 })) ∧
      (p.state ≠ .listening → (p.state ≠ .slave ∨ p.parent ≠ k) → run .announceReceipt = .next s)))

/-- Relaying and sessions. Each datagram for another member, whatever it carries, is relayed one hop further under its class's DSCP with
the ECN field it came with, or dropped and counted with no hop left or no route. For this member: `fabricLeaseRelay` has no effect of its
own; `fabricData` is received on the FABRIC queue pair it names under its own pd, CE counted as it came, a CNP is the governor's, and one
with a bad ICRC, in a mode without traffic or with no session changes nothing. `sessionOpen` opens a queue pair, refuses with none free,
and of two that cross the one of the lower member stands; `sessionAccept` completes and `sessionRefuse` ends an attempt of this member,
`sessionClose` ends a session; each changes nothing where there is none such. `fabricQpIdle` closes an idle session and no other. -/
def Obligations.FabricSessions : Prop :=
  (∀ (d : FabRx) (s : State), s.fabAccepts d → d.frh.dst.toNat ≠ s.fab.member →
    let c := s.fabCounted d
    ∀ r : State,
    ((∃ h rest, c.hopsTo d.frh.dst.toNat = h :: rest ∧ d.frh.hopsLeft ≠ 0 ∧
        r = (c.sendFab h.port (some h.slot) (c.classDscp d.frh.cls.toNat) d.ecn.toNat { d.frh with hopsLeft := d.frh.hopsLeft - 1 }
          .relayed).bump P.relay_packets) ∨
      ((c.hopsTo d.frh.dst.toNat = [] ∨ d.frh.hopsLeft = 0) ∧ r = c.bump P.relay_dropped_hops)) →
    exec (.fabricLeaseRelay d) s = .next r ∧
    (∀ b, exec (.sessionAccept d b) s = .next r ∧ exec (.sessionRefuse d b) s = .next r ∧ exec (.sessionOpen d b) s = .next r.settle ∧
      exec (.sessionClose d b) s = .next r.settle) ∧
    (∀ b, exec (.callerOffer d b) s = .next r ∧ exec (.callerAnswer d b) s = .next r ∧ exec (.noteStart d b) s = .next r ∧
      exec (.noteRelease d b) s = .next r ∧ exec (.noteAdopt d b) s = .next r ∧ exec (.noteReply d b) s = .next r ∧
      exec (.noteReleased d b) s = .next r ∧ exec (.noteDone d b) s = .next r) ∧
    (∀ b op ok, exec (.fabricData d b op ok) s = .next r.settle) ∧
    (∀ n psn, exec (.fabricAckReceived d n psn) s = .next r.settle ∧ (∀ y, exec (.fabricNakReceived d n psn y) s = .next r.settle) ∧
      (∀ last data, exec (.fabricReadResponse d n psn last data) s = .next r.settle) ∧
      (∀ o, exec (.fabricAtomicAck d n psn o) s = .next r.settle) ∧ (∀ g, exec (.fabricGxResponse d n psn g) s = .next r.settle))) ∧
  (∀ (d : FabRx) (s : State), s.fabMine d →
    let c := s.fabCounted d
    let src := d.frh.src.toNat
    exec (.fabricLeaseRelay d) s = .next c ∧
    (∀ (b : InnerBth) (op : ReqOp),
      let n := b.destQp.toNat
      let session := c.mode.traffic = true ∧ (c.qp n).ctx.kind = 1 ∧ (c.qp n).fab.peer = src ∧ (c.qp n).fab.opening = false
      let t := c.modXpt fun x => { x with qps := x.qps.upd n {} fun q => { q with fab := { q.fab with lastUse := c.now } } }
      (session → (∀ x, op ≠ .invalid x) →
        exec (.fabricData d b op true) s = .next (t.receive n b.psn.toNat b.ackReq (d.ecn == 3)
          (some { pd := d.frh.pd, redirected := d.frh.redirected }) op).settle) ∧
      (session → (c.qp n).state = .ready →
        exec (.fabricData d b (.invalid 0x81) true) s = .next ((t.ceMark n (d.ecn == 3)).governorCnp n).settle) ∧
      (session → (c.qp n).state ≠ .ready → exec (.fabricData d b (.invalid 0x81) true) s = .next t.settle) ∧
      (¬ session → ∀ ok, exec (.fabricData d b op ok) s = .next c.settle) ∧
      exec (.fabricData d b op false) s = .next c.settle) ∧
    (∀ (b : SessionBody),
      ((c.fabQpsTo src (·.fab.opening)) = [] →
        let t := (c.fabQpsTo src fun _ => true).foldl State.endFabQp c
        (∀ n, t.fabFreeQpn = some n →
          let u := t.tick.modXpt fun x => { x with qps := x.qps.set n (fabricQp src (t.draw.toNat % 2 ^ 24) false t.tick.now) }
          exec (.sessionOpen d b) s = .next (u.acceptSession n src b).settle) ∧
        (t.fabFreeQpn = none →
          exec (.sessionOpen d b) s = .next (t.closeIdlest.sendSession src 4 0 0 0 b.senderQpn.toNat).settle)) ∧
      (∀ n l, c.fabQpsTo src (·.fab.opening) = n :: l →
        (c.fab.member < src → exec (.sessionOpen d b) s = .next c.settle) ∧
        (src ≤ c.fab.member → exec (.sessionOpen d b) s = .next (c.acceptSession n src b).settle))) ∧
    (∀ (b : SessionBody), let n := b.peerQpn.toNat
      let mine := (c.qp n).ctx.kind = 1 ∧ (c.qp n).fab.peer = src
      (mine → (c.qp n).fab.opening = true →
        exec (.sessionAccept d b) s = .next (c.modQp n fun q =>
          { q with ctx := { q.ctx with destQpn := b.senderQpn.setWidth _ }, epsn := b.startPsn.toNat, hxv := b.hxv.toNat, hxvSet := true
                   fab := { q.fab with opening := false, retries := 0, lastUse := c.now } }) ∧
        exec (.sessionRefuse d b) s = .next (c.freeQp n)) ∧
      ((¬ mine ∨ (c.qp n).fab.opening = false) →
        exec (.sessionAccept d b) s = .next c ∧ exec (.sessionRefuse d b) s = .next c) ∧
      (mine → (c.qp n).fab.opening = false → exec (.sessionClose d b) s = .next ((c.failUsers n).freeQp n).settle) ∧
      ((¬ mine ∨ (c.qp n).fab.opening = true) → exec (.sessionClose d b) s = .next c.settle))) ∧
  (∀ (s : State) (fq src : Nat) (b : SessionBody),
    let v := versionChoice [defaultOf P.hxv_current, defaultOf P.hxv_previous] [b.hxv]
    let t := s.modQp fq fun q =>
      { q with ctx := { q.ctx with destQpn := b.senderQpn.setWidth _ }, epsn := b.startPsn.toNat, hxv := v, hxvSet := true
               fab := { q.fab with opening := false, lastUse := s.now } }
    let u := if v = 0 then (t.bump P.hxv_refusals).event 0x2041 0 [fq, place 48 b.hxv.toNat] else t
    s.acceptSession fq src b = u.sendSession src 2 v fq (u.qp fq).ctx.psnOut b.senderQpn.toNat) ∧
  (∀ (n : BitVec 18) (s : State),
    let q := s.qp n.toNat
    let idle := q.ctx.kind = 1 ∧ q.fab.opening = false ∧ q.idleFab = true
    (idle → exec (.fabricQpIdle n) s =
      .next ((s.sendSession q.fab.peer 3 q.hxv n.toNat q.ctx.psnOut q.ctx.destQpn.toNat).freeQp n.toNat)) ∧
    (¬ idle → exec (.fabricQpIdle n) s = .next s))

/-- The requester of a FABRIC queue pair with a session. `fabricAckReceived` covers requests. `fabricNakReceived` first covers what comes
before its PSN; then an RNR NAK waits, a sequence NAK sends again from its PSN, and any other outcome becomes the answer of the host message
of the request it names, reported to the host's queue pair for a violation; with no such request nothing more. At the oldest request:
`fabricReadResponse` appends the octets that come in order, the last completing the message, and ignores others; `fabricAtomicAck` completes
it with the old value, `fabricGxResponse` with the GRB, a TREAD too. An answer without a session changes nothing. `fabricAckTimeout` counts a
retry and sends again, or at the limit ends the queue pair, or the attempt to open it; `fabricRnrRetry` sends again without one; each
changes nothing when nothing waits. -/
def Obligations.FabricRequester : Prop :=
  (∀ (d : FabRx) (n : BitVec 18) (psn : BitVec 24) (s : State), s.fabMine d →
    let c := s.fabCounted d
    ((¬ c.sessionWith d n.toNat) → exec (.fabricAckReceived d n psn) s = .next c.settle ∧
      (∀ y, exec (.fabricNakReceived d n psn y) s = .next c.settle) ∧
      (∀ last data, exec (.fabricReadResponse d n psn last data) s = .next c.settle) ∧
      (∀ o, exec (.fabricAtomicAck d n psn o) s = .next c.settle) ∧ (∀ g, exec (.fabricGxResponse d n psn g) s = .next c.settle)) ∧
    (c.sessionWith d n.toNat →
      exec (.fabricAckReceived d n psn) s = .next (c.cover n.toNat psn.toNat).settle ∧
      (∀ (syn : BitVec 8),
        let t := c.cover n.toNat (psnSub psn.toNat 1)
        let hit (r : FabReq) := !r.done && psnSub psn.toNat r.firstPsn ≤ psnSub r.lastPsn r.firstPsn
        (syn.toNat / 32 = 1 →
          exec (.fabricNakReceived d n psn syn) s = .next (t.modFabSide n.toNat fun f => { f with rnrWait := true }).settle) ∧
        (syn = 0x60 → exec (.fabricNakReceived d n psn syn) s = .next (t.resendFab n.toNat psn.toNat).settle) ∧
        (syn.toNat / 32 ≠ 1 → syn ≠ 0x60 →
          ((t.qp n.toNat).fab.reqs.find? hit = none → exec (.fabricNakReceived d n psn syn) s = .next t.settle) ∧
          (∀ r, (t.qp n.toNat).fab.reqs.find? hit = some r →
            let v := if syn = 0x62 then t.remoteViolation r else t
            exec (.fabricNakReceived d n psn syn) s = .next ((v.modFabSide n.toNat fun f =>
              { f with reqs := f.reqs.map fun x => if x.hostQpn = r.hostQpn ∧ x.hostMsg = r.hostMsg then { x with done := true } else x
                       retries := 0 }).hostAnswered r fun m => { m with verdict := some (.nak syn.toNat) }).settle))) ∧
      (∀ (r : FabReq) (rest : List FabReq), (c.qp n.toNat).fab.reqs = r :: rest → r.done = false →
        psnSub psn.toNat r.firstPsn ≤ psnSub r.lastPsn r.firstPsn → c.cover n.toNat (psnSub r.firstPsn 1) = c →
        (∀ orig, opReply r.op = .atomic →
          exec (.fabricAtomicAck d n psn orig) s = .next (c.endReq n.toNat r fun m => { m with result := orig.toNat }).settle) ∧
        (∀ data m, opReply r.op = .read → (c.qp r.hostQpn).msg r.hostMsg = some m →
          (m.data.length = 4096 * psnSub psn.toNat r.firstPsn →
            exec (.fabricReadResponse d n psn true data) s = .next (c.endReq n.toNat r fun m => { m with data := m.data ++ data }).settle ∧
            exec (.fabricReadResponse d n psn false data) s = .next ((c.modMsg r.hostQpn r.hostMsg fun m =>
              { m with data := m.data ++ data }).modFabSide n.toNat fun x => { x with retries := 0 }).settle) ∧
          (m.data.length ≠ 4096 * psnSub psn.toNat r.firstPsn → ∀ last,
            exec (.fabricReadResponse d n psn last data) s = .next c.settle)) ∧
        (∀ g, (opReply r.op = .gx ∨ ∃ x, r.op = .tread x) → exec (.fabricGxResponse d n psn g) s = .next (c.endReq n.toNat r fun m =>
          { m with grb := some (hostGrb (c.qp r.hostQpn).hxv g)
                   verdict := some (.gx g.status.toNat g.durability.toNat g.result.toNat) }).settle)))) ∧
  (∀ (n : BitVec 18) (s : State),
    let q := s.qp n.toNat
    let waits := q.ctx.kind = 1 ∧ q.state = .ready ∧ q.fab.rnrWait = false ∧ (q.fab.opening = true ∨ (q.fab.reqs.all (·.done)) = false)
    let t := s.modFabSide n.toNat fun f => { f with retries := f.retries + 1 }
    (¬ waits → exec (.fabricAckTimeout n) s = .next s.settle) ∧
    (waits → q.fab.retries < s.param P.fabric_retry_count →
      (q.fab.opening = false → exec (.fabricAckTimeout n) s = .next (t.resendAll n.toNat).settle) ∧
      (q.fab.opening = true → exec (.fabricAckTimeout n) s =
        .next (t.sendSession q.fab.peer 1 (defaultOf P.hxv_current) n.toNat q.ctx.psnOut 0).settle)) ∧
    (waits → s.param P.fabric_retry_count ≤ q.fab.retries →
      (q.fab.opening = false → exec (.fabricAckTimeout n) s =
        .next ((s.enterError n.toNat Cause.retryExceeded).failUsers n.toNat).settle) ∧
      (q.fab.opening = true → exec (.fabricAckTimeout n) s = .next (s.freeQp n.toNat).settle)) ∧
    (q.ctx.kind = 1 → q.fab.rnrWait = true → exec (.fabricRnrRetry n) s =
      .next ((s.modFabSide n.toNat fun f => { f with rnrWait := false }).resendAll n.toNat)) ∧
    ((q.ctx.kind ≠ 1 ∨ q.fab.rnrWait = false) → exec (.fabricRnrRetry n) s = .next s))

/-- Designation of a Caller, by messages for this member. `callerOffer` is answered with the result of R277, the pair reserved when
accepted; `callerAnswer` moves the run on or to the next candidate, as does `callerOfferTimeout`; `noteAdopt`, `noteReply`, `noteStart`,
`noteRelease`, `noteReleased` and `noteDone` carry the change through both twins and both Callers, `noteReply` by way of RELEASE where an
old Caller holds the pair. A message of no present run, of another stage, member or pair changes nothing; RELEASE is answered RELEASED by
a member that holds no such pair too. `callerLost` designates again while no Caller is reachable, `callerReleaseRepeat` repeats RELEASE
until it counts as done, and `changeReplyTimeout` ends a change without REPLY with the old Caller. -/
def Obligations.CallerDesignation : Prop :=
  (∀ (d : FabRx) (b : CallerBody) (s : State), s.fabMine d →
    let c := s.fabCounted d
    let src := d.frh.src.toNat
    let ours := bodyPair b = pairOf c.lowerTwin c.higherTwin
    (∀ n, c.offerResult src b = n → n ≠ 0 → exec (.callerOffer d b) s = .next (c.sendControl src
      (.callerAnswer { b with caller := BitVec.ofNat 12 c.fab.member, result := BitVec.ofNat 8 n }))) ∧
    (c.offerResult src b = 0 →
      let t := c.modPair (bodyPair b) fun p => { p with serving := false }
      exec (.callerOffer d b) s =
        .next (t.sendControl src (.callerAnswer { b with caller := BitVec.ofNat 12 t.fab.member, result := BitVec.ofNat 8 0 }))) ∧
    (c.callerPairs.has (bodyPair b) = true →
      exec (.noteStart d b) s = .next (c.callerStart (bodyPair b)) ∧
      exec (.noteRelease d b) s =
        .next (({ c with callerPairs := c.callerPairs.del (bodyPair b) } : State).touchLgm.sendControl src (.callerNote 4 b))) ∧
    (c.callerPairs.has (bodyPair b) = false →
      exec (.noteStart d b) s = .next c ∧ exec (.noteRelease d b) s = .next (c.sendControl src (.callerNote 4 b))) ∧
    (src = c.mir.twinMember → c.designator = false → ours →
      exec (.noteAdopt d b) s =
        .next ((c.modDesig fun x => { x with change := some b.caller.toNat, seq := b.desigSeq.toNat }).sendControl src (.callerNote 1 b)) ∧
      exec (.noteDone d b) s = .next (c.adopt b.caller.toNat b.desigSeq.toNat)) ∧
    ((src ≠ c.mir.twinMember ∨ c.designator = true ∨ ¬ ours) →
      exec (.noteAdopt d b) s = .next c ∧ exec (.noteDone d b) s = .next c) ∧
    (c.desig.run = none →
      exec (.callerAnswer d b) s = .next c ∧ exec (.noteReply d b) s = .next c ∧ exec (.noteReleased d b) s = .next c) ∧
    (∀ r, c.desig.run = some r →
      let now := b.desigSeq.toNat = r.seq ∧ ours
      ((¬ now ∨ r.stage ≠ .offering ∨ src ≠ r.candidate) → exec (.callerAnswer d b) s = .next c) ∧
      ((¬ now ∨ r.stage ≠ .adopting ∨ src ≠ c.mir.twinMember) → exec (.noteReply d b) s = .next c) ∧
      ((¬ now ∨ r.stage ≠ .releasing ∨ src ≠ c.desig.caller) → exec (.noteReleased d b) s = .next c) ∧
      (now → r.stage = .offering → src = r.candidate →
        (b.result = 0 → exec (.callerAnswer d b) s = .next
          ((c.modDesig fun x => { x with change := some r.candidate, run := some { r with stage := .adopting } }).sendControl
            c.higherTwin (.callerNote 0 (c.desigBody r.candidate)))) ∧
        (b.result ≠ 0 → exec (.callerAnswer d b) s = .next (c.offerNext r.candidates))) ∧
      (now → r.stage = .adopting → src = c.mir.twinMember →
        let t := c.sendControl r.candidate (.callerNote 2 (c.desigBody r.candidate))
        ((c.desig.caller = 0xFFFF ∨ c.desig.caller = r.candidate) → exec (.noteReply d b) s = .next (t.desigDone r)) ∧
        (c.desig.caller ≠ 0xFFFF → c.desig.caller ≠ r.candidate → exec (.noteReply d b) s =
          .next ((t.modDesig fun x => { x with run := some { r with stage := .releasing, since := t.now } }).sendControl c.desig.caller
            (.callerNote 3 (t.desigBody c.desig.caller))))) ∧
      (now → r.stage = .releasing → src = c.desig.caller → exec (.noteReleased d b) s = .next (c.desigDone r)))) ∧
  (∀ (s : State),
    (s.hopsTo s.desig.caller = [] → exec .callerLost s = .next s.designate) ∧
    (s.hopsTo s.desig.caller ≠ [] → exec .callerLost s = .next s) ∧
    (s.desig.run = none → exec .callerOfferTimeout s = .next s ∧ exec .callerReleaseRepeat s = .next s ∧
      exec .changeReplyTimeout s = .next s) ∧
    (∀ r, s.desig.run = some r →
      let due := s.hopsTo s.desig.caller = [] ∧ r.since + 2 * s.param P.caller_lost_ms * 1000000 ≤ s.now
      (r.stage = .offering → exec .callerOfferTimeout s = .next (s.offerNext r.candidates)) ∧
      (r.stage ≠ .offering → exec .callerOfferTimeout s = .next s) ∧
      (r.stage = .releasing → due → exec .callerReleaseRepeat s = .next (s.desigDone r)) ∧
      (r.stage = .releasing → ¬ due → exec .callerReleaseRepeat s =
        .next (s.sendControl s.desig.caller (.callerNote 3 (s.desigBody s.desig.caller)))) ∧
      (r.stage ≠ .releasing → exec .callerReleaseRepeat s = .next s) ∧
      (r.stage = .adopting → exec .changeReplyTimeout s =
        .next ((s.sendControl r.candidate (.callerNote 3 (s.desigBody r.candidate))).modDesig fun x =>
          { x with change := none, run := none })) ∧
      (r.stage ≠ .adopting → exec .changeReplyTimeout s = .next s)))

/-! ### DRAM (R285–R310) -/

/-- Training. `spdReadComplete` applies the SPDs while training waits for them, and is nothing otherwise. `trainingStepComplete` on a
channel in training: a step that passes advances it, step 2 after a power loss ending its poison encodings, one that fails is a
TRAINING fault of that step; on another channel nothing. `dramTrainComplete` repairs pending rows, puts the channels whose steps have
passed into service or under their fence, faults the others and gives the result; outside running training it is nothing.
`dramRetrain` looks at the population again after a failed training, trains the channels of the mask and reports those that passed.
`spdTemperaturePoll` keeps the temperature of a channel in service, doubles refresh at 85 degrees and records 95. Page retirement.
`pageRetire` fails outside the DRAM with BAD_ADDR, and with no free spare page with NO_SPARE, counted and recorded; else the lowest
free spare page of the channel takes the page, and the copy begins. `pageCopyComplete` makes the entry final, counted and recorded,
and completes the command where it named that page; with no copy under way it is nothing. `pprCopyBack` frees, in SERVICE and
DEGRADED, the final entry of a page whose row was repaired, and does nothing in another mode. -/
def Obligations.DramTrainingAndRetirement : Prop :=
  ((∀ (l : List SpdSlot) (s : State),
     let due := s.mode = .train ∧ s.dram.train = .running ∧ s.dram.channels = 0
     (due → exec (.spdReadComplete l) s = .next (s.spdRead l).settle) ∧
     (¬ due → exec (.spdReadComplete l) s = .next s.settle)) ∧
   (∀ (ch : Fin 16) (step margin : Nat) (s : State),
     ((s.mc ch).state ≠ .training → ∀ ok, exec (.trainingStepComplete ch step ok margin) s = .next s.settle) ∧
     ((s.mc ch).state = .training →
       let t := s.modMc ch fun m => { m with steps := max m.steps step, marginPs := if step = 7 then margin else m.marginPs }
       exec (.trainingStepComplete ch step false margin) s = .next (s.fault (faultMsg 0x40 ch .ucc Kind.training step)).settle ∧
       ((step ≠ 2 ∨ t.dram.warm = true) → exec (.trainingStepComplete ch step true margin) s = .next t.settle) ∧
       (step = 2 → t.dram.warm = false → exec (.trainingStepComplete ch step true margin) s =
         .next (t.modDram fun d => { d with poison := d.poison.filter fun l => t.channelOf (l * 64) != ch }).settle))) ∧
   (∀ (rows : List PprRow) (s : State),
     ((s.mode ≠ .train ∨ s.dram.train ≠ .running ∨ s.dram.channels = 0) → exec (.dramTrainComplete rows) s = .next s.settle) ∧
     (s.mode = .train → s.dram.train = .running → s.dram.channels ≠ 0 →
       let t := s.pprRepair rows
       let u := t.modDram fun d => { d with mcs := d.mcs.mapVals fun ch m =>
         if m.state = .training then
           { m with state := if m.fenced || bit (t.param P.mc_fence) ch then .fenced else if 7 ≤ m.steps then .inService else .training }
         else m }
       let v := (List.range u.dram.channels).foldl (fun s ch =>
         if (s.mc ch).state = .training then s.fault (faultMsg 0x40 ch .ucc Kind.training ((s.mc ch).steps + 1)) else s) u
       exec (.dramTrainComplete rows) s = .next v.trainResult.settle ∧
       (((List.range u.dram.channels).all fun ch => (u.mc ch).state ≠ .training) = true →
         exec (.dramTrainComplete rows) s = .next u.trainResult.settle))) ∧
   (∀ (r : Req) (slots : List SpdSlot) (failed : List (Fin 16 × Nat)) (s : State) (p : Param), s.starts r P.dram_retrain p →
     let a := s.answered r
     let b := if a.dram.train = .failed then a.spdRead slots else a
     let chs := (List.range b.dram.channels).filter fun c => bit (leNat r.args) c && !b.rst.fenced.contains (14 + c)
     (b.dram.channels = 0 → exec (.dramRetrain r slots failed) s = .next (b.done P.dram_retrain (leBytes 2 0)).settle) ∧
     (b.dram.channels ≠ 0 → chs = [] → exec (.dramRetrain r slots failed) s = .next (b.trainResult.done P.dram_retrain (leBytes 2 0)).settle) ∧
     (∀ ch, b.dram.channels ≠ 0 → chs = [ch] →
       (∀ f, failed.find? (fun f => f.1.val == ch) = some f → exec (.dramRetrain r slots failed) s =
         .next ((((b.modMc ch fun m => { m with state := .training }).fault (faultMsg 0x40 ch .ucc Kind.training f.2)).trainResult).done
           P.dram_retrain (leBytes 2 0)).settle) ∧
       (failed.find? (fun f => f.1.val == ch) = none → bit (b.param P.mc_fence) ch = true → exec (.dramRetrain r slots failed) s =
         .next (((b.modMc ch fun m => { m with steps := 7, fenced := false, state := .fenced }).trainResult).done P.dram_retrain
           (leBytes 2 (2 ^ ch))).settle) ∧
       (failed.find? (fun f => f.1.val == ch) = none → bit (b.param P.mc_fence) ch = false → exec (.dramRetrain r slots failed) s =
         .next ((((b.liftChannel ch).modMc ch fun m => { m with steps := 7 }).trainResult).done P.dram_retrain
           (leBytes 2 (2 ^ ch))).settle)) ∧
     (b.dram.channels ≠ 0 → ∃ t : State, exec (.dramRetrain r slots failed) s = .next ((t.trainResult).done P.dram_retrain
       (leBytes 2 ((chs.filter fun ch => (failed.find? fun f => f.1.val == ch).isNone).map (2 ^ ·)).sum)).settle)) ∧
   (∀ (ch : Fin 16) (slot : Fin 2) (temp : BitVec 8) (s : State),
     ((s.mc ch).state ≠ .inService → exec (.spdTemperaturePoll ch slot temp) s = .next s) ∧
     ((s.mc ch).state = .inService →
       let t := s.modMc ch fun m => if slot.val = 0 then { m with tempC0 := temp.toNat } else { m with tempC1 := temp.toNat }
       let u := t.modMc ch fun m => { m with doubleRefresh := decide (85 ≤ max m.tempC0 m.tempC1) }
       (temp.toNat < 95 → exec (.spdTemperaturePoll ch slot temp) s = .next u) ∧
       (95 ≤ temp.toNat → exec (.spdTemperaturePoll ch slot temp) s =
         .next ((u.setFlag (perInst P.mc_err_status ch) 5).event 0x4041 ch [slot, temp.toNat]))))) ∧
  ((∀ (r : Req) (s : State) (p : Param), s.starts r P.page_retire p →
     let t := s.answered r
     let a := leNat r.args
     let ch := t.channelOf a
     let page := t.chAddr a / 4096
     let l := (t.mc ch).remaps
     (t.dramBytes ≤ a → exec (.pageRetire r) s = .next (t.failed P.page_retire 0x02)) ∧
     (a < t.dramBytes → (16384 ≤ l.length ∨ freeSpare l (l.length + 1) 0 = none) →
       exec (.pageRetire r) s = .next (((t.bump P.retire_impossible).event 0x4043 ch [a]).failed P.page_retire 0x01)) ∧
     (∀ n, a < t.dramBytes → l.length < 16384 → freeSpare l (l.length + 1) 0 = some n → exec (.pageRetire r) s =
       .next (t.modMc ch fun m => { m with remaps := m.remaps.filter (·.page != page) ++ [{ page := page, spare := n }] }))) ∧
   (∀ (ch : Fin 16) (page : BitVec 64) (s : State),
     ((s.mc ch).remaps.find? (fun r => r.page == page.toNat && !r.final) = none → exec (.pageCopyComplete ch page) s = .next s) ∧
     (∀ r, (s.mc ch).remaps.find? (fun r => r.page == page.toNat && !r.final) = some r →
       let u := s.modMc ch fun m => { m with remaps := m.remaps.map fun x => if x.page = page.toNat then { x with final := true } else x }
       let a := 4 * u.dram.cu * (ch.val / 4) + (4 * page.toNat + ch.val % 4) * 4096
       let v := (u.bump P.pages_retired).event 0x4042 ch [a, r.spare]
       (leNat (v.cmdArg P.page_retire) / 4096 = a / 4096 → exec (.pageCopyComplete ch page) s = .next (v.done P.page_retire)) ∧
       (leNat (v.cmdArg P.page_retire) / 4096 ≠ a / 4096 → exec (.pageCopyComplete ch page) s = .next v)) ∧
     ((s.mode = .service ∨ s.mode = .degraded) → exec (.pprCopyBack ch page) s =
       .next (s.modMc ch fun m => { m with remaps := m.remaps.filter fun x => !(x.page == page.toNat && x.back && x.final) })) ∧
     (s.mode ≠ .service → s.mode ≠ .degraded → exec (.pprCopyBack ch page) s = .next s)))

/-- Lines. An address beyond the DRAM faults for `dramUncorrectedRead`, `lineRepair` and `scrubRead`. Within it, `dramUncorrectedRead` on a
line already poisoned is no fault, and on any other a fault of its port, before the agent acts. `lineRepair` takes a poisoned line from the
deep store, or asks the twin where the group has one there, and does nothing without a source or to a line that is whole. `scrubRead` goes
on by one line on a channel in service, counting its passes, a corrected line, and a fault for an uncorrected line that was not poisoned;
in SAVE, or on another channel, nothing. `alertN` replays and counts, the count starting again when an entry has retired, and at the limit
is an uncorrected fault; on a channel not in service or training it is nothing. -/
def Obligations.DramLines : Prop :=
  (∀ (rq : Fin 12) (a : BitVec 64) (unit : BitVec 32) (o : LineOutcome) (s : State), s.dramBytes ≤ a.toNat →
    exec (.dramUncorrectedRead rq a unit) s = .fault .noSuchAddress ∧ exec (.lineRepair a) s = .fault .noSuchAddress ∧
    exec (.scrubRead a o) s = .fault .noSuchAddress) ∧
  (∀ (rq : Fin 12) (a : BitVec 64) (unit : BitVec 32) (s : State), a.toNat < s.dramBytes →
    (a.toNat / 64 ∈ s.dram.poison →
      exec (.dramUncorrectedRead rq a unit) s = .next (s.agentActs rq a.toNat unit.toNat).settle) ∧
    (a.toNat / 64 ∉ s.dram.poison → exec (.dramUncorrectedRead rq a unit) s =
      .next ((s.lineFault rq (a.toNat / 64 * 64)).agentActs rq a.toNat unit.toNat).settle) ∧
    (a.toNat / 64 ∉ s.dram.poison → exec (.lineRepair a) s = .next s) ∧
    (a.toNat / 64 ∈ s.dram.poison →
      (∀ cells, s.deepLine (a.toNat / 65536) = some cells → exec (.lineRepair a) s =
        .next ((s.rqCount 6 64).repairLine (a.toNat / 64)
          (Memory.read (Memory.extract cells (a.toNat / 64 % 1024 * 64) 64) 0 64))) ∧
      (s.deepLine (a.toNat / 65536) = none →
        (∀ o, s.ownerOf (a.toNat / 65536) = some o → s.twinSource (s.desc o.1).group = true →
          exec (.lineRepair a) s = .next (s.twinRead o.1 o.2 (some (a.toNat / 64)))) ∧
        (∀ o, s.ownerOf (a.toNat / 65536) = some o → s.twinSource (s.desc o.1).group = false → exec (.lineRepair a) s = .next s) ∧
        (s.ownerOf (a.toNat / 65536) = none → exec (.lineRepair a) s = .next s)))) ∧
  (∀ (a : BitVec 64) (o : LineOutcome) (s : State), a.toNat < s.dramBytes →
    ((s.mode = .save ∨ (s.mc (s.channelOf a.toNat)).state ≠ .inService) → exec (.scrubRead a o) s = .next s.settle) ∧
    (s.mode ≠ .save → (s.mc (s.channelOf a.toNat)).state = .inService →
      let r := s.rqCount 11 64
      ∀ t, ((o = .clean ∧ t = r) ∨ (o = .corrected ∧ t = r.lineCorrected 0x0B (a.toNat / 64 * 64)) ∨
        (o = .uncorrected ∧ r.poisoned a.toNat = true ∧ t = r) ∨
        (o = .uncorrected ∧ r.poisoned a.toNat = false ∧ t = r.lineFault 0x0B (a.toNat / 64 * 64))) →
      ((t.dram.scrubLine + 1) * 64 < t.dramBytes → exec (.scrubRead a o) s =
        .next (t.modDram fun d => { d with scrubLine := t.dram.scrubLine + 1 }).settle) ∧
      (t.dramBytes ≤ (t.dram.scrubLine + 1) * 64 → exec (.scrubRead a o) s =
        .next ((t.modDram fun d => { d with scrubLine := 0 }).bump P.scrub_passes).settle))) ∧
  (∀ (ch : Fin 16) (entries : Nat) (retired : Bool) (s : State),
    ((s.mc ch).state ≠ .inService → (s.mc ch).state ≠ .training → exec (.alertN ch entries retired) s = .next s.settle) ∧
    (((s.mc ch).state = .inService ∨ (s.mc ch).state = .training) →
      let n := if retired then 1 else (s.mc ch).alerts + 1
      let t := ((s.modMc ch fun m => { m with alerts := n }).bump P.ca_replays).setFlag (perInst P.mc_err_status ch) 2
      let u := t.fault (faultMsg 0x40 ch .ce Kind.caReplay entries)
      (n < u.param P.ca_retry_limit → exec (.alertN ch entries retired) s = .next u.settle) ∧
      (u.param P.ca_retry_limit ≤ n → exec (.alertN ch entries retired) s =
        .next ((u.modMc ch fun m => { m with alerts := 0 }).fault (faultMsg 0x40 ch .ucc Kind.caLimit n)).settle)))

/-! ### Flash (R312–R343) -/

/-- Carriers. `carrierPresenceChange`: one seated in an empty position is attached in TRAIN and MAINT, recorded in the other modes in which FL
runs, and no more; one that goes is OFFLINE from use, or leaves its position empty. `carrierAttachChecks` refuses an attaching carrier with the
first check that fails, or brings it into service when this device formatted it, or leaves it FOREIGN, the save area evaluated where that makes
a set; `carrierPgoodLow` fails the rail of a carrier that was good. `carrierFormat` draws a key for a FOREIGN carrier, fails on another, and
fails without the generator; `carrierFormatComplete` ends it in service with its factory-bad count. `carrierDetach` evacuates a carrier in
use, ends at once on one OFFLINE and fails on another; `evacuationComplete` detaches it, or returns it to its prior state with no space.
`optionAreaUpdate` writes the dynamic part of every carrier in service or retiring. In any other state each changes nothing. -/
def Obligations.CarrierLife : Prop :=
  (∀ (c : Fin 8) (s : State),
    (let t := s.modCarrier c fun x => { x with present := true }
     let run := exec (.carrierPresenceChange c true) s
     ((t.carrier c).state ≠ .empty → run = .next t.settle) ∧
     ((t.carrier c).state = .empty → (t.mode = .train ∨ t.mode = .maint) → run = .next (t.attachBegin c).settle) ∧
     ((t.carrier c).state = .empty → t.mode ≠ .train → t.mode ≠ .maint → t.mode.flRuns = true → run = .next (t.event 0x5040 c []).settle) ∧
     ((t.carrier c).state = .empty → t.mode.flRuns = false → run = .next t.settle)) ∧
    (let t := s.modCarrier c fun x => { x with present := false }
     let run := exec (.carrierPresenceChange c false) s
     ((t.carrier c).state ∈ [CarState.inService, .retiring, .evacuating, .formatting] → run = .next (t.carrierOffline c).settle) ∧
     ((t.carrier c).state ∈ [CarState.refused, .detached, .offline, .attaching, .foreign] → run = .next (t.carrierGone c).settle) ∧
     ((t.carrier c).state = .empty → run = .next t.settle)) ∧
    (∀ o : CarrierObs, let run := exec (.carrierAttachChecks c o) s
      let n := attachFailure o
      let a := if o.optionArea.length = 192 then s.modCarrier c fun x => { x with option := o.optionArea } else s
      ((s.carrier c).state ≠ .attaching → run = .next s.settle) ∧
      ((s.carrier c).state = .attaching → n ≠ 0 →
        let t := ((a.carrierPowerOff c .refused).modCarrier c fun x => { x with refuseReason := n }).event 0x5041 c [n]
        (n ≠ 3 → run = .next t.settle) ∧
        (n = 3 → run = .next (t.event 0x5042 c [optStatic o.optionArea 975 912]).settle)) ∧
      ((s.carrier c).state = .attaching → n = 0 →
        let t := (a.modCarrier c fun x => { x with pgood := true, civ := civChoice o.optionArea }).setRail (10 + c) .up
        ∀ u, ((∃ d, t.carrierBound o.optionArea = some d ∧ u = t.carrierService c d o) ∨
          (t.carrierBound o.optionArea = none ∧ u = t.modCarrier c fun x =>
            { x with state := .foreign, keyDraw := 0, goodBlocks := 4 * o.goodBlocks, erasedSlot0 := false, erasedSlot1 := false })) →
        (u.attached = true → run = .next u.evalArea.settle) ∧ (u.attached = false → run = .next u.settle))) ∧
    ((s.carrier c).pgood = false → exec (.carrierPgoodLow c) s = .next s.settle) ∧
    ((s.carrier c).pgood = true →
      let t := (s.modCarrier c fun x => { x with pgood := false }).setFlag (perInst P.car_err_status c) 6
      ((t.rail (10 + c)).state = .up → exec (.carrierPgoodLow c) s = .next (t.railFail (10 + c) (t.rail (10 + c)).mv).settle) ∧
      ((t.rail (10 + c)).state ≠ .up → exec (.carrierPgoodLow c) s = .next t.settle)) ∧
    (∀ bad,
      ((s.carrier c).state = .formatting → exec (.carrierFormatComplete c bad) s =
        .next (((s.asFormatted c).evalArea).done (perInst P.carrier_format c) (leBytes 4 bad.toNat)).settle) ∧
      ((s.carrier c).state ≠ .formatting → exec (.carrierFormatComplete c bad) s = .next s.settle)) ∧
    (∀ full, (s.carrier c).state ≠ .evacuating → exec (.evacuationComplete c full) s = .next s.settle) ∧
    ((s.carrier c).state = .evacuating →
      let r := s.relocate fun e => s.entryOnCarrier e c
      let back := fun (u : State) => ((u.modCarrier c fun x =>
        { x with state := x.prior, wp := x.prior = .retiring }).evalArea).failed (perInst P.carrier_detach c) 0x02
      exec (.evacuationComplete c true) s = .next (back s).settle ∧
      (r.2.2 = false → exec (.evacuationComplete c false) s = .next (back r.1).settle) ∧
      (r.2.2 = true → exec (.evacuationComplete c false) s =
        .next ((((r.1.writeDynamic c 3 false).carrierPowerOff c .detached).modCarrier c fun x =>
          { x with attn := true, relocated := r.2.1 }).done (perInst P.carrier_detach c) (leBytes 8 r.2.1)).settle))) ∧
  (∀ (r : Req) (s : State) (p : Param), s.starts r P.carrier_format p →
    let a := s.answered r
    let n := carrierOf (s.namedBy r)
    ((a.carrier n).state ≠ .foreign → exec (.carrierFormat r) s = .next (a.failed (s.namedBy r) 0x01)) ∧
    ((a.carrier n).state = .foreign → a.sec.drbgStopped = true → exec (.carrierFormat r) s = .next (a.drawFails (s.namedBy r))) ∧
    ((a.carrier n).state = .foreign → a.sec.drbgStopped = false →
      let old := (a.carrier n).keyDraw
      let d := a.drawn
      let t := d.modSec fun x => { x with mediaKeys := Tbl.set (List.filter (fun e => e.1 != old) x.mediaKeys) d.sec.draws n }
      exec (.carrierFormat r) s =
        .next (t.modCarrier n fun c => { c with state := .formatting, keyTag := mediaTag d.sec.draws, keyDraw := d.sec.draws }))) ∧
  (∀ (r : Req) (s : State) (p : Param), s.starts r P.carrier_detach p →
    let a := s.answered r
    let n := carrierOf (s.namedBy r)
    let st := (a.carrier n).state
    ((st = .inService ∨ st = .retiring) → exec (.carrierDetach r) s =
      .next (((a.abandonOn fun e => a.entryOnCarrier e n).modCarrier n fun c =>
        { c with state := .evacuating, prior := c.state, relocated := 0, wp := true }).evalArea).settle) ∧
    (st = .offline → exec (.carrierDetach r) s =
      .next (((a.carrierPowerOff n .detached).modCarrier n fun c => { c with attn := true }).done (s.namedBy r) (leBytes 8 0)).settle) ∧
    (st ≠ .inService → st ≠ .retiring → st ≠ .offline → exec (.carrierDetach r) s = .next (a.failed (s.namedBy r) 0x01).settle)) ∧
  (∀ (s : State), exec .optionAreaUpdate s = .next ((List.range 8).foldl (fun s n =>
    if (s.carrier n).state = .inService then s.writeDynamic n 1 false
    else if (s.carrier n).state = .retiring then s.writeDynamic n 2 false else s) s))

/-- Programs, erases, timeouts and the patrol do nothing on a carrier that takes none of them. `flashProgramComplete` does nothing while
the holding area has no room for its page; at the pointer of a free or open block that is not suspect, one that passes moves the
pointer and one that fails retires the block; anywhere else it is rejected. `flashEraseComplete` frees a block that was erasing, or
retires it, and does nothing to another. `flashOperationTimeout` resets the LUN and is a fault, ends its operation as R321 says, and
the third of a channel in 1 s fences it. `flashPatrol` reads a block with valid units and moves, rebuilds or counts them as lost by
the deepest step that it needed; a block with none it leaves. Upkeep of the media. `rowPadTimer` completes the open rows; `mapFlush`,
only past its marks, writes the dirty map pages that find room and starts the journal again once all are written; `garbageCollect`,
only below its mark, relocates the emptiest closed superblock that no drain uses, and erases it once all of its units are out;
`wearLevel` moves the least-erased block past the spread; `zqShortTimer` calibrates while a carrier takes it; each is nothing
otherwise. `rawRead` reports a bad, erasing or unwritten page with no data of it, else the outcome with the chunk; the octets that the
spec leaves open are free values. `deepMapLookup` answers the map entry. -/
def Obligations.FlashProgramsAndUpkeep : Prop :=
  ((∀ (b : BlkAddr) (s : State),
     let k := blkKey b
     let n := keyCarrier k
     let ch := keyChannel k
     let live := (s.carrier n).state.takesErase
     (live = false → (∀ page res, exec (.flashProgramComplete b page res) s = .next s.settle) ∧
       (∀ ok, exec (.flashEraseComplete b ok) s = .next s.settle) ∧ (∀ o, exec (.flashOperationTimeout b o) s = .next s.settle) ∧
       (∀ w, exec (.flashPatrol b w) s = .next s.settle)) ∧
     (live = true → ∀ page,
       (s.holdWaits k page = true → ∀ res, exec (.flashProgramComplete b page res) s = .next s.settle) ∧
       (s.holdWaits k page = false →
         let right := ((s.blk k).state = .free ∨ (s.blk k).state = .open_) ∧ (s.blk k).suspect = false ∧ page = (s.blk k).pointer
         (right → (∀ ok, exec (.flashProgramComplete b page (.pass ok)) s = .next (s.programPassed k page ok).settle) ∧
           exec (.flashProgramComplete b page .fail) s = .next (s.programFailed k).settle) ∧
         (¬ right → ∀ res, exec (.flashProgramComplete b page res) s = .next (s.programReject k).settle))) ∧
     (live = true →
       ((s.blk k).state ≠ .erasing → ∀ ok, exec (.flashEraseComplete b ok) s = .next s.settle) ∧
       ((s.blk k).state = .erasing →
         exec (.flashEraseComplete b false) s = .next ((s.setFlag (perInst P.car_err_status n) 2).retireBlock k 2).settle ∧
         (let t := s.modBlk k fun x =>
           { x with state := .free, pointer := 0, suspect := false, verifying := x.suspect, erases := x.erases + 1, reads := 0
                    suspended := false }
          exec (.flashEraseComplete b true) s = .next (t.modCarrier n fun c => { c with maxPe := max c.maxPe (t.blk k).erases }).settle))) ∧
     (live = true → ∀ o,
       let t := (s.emit (.lunReset b)).fault
         (faultMsg 0x50 ch .ucc Kind.timeout (opcodeOf o) (.content k) (some (b.target.val * 4 + b.lun.val)))
       ∀ u, ((o = .read ∧ u = t.setFlag (perInst P.car_err_status n) 3) ∨ (o = .program ∧ u = t.programFailed k) ∨
         (o = .erase ∧ u = (t.setFlag (perInst P.car_err_status n) 2).retireBlock k 2)) →
       let l := (ch, u.now) :: (u.carrier n).timeouts.filter fun x => u.now < x.2 + 1000000000
       let v := u.modCarrier n fun c => { c with timeouts := l }
       (l.countP (fun x => x.1 == ch) < 3 → exec (.flashOperationTimeout b o) s = .next v.settle) ∧
       (3 ≤ l.countP (fun x => x.1 == ch) → exec (.flashOperationTimeout b o) s = .next (v.fenceFlash ch).settle)) ∧
     (s.blockUsed k = false → ∀ w, exec (.flashPatrol b w) s = .next s.settle) ∧
     (live = true → s.blockUsed k = true →
       let t := (s.modBlk k fun x => { x with lastPatrol := s.now }).blockRead k
       exec (.flashPatrol b .hard) s = .next t.settle ∧ exec (.flashPatrol b .soft) s = .next (t.moveBlock k).settle ∧
       (∀ m, (t.param P.relocate_retry_level ≤ m → exec (.flashPatrol b (.retry m)) s = .next (t.moveBlock k).settle) ∧
         (m < t.param P.relocate_retry_level → exec (.flashPatrol b (.retry m)) s = .next t.settle)) ∧
       (let u := t.setFlag (perInst P.car_err_status n) 3
        (u.rowsWhole k = true → exec (.flashPatrol b .uncorrectable) s = .next ((u.bump P.units_rebuilt).suspectBlock k).settle) ∧
        (u.rowsWhole k = false → exec (.flashPatrol b .uncorrectable) s = .next (u.bump P.units_unrecovered).settle))))) ∧
  ((∀ (s : State),
     exec .rowPadTimer s = .next (s.modFlash fun f => { f with sbs := f.sbs.mapVals fun _ b =>
       if b.full || b.channels.length - 1 = 0 then b
       else { b with used := ceilDiv b.used (b.channels.length - 1) * (b.channels.length - 1) } }) ∧
     (3145728 ≤ s.flash.journal ∨ 2048 ≤ s.flash.dirtyPages.length →
       exec .mapFlush s = .next s.mapFlush ∧
       (s.flash.dirtyPages = [] → exec .mapFlush s = .next (s.modFlash fun f => { f with journal := 0, dirtyPages := [] })) ∧
       (∀ m t, s.flash.dirtyPages = [m] →
         (s.writePage m = (t, true) → exec .mapFlush s = .next (t.modFlash fun f => { f with journal := 0, dirtyPages := [] })) ∧
         (s.writePage m = (t, false) → exec .mapFlush s = .next (t.modFlash fun f => { f with dirtyPages := [m] })))) ∧
     (s.flash.journal < 3145728 → s.flash.dirtyPages.length < 2048 → exec .mapFlush s = .next s) ∧
     ((s.flash.cars.any fun e => e.2.state.takesErase) = true → exec .zqShortTimer s = .next (s.emit .zqShort)) ∧
     ((s.flash.cars.any fun e => e.2.state.takesErase) = false → exec .zqShortTimer s = .next s)) ∧
   (∀ (s : State),
     let pick := bestBy (fun n => -(s.validUnits n : Int))
       (s.flash.sbs.keysWhere fun n b => b.full && (s.drainsOn fun e => e.superblock == n).isEmpty)
     let low := 100 * s.freeSupers.1 < s.param P.gc_free_low_pct * s.freeSupers.2
     ((¬ low ∨ pick = none) → exec .garbageCollect s = .next s.settle) ∧
     (∀ n, low → pick = some n →
       let r := s.relocate fun e => !e.noRead && e.superblock == n
       (r.2.2 = false → exec .garbageCollect s = .next r.1.settle) ∧
       (r.2.2 = true →
         let t := r.1.modFlash fun f => { f with sbs := f.sbs.del n }
         exec .garbageCollect s = .next (((s.sb n).blocks).foldl (fun s k =>
           if (s.blk k).state = .bad then s else s.modBlk k fun b => { b with state := .erasing }) t).settle))) ∧
   (∀ (c : Fin 8) (s : State),
     let mine := s.flash.blks.filter fun e => keyCarrier e.1 == c && e.2.state ≠ .bad
     let top := mine.foldl (fun m e => max m e.2.erases) 0
     let pick := bestBy (fun k => -((s.blk k).erases : Int)) ((mine.map (·.1)).filter s.blockUsed)
     (pick = none → exec (.wearLevel c) s = .next s.settle) ∧
     (∀ k, pick = some k →
       ((s.blk k).erases + s.param P.wear_spread_max < top → exec (.wearLevel c) s = .next (s.moveBlock k).settle) ∧
       (top ≤ (s.blk k).erases + s.param P.wear_spread_max → exec (.wearLevel c) s = .next s.settle))) ∧
   (∀ (r : Req) (o : UnitOutcome) (bits : BitVec 16) (s : State) (p : Param),
     s.starts r P.raw_read p (argsOk := leAt r.args 0 1 < 8 && leAt r.args 1 1 < 4 && leAt r.args 2 1 < 8 && leAt r.args 3 1 < 4 &&
       leAt r.args 11 1 < 5) →
     let a := s.answered r
     let num := s.namedBy r
     let k := blkKeyOf (4 * leAt r.args 0 1 + leAt r.args 1 1) (leAt r.args 2 1) (leAt r.args 3 1) (leAt r.args 4 4)
     let chunk := leAt r.args 11 1
     let c := a.carrier (leAt r.args 0 1)
     let free := takePad (if chunk = 4 then 512 else 1024) (Config.rawChunk a.freeCount)
     ((a.blk k).state = .bad → exec (.rawRead r o bits) s = .next (a.done num [5, 0, 0, 0])) ∧
     ((a.blk k).state = .erasing → exec (.rawRead r o bits) s = .next (a.done num [3, 0, 0, 0])) ∧
     ((a.blk k).state ≠ .bad → (a.blk k).state ≠ .erasing →
       ((a.blk k).pointer ≤ leAt r.args 8 2 → exec (.rawRead r o bits) s = .next (a.tick.done num ([4, 0, 0, 0] ++ free))) ∧
       (leAt r.args 8 2 < (a.blk k).pointer →
         let head := leBytes 1 (UnitLevel (a.tick.carrier (leAt r.args 0 1)) o) ++ leBytes 2 bits.toNat
         (o = .uncorrectable → exec (.rawRead r o bits) s = .next (a.tick.done num ([2] ++ head ++ free))) ∧
         (o ≠ .uncorrectable → (o ≠ .hard ∨ bits ≠ 0) → exec (.rawRead r o bits) s = .next (a.tick.done num ([1] ++ head ++ free))) ∧
         (o = .hard → bits = 0 →
           (∀ b, chunk ≠ 4 → a.codeword k (leAt r.args 8 2 * c.unitsPerPage + leAt r.args 10 1) = some b →
             exec (.rawRead r o bits) s = .next (a.tick.done num ([0] ++ head ++ slice b (1024 * chunk) 1024))) ∧
           ((chunk = 4 ∨ a.codeword k (leAt r.args 8 2 * c.unitsPerPage + leAt r.args 10 1) = none) →
             exec (.rawRead r o bits) s = .next (a.tick.done num ([0] ++ head ++ free))))))) ∧
   (∀ (r : Req) (s : State) (p : Param), s.starts r P.deep_map_lookup p →
     let a := s.answered r
     exec (.deepMapLookup r) s = .next (a.done (s.namedBy r) (leBytes 8 (a.deepOf (leNat r.args)).word))))

/-! ### Security, faults and events (R344–R381) -/

/-- `entropyHealthFail` stops the generator and is fatal while VDD_AON stands. `lcTransition` fails with the first reason of R358, and
where the generator is stopped and the target needs keys; otherwise it takes effect at once, or overwrites first: then
`lcZeroFillComplete` clears the working tables and `lcEraseComplete`, of every carrier, completes it, each in its turn in MAINT and
nothing out of it or with no transition under way. The XTS data-unit numbers of Table 13.2 and the tweak that carries them, 16 octets,
little-endian; a key with equal halves is refused, and data of 16 octets or more encrypt to as many. JTAG: out of BLANK and RETURNED
no input reaches the device and TDO is released; in them the inputs do. -/
def Obligations.LifeCycleCommands : Prop :=
  ((∀ (test : BitVec 8) (s : State),
     (s.rst.vddAon = true → exec (.entropyHealthFail test) s =
       .next (((s.modSec fun x => { x with drbgStopped := true }).bump P.entropy_failures).fault
         (faultMsg 0x23 0 .ftl Kind.entropy test.toNat)).settle) ∧
     (s.rst.vddAon = false → exec (.entropyHealthFail test) s = .next s.settle)) ∧
   (∀ (r : Req) (s : State) (p : Param), s.starts r P.lc_transition p →
     let a := s.answered r
     let num := s.namedBy r
     let level := (a.session r.slot.val).level
     (∀ f, a.lcFailure level r.args = some f → exec (.lcTransition r) s = .next (a.failed num f).settle) ∧
     (∀ dest row, a.lcFailure level r.args = none → lcOf (leAt r.args 0 1) = some dest → lcRow a.sec.lc dest = some row →
       ((dest.keyed && a.sec.drbgStopped) = true → exec (.lcTransition r) s = .next (a.drawFails num).settle) ∧
       ((dest.keyed && a.sec.drbgStopped) = false →
         let t := a.event 0x2548 0 [a.sec.lc.code, dest.code, r.slot.val]
         (row.2.2 = true → exec (.lcTransition r) s =
           .next (t.lcOverwrite { from_ := t.sec.lc, dest := dest, slot := r.slot.val, since := t.now }).settle) ∧
         (row.2.2 = false → dest = .decommissioned → exec (.lcTransition r) s = .next ((t.enterLc dest).done num).settle) ∧
         (row.2.2 = false → dest ≠ .decommissioned → exec (.lcTransition r) s =
           .next ((((t.reseed true).enterLc dest).done num).powerDown .offNoSave 7 false).settle)))) ∧
   (∀ (s : State),
     ((s.sec.lcRecord = none ∨ s.mode ≠ .maint) →
       exec .lcZeroFillComplete s = .next s.settle ∧ exec .lcEraseComplete s = .next s.settle) ∧
     (∀ r, s.sec.lcRecord = some r → s.mode = .maint →
       (r.zeroed = false → ∃ t : State, exec .lcZeroFillComplete s = .next t.settle ∧ t.dram.mem = [] ∧ t.dram.poison = [] ∧
         t.reg.descs = [] ∧ t.xpt.qps = [] ∧ t.xpt.cqs = [] ∧ t.tmv.maps = [] ∧ t.mir.divergent = [] ∧ t.sec.wipeZero = 100 ∧
         t.sec.lcRecord = some { r with zeroed := true } ∧ t.sec.lc = s.sec.lc ∧ t.flash = s.flash ∧ t.cfg = s.cfg ∧ t.mode = s.mode) ∧
       (r.zeroed = true → exec .lcEraseComplete s = .next s.wiped.settle) ∧
       (r.zeroed = true → exec .lcZeroFillComplete s = .next s.settle) ∧
       (r.zeroed = false → exec .lcEraseComplete s = .next s.settle)))) ∧
  ((∀ lsn u m j : Nat, (XtsUnit.deep lsn u).number = lsn * 16 + u ∧ (XtsUnit.page m).number = (2 ^ 32 + m) * 16 ∧
     (XtsUnit.save j).number = j * 16) ∧
   (∀ t : XtsUnit, t.tweak = leBytes 16 t.number ∧ t.tweak.length = 16) ∧
   (∀ key : BitVec 512, xtsRefused key = true ↔ ∃ h : BitVec 256, key = h ++ h) ∧
   (∀ (key : BitVec 512) (t : XtsUnit) (d : Bytes), 16 ≤ d.length → (xtsEncrypt key t d).length = d.length) ∧
   (∀ (s : State), s.sec.lc ≠ .blank → s.sec.lc ≠ .returned → s.pin .jtagTdo = .released ∧ ∀ b, s.jtagInput b = none) ∧
   (∀ (s : State), (s.sec.lc = .blank ∨ s.sec.lc = .returned) → ∀ b, s.jtagInput b = some b))

/-- Firmware update. `fwUpdateChunk` writes a chunk that fits into the slot that is not active, one at offset 0 after erasing it; an address
past the slot, a wrong length and an overlap fail in this order. `fwUpdateCommit` makes a slot that passes valid and preferred, with its event,
and one that fails INVALID with the step. `fwRollbackCommit` raises the fuses to the running version, never lowers them, with its event, and
fails while another slot is preferred. -/
def Obligations.FirmwareUpdate : Prop :=
  (∀ (r : Req) (s : State) (p : Param), s.starts r P.fw_update_chunk p →
    let a := s.answered r
    let num := s.namedBy r
    let o := leAt r.args 0 4
    let n := leAt r.args 4 2
    let b := !a.sec.active
    (67108864 < o + n → exec (.fwUpdateChunk r) s = .next (a.failed num 0x01)) ∧
    (o + n ≤ 67108864 → (n = 0 ∨ 1016 < n) → exec (.fwUpdateChunk r) s = .next (a.failed num 0x02)) ∧
    (o + n ≤ 67108864 → 0 < n → n ≤ 1016 → o ≠ 0 → (a.imageSlot b).overlaps o n = true →
      exec (.fwUpdateChunk r) s = .next (a.failed num 0x03)) ∧
    (o + n ≤ 67108864 → 0 < n → n ≤ 1016 → (o = 0 ∨ (a.imageSlot b).overlaps o n = false) →
      let t := a.modSlot b fun t =>
        let t := if o = 0 then { t with bytes := [], written := [] } else t
        { t with
          state := .writing, written := (o, n) :: t.written
          bytes := (List.range n).foldl (fun m i => m.set (o + i) ((slice r.args 8 n).getD i 0)) t.bytes }
      exec (.fwUpdateChunk r) s = .next ((t.modSec fun x => { x with preferred := x.active }).done num))) ∧
  (∀ (r : Req) (failed : Option (BitVec 8)) (s : State) (p : Param), s.starts r P.fw_update_commit p (argsOk := leNat r.args == 0) →
    let a := s.answered r
    let num := s.namedBy r
    let b := !a.sec.active
    let h := (a.imageSlot b).header
    let step := a.commitStep h (match failed with | some f => f.toNat | none => 0)
    (step = 0 →
      let t := a.event 0x0641 0 [flag b, headerSecurity h, 0]
      exec (.fwUpdateCommit r failed) s =
        .next (((t.modSlot b fun x => { x with state := .valid }).modSec fun x => { x with preferred := b }).done num)) ∧
    (step ≠ 0 → exec (.fwUpdateCommit r failed) s = .next ((a.modSlot b fun t => { t with state := .invalid }).failed num step))) ∧
  (∀ (r : Req) (s : State) (p : Param), s.starts r P.fw_rollback_commit p (argsOk := leNat r.args == 0) →
    let a := s.answered r
    (a.sec.preferred = a.sec.active →
      let t := a.event 0x0641 0 [flag a.sec.active, a.sec.runningSecurity, 1]
      exec (.fwRollbackCommit r) s = .next ((t.modSec fun x =>
        { x with minSecurity := max x.minSecurity (min x.runningSecurity 64) }).done (s.namedBy r))) ∧
    (a.sec.preferred ≠ a.sec.active → exec (.fwRollbackCommit r) s = .next (a.failed (s.namedBy r) 1)))

/-- `faultMessage` reaches FCO as it came, and is nothing in OFF or for a block instance that does not exist; `evtFetch` answers the records
asked for, in ascending seq; `faultCountersReset` clears the occurrence counters; `eventsDroppedTimer` reports the dropped records of each
partition once; `operatingHourTick` counts the hour while VDD_AON stands. -/
def Obligations.FaultsAndEvents : Prop :=
  (∀ (m : FaultMsg) (s : State), exec (.faultMessage m) s = .next (s.faultBus m).settle ∧
    ((s.mode = .off ∨ blockInstance m.block.toNat (captureInst m.block.toNat m.inst.toNat) = false) →
      exec (.faultMessage m) s = .next s.settle)) ∧
  (∀ (r : Req) (s : State) (p : Param), s.starts r P.evt_fetch p (argsOk := 1 ≤ leAt r.args 10 1 && leAt r.args 10 1 ≤ 16) →
    let a := s.answered r
    let start := leAt r.args 0 8
    let l := (a.records fun e => start ≤ e.seq && leAt r.args 8 1 ≤ e.sev && (!bit (leAt r.args 9 1) 0 || e.priv)).take (leAt r.args 10 1)
    let next := match l.getLast? with
      | some e => e.seq + 1
      | none => start
    exec (.evtFetch r) s =
      .next (a.done (s.namedBy r) (leBytes 2 l.length ++ leBytes 2 0 ++ leBytes 8 next ++ l.flatMap EvtRec.encode))) ∧
  (∀ (r : Req) (s : State) (p : Param), s.starts r P.fault_counters_reset p →
    exec (.faultCountersReset r) s = .next (({ s.answered r with stickyCtr := [] } : State).done (s.namedBy r))) ∧
  (∀ (s : State),
    let t := s.modEvr fun e => { e with droppedRes := 0, droppedGen := 0 }
    (s.evr.droppedRes = 0 → s.evr.droppedGen = 0 → exec .eventsDroppedTimer s = .next t) ∧
    (s.evr.droppedRes = 0 → 0 < s.evr.droppedGen →
      exec .eventsDroppedTimer s = .next (t.event 0x0240 0 [s.evr.droppedGen, 1])) ∧
    (0 < s.evr.droppedRes → s.evr.droppedGen = 0 →
      exec .eventsDroppedTimer s = .next (t.event 0x0240 0 [s.evr.droppedRes, 0])) ∧
    (0 < s.evr.droppedRes → 0 < s.evr.droppedGen → exec .eventsDroppedTimer s =
      .next ((t.event 0x0240 0 [s.evr.droppedRes, 0]).event 0x0240 0 [s.evr.droppedGen, 1])) ∧
    (s.rst.vddAon = true → exec .operatingHourTick s =
      .next (s.modEvr fun e => { e with hours := min (e.hours + 1) 1048575, hourStart := s.now })) ∧
    (s.rst.vddAon = false → exec .operatingHourTick s = .next s))

/-! ### Power (R382–R408) -/

/-- Rails and supplies. `railFault` on a rail that is up fails it, the rails that only PMBus supervises with it where that fences the
master, and on VDD_AON is the loss of standby power; on another rail it is nothing. `pmbusPoll` samples and takes each reading in
turn: an entry that the master does not address is passed over, one that answers is read, one that does not counts, and the third in a
row makes its entry LOST, which fails a rail without a sense input. `pmbusAlert` is answered while the master stands and the mode is
not OFF. `feedPresent` records a feed that was out and may switch on, `feedCrossing` takes the start of a save, and
`feedLossConfirmed`, recorded, is the loss of power when it was the last; each is nothing for a feed in the other state. The
capacitance test. `capTest` starts it, joins one that runs, or is deferred with DEFERRED where the stored energy does not cover it,
and `capTestSchedule` the same without an answer, in the modes of the test; `capTestFirstSample` takes V1 once it has settled, and
`capTestEnd` gives C = I × t ÷ V, recorded and reported, or fails with the reason of R402 when the current or the result is out of
range; a second voltage that is not lower leaves it to `capTestTimeout`, which fails a test that runs. Out of its phase each is
nothing. -/
def Obligations.SuppliesAndCapacitance : Prop :=
  ((∀ (rail : Fin 64) (mv : Nat) (s : State),
     ((s.rail rail).state ≠ .up → exec (.railFault rail mv) s = .next s.settle) ∧
     (rail.val = 0 → (s.rail 0).state = .up → exec (.railFault rail mv) s = .next s.aonLoss.settle) ∧
     (rail.val ≠ 0 → (s.rail rail).state = .up →
       let t := s.railFail rail mv
       ((t.store.pmbusFenced = false ∨ s.store.pmbusFenced = true) → exec (.railFault rail mv) s = .next t.settle) ∧
       (t.store.pmbusFenced = true → s.store.pmbusFenced = false → exec (.railFault rail mv) s =
         .next ((((List.range 32).map (32 + ·)).filter fun q => !t.sensed q).foldl
           (fun s q => if (s.rail q).state = .up then s.railFail q (s.rail q).mv else s) t).settle))) ∧
   (∀ (codes : List (BitVec 12)) (l : List PmbusReading) (s : State),
     exec (.pmbusPoll codes l) s = .next (l.foldl State.pollEntry (s.sample codes)).settle) ∧
   (∀ (p : PmbusReading) (s : State),
     let i := p.entry.val
     let r := s.entryRail i
     (s.pmbusLive i = false → s.pollEntry p = s) ∧
     (s.pmbusLive i = true →
       let u := ([0x00, 0x79, 0x88, 0x8B, 0x8C, 0x8D, 0x96] : List Nat).foldl (fun s c =>
         s.emit (.pmbus i c (if c = 0 then PmbusField.page (s.pmbusEntry i) else 0))) s
       (p.ok = true → s.pollEntry p = ((u.modStore fun x =>
         { x with pmbus := x.pmbus.upd i {} fun e => { e with failedInRow := 0 } }).modPwr fun w =>
           { w with rails := w.rails.upd r {} fun x => { x with ma := p.ma, mv := if r < 32 then x.mv else p.mv } }).statusRead i
             p.statusWord) ∧
       (p.ok = false →
         let n := (u.store.pmbus.getD i {}).failedInRow + 1
         let v := (u.bump P.pmbus_errors).modStore fun x =>
           { x with pmbus := x.pmbus.upd i {} fun e => { e with failedInRow := n, state := if n ≥ 3 then .lost else e.state } }
         ((n < 3 ∨ v.sensed r = true) → s.pollEntry p = v) ∧
         (3 ≤ n → v.sensed r = false → s.pollEntry p = v.railDown r (v.rail r).mv)))) ∧
   (∀ (answers : List (Fin 32 × BitVec 16)) (s : State),
     (s.store.pmbusFenced = false → s.mode ≠ .off →
       exec (.pmbusAlert answers) s = .next (answers.foldl State.alertEntry (s.bump P.pmbus_alerts)).settle) ∧
     ((s.store.pmbusFenced = true ∨ s.mode = .off) → exec (.pmbusAlert answers) s = .next s.settle)) ∧
   (∀ (f : Fin 2) (mv : Nat) (s : State),
     ((s.rst.cold = .held ∨ s.feedIn f = true) → exec (.feedPresent f mv) s = .next s) ∧
     (s.rst.cold ≠ .held → s.feedIn f = false →
       let t := (s.setFeed f mv true).event 0x0442 0 [f.val, mv]
       let on := t.mode = .standby ∧ t.paramOn P.auto_on = true ∧ t.pwr.autoEligible = true
       (¬ on → exec (.feedPresent f mv) s = .next t) ∧ (on → exec (.feedPresent f mv) s = .next t.onRequest)) ∧
     (s.feedIn f = true →
       exec (.feedCrossing f) s = .next (s.modStore fun x => { x with holdTestEn := false, crossed := some s.saveStart }) ∧
       (let t := ((s.setFeed f mv false).bump P.feed_losses).event 0x0441 0 [f.val, mv]
        (t.feedsPresent = 0 → exec (.feedLossConfirmed f mv) s = .next t.feedLoss) ∧
        (t.feedsPresent ≠ 0 → exec (.feedLossConfirmed f mv) s = .next t))) ∧
     (s.feedIn f = false → exec (.feedCrossing f) s = .next s ∧ exec (.feedLossConfirmed f mv) s = .next s))) ∧
  ((∀ (r : Req) (s : State) (p : Param), s.starts r P.cap_test p →
     let a := s.answered r
     (a.store.capPhase ≠ .idle → exec (.capTest r) s = .next (a.modStore fun x => { x with capCmd := true })) ∧
     (a.store.capPhase = .idle → a.capDefers = false → exec (.capTest r) s =
       .next (a.modStore fun x => { x with capPhase := .settling, capCmd := true, holdTestEn := true, capRetry := none })) ∧
     (a.store.capPhase = .idle → a.capDefers = true →
       let t := (a.bump P.cap_tests_deferred).modStore fun x => { x with capRetry := some (a.now + 600000000000) }
       exec (.capTest r) s = .next (t.failed P.cap_test 0x04))) ∧
   (∀ (s : State),
     (s.mode.capTest = true → s.store.capPhase = .idle →
       (s.capDefers = false → exec .capTestSchedule s =
         .next (s.modStore fun x => { x with capPhase := .settling, capCmd := false, holdTestEn := true, capRetry := none })) ∧
       (s.capDefers = true → exec .capTestSchedule s =
         .next ((s.bump P.cap_tests_deferred).modStore fun x => { x with capRetry := some (s.now + 600000000000) }))) ∧
     ((s.mode.capTest = false ∨ s.store.capPhase ≠ .idle) → exec .capTestSchedule s = .next s) ∧
     (∀ mv, (s.store.capPhase = .settling → exec (.capTestFirstSample mv) s =
         .next (s.modStore fun x => { x with capPhase := .discharging, v1 := mv, t1 := s.now })) ∧
       (s.store.capPhase ≠ .settling → exec (.capTestFirstSample mv) s = .next s)) ∧
     (s.store.capPhase ≠ .idle → exec .capTestTimeout s = .next (s.capFail 0x02)) ∧
     (s.store.capPhase = .idle → exec .capTestTimeout s = .next s) ∧
     (∀ ma dt mv, (s.store.capPhase ≠ .discharging ∨ s.store.v1 ≤ mv) → exec (.capTestEnd ma dt mv) s = .next s) ∧
     (∀ ma dt mv, s.store.capPhase = .discharging → mv < s.store.v1 →
       let c := ma * dt / ((s.store.v1 - mv) * 1000)
       (ma < 100 → exec (.capTestEnd ma dt mv) s = .next (s.capFail 0x01)) ∧
       (100 ≤ ma → (c < 50 ∨ 100000 < c) → exec (.capTestEnd ma dt mv) s = .next (s.capFail 0x03)) ∧
       (100 ≤ ma → 50 ≤ c → c ≤ 100000 →
         let t := s.modStore fun x =>
           { x with
             capPhase := .idle, holdTestEn := false, capCmd := false, capMf := c, capHours := s.evr.hours, capRetry := none
             capFirstMf := if x.capFirstMf = 0 then c else x.capFirstMf }
         exec (.capTestEnd ma dt mv) s =
           .next ((t.event 0x0444 0 [c, s.store.v1]).done P.cap_test (leBytes 4 c ++ leBytes 4 s.store.v1))))))

/-- Requests for power and mode. `pwrBtnPress` requests on in STANDBY and `pwrBtnHold` an orderly off out of STANDBY and OFF; `powerOn`
requests on, `powerOff` an orderly off, or an immediate one. `modeRequest` takes the paths of Table 15.8, fails with BUSY while work
runs in MAINT, with the failed training there, and with ILLEGAL on any other path or while power falls. `minOffExpiry` releases a held
request, `standbyLgmIdle` lowers steps 2 and 1 again after accesses to LGM, `quiesceTimeout` of an off request saves, and
`fatalPlanTimeout` goes on without a plan; each is nothing otherwise. Sequencing. `railStepStable`, for a step whose rails are bound
and whole, makes them up, at step 2 stores the pending values and starts to load an image, and enables the next step or starts
training, or ends a RAMP that was given up; with a rail unbound or failed nothing. `railStepTimeout` marks the rails of the step and
ends RAMP, counted. Each is nothing while no step rises. `powerDownStep` lowers one step after another to its end, leaving failed
rails so, and is nothing while no power-down runs. -/
def Obligations.PowerSequence : Prop :=
  ((∀ (s : State),
     (s.mode = .standby → exec .pwrBtnPress s = .next s.onRequest) ∧
     (s.mode ≠ .standby → exec .pwrBtnPress s = .next s) ∧
     ((s.mode = .standby ∨ s.mode = .off) → exec .pwrBtnHold s = .next s.settle) ∧
     (s.mode ≠ .standby → s.mode ≠ .off → exec .pwrBtnHold s = .next s.orderlyOff.settle) ∧
     (s.mode = .standby → s.pwr.onHeld = true →
       exec .minOffExpiry s = .next (s.modPwr fun p => { p with railsOff := none, onHeld := false }).onRequest) ∧
     ((s.mode ≠ .standby ∨ s.pwr.onHeld = false) → exec .minOffExpiry s = .next s) ∧
     (s.mode = .standby → s.pwr.lgmAccess ≠ none →
       (s.pwr.falling = false →
         exec .standbyLgmIdle s = .next (((s.lowerStep 2).lowerStep 1).modPwr fun p => { p with lgmAccess := none })) ∧
       (s.pwr.falling = true → exec .standbyLgmIdle s = .next (s.modPwr fun p => { p with lgmAccess := none }))) ∧
     ((s.mode ≠ .standby ∨ s.pwr.lgmAccess = none) → exec .standbyLgmIdle s = .next s) ∧
     (s.mode = .quiesce → s.pwr.offPending ≠ none →
       exec .quiesceTimeout s = .next (s.enterSave saveCommanded .commanded 2 s.saveStart)) ∧
     ((s.mode ≠ .quiesce ∨ s.pwr.offPending = none) → exec .quiesceTimeout s = .next s) ∧
     ((s.mode ≠ .save ∨ s.pwr.lastOff ≠ .fatal) → exec .fatalPlanTimeout s = .next s) ∧
     (s.mode = .save → s.pwr.lastOff = .fatal →
       (s.pde.run = none → exec .fatalPlanTimeout s = .next s.afterSave) ∧
       (∀ r, s.pde.run = some r → r.planned = true → exec .fatalPlanTimeout s = .next s) ∧
       (∀ r, s.pde.run = some r → r.planned = false → exec .fatalPlanTimeout s = .next s.afterSave))) ∧
   (∀ (r : Req) (s : State) (p : Param),
     (s.starts r P.power_on p → exec (.powerOn r) s = .next (s.answered r).onRequest) ∧
     (s.starts r P.power_off p →
       (leNat r.args = 0 → exec (.powerOff r) s = .next (s.answered r).orderlyOff.settle) ∧
       (leNat r.args ≠ 0 → exec (.powerOff r) s = .next (s.answered r).immediateOff.settle)) ∧
     (s.starts r P.mode_request p →
       let a := s.answered r
       let m := leNat r.args
       let run := exec (.modeRequest r) s
       (a.pwr.falling = true → run = .next (a.failed P.mode_request 0x01).settle) ∧
       (a.pwr.falling = false →
         (m = 6 → a.mode = .quiesce →
           run = .next (((a.modPwr fun p => { p with offPending := none }).aborted P.power_off).setMode a.byD 3).settle) ∧
         (m = 6 → a.mode = .maint →
           (a.workRunning = true → run = .next (a.failed P.mode_request 0x02).settle) ∧
           (a.workRunning = false → a.pwr.maintFromTrain = false → run = .next (a.setMode a.byD 3).settle) ∧
           (a.workRunning = false → a.pwr.maintFromTrain = true → a.trained = true → run = .next (a.setMode .restore 3).settle) ∧
           (a.workRunning = false → a.pwr.maintFromTrain = true → a.trained = false →
             run = .next (a.failed P.mode_request 0x03).settle)) ∧
         (m = 8 → (a.mode ∈ [Mode.resync, .service, .degraded] ∨ (a.mode = .maint ∧ a.pwr.maintFromTrain = false)) →
           run = .next (a.setMode .quiesce 3).settle) ∧
         (m = 10 → a.mode ∈ [Mode.service, .degraded, .quiesce] → run = .next (a.modPwr fun p => { p with maintHeld := true }).settle) ∧
         (((m ≠ 6 ∧ m ≠ 8 ∧ m ≠ 10) ∨ (m = 6 ∧ a.mode ≠ .quiesce ∧ a.mode ≠ .maint) ∨
           (m = 8 ∧ a.mode ∉ [Mode.resync, .service, .degraded, .maint]) ∨ (m = 8 ∧ a.mode = .maint ∧ a.pwr.maintFromTrain = true) ∨
           (m = 10 ∧ a.mode ∉ [Mode.service, .degraded, .quiesce])) →
           run = .next (a.failed P.mode_request 0x01).settle))))) ∧
  ((∀ (s : State), (s.mode ≠ .ramp ∨ s.pwr.rising = false ∨ s.pwr.falling = true) →
     exec .railStepStable s = .next s.settle ∧ ∀ out, exec (.railStepTimeout out) s = .next s) ∧
   (∀ (s : State), s.mode = .ramp → s.pwr.rising = true → s.pwr.falling = false →
     let rails := s.stepRails s.pwr.step
     let u := (rails.foldl (fun s r => s.setRail r .up) s).modPwr fun p => { p with rising := false }
     let t := if s.pwr.step = 2 then
         u.storeStandby.modRst fun r => { r with load := some { slot := u.sec.preferred, since := u.now } }
       else u
     ((rails.any fun r => s.railUnbound r || (s.rail r).state = .failed) = true → exec .railStepStable s = .next s.settle) ∧
     ((rails.any fun r => s.railUnbound r || (s.rail r).state = .failed) = false →
       (t.pwr.rampAbort = true → exec .railStepStable s = .next t.rampEnd.settle) ∧
       (∀ k, t.pwr.rampAbort = false → t.stepAfter s.pwr.step = some k → exec .railStepStable s = .next (t.enableStep k).settle) ∧
       (t.pwr.rampAbort = false → t.stepAfter s.pwr.step = none → exec .railStepStable s = .next (t.setMode .train 5).settle)) ∧
     (∀ (out : List (Fin 64)),
       let u := (rails.foldl (fun s r =>
         s.setRail r (if s.railUnbound r || out.any (·.val == r) then .failed else .up)) s).bump P.ramp_failures
       (u.pwr.rampAbort = true → exec (.railStepTimeout out) s = .next u.rampEnd) ∧
       (u.pwr.rampAbort = false → exec (.railStepTimeout out) s =
         .next (u.modPwr fun p => { p with downTrig := 4, autoEligible := false }).rampEnd))) ∧
   (∀ (s : State), s.pwr.falling = true →
     let t := (s.stepRails s.pwr.step).foldl (fun s r => if (s.rail r).state = .failed then s else s.setRail r .off) s
     (t.stepBelow s.pwr.step = none → exec .powerDownStep s = .next t.downEnd) ∧
     (∀ k, t.stepBelow s.pwr.step = some k → t.pwr.goal = .sealed → k ≤ 2 → exec .powerDownStep s = .next t.downEnd) ∧
     (∀ k, t.stepBelow s.pwr.step = some k → (t.pwr.goal ≠ .sealed ∨ 2 < k) → exec .powerDownStep s = .next (t.lower s.pwr.step))) ∧
   (∀ (s : State), s.pwr.falling = false → exec .powerDownStep s = .next s))

/-! ### Reset, boot, clocks, temperature (R409–R443) -/

/-- Cold start. `vddAonRise` without VDD_AON is a COLD reset, `vddAonLoss` with it another, and leaves the device without it; `sysRstN`,
counted, resets at once in STANDBY and SEALED, elsewhere after an immediate off. `coldResetRelease` of a held reset checks REFCLK, a
bad one being a fault at which the device holds. `rootLock` counts the power cycle, derives the keys and enters STANDBY; then bad
option copies are fatal, a reset that was held follows, or `auto_on` switches on. In any other state each is nothing. Image load.
`bootHeaderChecked`: a header that passes its checks goes on to its body; one that fails, as a body does, makes its slot INVALID, the
other slot is tried once, and after that the load has failed. `imageBodyVerified`: a body that verifies makes its slot the active one
and starts the cores, or completes `core_restart`. `imageCopyComplete` ends the load when the memory is trained. Each is nothing in
another phase and with no load. `coreRestart` resets every cluster and loads the preferred slot again; `clusterWatchdog` is a fault of
its core while that runs, and nothing otherwise. -/
def Obligations.ColdStartAndImages : Prop :=
  ((∀ (s : State),
     (s.rst.vddAon = false → exec .vddAonRise s = .next (s.coldReset .vddAon) ∧ exec .vddAonLoss s = .next s ∧ exec .sysRstN s = .next s) ∧
     (s.rst.vddAon = true → exec .vddAonRise s = .next s ∧
       exec .vddAonLoss s = .next ((s.coldReset .vddAon).modRst fun r => { r with vddAon := false }) ∧
       ((s.mode = .standby ∨ s.mode = .sealed) → exec .sysRstN s = .next ((s.bump P.sys_rst_events).coldReset .sysRst)) ∧
       (s.mode ≠ .standby → s.mode ≠ .sealed → exec .sysRstN s =
         .next ((s.bump P.sys_rst_events).modPwr fun p => { p with resetHeld := true }).immediateOff)) ∧
     ((s.rst.vddAon = false ∨ s.rst.cold ≠ .held) → ∀ ok, exec (.coldResetRelease ok) s = .next s) ∧
     (s.rst.vddAon = true → s.rst.cold = .held →
       let t := s.modRst fun r => { r with cold := .rom, refclkOk := true }
       let u := s.modRst fun r => { r with cold := .rom, refclkOk := false }
       exec (.coldResetRelease true) s = .next t ∧
       exec (.coldResetRelease false) s =
         .next ((u.setFlag P.clk_status 0).acceptFault ((faultMsg 0x09 39 .ftl Kind.clock 0).detected s.now) .ftl))) ∧
   (∀ (a b : Bool) (s : State), (s.rst.cold ≠ .rom ∨ s.rst.refclkOk = false) → exec (.rootLock a b) s = .next s) ∧
   (∀ (a b : Bool) (s : State), s.rst.cold = .rom → s.rst.refclkOk = true →
     let opt : OptState := if a && b then .ok else if a || b then .repaired else .failed
     let t := s.modRst fun r => { r with cold := .done, rootLocked := true, option := opt, coldStartMs := s.now / 1000000 }
     let u := t.modEvr fun e => { e with cycles := min (e.cycles + 1) (2 ^ 24 - 1) }
     let v := (u.modSec fun x => { x with kekReady := x.keySeed != 0 && !x.killFused }).setMode .standby 8
     (a = false → b = false → exec (.rootLock a b) s = .next (v.fault (faultMsg 0x08 0 .ftl Kind.memUe 0))) ∧
     ((a = true ∨ b = true) → v.pwr.resetHeld = true →
       exec (.rootLock a b) s = .next ((v.modPwr fun p => { p with resetHeld := false }).coldReset .sysRst)) ∧
     ((a = true ∨ b = true) → v.pwr.resetHeld = false → v.paramOn P.auto_on = true → v.feedsPresent ≠ 0 →
       exec (.rootLock a b) s = .next v.onRequest) ∧
     ((a = true ∨ b = true) → v.pwr.resetHeld = false → (v.paramOn P.auto_on = false ∨ v.feedsPresent = 0) →
       exec (.rootLock a b) s = .next v))) ∧
  ((∀ (s : State), (∀ l, s.rst.load = some l → l.phase ≠ .header) → ∀ o, exec (.bootHeaderChecked o) s = .next s.settle) ∧
   (∀ (s : State), (∀ l, s.rst.load = some l → l.phase ≠ .body) → ∀ ok, exec (.imageBodyVerified ok) s = .next s.settle) ∧
   (∀ (s : State), (∀ l, s.rst.load = some l → l.phase ≠ .started) → exec .imageCopyComplete s = .next s) ∧
   (∀ (o : HeaderOutcome) (s : State) (l : ImageLoad), s.rst.load = some l → l.phase = .header →
     let step := s.headerStep (s.imageSlot l.slot).header o
     (step = 0 → exec (.bootHeaderChecked o) s = .next (s.modRst fun r => { r with load := some { l with phase := .body } }).settle) ∧
     (step ≠ 0 → exec (.bootHeaderChecked o) s = .next (s.slotFails l step).settle)) ∧
   (∀ (s : State) (l : ImageLoad), s.rst.load = some l → l.phase = .body →
     let h := (s.imageSlot l.slot).header
     let t := (s.modSlot l.slot fun t => { t with state := .valid }).modSec fun x =>
       { x with active := l.slot, imageDigest := headerDigest h, imageVersion := headerVersion h, runningSecurity := headerSecurity h }
     let u := t.modRst fun r => { r with coresUp := true, heldClusters := [], coreStartMs := (t.now - r.onAt) / 1000000 }
     (l.restart = true → exec (.imageBodyVerified true) s =
       .next (((u.rqCount 10 (headerLen h)).modRst fun r => { r with load := none }).done P.core_restart).settle) ∧
     (l.restart = false → exec (.imageBodyVerified true) s =
       .next (u.modRst fun r => { r with load := some { l with phase := .started } }).settle) ∧
     exec (.imageBodyVerified false) s = .next (s.slotFails l 6).settle) ∧
   (∀ (s : State) (l : ImageLoad) (step : Nat),
     let t := s.modSlot l.slot fun t => { t with state := .invalid }
     let m := if l.slot then { l with failB := step } else { l with failA := step }
     (l.second = false → s.slotFails l step =
       t.modRst fun r => { r with load := some { m with slot := !l.slot, second := true, phase := LoadPhase.header } }) ∧
     (l.second = true →
       let u := ((t.bump P.boot_failures).event 0x0640 0 [m.failA, m.failB]).modRst fun r => { r with load := none }
       (l.restart = true → s.slotFails l step = u.failed P.core_restart 0x01) ∧
       (l.restart = false → u.mode = .ramp → s.slotFails l step = u.abortRamp 2 false) ∧
       (l.restart = false → u.mode ≠ .ramp → u.unserved = true → s.slotFails l step = u.powerDown .rampAbort 2 false) ∧
       (l.restart = false → u.mode ≠ .ramp → u.unserved = false → s.slotFails l step = u.orderlyOff))) ∧
   (∀ (s : State) (l : ImageLoad), s.rst.load = some l → l.phase = .started →
     (s.trained = true → exec .imageCopyComplete s = .next ((s.rqCount 10 (headerLen (s.imageSlot l.slot).header)).modRst fun r =>
       { r with load := none, copied := true })) ∧
     (s.trained = false → exec .imageCopyComplete s = .next s)) ∧
   (∀ (r : Req) (s : State) (p : Param), s.starts r P.core_restart p →
     let a := (s.answered r).resetClusters fun _ => true
     let t := [0, 1, 2, 3].foldl (fun s d => s.bump P.domain_resets d) a
     exec (.coreRestart r) s = .next (t.modRst fun x =>
       { x with
         coresUp := false, heldClusters := [0, 1, 2, 3], restarts := []
         load := some { slot := t.sec.preferred, restart := true, since := t.now } })) ∧
   (∀ (cluster core : Fin 4) (pc : BitVec 64) (s : State),
     (s.rst.coresUp = true → s.gated cluster = false → exec (.clusterWatchdog cluster core pc) s =
       .next (s.fault (faultMsg 0x10 (4 * cluster.val + core.val) .ucc Kind.watchdog cluster.val .logic (some pc.toNat) (access := 0))).settle) ∧
     ((s.rst.coresUp = false ∨ s.gated cluster = true) → exec (.clusterWatchdog cluster core pc) s = .next s.settle)))

/-- Port resets, clocks, temperature and the LGM patrol. `portReset` resets its port, and fails without its clock; `domainResetRelease` ends the
reset of a domain that is in one, lifting the fences of a port under `port_reset`, and leaves any other fenced domain. `clockCheck`: REFCLK or a
root that has lost lock is fatal, ETHREF takes every port down, any other clock out of range is a fault; a gated domain is not measured.
`thermalSample` of eight sensors sets THERMTRIP at 120 degrees, in reset too, and keeps the statistics out of reset; `thermtripRelease` ends it
below 110. `lgmPatrolRewrite` goes on by one word. Otherwise each is nothing. -/
def Obligations.ClocksAndTemperature : Prop :=
  (∀ (r : Req) (ok : Bool) (s : State) (p : Param), s.starts r P.port_reset p →
    let t := (s.answered r).portReset (leNat r.args)
    (ok = true → exec (.portReset r ok) s = .next t.settle) ∧
    (ok = false → exec (.portReset r ok) s = .next (t.failed P.port_reset 0x01).settle)) ∧
  (∀ (d : Fin 40) (s : State),
    let t := s.modRst fun r => { r with inReset := r.inReset.filter (· != d.val) }
    (d.val ∈ s.rst.inReset → d.val ∉ s.rst.fenced → s.portResetOf d = false → exec (.domainResetRelease d) s = .next t.settle) ∧
    (d.val ∈ s.rst.inReset → s.portResetOf d = true →
      exec (.domainResetRelease d) s = .next ((t.liftPort (d.val - 5)).done P.port_reset).settle) ∧
    (d.val ∈ s.rst.inReset → d.val ∈ s.rst.fenced → s.portResetOf d = false → exec (.domainResetRelease d) s = .next s.settle) ∧
    (d.val ∉ s.rst.inReset → exec (.domainResetRelease d) s = .next s.settle)) ∧
  (∀ (src : Fin 42) (khz : Nat) (s : State),
    let run := exec (.clockCheck src khz) s
    ((s.rst.vddAon = false ∨ s.rst.cold = .held) → run = .next s.settle) ∧
    (s.rst.vddAon = true → s.rst.cold ≠ .held →
      (src.val = 40 →
        let good : Bool := decide (75000 ≤ khz) && decide (khz ≤ 125000)
        let t := s.modRst fun r => { r with refclkOk := good }
        ((good = true ∨ s.rst.refclkOk = false) → run = .next t.settle) ∧
        (good = false → s.rst.refclkOk = true →
          run = .next ((t.setFlag P.clk_status 0).fault (faultMsg 0x09 39 .ftl Kind.clock khz)).settle)) ∧
      (src.val = 41 →
        let t := s.modRst fun r => { r with ethrefPpm := ((khz : Int) - 156250) * 1000000 / 156250 }
        ((s.gated 5 && s.gated 6 && s.gated 7 && s.gated 8 && s.gated 9 && s.gated 10) = true → run = .next s.settle) ∧
        ((s.gated 5 && s.gated 6 && s.gated 7 && s.gated 8 && s.gated 9 && s.gated 10) = false →
          (offBy 156250 khz 500 = false → run = .next t.settle) ∧ (offBy 156250 khz 500 = true → run = .next (t.ethrefFault khz).settle))) ∧
      (src.val < 40 → s.gated src = true → run = .next s.settle) ∧
      (src.val < 40 → s.gated src = false →
        let t := s.modRst fun r => { r with freqKhz := r.freqKhz.set src khz }
        let ppm := if 5 ≤ src.val ∧ src.val ≤ 10 then 500 else 5000
        (src.val = 39 → khz = 0 → run =
          .next (((t.modRst fun r => { r with rootLocked := false }).setFlag P.clk_status 1).fault (faultMsg 0x09 39 .ftl Kind.clock 0)).settle) ∧
        ((src.val ≠ 39 ∨ khz ≠ 0) → offBy (t.nominalKhz src) khz ppm = false → run = .next t.settle) ∧
        ((src.val ≠ 39 ∨ khz ≠ 0) → offBy (t.nominalKhz src) khz ppm = true →
          run = .next (t.fault (faultMsg 0x09 src .ucc Kind.clock khz)).settle)))) ∧
  (∀ (l : List (BitVec 8)) (s : State),
    ((l.length ≠ 8 ∨ s.rst.vddAon = false) → exec (.thermalSample l) s = .next s) ∧
    (l.length = 8 → s.rst.vddAon = true →
      let t := s.modThermal fun t => { t with sensors := l }
      let m := t.thermal.hottest
      let trip : Bool := decide (120 ≤ m) && !t.thermal.tripped
      let b := t.bumpIf trip P.thermtrip_events
      let u := b.modThermal fun x =>
        { x with tripped := x.tripped || trip, coolSince := if m < 110 then some (x.coolSince.getD b.now) else none }
      (u.rst.cold = .held → exec (.thermalSample l) s = .next u) ∧
      (u.rst.cold ≠ .held → exec (.thermalSample l) s = .next (u.modThermal fun x =>
        { x with
          peak := some (max m (x.peak.getD m)), lifeSum := x.lifeSum + m, samples := x.samples + 1
          hotMs := x.hotMs + flag (decide (m > 95)) })))) ∧
  (∀ (s : State),
    (s.thermal.hottest < 110 → exec .thermtripRelease s = .next (s.modThermal fun t => { t with tripped := false })) ∧
    (110 ≤ s.thermal.hottest → exec .thermtripRelease s = .next s) ∧
    (s.gated 4 = false → s.gated 38 = false → exec .lgmPatrolRewrite s =
      .next (s.modDram fun d => { d with lgmWord := (d.lgmWord + 1) % 2 ^ 23 })) ∧
    ((s.gated 4 = true ∨ s.gated 38 = true) → exec .lgmPatrolRewrite s = .next s))

/-! ### The whole machine -/

/-- Every step, of every command, keeps the life cycle sound: the fuses hold a security version of at most 64, the kill fuse is burnt in
DECOMMISSIONED and in no other state, and a transition recorded as outstanding is a row of Table 13.6 from the present state. -/
def Obligations.EveryStepKeepsLifeCycle : Prop := ∀ s t : State, s.LifeInv → step s = .next t → t.LifeInv

/-- The life cycle is sound at reset. -/
def Obligations.LifeCycleSoundAtReset : Prop := State.reset.LifeInv

/-- No step lowers the minimum security version, leaves DECOMMISSIONED or unburns the kill fuse; the life-cycle state changes only along
a row of Table 13.6. -/
def Obligations.LifeCycleGoesOneWay : Prop :=
  ∀ s t : State, s.LifeInv → step s = .next t →
    s.sec.minSecurity ≤ t.sec.minSecurity ∧
    (t.sec.lc = s.sec.lc ∨ (lcRow s.sec.lc t.sec.lc).isSome = true) ∧
    (s.sec.killFused = true → t.sec.killFused = true ∧ t.sec.lc = s.sec.lc)

/-- A step takes exactly the command at the front of the queue and adds none, and no command but `lc_transition`, the end of its erase
and `fw_rollback_commit` changes the life-cycle state, the kill fuse, the minimum security version or the target of an outstanding
transition. -/
def Obligations.OnlyTransitionsChangeLifeCycle : Prop :=
  ∀ (c : Instr) (rest : List Instr) (s t : State), step { s with pending := c :: rest } = .next t →
    t.pending = rest ∧
    ((∀ r, c ≠ .lcTransition r) → c ≠ .lcEraseComplete → (∀ r, c ≠ .fwRollbackCommit r) → t.sec.lifeOf = s.sec.lifeOf)

/-- At reset the device is OFF with nothing waiting and nothing sent: every parameter has its default, no session is open, no flag is set,
the DRAM lists no byte, every host port is down and every carrier position empty, and the life-cycle state is BLANK. The byte that unlisted
DRAM reads as, 0, is the model's choice (log entry 3). -/
def Obligations.ResetState : Prop :=
  State.reset.mode = .off ∧ State.reset.pending = [] ∧ State.reset.out = [] ∧ State.reset.sec.lc = .blank ∧
  (∀ num idx, State.reset.param num idx = defaultOf num) ∧ (∀ k, (State.reset.session k).state = .free) ∧
  (∀ num, State.reset.flags num = 0) ∧ State.reset.dram.mem = [] ∧ Memory.wf State.reset.dram.mem = true ∧
  (∀ a, Memory.readByte State.reset.dram.mem a = 0) ∧ (∀ k, (State.reset.port k).linkUp = false) ∧
  (∀ n, (State.reset.carrier n).state = .empty)

/-- R53: the body of UNSUBSCRIBE is a sub_id and 2 reserved bytes; the subscription named is removed; 0xFFFF removes all of the session; a
sub_id that the session does not hold is answered OK and changes no subscription; a session that closes takes its subscriptions along. -/
def Obligations.UnsubscribeRemoves : Prop :=
  (∀ (r : Req) (s : State), s.takes r .unsubscribe = true →
    let id := leAt r.body 0 2
    let a := s.arrive r .unsubscribe
    let left := fun (l : List Sub) => State.respond { a with dxe := { a.dxe with subs := l } } r .unsubscribe Status.ok 0 false []
    r.body.length = 4 ∧
    (id = 0xFFFF → exec (.unsubscribe r) s = .next (left (s.dxe.subs.filter fun b => b.slot != r.slot.val))) ∧
    (id ≠ 0xFFFF → exec (.unsubscribe r) s = .next (left (s.dxe.subs.filter fun b => !(b.slot == r.slot.val && b.subId == id)))) ∧
    (id ≠ 0xFFFF → (∀ b, b ∈ s.dxe.subs → b.slot = r.slot.val → b.subId ≠ id) →
      exec (.unsubscribe r) s = .next (left s.dxe.subs))) ∧
  (∀ (s : State) (k : Nat), (s.session k).live = true →
    (s.closeSession k).dxe.subs = s.dxe.subs.filter fun b => b.slot != k)

/-- R66: `sess_close` on the own slot starts at any level; on another slot it is refused below Custodian, and starts from Custodian on; on
a FREE slot it is DONE with no effect but its answer. -/
def Obligations.SessCloseLevels : Prop :=
  ∀ (r : Req) (s : State) (p : Param), s.takes r .command = true → s.names r P.sess_close p →
    bit p.modes s.mode.code = true → r.args.length = p.len → p.inRange (leNat r.args) = true → s.running (s.namedBy r) = false →
    let num := s.namedBy r
    let k := (num - P.sess_close) / 65536
    let own : Prop := num = perInst P.sess_close r.slot.val
    (own → exec (.sessClose r) s = .next (((s.answered r).closeSession k).done num)) ∧
    (¬ own → (s.session r.slot).level < 2 →
      exec (.sessClose r) s = .next ((s.arrive r .command).refuse r .command Status.accessDenied)) ∧
    (¬ own → 2 ≤ (s.session r.slot).level → exec (.sessClose r) s = .next (((s.answered r).closeSession k).done num)) ∧
    (¬ own → 2 ≤ (s.session r.slot).level → (s.session k).state = .free → k ≠ r.slot.val →
      exec (.sessClose r) s = .next ((s.answered r).done num))

/-- R262: a HELLO whose tag fails, whose number is not above the last under the same nonce, or that comes from a source beyond the port's
16 adjacencies is dropped: `fabric_rx_dropped` advances and no adjacency changes. -/
def Obligations.FabricHelloDrops : Prop :=
  ∀ (port : Fin 4) (mac : BitVec 48) (fec : Fec) (b : FabHello) (s : State), s.fabOn = true → (s.port port.val).linkUp = true →
    fec.uncorrectable = 0 →
    let c := s.portFrame port.val fec
    let dropped := c.bump P.fabric_rx_dropped
    exec (.fabricHello port mac fec b none) s = .next dropped.settle ∧ dropped.fab = s.fab ∧
    (∀ (key : Fin 2) k, c.adjSlot port.val mac = some k → 16 * port.val ≤ k ∧ k < 16 * port.val + 16 ∧
      (c.fab.adjs.has k = true → (c.adj k).nonce = b.nonce → b.helloSeq.toNat ≤ (c.adj k).lastSeq →
        exec (.fabricHello port mac fec b (some key)) s = .next dropped.settle)) ∧
    ((∀ i, i < 16 → c.fab.adjs.has (16 * port.val + i) = true) →
      (∀ e, e ∈ c.fab.adjs → e.1 / 16 = port.val → e.2.mac ≠ mac) →
      ∀ key : Fin 2, exec (.fabricHello port mac fec b (some key)) s = .next dropped.settle)
end

