-- ==== Sys2Proof/Laws/State.lean ====
section
/-!
SUPPORT. What each plain update of the state leaves in each field: one lemma per field and update, so that no later proof unfolds a
record update.
-/

namespace Sys2Proof.Machine


/-! ### modDxe -/

@[simp] theorem State.modDxe_now (s : State) (f : Dxe → Dxe) : (s.modDxe f).now = s.now := rfl
@[simp] theorem State.modDxe_pending (s : State) (f : Dxe → Dxe) : (s.modDxe f).pending = s.pending := rfl
@[simp] theorem State.modDxe_out (s : State) (f : Dxe → Dxe) : (s.modDxe f).out = s.out := rfl
@[simp] theorem State.modDxe_paused (s : State) (f : Dxe → Dxe) : (s.modDxe f).paused = s.paused := rfl
@[simp] theorem State.modDxe_freeCount (s : State) (f : Dxe → Dxe) : (s.modDxe f).freeCount = s.freeCount := rfl
@[simp] theorem State.modDxe_mode (s : State) (f : Dxe → Dxe) : (s.modDxe f).mode = s.mode := rfl
@[simp] theorem State.modDxe_cfg (s : State) (f : Dxe → Dxe) : (s.modDxe f).cfg = s.cfg := rfl
@[simp] theorem State.modDxe_staged (s : State) (f : Dxe → Dxe) : (s.modDxe f).staged = s.staged := rfl
@[simp] theorem State.modDxe_standby (s : State) (f : Dxe → Dxe) : (s.modDxe f).standby = s.standby := rfl
@[simp] theorem State.modDxe_ctr (s : State) (f : Dxe → Dxe) : (s.modDxe f).ctr = s.ctr := rfl
@[simp] theorem State.modDxe_sticky (s : State) (f : Dxe → Dxe) : (s.modDxe f).sticky = s.sticky := rfl
@[simp] theorem State.modDxe_stickyCtr (s : State) (f : Dxe → Dxe) : (s.modDxe f).stickyCtr = s.stickyCtr := rfl
@[simp] theorem State.modDxe_dxe (s : State) (f : Dxe → Dxe) : (s.modDxe f).dxe = f s.dxe := rfl
@[simp] theorem State.modDxe_reg (s : State) (f : Dxe → Dxe) : (s.modDxe f).reg = s.reg := rfl
@[simp] theorem State.modDxe_xpt (s : State) (f : Dxe → Dxe) : (s.modDxe f).xpt = s.xpt := rfl
@[simp] theorem State.modDxe_pde (s : State) (f : Dxe → Dxe) : (s.modDxe f).pde = s.pde := rfl
@[simp] theorem State.modDxe_tmv (s : State) (f : Dxe → Dxe) : (s.modDxe f).tmv = s.tmv := rfl
@[simp] theorem State.modDxe_mir (s : State) (f : Dxe → Dxe) : (s.modDxe f).mir = s.mir := rfl
@[simp] theorem State.modDxe_callerPairs (s : State) (f : Dxe → Dxe) : (s.modDxe f).callerPairs = s.callerPairs := rfl
@[simp] theorem State.modDxe_fab (s : State) (f : Dxe → Dxe) : (s.modDxe f).fab = s.fab := rfl
@[simp] theorem State.modDxe_desig (s : State) (f : Dxe → Dxe) : (s.modDxe f).desig = s.desig := rfl
@[simp] theorem State.modDxe_dram (s : State) (f : Dxe → Dxe) : (s.modDxe f).dram = s.dram := rfl
@[simp] theorem State.modDxe_flash (s : State) (f : Dxe → Dxe) : (s.modDxe f).flash = s.flash := rfl
@[simp] theorem State.modDxe_sec (s : State) (f : Dxe → Dxe) : (s.modDxe f).sec = s.sec := rfl
@[simp] theorem State.modDxe_fco (s : State) (f : Dxe → Dxe) : (s.modDxe f).fco = s.fco := rfl
@[simp] theorem State.modDxe_evr (s : State) (f : Dxe → Dxe) : (s.modDxe f).evr = s.evr := rfl
@[simp] theorem State.modDxe_pwr (s : State) (f : Dxe → Dxe) : (s.modDxe f).pwr = s.pwr := rfl
@[simp] theorem State.modDxe_store (s : State) (f : Dxe → Dxe) : (s.modDxe f).store = s.store := rfl
@[simp] theorem State.modDxe_rst (s : State) (f : Dxe → Dxe) : (s.modDxe f).rst = s.rst := rfl
@[simp] theorem State.modDxe_thermal (s : State) (f : Dxe → Dxe) : (s.modDxe f).thermal = s.thermal := rfl

/-! ### modReg -/

@[simp] theorem State.modReg_now (s : State) (f : Regions → Regions) : (s.modReg f).now = s.now := rfl
@[simp] theorem State.modReg_pending (s : State) (f : Regions → Regions) : (s.modReg f).pending = s.pending := rfl
@[simp] theorem State.modReg_out (s : State) (f : Regions → Regions) : (s.modReg f).out = s.out := rfl
@[simp] theorem State.modReg_paused (s : State) (f : Regions → Regions) : (s.modReg f).paused = s.paused := rfl
@[simp] theorem State.modReg_freeCount (s : State) (f : Regions → Regions) : (s.modReg f).freeCount = s.freeCount := rfl
@[simp] theorem State.modReg_mode (s : State) (f : Regions → Regions) : (s.modReg f).mode = s.mode := rfl
@[simp] theorem State.modReg_cfg (s : State) (f : Regions → Regions) : (s.modReg f).cfg = s.cfg := rfl
@[simp] theorem State.modReg_staged (s : State) (f : Regions → Regions) : (s.modReg f).staged = s.staged := rfl
@[simp] theorem State.modReg_standby (s : State) (f : Regions → Regions) : (s.modReg f).standby = s.standby := rfl
@[simp] theorem State.modReg_ctr (s : State) (f : Regions → Regions) : (s.modReg f).ctr = s.ctr := rfl
@[simp] theorem State.modReg_sticky (s : State) (f : Regions → Regions) : (s.modReg f).sticky = s.sticky := rfl
@[simp] theorem State.modReg_stickyCtr (s : State) (f : Regions → Regions) : (s.modReg f).stickyCtr = s.stickyCtr := rfl
@[simp] theorem State.modReg_dxe (s : State) (f : Regions → Regions) : (s.modReg f).dxe = s.dxe := rfl
@[simp] theorem State.modReg_reg (s : State) (f : Regions → Regions) : (s.modReg f).reg = f s.reg := rfl
@[simp] theorem State.modReg_xpt (s : State) (f : Regions → Regions) : (s.modReg f).xpt = s.xpt := rfl
@[simp] theorem State.modReg_pde (s : State) (f : Regions → Regions) : (s.modReg f).pde = s.pde := rfl
@[simp] theorem State.modReg_tmv (s : State) (f : Regions → Regions) : (s.modReg f).tmv = s.tmv := rfl
@[simp] theorem State.modReg_mir (s : State) (f : Regions → Regions) : (s.modReg f).mir = s.mir := rfl
@[simp] theorem State.modReg_callerPairs (s : State) (f : Regions → Regions) : (s.modReg f).callerPairs = s.callerPairs := rfl
@[simp] theorem State.modReg_fab (s : State) (f : Regions → Regions) : (s.modReg f).fab = s.fab := rfl
@[simp] theorem State.modReg_desig (s : State) (f : Regions → Regions) : (s.modReg f).desig = s.desig := rfl
@[simp] theorem State.modReg_dram (s : State) (f : Regions → Regions) : (s.modReg f).dram = s.dram := rfl
@[simp] theorem State.modReg_flash (s : State) (f : Regions → Regions) : (s.modReg f).flash = s.flash := rfl
@[simp] theorem State.modReg_sec (s : State) (f : Regions → Regions) : (s.modReg f).sec = s.sec := rfl
@[simp] theorem State.modReg_fco (s : State) (f : Regions → Regions) : (s.modReg f).fco = s.fco := rfl
@[simp] theorem State.modReg_evr (s : State) (f : Regions → Regions) : (s.modReg f).evr = s.evr := rfl
@[simp] theorem State.modReg_pwr (s : State) (f : Regions → Regions) : (s.modReg f).pwr = s.pwr := rfl
@[simp] theorem State.modReg_store (s : State) (f : Regions → Regions) : (s.modReg f).store = s.store := rfl
@[simp] theorem State.modReg_rst (s : State) (f : Regions → Regions) : (s.modReg f).rst = s.rst := rfl
@[simp] theorem State.modReg_thermal (s : State) (f : Regions → Regions) : (s.modReg f).thermal = s.thermal := rfl

/-! ### modXpt -/

@[simp] theorem State.modXpt_now (s : State) (f : Xpt → Xpt) : (s.modXpt f).now = s.now := rfl
@[simp] theorem State.modXpt_pending (s : State) (f : Xpt → Xpt) : (s.modXpt f).pending = s.pending := rfl
@[simp] theorem State.modXpt_out (s : State) (f : Xpt → Xpt) : (s.modXpt f).out = s.out := rfl
@[simp] theorem State.modXpt_paused (s : State) (f : Xpt → Xpt) : (s.modXpt f).paused = s.paused := rfl
@[simp] theorem State.modXpt_freeCount (s : State) (f : Xpt → Xpt) : (s.modXpt f).freeCount = s.freeCount := rfl
@[simp] theorem State.modXpt_mode (s : State) (f : Xpt → Xpt) : (s.modXpt f).mode = s.mode := rfl
@[simp] theorem State.modXpt_cfg (s : State) (f : Xpt → Xpt) : (s.modXpt f).cfg = s.cfg := rfl
@[simp] theorem State.modXpt_staged (s : State) (f : Xpt → Xpt) : (s.modXpt f).staged = s.staged := rfl
@[simp] theorem State.modXpt_standby (s : State) (f : Xpt → Xpt) : (s.modXpt f).standby = s.standby := rfl
@[simp] theorem State.modXpt_ctr (s : State) (f : Xpt → Xpt) : (s.modXpt f).ctr = s.ctr := rfl
@[simp] theorem State.modXpt_sticky (s : State) (f : Xpt → Xpt) : (s.modXpt f).sticky = s.sticky := rfl
@[simp] theorem State.modXpt_stickyCtr (s : State) (f : Xpt → Xpt) : (s.modXpt f).stickyCtr = s.stickyCtr := rfl
@[simp] theorem State.modXpt_dxe (s : State) (f : Xpt → Xpt) : (s.modXpt f).dxe = s.dxe := rfl
@[simp] theorem State.modXpt_reg (s : State) (f : Xpt → Xpt) : (s.modXpt f).reg = s.reg := rfl
@[simp] theorem State.modXpt_xpt (s : State) (f : Xpt → Xpt) : (s.modXpt f).xpt = f s.xpt := rfl
@[simp] theorem State.modXpt_pde (s : State) (f : Xpt → Xpt) : (s.modXpt f).pde = s.pde := rfl
@[simp] theorem State.modXpt_tmv (s : State) (f : Xpt → Xpt) : (s.modXpt f).tmv = s.tmv := rfl
@[simp] theorem State.modXpt_mir (s : State) (f : Xpt → Xpt) : (s.modXpt f).mir = s.mir := rfl
@[simp] theorem State.modXpt_callerPairs (s : State) (f : Xpt → Xpt) : (s.modXpt f).callerPairs = s.callerPairs := rfl
@[simp] theorem State.modXpt_fab (s : State) (f : Xpt → Xpt) : (s.modXpt f).fab = s.fab := rfl
@[simp] theorem State.modXpt_desig (s : State) (f : Xpt → Xpt) : (s.modXpt f).desig = s.desig := rfl
@[simp] theorem State.modXpt_dram (s : State) (f : Xpt → Xpt) : (s.modXpt f).dram = s.dram := rfl
@[simp] theorem State.modXpt_flash (s : State) (f : Xpt → Xpt) : (s.modXpt f).flash = s.flash := rfl
@[simp] theorem State.modXpt_sec (s : State) (f : Xpt → Xpt) : (s.modXpt f).sec = s.sec := rfl
@[simp] theorem State.modXpt_fco (s : State) (f : Xpt → Xpt) : (s.modXpt f).fco = s.fco := rfl
@[simp] theorem State.modXpt_evr (s : State) (f : Xpt → Xpt) : (s.modXpt f).evr = s.evr := rfl
@[simp] theorem State.modXpt_pwr (s : State) (f : Xpt → Xpt) : (s.modXpt f).pwr = s.pwr := rfl
@[simp] theorem State.modXpt_store (s : State) (f : Xpt → Xpt) : (s.modXpt f).store = s.store := rfl
@[simp] theorem State.modXpt_rst (s : State) (f : Xpt → Xpt) : (s.modXpt f).rst = s.rst := rfl
@[simp] theorem State.modXpt_thermal (s : State) (f : Xpt → Xpt) : (s.modXpt f).thermal = s.thermal := rfl

/-! ### modPde -/

@[simp] theorem State.modPde_now (s : State) (f : Pde → Pde) : (s.modPde f).now = s.now := rfl
@[simp] theorem State.modPde_pending (s : State) (f : Pde → Pde) : (s.modPde f).pending = s.pending := rfl
@[simp] theorem State.modPde_out (s : State) (f : Pde → Pde) : (s.modPde f).out = s.out := rfl
@[simp] theorem State.modPde_paused (s : State) (f : Pde → Pde) : (s.modPde f).paused = s.paused := rfl
@[simp] theorem State.modPde_freeCount (s : State) (f : Pde → Pde) : (s.modPde f).freeCount = s.freeCount := rfl
@[simp] theorem State.modPde_mode (s : State) (f : Pde → Pde) : (s.modPde f).mode = s.mode := rfl
@[simp] theorem State.modPde_cfg (s : State) (f : Pde → Pde) : (s.modPde f).cfg = s.cfg := rfl
@[simp] theorem State.modPde_staged (s : State) (f : Pde → Pde) : (s.modPde f).staged = s.staged := rfl
@[simp] theorem State.modPde_standby (s : State) (f : Pde → Pde) : (s.modPde f).standby = s.standby := rfl
@[simp] theorem State.modPde_ctr (s : State) (f : Pde → Pde) : (s.modPde f).ctr = s.ctr := rfl
@[simp] theorem State.modPde_sticky (s : State) (f : Pde → Pde) : (s.modPde f).sticky = s.sticky := rfl
@[simp] theorem State.modPde_stickyCtr (s : State) (f : Pde → Pde) : (s.modPde f).stickyCtr = s.stickyCtr := rfl
@[simp] theorem State.modPde_dxe (s : State) (f : Pde → Pde) : (s.modPde f).dxe = s.dxe := rfl
@[simp] theorem State.modPde_reg (s : State) (f : Pde → Pde) : (s.modPde f).reg = s.reg := rfl
@[simp] theorem State.modPde_xpt (s : State) (f : Pde → Pde) : (s.modPde f).xpt = s.xpt := rfl
@[simp] theorem State.modPde_pde (s : State) (f : Pde → Pde) : (s.modPde f).pde = f s.pde := rfl
@[simp] theorem State.modPde_tmv (s : State) (f : Pde → Pde) : (s.modPde f).tmv = s.tmv := rfl
@[simp] theorem State.modPde_mir (s : State) (f : Pde → Pde) : (s.modPde f).mir = s.mir := rfl
@[simp] theorem State.modPde_callerPairs (s : State) (f : Pde → Pde) : (s.modPde f).callerPairs = s.callerPairs := rfl
@[simp] theorem State.modPde_fab (s : State) (f : Pde → Pde) : (s.modPde f).fab = s.fab := rfl
@[simp] theorem State.modPde_desig (s : State) (f : Pde → Pde) : (s.modPde f).desig = s.desig := rfl
@[simp] theorem State.modPde_dram (s : State) (f : Pde → Pde) : (s.modPde f).dram = s.dram := rfl
@[simp] theorem State.modPde_flash (s : State) (f : Pde → Pde) : (s.modPde f).flash = s.flash := rfl
@[simp] theorem State.modPde_sec (s : State) (f : Pde → Pde) : (s.modPde f).sec = s.sec := rfl
@[simp] theorem State.modPde_fco (s : State) (f : Pde → Pde) : (s.modPde f).fco = s.fco := rfl
@[simp] theorem State.modPde_evr (s : State) (f : Pde → Pde) : (s.modPde f).evr = s.evr := rfl
@[simp] theorem State.modPde_pwr (s : State) (f : Pde → Pde) : (s.modPde f).pwr = s.pwr := rfl
@[simp] theorem State.modPde_store (s : State) (f : Pde → Pde) : (s.modPde f).store = s.store := rfl
@[simp] theorem State.modPde_rst (s : State) (f : Pde → Pde) : (s.modPde f).rst = s.rst := rfl
@[simp] theorem State.modPde_thermal (s : State) (f : Pde → Pde) : (s.modPde f).thermal = s.thermal := rfl

/-! ### modTmv -/

@[simp] theorem State.modTmv_now (s : State) (f : Tmv → Tmv) : (s.modTmv f).now = s.now := rfl
@[simp] theorem State.modTmv_pending (s : State) (f : Tmv → Tmv) : (s.modTmv f).pending = s.pending := rfl
@[simp] theorem State.modTmv_out (s : State) (f : Tmv → Tmv) : (s.modTmv f).out = s.out := rfl
@[simp] theorem State.modTmv_paused (s : State) (f : Tmv → Tmv) : (s.modTmv f).paused = s.paused := rfl
@[simp] theorem State.modTmv_freeCount (s : State) (f : Tmv → Tmv) : (s.modTmv f).freeCount = s.freeCount := rfl
@[simp] theorem State.modTmv_mode (s : State) (f : Tmv → Tmv) : (s.modTmv f).mode = s.mode := rfl
@[simp] theorem State.modTmv_cfg (s : State) (f : Tmv → Tmv) : (s.modTmv f).cfg = s.cfg := rfl
@[simp] theorem State.modTmv_staged (s : State) (f : Tmv → Tmv) : (s.modTmv f).staged = s.staged := rfl
@[simp] theorem State.modTmv_standby (s : State) (f : Tmv → Tmv) : (s.modTmv f).standby = s.standby := rfl
@[simp] theorem State.modTmv_ctr (s : State) (f : Tmv → Tmv) : (s.modTmv f).ctr = s.ctr := rfl
@[simp] theorem State.modTmv_sticky (s : State) (f : Tmv → Tmv) : (s.modTmv f).sticky = s.sticky := rfl
@[simp] theorem State.modTmv_stickyCtr (s : State) (f : Tmv → Tmv) : (s.modTmv f).stickyCtr = s.stickyCtr := rfl
@[simp] theorem State.modTmv_dxe (s : State) (f : Tmv → Tmv) : (s.modTmv f).dxe = s.dxe := rfl
@[simp] theorem State.modTmv_reg (s : State) (f : Tmv → Tmv) : (s.modTmv f).reg = s.reg := rfl
@[simp] theorem State.modTmv_xpt (s : State) (f : Tmv → Tmv) : (s.modTmv f).xpt = s.xpt := rfl
@[simp] theorem State.modTmv_pde (s : State) (f : Tmv → Tmv) : (s.modTmv f).pde = s.pde := rfl
@[simp] theorem State.modTmv_tmv (s : State) (f : Tmv → Tmv) : (s.modTmv f).tmv = f s.tmv := rfl
@[simp] theorem State.modTmv_mir (s : State) (f : Tmv → Tmv) : (s.modTmv f).mir = s.mir := rfl
@[simp] theorem State.modTmv_callerPairs (s : State) (f : Tmv → Tmv) : (s.modTmv f).callerPairs = s.callerPairs := rfl
@[simp] theorem State.modTmv_fab (s : State) (f : Tmv → Tmv) : (s.modTmv f).fab = s.fab := rfl
@[simp] theorem State.modTmv_desig (s : State) (f : Tmv → Tmv) : (s.modTmv f).desig = s.desig := rfl
@[simp] theorem State.modTmv_dram (s : State) (f : Tmv → Tmv) : (s.modTmv f).dram = s.dram := rfl
@[simp] theorem State.modTmv_flash (s : State) (f : Tmv → Tmv) : (s.modTmv f).flash = s.flash := rfl
@[simp] theorem State.modTmv_sec (s : State) (f : Tmv → Tmv) : (s.modTmv f).sec = s.sec := rfl
@[simp] theorem State.modTmv_fco (s : State) (f : Tmv → Tmv) : (s.modTmv f).fco = s.fco := rfl
@[simp] theorem State.modTmv_evr (s : State) (f : Tmv → Tmv) : (s.modTmv f).evr = s.evr := rfl
@[simp] theorem State.modTmv_pwr (s : State) (f : Tmv → Tmv) : (s.modTmv f).pwr = s.pwr := rfl
@[simp] theorem State.modTmv_store (s : State) (f : Tmv → Tmv) : (s.modTmv f).store = s.store := rfl
@[simp] theorem State.modTmv_rst (s : State) (f : Tmv → Tmv) : (s.modTmv f).rst = s.rst := rfl
@[simp] theorem State.modTmv_thermal (s : State) (f : Tmv → Tmv) : (s.modTmv f).thermal = s.thermal := rfl

/-! ### modMir -/

@[simp] theorem State.modMir_now (s : State) (f : Mir → Mir) : (s.modMir f).now = s.now := rfl
@[simp] theorem State.modMir_pending (s : State) (f : Mir → Mir) : (s.modMir f).pending = s.pending := rfl
@[simp] theorem State.modMir_out (s : State) (f : Mir → Mir) : (s.modMir f).out = s.out := rfl
@[simp] theorem State.modMir_paused (s : State) (f : Mir → Mir) : (s.modMir f).paused = s.paused := rfl
@[simp] theorem State.modMir_freeCount (s : State) (f : Mir → Mir) : (s.modMir f).freeCount = s.freeCount := rfl
@[simp] theorem State.modMir_mode (s : State) (f : Mir → Mir) : (s.modMir f).mode = s.mode := rfl
@[simp] theorem State.modMir_cfg (s : State) (f : Mir → Mir) : (s.modMir f).cfg = s.cfg := rfl
@[simp] theorem State.modMir_staged (s : State) (f : Mir → Mir) : (s.modMir f).staged = s.staged := rfl
@[simp] theorem State.modMir_standby (s : State) (f : Mir → Mir) : (s.modMir f).standby = s.standby := rfl
@[simp] theorem State.modMir_ctr (s : State) (f : Mir → Mir) : (s.modMir f).ctr = s.ctr := rfl
@[simp] theorem State.modMir_sticky (s : State) (f : Mir → Mir) : (s.modMir f).sticky = s.sticky := rfl
@[simp] theorem State.modMir_stickyCtr (s : State) (f : Mir → Mir) : (s.modMir f).stickyCtr = s.stickyCtr := rfl
@[simp] theorem State.modMir_dxe (s : State) (f : Mir → Mir) : (s.modMir f).dxe = s.dxe := rfl
@[simp] theorem State.modMir_reg (s : State) (f : Mir → Mir) : (s.modMir f).reg = s.reg := rfl
@[simp] theorem State.modMir_xpt (s : State) (f : Mir → Mir) : (s.modMir f).xpt = s.xpt := rfl
@[simp] theorem State.modMir_pde (s : State) (f : Mir → Mir) : (s.modMir f).pde = s.pde := rfl
@[simp] theorem State.modMir_tmv (s : State) (f : Mir → Mir) : (s.modMir f).tmv = s.tmv := rfl
@[simp] theorem State.modMir_mir (s : State) (f : Mir → Mir) : (s.modMir f).mir = f s.mir := rfl
@[simp] theorem State.modMir_callerPairs (s : State) (f : Mir → Mir) : (s.modMir f).callerPairs = s.callerPairs := rfl
@[simp] theorem State.modMir_fab (s : State) (f : Mir → Mir) : (s.modMir f).fab = s.fab := rfl
@[simp] theorem State.modMir_desig (s : State) (f : Mir → Mir) : (s.modMir f).desig = s.desig := rfl
@[simp] theorem State.modMir_dram (s : State) (f : Mir → Mir) : (s.modMir f).dram = s.dram := rfl
@[simp] theorem State.modMir_flash (s : State) (f : Mir → Mir) : (s.modMir f).flash = s.flash := rfl
@[simp] theorem State.modMir_sec (s : State) (f : Mir → Mir) : (s.modMir f).sec = s.sec := rfl
@[simp] theorem State.modMir_fco (s : State) (f : Mir → Mir) : (s.modMir f).fco = s.fco := rfl
@[simp] theorem State.modMir_evr (s : State) (f : Mir → Mir) : (s.modMir f).evr = s.evr := rfl
@[simp] theorem State.modMir_pwr (s : State) (f : Mir → Mir) : (s.modMir f).pwr = s.pwr := rfl
@[simp] theorem State.modMir_store (s : State) (f : Mir → Mir) : (s.modMir f).store = s.store := rfl
@[simp] theorem State.modMir_rst (s : State) (f : Mir → Mir) : (s.modMir f).rst = s.rst := rfl
@[simp] theorem State.modMir_thermal (s : State) (f : Mir → Mir) : (s.modMir f).thermal = s.thermal := rfl

/-! ### modFab -/

@[simp] theorem State.modFab_now (s : State) (f : Fab → Fab) : (s.modFab f).now = s.now := rfl
@[simp] theorem State.modFab_pending (s : State) (f : Fab → Fab) : (s.modFab f).pending = s.pending := rfl
@[simp] theorem State.modFab_out (s : State) (f : Fab → Fab) : (s.modFab f).out = s.out := rfl
@[simp] theorem State.modFab_paused (s : State) (f : Fab → Fab) : (s.modFab f).paused = s.paused := rfl
@[simp] theorem State.modFab_freeCount (s : State) (f : Fab → Fab) : (s.modFab f).freeCount = s.freeCount := rfl
@[simp] theorem State.modFab_mode (s : State) (f : Fab → Fab) : (s.modFab f).mode = s.mode := rfl
@[simp] theorem State.modFab_cfg (s : State) (f : Fab → Fab) : (s.modFab f).cfg = s.cfg := rfl
@[simp] theorem State.modFab_staged (s : State) (f : Fab → Fab) : (s.modFab f).staged = s.staged := rfl
@[simp] theorem State.modFab_standby (s : State) (f : Fab → Fab) : (s.modFab f).standby = s.standby := rfl
@[simp] theorem State.modFab_ctr (s : State) (f : Fab → Fab) : (s.modFab f).ctr = s.ctr := rfl
@[simp] theorem State.modFab_sticky (s : State) (f : Fab → Fab) : (s.modFab f).sticky = s.sticky := rfl
@[simp] theorem State.modFab_stickyCtr (s : State) (f : Fab → Fab) : (s.modFab f).stickyCtr = s.stickyCtr := rfl
@[simp] theorem State.modFab_dxe (s : State) (f : Fab → Fab) : (s.modFab f).dxe = s.dxe := rfl
@[simp] theorem State.modFab_reg (s : State) (f : Fab → Fab) : (s.modFab f).reg = s.reg := rfl
@[simp] theorem State.modFab_xpt (s : State) (f : Fab → Fab) : (s.modFab f).xpt = s.xpt := rfl
@[simp] theorem State.modFab_pde (s : State) (f : Fab → Fab) : (s.modFab f).pde = s.pde := rfl
@[simp] theorem State.modFab_tmv (s : State) (f : Fab → Fab) : (s.modFab f).tmv = s.tmv := rfl
@[simp] theorem State.modFab_mir (s : State) (f : Fab → Fab) : (s.modFab f).mir = s.mir := rfl
@[simp] theorem State.modFab_callerPairs (s : State) (f : Fab → Fab) : (s.modFab f).callerPairs = s.callerPairs := rfl
@[simp] theorem State.modFab_fab (s : State) (f : Fab → Fab) : (s.modFab f).fab = f s.fab := rfl
@[simp] theorem State.modFab_desig (s : State) (f : Fab → Fab) : (s.modFab f).desig = s.desig := rfl
@[simp] theorem State.modFab_dram (s : State) (f : Fab → Fab) : (s.modFab f).dram = s.dram := rfl
@[simp] theorem State.modFab_flash (s : State) (f : Fab → Fab) : (s.modFab f).flash = s.flash := rfl
@[simp] theorem State.modFab_sec (s : State) (f : Fab → Fab) : (s.modFab f).sec = s.sec := rfl
@[simp] theorem State.modFab_fco (s : State) (f : Fab → Fab) : (s.modFab f).fco = s.fco := rfl
@[simp] theorem State.modFab_evr (s : State) (f : Fab → Fab) : (s.modFab f).evr = s.evr := rfl
@[simp] theorem State.modFab_pwr (s : State) (f : Fab → Fab) : (s.modFab f).pwr = s.pwr := rfl
@[simp] theorem State.modFab_store (s : State) (f : Fab → Fab) : (s.modFab f).store = s.store := rfl
@[simp] theorem State.modFab_rst (s : State) (f : Fab → Fab) : (s.modFab f).rst = s.rst := rfl
@[simp] theorem State.modFab_thermal (s : State) (f : Fab → Fab) : (s.modFab f).thermal = s.thermal := rfl

/-! ### modDesig -/

@[simp] theorem State.modDesig_now (s : State) (f : Designation → Designation) : (s.modDesig f).now = s.now := rfl
@[simp] theorem State.modDesig_pending (s : State) (f : Designation → Designation) : (s.modDesig f).pending = s.pending := rfl
@[simp] theorem State.modDesig_out (s : State) (f : Designation → Designation) : (s.modDesig f).out = s.out := rfl
@[simp] theorem State.modDesig_paused (s : State) (f : Designation → Designation) : (s.modDesig f).paused = s.paused := rfl
@[simp] theorem State.modDesig_freeCount (s : State) (f : Designation → Designation) : (s.modDesig f).freeCount = s.freeCount := rfl
@[simp] theorem State.modDesig_mode (s : State) (f : Designation → Designation) : (s.modDesig f).mode = s.mode := rfl
@[simp] theorem State.modDesig_cfg (s : State) (f : Designation → Designation) : (s.modDesig f).cfg = s.cfg := rfl
@[simp] theorem State.modDesig_staged (s : State) (f : Designation → Designation) : (s.modDesig f).staged = s.staged := rfl
@[simp] theorem State.modDesig_standby (s : State) (f : Designation → Designation) : (s.modDesig f).standby = s.standby := rfl
@[simp] theorem State.modDesig_ctr (s : State) (f : Designation → Designation) : (s.modDesig f).ctr = s.ctr := rfl
@[simp] theorem State.modDesig_sticky (s : State) (f : Designation → Designation) : (s.modDesig f).sticky = s.sticky := rfl
@[simp] theorem State.modDesig_stickyCtr (s : State) (f : Designation → Designation) : (s.modDesig f).stickyCtr = s.stickyCtr := rfl
@[simp] theorem State.modDesig_dxe (s : State) (f : Designation → Designation) : (s.modDesig f).dxe = s.dxe := rfl
@[simp] theorem State.modDesig_reg (s : State) (f : Designation → Designation) : (s.modDesig f).reg = s.reg := rfl
@[simp] theorem State.modDesig_xpt (s : State) (f : Designation → Designation) : (s.modDesig f).xpt = s.xpt := rfl
@[simp] theorem State.modDesig_pde (s : State) (f : Designation → Designation) : (s.modDesig f).pde = s.pde := rfl
@[simp] theorem State.modDesig_tmv (s : State) (f : Designation → Designation) : (s.modDesig f).tmv = s.tmv := rfl
@[simp] theorem State.modDesig_mir (s : State) (f : Designation → Designation) : (s.modDesig f).mir = s.mir := rfl
@[simp] theorem State.modDesig_callerPairs (s : State) (f : Designation → Designation) : (s.modDesig f).callerPairs = s.callerPairs := rfl
@[simp] theorem State.modDesig_fab (s : State) (f : Designation → Designation) : (s.modDesig f).fab = s.fab := rfl
@[simp] theorem State.modDesig_desig (s : State) (f : Designation → Designation) : (s.modDesig f).desig = f s.desig := rfl
@[simp] theorem State.modDesig_dram (s : State) (f : Designation → Designation) : (s.modDesig f).dram = s.dram := rfl
@[simp] theorem State.modDesig_flash (s : State) (f : Designation → Designation) : (s.modDesig f).flash = s.flash := rfl
@[simp] theorem State.modDesig_sec (s : State) (f : Designation → Designation) : (s.modDesig f).sec = s.sec := rfl
@[simp] theorem State.modDesig_fco (s : State) (f : Designation → Designation) : (s.modDesig f).fco = s.fco := rfl
@[simp] theorem State.modDesig_evr (s : State) (f : Designation → Designation) : (s.modDesig f).evr = s.evr := rfl
@[simp] theorem State.modDesig_pwr (s : State) (f : Designation → Designation) : (s.modDesig f).pwr = s.pwr := rfl
@[simp] theorem State.modDesig_store (s : State) (f : Designation → Designation) : (s.modDesig f).store = s.store := rfl
@[simp] theorem State.modDesig_rst (s : State) (f : Designation → Designation) : (s.modDesig f).rst = s.rst := rfl
@[simp] theorem State.modDesig_thermal (s : State) (f : Designation → Designation) : (s.modDesig f).thermal = s.thermal := rfl

/-! ### modDram -/

@[simp] theorem State.modDram_now (s : State) (f : Dram → Dram) : (s.modDram f).now = s.now := rfl
@[simp] theorem State.modDram_pending (s : State) (f : Dram → Dram) : (s.modDram f).pending = s.pending := rfl
@[simp] theorem State.modDram_out (s : State) (f : Dram → Dram) : (s.modDram f).out = s.out := rfl
@[simp] theorem State.modDram_paused (s : State) (f : Dram → Dram) : (s.modDram f).paused = s.paused := rfl
@[simp] theorem State.modDram_freeCount (s : State) (f : Dram → Dram) : (s.modDram f).freeCount = s.freeCount := rfl
@[simp] theorem State.modDram_mode (s : State) (f : Dram → Dram) : (s.modDram f).mode = s.mode := rfl
@[simp] theorem State.modDram_cfg (s : State) (f : Dram → Dram) : (s.modDram f).cfg = s.cfg := rfl
@[simp] theorem State.modDram_staged (s : State) (f : Dram → Dram) : (s.modDram f).staged = s.staged := rfl
@[simp] theorem State.modDram_standby (s : State) (f : Dram → Dram) : (s.modDram f).standby = s.standby := rfl
@[simp] theorem State.modDram_ctr (s : State) (f : Dram → Dram) : (s.modDram f).ctr = s.ctr := rfl
@[simp] theorem State.modDram_sticky (s : State) (f : Dram → Dram) : (s.modDram f).sticky = s.sticky := rfl
@[simp] theorem State.modDram_stickyCtr (s : State) (f : Dram → Dram) : (s.modDram f).stickyCtr = s.stickyCtr := rfl
@[simp] theorem State.modDram_dxe (s : State) (f : Dram → Dram) : (s.modDram f).dxe = s.dxe := rfl
@[simp] theorem State.modDram_reg (s : State) (f : Dram → Dram) : (s.modDram f).reg = s.reg := rfl
@[simp] theorem State.modDram_xpt (s : State) (f : Dram → Dram) : (s.modDram f).xpt = s.xpt := rfl
@[simp] theorem State.modDram_pde (s : State) (f : Dram → Dram) : (s.modDram f).pde = s.pde := rfl
@[simp] theorem State.modDram_tmv (s : State) (f : Dram → Dram) : (s.modDram f).tmv = s.tmv := rfl
@[simp] theorem State.modDram_mir (s : State) (f : Dram → Dram) : (s.modDram f).mir = s.mir := rfl
@[simp] theorem State.modDram_callerPairs (s : State) (f : Dram → Dram) : (s.modDram f).callerPairs = s.callerPairs := rfl
@[simp] theorem State.modDram_fab (s : State) (f : Dram → Dram) : (s.modDram f).fab = s.fab := rfl
@[simp] theorem State.modDram_desig (s : State) (f : Dram → Dram) : (s.modDram f).desig = s.desig := rfl
@[simp] theorem State.modDram_dram (s : State) (f : Dram → Dram) : (s.modDram f).dram = f s.dram := rfl
@[simp] theorem State.modDram_flash (s : State) (f : Dram → Dram) : (s.modDram f).flash = s.flash := rfl
@[simp] theorem State.modDram_sec (s : State) (f : Dram → Dram) : (s.modDram f).sec = s.sec := rfl
@[simp] theorem State.modDram_fco (s : State) (f : Dram → Dram) : (s.modDram f).fco = s.fco := rfl
@[simp] theorem State.modDram_evr (s : State) (f : Dram → Dram) : (s.modDram f).evr = s.evr := rfl
@[simp] theorem State.modDram_pwr (s : State) (f : Dram → Dram) : (s.modDram f).pwr = s.pwr := rfl
@[simp] theorem State.modDram_store (s : State) (f : Dram → Dram) : (s.modDram f).store = s.store := rfl
@[simp] theorem State.modDram_rst (s : State) (f : Dram → Dram) : (s.modDram f).rst = s.rst := rfl
@[simp] theorem State.modDram_thermal (s : State) (f : Dram → Dram) : (s.modDram f).thermal = s.thermal := rfl

/-! ### modFlash -/

@[simp] theorem State.modFlash_now (s : State) (f : Flash → Flash) : (s.modFlash f).now = s.now := rfl
@[simp] theorem State.modFlash_pending (s : State) (f : Flash → Flash) : (s.modFlash f).pending = s.pending := rfl
@[simp] theorem State.modFlash_out (s : State) (f : Flash → Flash) : (s.modFlash f).out = s.out := rfl
@[simp] theorem State.modFlash_paused (s : State) (f : Flash → Flash) : (s.modFlash f).paused = s.paused := rfl
@[simp] theorem State.modFlash_freeCount (s : State) (f : Flash → Flash) : (s.modFlash f).freeCount = s.freeCount := rfl
@[simp] theorem State.modFlash_mode (s : State) (f : Flash → Flash) : (s.modFlash f).mode = s.mode := rfl
@[simp] theorem State.modFlash_cfg (s : State) (f : Flash → Flash) : (s.modFlash f).cfg = s.cfg := rfl
@[simp] theorem State.modFlash_staged (s : State) (f : Flash → Flash) : (s.modFlash f).staged = s.staged := rfl
@[simp] theorem State.modFlash_standby (s : State) (f : Flash → Flash) : (s.modFlash f).standby = s.standby := rfl
@[simp] theorem State.modFlash_ctr (s : State) (f : Flash → Flash) : (s.modFlash f).ctr = s.ctr := rfl
@[simp] theorem State.modFlash_sticky (s : State) (f : Flash → Flash) : (s.modFlash f).sticky = s.sticky := rfl
@[simp] theorem State.modFlash_stickyCtr (s : State) (f : Flash → Flash) : (s.modFlash f).stickyCtr = s.stickyCtr := rfl
@[simp] theorem State.modFlash_dxe (s : State) (f : Flash → Flash) : (s.modFlash f).dxe = s.dxe := rfl
@[simp] theorem State.modFlash_reg (s : State) (f : Flash → Flash) : (s.modFlash f).reg = s.reg := rfl
@[simp] theorem State.modFlash_xpt (s : State) (f : Flash → Flash) : (s.modFlash f).xpt = s.xpt := rfl
@[simp] theorem State.modFlash_pde (s : State) (f : Flash → Flash) : (s.modFlash f).pde = s.pde := rfl
@[simp] theorem State.modFlash_tmv (s : State) (f : Flash → Flash) : (s.modFlash f).tmv = s.tmv := rfl
@[simp] theorem State.modFlash_mir (s : State) (f : Flash → Flash) : (s.modFlash f).mir = s.mir := rfl
@[simp] theorem State.modFlash_callerPairs (s : State) (f : Flash → Flash) : (s.modFlash f).callerPairs = s.callerPairs := rfl
@[simp] theorem State.modFlash_fab (s : State) (f : Flash → Flash) : (s.modFlash f).fab = s.fab := rfl
@[simp] theorem State.modFlash_desig (s : State) (f : Flash → Flash) : (s.modFlash f).desig = s.desig := rfl
@[simp] theorem State.modFlash_dram (s : State) (f : Flash → Flash) : (s.modFlash f).dram = s.dram := rfl
@[simp] theorem State.modFlash_flash (s : State) (f : Flash → Flash) : (s.modFlash f).flash = f s.flash := rfl
@[simp] theorem State.modFlash_sec (s : State) (f : Flash → Flash) : (s.modFlash f).sec = s.sec := rfl
@[simp] theorem State.modFlash_fco (s : State) (f : Flash → Flash) : (s.modFlash f).fco = s.fco := rfl
@[simp] theorem State.modFlash_evr (s : State) (f : Flash → Flash) : (s.modFlash f).evr = s.evr := rfl
@[simp] theorem State.modFlash_pwr (s : State) (f : Flash → Flash) : (s.modFlash f).pwr = s.pwr := rfl
@[simp] theorem State.modFlash_store (s : State) (f : Flash → Flash) : (s.modFlash f).store = s.store := rfl
@[simp] theorem State.modFlash_rst (s : State) (f : Flash → Flash) : (s.modFlash f).rst = s.rst := rfl
@[simp] theorem State.modFlash_thermal (s : State) (f : Flash → Flash) : (s.modFlash f).thermal = s.thermal := rfl

/-! ### modSec -/

@[simp] theorem State.modSec_now (s : State) (f : Sec → Sec) : (s.modSec f).now = s.now := rfl
@[simp] theorem State.modSec_pending (s : State) (f : Sec → Sec) : (s.modSec f).pending = s.pending := rfl
@[simp] theorem State.modSec_out (s : State) (f : Sec → Sec) : (s.modSec f).out = s.out := rfl
@[simp] theorem State.modSec_paused (s : State) (f : Sec → Sec) : (s.modSec f).paused = s.paused := rfl
@[simp] theorem State.modSec_freeCount (s : State) (f : Sec → Sec) : (s.modSec f).freeCount = s.freeCount := rfl
@[simp] theorem State.modSec_mode (s : State) (f : Sec → Sec) : (s.modSec f).mode = s.mode := rfl
@[simp] theorem State.modSec_cfg (s : State) (f : Sec → Sec) : (s.modSec f).cfg = s.cfg := rfl
@[simp] theorem State.modSec_staged (s : State) (f : Sec → Sec) : (s.modSec f).staged = s.staged := rfl
@[simp] theorem State.modSec_standby (s : State) (f : Sec → Sec) : (s.modSec f).standby = s.standby := rfl
@[simp] theorem State.modSec_ctr (s : State) (f : Sec → Sec) : (s.modSec f).ctr = s.ctr := rfl
@[simp] theorem State.modSec_sticky (s : State) (f : Sec → Sec) : (s.modSec f).sticky = s.sticky := rfl
@[simp] theorem State.modSec_stickyCtr (s : State) (f : Sec → Sec) : (s.modSec f).stickyCtr = s.stickyCtr := rfl
@[simp] theorem State.modSec_dxe (s : State) (f : Sec → Sec) : (s.modSec f).dxe = s.dxe := rfl
@[simp] theorem State.modSec_reg (s : State) (f : Sec → Sec) : (s.modSec f).reg = s.reg := rfl
@[simp] theorem State.modSec_xpt (s : State) (f : Sec → Sec) : (s.modSec f).xpt = s.xpt := rfl
@[simp] theorem State.modSec_pde (s : State) (f : Sec → Sec) : (s.modSec f).pde = s.pde := rfl
@[simp] theorem State.modSec_tmv (s : State) (f : Sec → Sec) : (s.modSec f).tmv = s.tmv := rfl
@[simp] theorem State.modSec_mir (s : State) (f : Sec → Sec) : (s.modSec f).mir = s.mir := rfl
@[simp] theorem State.modSec_callerPairs (s : State) (f : Sec → Sec) : (s.modSec f).callerPairs = s.callerPairs := rfl
@[simp] theorem State.modSec_fab (s : State) (f : Sec → Sec) : (s.modSec f).fab = s.fab := rfl
@[simp] theorem State.modSec_desig (s : State) (f : Sec → Sec) : (s.modSec f).desig = s.desig := rfl
@[simp] theorem State.modSec_dram (s : State) (f : Sec → Sec) : (s.modSec f).dram = s.dram := rfl
@[simp] theorem State.modSec_flash (s : State) (f : Sec → Sec) : (s.modSec f).flash = s.flash := rfl
@[simp] theorem State.modSec_sec (s : State) (f : Sec → Sec) : (s.modSec f).sec = f s.sec := rfl
@[simp] theorem State.modSec_fco (s : State) (f : Sec → Sec) : (s.modSec f).fco = s.fco := rfl
@[simp] theorem State.modSec_evr (s : State) (f : Sec → Sec) : (s.modSec f).evr = s.evr := rfl
@[simp] theorem State.modSec_pwr (s : State) (f : Sec → Sec) : (s.modSec f).pwr = s.pwr := rfl
@[simp] theorem State.modSec_store (s : State) (f : Sec → Sec) : (s.modSec f).store = s.store := rfl
@[simp] theorem State.modSec_rst (s : State) (f : Sec → Sec) : (s.modSec f).rst = s.rst := rfl
@[simp] theorem State.modSec_thermal (s : State) (f : Sec → Sec) : (s.modSec f).thermal = s.thermal := rfl

/-! ### modFco -/

@[simp] theorem State.modFco_now (s : State) (f : Fco → Fco) : (s.modFco f).now = s.now := rfl
@[simp] theorem State.modFco_pending (s : State) (f : Fco → Fco) : (s.modFco f).pending = s.pending := rfl
@[simp] theorem State.modFco_out (s : State) (f : Fco → Fco) : (s.modFco f).out = s.out := rfl
@[simp] theorem State.modFco_paused (s : State) (f : Fco → Fco) : (s.modFco f).paused = s.paused := rfl
@[simp] theorem State.modFco_freeCount (s : State) (f : Fco → Fco) : (s.modFco f).freeCount = s.freeCount := rfl
@[simp] theorem State.modFco_mode (s : State) (f : Fco → Fco) : (s.modFco f).mode = s.mode := rfl
@[simp] theorem State.modFco_cfg (s : State) (f : Fco → Fco) : (s.modFco f).cfg = s.cfg := rfl
@[simp] theorem State.modFco_staged (s : State) (f : Fco → Fco) : (s.modFco f).staged = s.staged := rfl
@[simp] theorem State.modFco_standby (s : State) (f : Fco → Fco) : (s.modFco f).standby = s.standby := rfl
@[simp] theorem State.modFco_ctr (s : State) (f : Fco → Fco) : (s.modFco f).ctr = s.ctr := rfl
@[simp] theorem State.modFco_sticky (s : State) (f : Fco → Fco) : (s.modFco f).sticky = s.sticky := rfl
@[simp] theorem State.modFco_stickyCtr (s : State) (f : Fco → Fco) : (s.modFco f).stickyCtr = s.stickyCtr := rfl
@[simp] theorem State.modFco_dxe (s : State) (f : Fco → Fco) : (s.modFco f).dxe = s.dxe := rfl
@[simp] theorem State.modFco_reg (s : State) (f : Fco → Fco) : (s.modFco f).reg = s.reg := rfl
@[simp] theorem State.modFco_xpt (s : State) (f : Fco → Fco) : (s.modFco f).xpt = s.xpt := rfl
@[simp] theorem State.modFco_pde (s : State) (f : Fco → Fco) : (s.modFco f).pde = s.pde := rfl
@[simp] theorem State.modFco_tmv (s : State) (f : Fco → Fco) : (s.modFco f).tmv = s.tmv := rfl
@[simp] theorem State.modFco_mir (s : State) (f : Fco → Fco) : (s.modFco f).mir = s.mir := rfl
@[simp] theorem State.modFco_callerPairs (s : State) (f : Fco → Fco) : (s.modFco f).callerPairs = s.callerPairs := rfl
@[simp] theorem State.modFco_fab (s : State) (f : Fco → Fco) : (s.modFco f).fab = s.fab := rfl
@[simp] theorem State.modFco_desig (s : State) (f : Fco → Fco) : (s.modFco f).desig = s.desig := rfl
@[simp] theorem State.modFco_dram (s : State) (f : Fco → Fco) : (s.modFco f).dram = s.dram := rfl
@[simp] theorem State.modFco_flash (s : State) (f : Fco → Fco) : (s.modFco f).flash = s.flash := rfl
@[simp] theorem State.modFco_sec (s : State) (f : Fco → Fco) : (s.modFco f).sec = s.sec := rfl
@[simp] theorem State.modFco_fco (s : State) (f : Fco → Fco) : (s.modFco f).fco = f s.fco := rfl
@[simp] theorem State.modFco_evr (s : State) (f : Fco → Fco) : (s.modFco f).evr = s.evr := rfl
@[simp] theorem State.modFco_pwr (s : State) (f : Fco → Fco) : (s.modFco f).pwr = s.pwr := rfl
@[simp] theorem State.modFco_store (s : State) (f : Fco → Fco) : (s.modFco f).store = s.store := rfl
@[simp] theorem State.modFco_rst (s : State) (f : Fco → Fco) : (s.modFco f).rst = s.rst := rfl
@[simp] theorem State.modFco_thermal (s : State) (f : Fco → Fco) : (s.modFco f).thermal = s.thermal := rfl

/-! ### modEvr -/

@[simp] theorem State.modEvr_now (s : State) (f : Evr → Evr) : (s.modEvr f).now = s.now := rfl
@[simp] theorem State.modEvr_pending (s : State) (f : Evr → Evr) : (s.modEvr f).pending = s.pending := rfl
@[simp] theorem State.modEvr_out (s : State) (f : Evr → Evr) : (s.modEvr f).out = s.out := rfl
@[simp] theorem State.modEvr_paused (s : State) (f : Evr → Evr) : (s.modEvr f).paused = s.paused := rfl
@[simp] theorem State.modEvr_freeCount (s : State) (f : Evr → Evr) : (s.modEvr f).freeCount = s.freeCount := rfl
@[simp] theorem State.modEvr_mode (s : State) (f : Evr → Evr) : (s.modEvr f).mode = s.mode := rfl
@[simp] theorem State.modEvr_cfg (s : State) (f : Evr → Evr) : (s.modEvr f).cfg = s.cfg := rfl
@[simp] theorem State.modEvr_staged (s : State) (f : Evr → Evr) : (s.modEvr f).staged = s.staged := rfl
@[simp] theorem State.modEvr_standby (s : State) (f : Evr → Evr) : (s.modEvr f).standby = s.standby := rfl
@[simp] theorem State.modEvr_ctr (s : State) (f : Evr → Evr) : (s.modEvr f).ctr = s.ctr := rfl
@[simp] theorem State.modEvr_sticky (s : State) (f : Evr → Evr) : (s.modEvr f).sticky = s.sticky := rfl
@[simp] theorem State.modEvr_stickyCtr (s : State) (f : Evr → Evr) : (s.modEvr f).stickyCtr = s.stickyCtr := rfl
@[simp] theorem State.modEvr_dxe (s : State) (f : Evr → Evr) : (s.modEvr f).dxe = s.dxe := rfl
@[simp] theorem State.modEvr_reg (s : State) (f : Evr → Evr) : (s.modEvr f).reg = s.reg := rfl
@[simp] theorem State.modEvr_xpt (s : State) (f : Evr → Evr) : (s.modEvr f).xpt = s.xpt := rfl
@[simp] theorem State.modEvr_pde (s : State) (f : Evr → Evr) : (s.modEvr f).pde = s.pde := rfl
@[simp] theorem State.modEvr_tmv (s : State) (f : Evr → Evr) : (s.modEvr f).tmv = s.tmv := rfl
@[simp] theorem State.modEvr_mir (s : State) (f : Evr → Evr) : (s.modEvr f).mir = s.mir := rfl
@[simp] theorem State.modEvr_callerPairs (s : State) (f : Evr → Evr) : (s.modEvr f).callerPairs = s.callerPairs := rfl
@[simp] theorem State.modEvr_fab (s : State) (f : Evr → Evr) : (s.modEvr f).fab = s.fab := rfl
@[simp] theorem State.modEvr_desig (s : State) (f : Evr → Evr) : (s.modEvr f).desig = s.desig := rfl
@[simp] theorem State.modEvr_dram (s : State) (f : Evr → Evr) : (s.modEvr f).dram = s.dram := rfl
@[simp] theorem State.modEvr_flash (s : State) (f : Evr → Evr) : (s.modEvr f).flash = s.flash := rfl
@[simp] theorem State.modEvr_sec (s : State) (f : Evr → Evr) : (s.modEvr f).sec = s.sec := rfl
@[simp] theorem State.modEvr_fco (s : State) (f : Evr → Evr) : (s.modEvr f).fco = s.fco := rfl
@[simp] theorem State.modEvr_evr (s : State) (f : Evr → Evr) : (s.modEvr f).evr = f s.evr := rfl
@[simp] theorem State.modEvr_pwr (s : State) (f : Evr → Evr) : (s.modEvr f).pwr = s.pwr := rfl
@[simp] theorem State.modEvr_store (s : State) (f : Evr → Evr) : (s.modEvr f).store = s.store := rfl
@[simp] theorem State.modEvr_rst (s : State) (f : Evr → Evr) : (s.modEvr f).rst = s.rst := rfl
@[simp] theorem State.modEvr_thermal (s : State) (f : Evr → Evr) : (s.modEvr f).thermal = s.thermal := rfl

/-! ### modPwr -/

@[simp] theorem State.modPwr_now (s : State) (f : Pwr → Pwr) : (s.modPwr f).now = s.now := rfl
@[simp] theorem State.modPwr_pending (s : State) (f : Pwr → Pwr) : (s.modPwr f).pending = s.pending := rfl
@[simp] theorem State.modPwr_out (s : State) (f : Pwr → Pwr) : (s.modPwr f).out = s.out := rfl
@[simp] theorem State.modPwr_paused (s : State) (f : Pwr → Pwr) : (s.modPwr f).paused = s.paused := rfl
@[simp] theorem State.modPwr_freeCount (s : State) (f : Pwr → Pwr) : (s.modPwr f).freeCount = s.freeCount := rfl
@[simp] theorem State.modPwr_mode (s : State) (f : Pwr → Pwr) : (s.modPwr f).mode = s.mode := rfl
@[simp] theorem State.modPwr_cfg (s : State) (f : Pwr → Pwr) : (s.modPwr f).cfg = s.cfg := rfl
@[simp] theorem State.modPwr_staged (s : State) (f : Pwr → Pwr) : (s.modPwr f).staged = s.staged := rfl
@[simp] theorem State.modPwr_standby (s : State) (f : Pwr → Pwr) : (s.modPwr f).standby = s.standby := rfl
@[simp] theorem State.modPwr_ctr (s : State) (f : Pwr → Pwr) : (s.modPwr f).ctr = s.ctr := rfl
@[simp] theorem State.modPwr_sticky (s : State) (f : Pwr → Pwr) : (s.modPwr f).sticky = s.sticky := rfl
@[simp] theorem State.modPwr_stickyCtr (s : State) (f : Pwr → Pwr) : (s.modPwr f).stickyCtr = s.stickyCtr := rfl
@[simp] theorem State.modPwr_dxe (s : State) (f : Pwr → Pwr) : (s.modPwr f).dxe = s.dxe := rfl
@[simp] theorem State.modPwr_reg (s : State) (f : Pwr → Pwr) : (s.modPwr f).reg = s.reg := rfl
@[simp] theorem State.modPwr_xpt (s : State) (f : Pwr → Pwr) : (s.modPwr f).xpt = s.xpt := rfl
@[simp] theorem State.modPwr_pde (s : State) (f : Pwr → Pwr) : (s.modPwr f).pde = s.pde := rfl
@[simp] theorem State.modPwr_tmv (s : State) (f : Pwr → Pwr) : (s.modPwr f).tmv = s.tmv := rfl
@[simp] theorem State.modPwr_mir (s : State) (f : Pwr → Pwr) : (s.modPwr f).mir = s.mir := rfl
@[simp] theorem State.modPwr_callerPairs (s : State) (f : Pwr → Pwr) : (s.modPwr f).callerPairs = s.callerPairs := rfl
@[simp] theorem State.modPwr_fab (s : State) (f : Pwr → Pwr) : (s.modPwr f).fab = s.fab := rfl
@[simp] theorem State.modPwr_desig (s : State) (f : Pwr → Pwr) : (s.modPwr f).desig = s.desig := rfl
@[simp] theorem State.modPwr_dram (s : State) (f : Pwr → Pwr) : (s.modPwr f).dram = s.dram := rfl
@[simp] theorem State.modPwr_flash (s : State) (f : Pwr → Pwr) : (s.modPwr f).flash = s.flash := rfl
@[simp] theorem State.modPwr_sec (s : State) (f : Pwr → Pwr) : (s.modPwr f).sec = s.sec := rfl
@[simp] theorem State.modPwr_fco (s : State) (f : Pwr → Pwr) : (s.modPwr f).fco = s.fco := rfl
@[simp] theorem State.modPwr_evr (s : State) (f : Pwr → Pwr) : (s.modPwr f).evr = s.evr := rfl
@[simp] theorem State.modPwr_pwr (s : State) (f : Pwr → Pwr) : (s.modPwr f).pwr = f s.pwr := rfl
@[simp] theorem State.modPwr_store (s : State) (f : Pwr → Pwr) : (s.modPwr f).store = s.store := rfl
@[simp] theorem State.modPwr_rst (s : State) (f : Pwr → Pwr) : (s.modPwr f).rst = s.rst := rfl
@[simp] theorem State.modPwr_thermal (s : State) (f : Pwr → Pwr) : (s.modPwr f).thermal = s.thermal := rfl

/-! ### modStore -/

@[simp] theorem State.modStore_now (s : State) (f : Store → Store) : (s.modStore f).now = s.now := rfl
@[simp] theorem State.modStore_pending (s : State) (f : Store → Store) : (s.modStore f).pending = s.pending := rfl
@[simp] theorem State.modStore_out (s : State) (f : Store → Store) : (s.modStore f).out = s.out := rfl
@[simp] theorem State.modStore_paused (s : State) (f : Store → Store) : (s.modStore f).paused = s.paused := rfl
@[simp] theorem State.modStore_freeCount (s : State) (f : Store → Store) : (s.modStore f).freeCount = s.freeCount := rfl
@[simp] theorem State.modStore_mode (s : State) (f : Store → Store) : (s.modStore f).mode = s.mode := rfl
@[simp] theorem State.modStore_cfg (s : State) (f : Store → Store) : (s.modStore f).cfg = s.cfg := rfl
@[simp] theorem State.modStore_staged (s : State) (f : Store → Store) : (s.modStore f).staged = s.staged := rfl
@[simp] theorem State.modStore_standby (s : State) (f : Store → Store) : (s.modStore f).standby = s.standby := rfl
@[simp] theorem State.modStore_ctr (s : State) (f : Store → Store) : (s.modStore f).ctr = s.ctr := rfl
@[simp] theorem State.modStore_sticky (s : State) (f : Store → Store) : (s.modStore f).sticky = s.sticky := rfl
@[simp] theorem State.modStore_stickyCtr (s : State) (f : Store → Store) : (s.modStore f).stickyCtr = s.stickyCtr := rfl
@[simp] theorem State.modStore_dxe (s : State) (f : Store → Store) : (s.modStore f).dxe = s.dxe := rfl
@[simp] theorem State.modStore_reg (s : State) (f : Store → Store) : (s.modStore f).reg = s.reg := rfl
@[simp] theorem State.modStore_xpt (s : State) (f : Store → Store) : (s.modStore f).xpt = s.xpt := rfl
@[simp] theorem State.modStore_pde (s : State) (f : Store → Store) : (s.modStore f).pde = s.pde := rfl
@[simp] theorem State.modStore_tmv (s : State) (f : Store → Store) : (s.modStore f).tmv = s.tmv := rfl
@[simp] theorem State.modStore_mir (s : State) (f : Store → Store) : (s.modStore f).mir = s.mir := rfl
@[simp] theorem State.modStore_callerPairs (s : State) (f : Store → Store) : (s.modStore f).callerPairs = s.callerPairs := rfl
@[simp] theorem State.modStore_fab (s : State) (f : Store → Store) : (s.modStore f).fab = s.fab := rfl
@[simp] theorem State.modStore_desig (s : State) (f : Store → Store) : (s.modStore f).desig = s.desig := rfl
@[simp] theorem State.modStore_dram (s : State) (f : Store → Store) : (s.modStore f).dram = s.dram := rfl
@[simp] theorem State.modStore_flash (s : State) (f : Store → Store) : (s.modStore f).flash = s.flash := rfl
@[simp] theorem State.modStore_sec (s : State) (f : Store → Store) : (s.modStore f).sec = s.sec := rfl
@[simp] theorem State.modStore_fco (s : State) (f : Store → Store) : (s.modStore f).fco = s.fco := rfl
@[simp] theorem State.modStore_evr (s : State) (f : Store → Store) : (s.modStore f).evr = s.evr := rfl
@[simp] theorem State.modStore_pwr (s : State) (f : Store → Store) : (s.modStore f).pwr = s.pwr := rfl
@[simp] theorem State.modStore_store (s : State) (f : Store → Store) : (s.modStore f).store = f s.store := rfl
@[simp] theorem State.modStore_rst (s : State) (f : Store → Store) : (s.modStore f).rst = s.rst := rfl
@[simp] theorem State.modStore_thermal (s : State) (f : Store → Store) : (s.modStore f).thermal = s.thermal := rfl

/-! ### modRst -/

@[simp] theorem State.modRst_now (s : State) (f : Rst → Rst) : (s.modRst f).now = s.now := rfl
@[simp] theorem State.modRst_pending (s : State) (f : Rst → Rst) : (s.modRst f).pending = s.pending := rfl
@[simp] theorem State.modRst_out (s : State) (f : Rst → Rst) : (s.modRst f).out = s.out := rfl
@[simp] theorem State.modRst_paused (s : State) (f : Rst → Rst) : (s.modRst f).paused = s.paused := rfl
@[simp] theorem State.modRst_freeCount (s : State) (f : Rst → Rst) : (s.modRst f).freeCount = s.freeCount := rfl
@[simp] theorem State.modRst_mode (s : State) (f : Rst → Rst) : (s.modRst f).mode = s.mode := rfl
@[simp] theorem State.modRst_cfg (s : State) (f : Rst → Rst) : (s.modRst f).cfg = s.cfg := rfl
@[simp] theorem State.modRst_staged (s : State) (f : Rst → Rst) : (s.modRst f).staged = s.staged := rfl
@[simp] theorem State.modRst_standby (s : State) (f : Rst → Rst) : (s.modRst f).standby = s.standby := rfl
@[simp] theorem State.modRst_ctr (s : State) (f : Rst → Rst) : (s.modRst f).ctr = s.ctr := rfl
@[simp] theorem State.modRst_sticky (s : State) (f : Rst → Rst) : (s.modRst f).sticky = s.sticky := rfl
@[simp] theorem State.modRst_stickyCtr (s : State) (f : Rst → Rst) : (s.modRst f).stickyCtr = s.stickyCtr := rfl
@[simp] theorem State.modRst_dxe (s : State) (f : Rst → Rst) : (s.modRst f).dxe = s.dxe := rfl
@[simp] theorem State.modRst_reg (s : State) (f : Rst → Rst) : (s.modRst f).reg = s.reg := rfl
@[simp] theorem State.modRst_xpt (s : State) (f : Rst → Rst) : (s.modRst f).xpt = s.xpt := rfl
@[simp] theorem State.modRst_pde (s : State) (f : Rst → Rst) : (s.modRst f).pde = s.pde := rfl
@[simp] theorem State.modRst_tmv (s : State) (f : Rst → Rst) : (s.modRst f).tmv = s.tmv := rfl
@[simp] theorem State.modRst_mir (s : State) (f : Rst → Rst) : (s.modRst f).mir = s.mir := rfl
@[simp] theorem State.modRst_callerPairs (s : State) (f : Rst → Rst) : (s.modRst f).callerPairs = s.callerPairs := rfl
@[simp] theorem State.modRst_fab (s : State) (f : Rst → Rst) : (s.modRst f).fab = s.fab := rfl
@[simp] theorem State.modRst_desig (s : State) (f : Rst → Rst) : (s.modRst f).desig = s.desig := rfl
@[simp] theorem State.modRst_dram (s : State) (f : Rst → Rst) : (s.modRst f).dram = s.dram := rfl
@[simp] theorem State.modRst_flash (s : State) (f : Rst → Rst) : (s.modRst f).flash = s.flash := rfl
@[simp] theorem State.modRst_sec (s : State) (f : Rst → Rst) : (s.modRst f).sec = s.sec := rfl
@[simp] theorem State.modRst_fco (s : State) (f : Rst → Rst) : (s.modRst f).fco = s.fco := rfl
@[simp] theorem State.modRst_evr (s : State) (f : Rst → Rst) : (s.modRst f).evr = s.evr := rfl
@[simp] theorem State.modRst_pwr (s : State) (f : Rst → Rst) : (s.modRst f).pwr = s.pwr := rfl
@[simp] theorem State.modRst_store (s : State) (f : Rst → Rst) : (s.modRst f).store = s.store := rfl
@[simp] theorem State.modRst_rst (s : State) (f : Rst → Rst) : (s.modRst f).rst = f s.rst := rfl
@[simp] theorem State.modRst_thermal (s : State) (f : Rst → Rst) : (s.modRst f).thermal = s.thermal := rfl

/-! ### modThermal -/

@[simp] theorem State.modThermal_now (s : State) (f : Thermal → Thermal) : (s.modThermal f).now = s.now := rfl
@[simp] theorem State.modThermal_pending (s : State) (f : Thermal → Thermal) : (s.modThermal f).pending = s.pending := rfl
@[simp] theorem State.modThermal_out (s : State) (f : Thermal → Thermal) : (s.modThermal f).out = s.out := rfl
@[simp] theorem State.modThermal_paused (s : State) (f : Thermal → Thermal) : (s.modThermal f).paused = s.paused := rfl
@[simp] theorem State.modThermal_freeCount (s : State) (f : Thermal → Thermal) : (s.modThermal f).freeCount = s.freeCount := rfl
@[simp] theorem State.modThermal_mode (s : State) (f : Thermal → Thermal) : (s.modThermal f).mode = s.mode := rfl
@[simp] theorem State.modThermal_cfg (s : State) (f : Thermal → Thermal) : (s.modThermal f).cfg = s.cfg := rfl
@[simp] theorem State.modThermal_staged (s : State) (f : Thermal → Thermal) : (s.modThermal f).staged = s.staged := rfl
@[simp] theorem State.modThermal_standby (s : State) (f : Thermal → Thermal) : (s.modThermal f).standby = s.standby := rfl
@[simp] theorem State.modThermal_ctr (s : State) (f : Thermal → Thermal) : (s.modThermal f).ctr = s.ctr := rfl
@[simp] theorem State.modThermal_sticky (s : State) (f : Thermal → Thermal) : (s.modThermal f).sticky = s.sticky := rfl
@[simp] theorem State.modThermal_stickyCtr (s : State) (f : Thermal → Thermal) : (s.modThermal f).stickyCtr = s.stickyCtr := rfl
@[simp] theorem State.modThermal_dxe (s : State) (f : Thermal → Thermal) : (s.modThermal f).dxe = s.dxe := rfl
@[simp] theorem State.modThermal_reg (s : State) (f : Thermal → Thermal) : (s.modThermal f).reg = s.reg := rfl
@[simp] theorem State.modThermal_xpt (s : State) (f : Thermal → Thermal) : (s.modThermal f).xpt = s.xpt := rfl
@[simp] theorem State.modThermal_pde (s : State) (f : Thermal → Thermal) : (s.modThermal f).pde = s.pde := rfl
@[simp] theorem State.modThermal_tmv (s : State) (f : Thermal → Thermal) : (s.modThermal f).tmv = s.tmv := rfl
@[simp] theorem State.modThermal_mir (s : State) (f : Thermal → Thermal) : (s.modThermal f).mir = s.mir := rfl
@[simp] theorem State.modThermal_callerPairs (s : State) (f : Thermal → Thermal) : (s.modThermal f).callerPairs = s.callerPairs := rfl
@[simp] theorem State.modThermal_fab (s : State) (f : Thermal → Thermal) : (s.modThermal f).fab = s.fab := rfl
@[simp] theorem State.modThermal_desig (s : State) (f : Thermal → Thermal) : (s.modThermal f).desig = s.desig := rfl
@[simp] theorem State.modThermal_dram (s : State) (f : Thermal → Thermal) : (s.modThermal f).dram = s.dram := rfl
@[simp] theorem State.modThermal_flash (s : State) (f : Thermal → Thermal) : (s.modThermal f).flash = s.flash := rfl
@[simp] theorem State.modThermal_sec (s : State) (f : Thermal → Thermal) : (s.modThermal f).sec = s.sec := rfl
@[simp] theorem State.modThermal_fco (s : State) (f : Thermal → Thermal) : (s.modThermal f).fco = s.fco := rfl
@[simp] theorem State.modThermal_evr (s : State) (f : Thermal → Thermal) : (s.modThermal f).evr = s.evr := rfl
@[simp] theorem State.modThermal_pwr (s : State) (f : Thermal → Thermal) : (s.modThermal f).pwr = s.pwr := rfl
@[simp] theorem State.modThermal_store (s : State) (f : Thermal → Thermal) : (s.modThermal f).store = s.store := rfl
@[simp] theorem State.modThermal_rst (s : State) (f : Thermal → Thermal) : (s.modThermal f).rst = s.rst := rfl
@[simp] theorem State.modThermal_thermal (s : State) (f : Thermal → Thermal) : (s.modThermal f).thermal = f s.thermal := rfl

/-! ### emit -/

@[simp] theorem State.emit_now (s : State) (o : Out) : (s.emit o).now = s.now := rfl
@[simp] theorem State.emit_pending (s : State) (o : Out) : (s.emit o).pending = s.pending := rfl
@[simp] theorem State.emit_out (s : State) (o : Out) : (s.emit o).out = o :: s.out := rfl
@[simp] theorem State.emit_paused (s : State) (o : Out) : (s.emit o).paused = s.paused := rfl
@[simp] theorem State.emit_freeCount (s : State) (o : Out) : (s.emit o).freeCount = s.freeCount := rfl
@[simp] theorem State.emit_mode (s : State) (o : Out) : (s.emit o).mode = s.mode := rfl
@[simp] theorem State.emit_cfg (s : State) (o : Out) : (s.emit o).cfg = s.cfg := rfl
@[simp] theorem State.emit_staged (s : State) (o : Out) : (s.emit o).staged = s.staged := rfl
@[simp] theorem State.emit_standby (s : State) (o : Out) : (s.emit o).standby = s.standby := rfl
@[simp] theorem State.emit_ctr (s : State) (o : Out) : (s.emit o).ctr = s.ctr := rfl
@[simp] theorem State.emit_sticky (s : State) (o : Out) : (s.emit o).sticky = s.sticky := rfl
@[simp] theorem State.emit_stickyCtr (s : State) (o : Out) : (s.emit o).stickyCtr = s.stickyCtr := rfl
@[simp] theorem State.emit_dxe (s : State) (o : Out) : (s.emit o).dxe = s.dxe := rfl
@[simp] theorem State.emit_reg (s : State) (o : Out) : (s.emit o).reg = s.reg := rfl
@[simp] theorem State.emit_xpt (s : State) (o : Out) : (s.emit o).xpt = s.xpt := rfl
@[simp] theorem State.emit_pde (s : State) (o : Out) : (s.emit o).pde = s.pde := rfl
@[simp] theorem State.emit_tmv (s : State) (o : Out) : (s.emit o).tmv = s.tmv := rfl
@[simp] theorem State.emit_mir (s : State) (o : Out) : (s.emit o).mir = s.mir := rfl
@[simp] theorem State.emit_callerPairs (s : State) (o : Out) : (s.emit o).callerPairs = s.callerPairs := rfl
@[simp] theorem State.emit_fab (s : State) (o : Out) : (s.emit o).fab = s.fab := rfl
@[simp] theorem State.emit_desig (s : State) (o : Out) : (s.emit o).desig = s.desig := rfl
@[simp] theorem State.emit_dram (s : State) (o : Out) : (s.emit o).dram = s.dram := rfl
@[simp] theorem State.emit_flash (s : State) (o : Out) : (s.emit o).flash = s.flash := rfl
@[simp] theorem State.emit_sec (s : State) (o : Out) : (s.emit o).sec = s.sec := rfl
@[simp] theorem State.emit_fco (s : State) (o : Out) : (s.emit o).fco = s.fco := rfl
@[simp] theorem State.emit_evr (s : State) (o : Out) : (s.emit o).evr = s.evr := rfl
@[simp] theorem State.emit_pwr (s : State) (o : Out) : (s.emit o).pwr = s.pwr := rfl
@[simp] theorem State.emit_store (s : State) (o : Out) : (s.emit o).store = s.store := rfl
@[simp] theorem State.emit_rst (s : State) (o : Out) : (s.emit o).rst = s.rst := rfl
@[simp] theorem State.emit_thermal (s : State) (o : Out) : (s.emit o).thermal = s.thermal := rfl

/-! ### bump -/

@[simp] theorem State.bump_now (s : State) (num idx n : Nat) : (s.bump num idx n).now = s.now := rfl
@[simp] theorem State.bump_pending (s : State) (num idx n : Nat) : (s.bump num idx n).pending = s.pending := rfl
@[simp] theorem State.bump_out (s : State) (num idx n : Nat) : (s.bump num idx n).out = s.out := rfl
@[simp] theorem State.bump_paused (s : State) (num idx n : Nat) : (s.bump num idx n).paused = s.paused := rfl
@[simp] theorem State.bump_freeCount (s : State) (num idx n : Nat) : (s.bump num idx n).freeCount = s.freeCount := rfl
@[simp] theorem State.bump_mode (s : State) (num idx n : Nat) : (s.bump num idx n).mode = s.mode := rfl
@[simp] theorem State.bump_cfg (s : State) (num idx n : Nat) : (s.bump num idx n).cfg = s.cfg := rfl
@[simp] theorem State.bump_staged (s : State) (num idx n : Nat) : (s.bump num idx n).staged = s.staged := rfl
@[simp] theorem State.bump_standby (s : State) (num idx n : Nat) : (s.bump num idx n).standby = s.standby := rfl
@[simp] theorem State.bump_ctr (s : State) (num idx n : Nat) : (s.bump num idx n).ctr = s.ctr.upd (pkey num idx) 0 (· + n) := rfl
@[simp] theorem State.bump_sticky (s : State) (num idx n : Nat) : (s.bump num idx n).sticky = s.sticky := rfl
@[simp] theorem State.bump_stickyCtr (s : State) (num idx n : Nat) : (s.bump num idx n).stickyCtr = s.stickyCtr := rfl
@[simp] theorem State.bump_dxe (s : State) (num idx n : Nat) : (s.bump num idx n).dxe = s.dxe := rfl
@[simp] theorem State.bump_reg (s : State) (num idx n : Nat) : (s.bump num idx n).reg = s.reg := rfl
@[simp] theorem State.bump_xpt (s : State) (num idx n : Nat) : (s.bump num idx n).xpt = s.xpt := rfl
@[simp] theorem State.bump_pde (s : State) (num idx n : Nat) : (s.bump num idx n).pde = s.pde := rfl
@[simp] theorem State.bump_tmv (s : State) (num idx n : Nat) : (s.bump num idx n).tmv = s.tmv := rfl
@[simp] theorem State.bump_mir (s : State) (num idx n : Nat) : (s.bump num idx n).mir = s.mir := rfl
@[simp] theorem State.bump_callerPairs (s : State) (num idx n : Nat) : (s.bump num idx n).callerPairs = s.callerPairs := rfl
@[simp] theorem State.bump_fab (s : State) (num idx n : Nat) : (s.bump num idx n).fab = s.fab := rfl
@[simp] theorem State.bump_desig (s : State) (num idx n : Nat) : (s.bump num idx n).desig = s.desig := rfl
@[simp] theorem State.bump_dram (s : State) (num idx n : Nat) : (s.bump num idx n).dram = s.dram := rfl
@[simp] theorem State.bump_flash (s : State) (num idx n : Nat) : (s.bump num idx n).flash = s.flash := rfl
@[simp] theorem State.bump_sec (s : State) (num idx n : Nat) : (s.bump num idx n).sec = s.sec := rfl
@[simp] theorem State.bump_fco (s : State) (num idx n : Nat) : (s.bump num idx n).fco = s.fco := rfl
@[simp] theorem State.bump_evr (s : State) (num idx n : Nat) : (s.bump num idx n).evr = s.evr := rfl
@[simp] theorem State.bump_pwr (s : State) (num idx n : Nat) : (s.bump num idx n).pwr = s.pwr := rfl
@[simp] theorem State.bump_store (s : State) (num idx n : Nat) : (s.bump num idx n).store = s.store := rfl
@[simp] theorem State.bump_rst (s : State) (num idx n : Nat) : (s.bump num idx n).rst = s.rst := rfl
@[simp] theorem State.bump_thermal (s : State) (num idx n : Nat) : (s.bump num idx n).thermal = s.thermal := rfl

/-! ### tick -/

@[simp] theorem State.tick_now (s : State) : (s.tick).now = s.now := rfl
@[simp] theorem State.tick_pending (s : State) : (s.tick).pending = s.pending := rfl
@[simp] theorem State.tick_out (s : State) : (s.tick).out = s.out := rfl
@[simp] theorem State.tick_paused (s : State) : (s.tick).paused = s.paused := rfl
@[simp] theorem State.tick_freeCount (s : State) : (s.tick).freeCount = s.freeCount + 1 := rfl
@[simp] theorem State.tick_mode (s : State) : (s.tick).mode = s.mode := rfl
@[simp] theorem State.tick_cfg (s : State) : (s.tick).cfg = s.cfg := rfl
@[simp] theorem State.tick_staged (s : State) : (s.tick).staged = s.staged := rfl
@[simp] theorem State.tick_standby (s : State) : (s.tick).standby = s.standby := rfl
@[simp] theorem State.tick_ctr (s : State) : (s.tick).ctr = s.ctr := rfl
@[simp] theorem State.tick_sticky (s : State) : (s.tick).sticky = s.sticky := rfl
@[simp] theorem State.tick_stickyCtr (s : State) : (s.tick).stickyCtr = s.stickyCtr := rfl
@[simp] theorem State.tick_dxe (s : State) : (s.tick).dxe = s.dxe := rfl
@[simp] theorem State.tick_reg (s : State) : (s.tick).reg = s.reg := rfl
@[simp] theorem State.tick_xpt (s : State) : (s.tick).xpt = s.xpt := rfl
@[simp] theorem State.tick_pde (s : State) : (s.tick).pde = s.pde := rfl
@[simp] theorem State.tick_tmv (s : State) : (s.tick).tmv = s.tmv := rfl
@[simp] theorem State.tick_mir (s : State) : (s.tick).mir = s.mir := rfl
@[simp] theorem State.tick_callerPairs (s : State) : (s.tick).callerPairs = s.callerPairs := rfl
@[simp] theorem State.tick_fab (s : State) : (s.tick).fab = s.fab := rfl
@[simp] theorem State.tick_desig (s : State) : (s.tick).desig = s.desig := rfl
@[simp] theorem State.tick_dram (s : State) : (s.tick).dram = s.dram := rfl
@[simp] theorem State.tick_flash (s : State) : (s.tick).flash = s.flash := rfl
@[simp] theorem State.tick_sec (s : State) : (s.tick).sec = s.sec := rfl
@[simp] theorem State.tick_fco (s : State) : (s.tick).fco = s.fco := rfl
@[simp] theorem State.tick_evr (s : State) : (s.tick).evr = s.evr := rfl
@[simp] theorem State.tick_pwr (s : State) : (s.tick).pwr = s.pwr := rfl
@[simp] theorem State.tick_store (s : State) : (s.tick).store = s.store := rfl
@[simp] theorem State.tick_rst (s : State) : (s.tick).rst = s.rst := rfl
@[simp] theorem State.tick_thermal (s : State) : (s.tick).thermal = s.thermal := rfl

/-! ### setCfg -/

@[simp] theorem State.setCfg_now (s : State) (num idx v : Nat) : (s.setCfg num idx v).now = s.now := rfl
@[simp] theorem State.setCfg_pending (s : State) (num idx v : Nat) : (s.setCfg num idx v).pending = s.pending := rfl
@[simp] theorem State.setCfg_out (s : State) (num idx v : Nat) : (s.setCfg num idx v).out = s.out := rfl
@[simp] theorem State.setCfg_paused (s : State) (num idx v : Nat) : (s.setCfg num idx v).paused = s.paused := rfl
@[simp] theorem State.setCfg_freeCount (s : State) (num idx v : Nat) : (s.setCfg num idx v).freeCount = s.freeCount := rfl
@[simp] theorem State.setCfg_mode (s : State) (num idx v : Nat) : (s.setCfg num idx v).mode = s.mode := rfl
@[simp] theorem State.setCfg_cfg (s : State) (num idx v : Nat) : (s.setCfg num idx v).cfg = s.cfg.set (pkey num idx) v := rfl
@[simp] theorem State.setCfg_staged (s : State) (num idx v : Nat) : (s.setCfg num idx v).staged = s.staged := rfl
@[simp] theorem State.setCfg_standby (s : State) (num idx v : Nat) : (s.setCfg num idx v).standby = s.standby := rfl
@[simp] theorem State.setCfg_ctr (s : State) (num idx v : Nat) : (s.setCfg num idx v).ctr = s.ctr := rfl
@[simp] theorem State.setCfg_sticky (s : State) (num idx v : Nat) : (s.setCfg num idx v).sticky = s.sticky := rfl
@[simp] theorem State.setCfg_stickyCtr (s : State) (num idx v : Nat) : (s.setCfg num idx v).stickyCtr = s.stickyCtr := rfl
@[simp] theorem State.setCfg_dxe (s : State) (num idx v : Nat) : (s.setCfg num idx v).dxe = s.dxe := rfl
@[simp] theorem State.setCfg_reg (s : State) (num idx v : Nat) : (s.setCfg num idx v).reg = s.reg := rfl
@[simp] theorem State.setCfg_xpt (s : State) (num idx v : Nat) : (s.setCfg num idx v).xpt = s.xpt := rfl
@[simp] theorem State.setCfg_pde (s : State) (num idx v : Nat) : (s.setCfg num idx v).pde = s.pde := rfl
@[simp] theorem State.setCfg_tmv (s : State) (num idx v : Nat) : (s.setCfg num idx v).tmv = s.tmv := rfl
@[simp] theorem State.setCfg_mir (s : State) (num idx v : Nat) : (s.setCfg num idx v).mir = s.mir := rfl
@[simp] theorem State.setCfg_callerPairs (s : State) (num idx v : Nat) : (s.setCfg num idx v).callerPairs = s.callerPairs := rfl
@[simp] theorem State.setCfg_fab (s : State) (num idx v : Nat) : (s.setCfg num idx v).fab = s.fab := rfl
@[simp] theorem State.setCfg_desig (s : State) (num idx v : Nat) : (s.setCfg num idx v).desig = s.desig := rfl
@[simp] theorem State.setCfg_dram (s : State) (num idx v : Nat) : (s.setCfg num idx v).dram = s.dram := rfl
@[simp] theorem State.setCfg_flash (s : State) (num idx v : Nat) : (s.setCfg num idx v).flash = s.flash := rfl
@[simp] theorem State.setCfg_sec (s : State) (num idx v : Nat) : (s.setCfg num idx v).sec = s.sec := rfl
@[simp] theorem State.setCfg_fco (s : State) (num idx v : Nat) : (s.setCfg num idx v).fco = s.fco := rfl
@[simp] theorem State.setCfg_evr (s : State) (num idx v : Nat) : (s.setCfg num idx v).evr = s.evr := rfl
@[simp] theorem State.setCfg_pwr (s : State) (num idx v : Nat) : (s.setCfg num idx v).pwr = s.pwr := rfl
@[simp] theorem State.setCfg_store (s : State) (num idx v : Nat) : (s.setCfg num idx v).store = s.store := rfl
@[simp] theorem State.setCfg_rst (s : State) (num idx v : Nat) : (s.setCfg num idx v).rst = s.rst := rfl
@[simp] theorem State.setCfg_thermal (s : State) (num idx v : Nat) : (s.setCfg num idx v).thermal = s.thermal := rfl

/-! ### clearFlags -/

@[simp] theorem State.clearFlags_now (s : State) (num v : Nat) : (s.clearFlags num v).now = s.now := rfl
@[simp] theorem State.clearFlags_pending (s : State) (num v : Nat) : (s.clearFlags num v).pending = s.pending := rfl
@[simp] theorem State.clearFlags_out (s : State) (num v : Nat) : (s.clearFlags num v).out = s.out := rfl
@[simp] theorem State.clearFlags_paused (s : State) (num v : Nat) : (s.clearFlags num v).paused = s.paused := rfl
@[simp] theorem State.clearFlags_freeCount (s : State) (num v : Nat) : (s.clearFlags num v).freeCount = s.freeCount := rfl
@[simp] theorem State.clearFlags_mode (s : State) (num v : Nat) : (s.clearFlags num v).mode = s.mode := rfl
@[simp] theorem State.clearFlags_cfg (s : State) (num v : Nat) : (s.clearFlags num v).cfg = s.cfg := rfl
@[simp] theorem State.clearFlags_staged (s : State) (num v : Nat) : (s.clearFlags num v).staged = s.staged := rfl
@[simp] theorem State.clearFlags_standby (s : State) (num v : Nat) : (s.clearFlags num v).standby = s.standby := rfl
@[simp] theorem State.clearFlags_ctr (s : State) (num v : Nat) : (s.clearFlags num v).ctr = s.ctr := rfl
@[simp] theorem State.clearFlags_sticky (s : State) (num v : Nat) : (s.clearFlags num v).sticky = s.sticky.upd num 0 (fun f => f - (f &&& v)) := rfl
@[simp] theorem State.clearFlags_stickyCtr (s : State) (num v : Nat) : (s.clearFlags num v).stickyCtr = s.stickyCtr := rfl
@[simp] theorem State.clearFlags_dxe (s : State) (num v : Nat) : (s.clearFlags num v).dxe = s.dxe := rfl
@[simp] theorem State.clearFlags_reg (s : State) (num v : Nat) : (s.clearFlags num v).reg = s.reg := rfl
@[simp] theorem State.clearFlags_xpt (s : State) (num v : Nat) : (s.clearFlags num v).xpt = s.xpt := rfl
@[simp] theorem State.clearFlags_pde (s : State) (num v : Nat) : (s.clearFlags num v).pde = s.pde := rfl
@[simp] theorem State.clearFlags_tmv (s : State) (num v : Nat) : (s.clearFlags num v).tmv = s.tmv := rfl
@[simp] theorem State.clearFlags_mir (s : State) (num v : Nat) : (s.clearFlags num v).mir = s.mir := rfl
@[simp] theorem State.clearFlags_callerPairs (s : State) (num v : Nat) : (s.clearFlags num v).callerPairs = s.callerPairs := rfl
@[simp] theorem State.clearFlags_fab (s : State) (num v : Nat) : (s.clearFlags num v).fab = s.fab := rfl
@[simp] theorem State.clearFlags_desig (s : State) (num v : Nat) : (s.clearFlags num v).desig = s.desig := rfl
@[simp] theorem State.clearFlags_dram (s : State) (num v : Nat) : (s.clearFlags num v).dram = s.dram := rfl
@[simp] theorem State.clearFlags_flash (s : State) (num v : Nat) : (s.clearFlags num v).flash = s.flash := rfl
@[simp] theorem State.clearFlags_sec (s : State) (num v : Nat) : (s.clearFlags num v).sec = s.sec := rfl
@[simp] theorem State.clearFlags_fco (s : State) (num v : Nat) : (s.clearFlags num v).fco = s.fco := rfl
@[simp] theorem State.clearFlags_evr (s : State) (num v : Nat) : (s.clearFlags num v).evr = s.evr := rfl
@[simp] theorem State.clearFlags_pwr (s : State) (num v : Nat) : (s.clearFlags num v).pwr = s.pwr := rfl
@[simp] theorem State.clearFlags_store (s : State) (num v : Nat) : (s.clearFlags num v).store = s.store := rfl
@[simp] theorem State.clearFlags_rst (s : State) (num v : Nat) : (s.clearFlags num v).rst = s.rst := rfl
@[simp] theorem State.clearFlags_thermal (s : State) (num v : Nat) : (s.clearFlags num v).thermal = s.thermal := rfl

/-! ### setFlag -/

@[simp] theorem State.setFlag_now (s : State) (num b n : Nat) : (s.setFlag num b n).now = s.now := rfl
@[simp] theorem State.setFlag_pending (s : State) (num b n : Nat) : (s.setFlag num b n).pending = s.pending := rfl
@[simp] theorem State.setFlag_out (s : State) (num b n : Nat) : (s.setFlag num b n).out = s.out := rfl
@[simp] theorem State.setFlag_paused (s : State) (num b n : Nat) : (s.setFlag num b n).paused = s.paused := rfl
@[simp] theorem State.setFlag_freeCount (s : State) (num b n : Nat) : (s.setFlag num b n).freeCount = s.freeCount := rfl
@[simp] theorem State.setFlag_mode (s : State) (num b n : Nat) : (s.setFlag num b n).mode = s.mode := rfl
@[simp] theorem State.setFlag_cfg (s : State) (num b n : Nat) : (s.setFlag num b n).cfg = s.cfg := rfl
@[simp] theorem State.setFlag_staged (s : State) (num b n : Nat) : (s.setFlag num b n).staged = s.staged := rfl
@[simp] theorem State.setFlag_standby (s : State) (num b n : Nat) : (s.setFlag num b n).standby = s.standby := rfl
@[simp] theorem State.setFlag_ctr (s : State) (num b n : Nat) : (s.setFlag num b n).ctr = s.ctr := rfl
@[simp] theorem State.setFlag_dxe (s : State) (num b n : Nat) : (s.setFlag num b n).dxe = s.dxe := rfl
@[simp] theorem State.setFlag_reg (s : State) (num b n : Nat) : (s.setFlag num b n).reg = s.reg := rfl
@[simp] theorem State.setFlag_xpt (s : State) (num b n : Nat) : (s.setFlag num b n).xpt = s.xpt := rfl
@[simp] theorem State.setFlag_pde (s : State) (num b n : Nat) : (s.setFlag num b n).pde = s.pde := rfl
@[simp] theorem State.setFlag_tmv (s : State) (num b n : Nat) : (s.setFlag num b n).tmv = s.tmv := rfl
@[simp] theorem State.setFlag_mir (s : State) (num b n : Nat) : (s.setFlag num b n).mir = s.mir := rfl
@[simp] theorem State.setFlag_callerPairs (s : State) (num b n : Nat) : (s.setFlag num b n).callerPairs = s.callerPairs := rfl
@[simp] theorem State.setFlag_fab (s : State) (num b n : Nat) : (s.setFlag num b n).fab = s.fab := rfl
@[simp] theorem State.setFlag_desig (s : State) (num b n : Nat) : (s.setFlag num b n).desig = s.desig := rfl
@[simp] theorem State.setFlag_dram (s : State) (num b n : Nat) : (s.setFlag num b n).dram = s.dram := rfl
@[simp] theorem State.setFlag_flash (s : State) (num b n : Nat) : (s.setFlag num b n).flash = s.flash := rfl
@[simp] theorem State.setFlag_sec (s : State) (num b n : Nat) : (s.setFlag num b n).sec = s.sec := rfl
@[simp] theorem State.setFlag_fco (s : State) (num b n : Nat) : (s.setFlag num b n).fco = s.fco := rfl
@[simp] theorem State.setFlag_evr (s : State) (num b n : Nat) : (s.setFlag num b n).evr = s.evr := rfl
@[simp] theorem State.setFlag_pwr (s : State) (num b n : Nat) : (s.setFlag num b n).pwr = s.pwr := rfl
@[simp] theorem State.setFlag_store (s : State) (num b n : Nat) : (s.setFlag num b n).store = s.store := rfl
@[simp] theorem State.setFlag_rst (s : State) (num b n : Nat) : (s.setFlag num b n).rst = s.rst := rfl
@[simp] theorem State.setFlag_thermal (s : State) (num b n : Nat) : (s.setFlag num b n).thermal = s.thermal := rfl
@[simp] theorem State.setFlag_sticky (s : State) (num b n : Nat) : (s.setFlag num b n).sticky = s.sticky.upd num 0 (· ||| 2 ^ b) := rfl
@[simp] theorem State.setFlag_stickyCtr (s : State) (num b n : Nat) :
    (s.setFlag num b n).stickyCtr = s.stickyCtr.upd (num * 32 + b) 0 (· + (1 + n)) := rfl

end Sys2Proof.Machine
end

