-- ==== Sys2Proof/Laws/Frames.lean ====
section
/-!
SUPPORT. Frames of the shared operations: an LGM access in STANDBY commands the rails of steps 1 and 2; the event recorder changes its own
state, its counters and what an LGM access changes; an answer of the dictionary changes the outbox, the dictionary's state and what an LGM
access changes; the answered state of a COMMAND changes these only.
-/

namespace Sys2Proof.Machine

/-- An operation on rails changes only the power block and the outbox. -/
theorem State.foldl_rails {α : Type} (l : List α) (f : State → α → State)
    (h : ∀ s a, ∃ o p, f s a = { s with out := o, pwr := p }) (s : State) : ∃ o p, l.foldl f s = { s with out := o, pwr := p } := by
  induction l generalizing s with
  | nil => exact ⟨s.out, s.pwr, rfl⟩
  | cons a l ih =>
    obtain ⟨o, p, e⟩ := h s a
    obtain ⟨o', p', e'⟩ := ih (f s a)
    exact ⟨o', p', by rw [List.foldl_cons, e', e]⟩

theorem State.operation_eq (s : State) (i v : Nat) : ∃ o p, s.operation i v = { s with out := o, pwr := p } := by
  unfold State.operation
  dsimp only
  split
  · exact ⟨s.out, _, rfl⟩
  · exact ⟨_, s.pwr, rfl⟩

theorem State.raiseStep_eq (s : State) (n : Nat) : ∃ o p, s.raiseStep n = { s with out := o, pwr := p } := by
  unfold State.raiseStep
  dsimp only
  obtain ⟨o, p, e⟩ := State.foldl_rails (s.stepRails n) (fun s r =>
    let s := (s.entriesOf r).foldl (fun s i => s.operation i 0x80) s
    if (s.rail r).state = .failed || s.railUnbound r then s else s.setRail r .up) (fun s r => by
      obtain ⟨o, p, e⟩ := State.foldl_rails (s.entriesOf r) (fun s i => s.operation i 0x80) (fun s i => s.operation_eq i 0x80) s
      dsimp only
      rw [e]
      split
      · exact ⟨o, p, rfl⟩
      · exact ⟨o, _, rfl⟩) s
  exact ⟨o, { p with step := n }, by rw [e]; rfl⟩

/-- What an operation may change: everything but the named fields is as before. -/
theorem State.touchLgm_eq (s : State) : ∃ o p, s.touchLgm = { s with out := o, pwr := p } := by
  unfold State.touchLgm
  split
  · dsimp only
    split
    · obtain ⟨o, p, e⟩ := s.raiseStep_eq 1
      obtain ⟨o', p', e'⟩ := (s.raiseStep 1).raiseStep_eq 2
      exact ⟨o', { p' with lgmAccess := some s.now }, by rw [e', e]; rfl⟩
    · exact ⟨s.out, _, rfl⟩
  · exact ⟨s.out, s.pwr, rfl⟩

/-- Outside STANDBY an LGM access commands no rail. -/
theorem State.touchLgm_awake {s : State} (h : s.mode ≠ .standby) : s.touchLgm = s := if_neg h

theorem State.emitMgt_eq (s : State) (a : Out) : ∃ o p, s.emitMgt a = { s with out := o, pwr := p } := by
  obtain ⟨o, p, e⟩ := s.touchLgm_eq
  exact ⟨a :: o, p, by rw [State.emitMgt, e]; rfl⟩

theorem State.dropRecord_eq (s : State) (b : Bool) : ∃ c e, s.dropRecord b = { s with ctr := c, evr := e } := ⟨_, _, rfl⟩

theorem State.placeEvent_eq (s : State) (r : EvtRec) : ∃ o p c e, s.placeEvent r = { s with out := o, pwr := p, ctr := c, evr := e } := by
  obtain ⟨o, p, hp⟩ := s.touchLgm_eq
  unfold State.placeEvent
  rw [hp]
  dsimp only
  split
  · split
    · exact ⟨o, p, s.ctr, _, rfl⟩
    · split
      · exact ⟨o, p, s.ctr, _, rfl⟩
      · exact ⟨o, p, _, _, rfl⟩
  · split
    · exact ⟨o, p, s.ctr, _, rfl⟩
    · exact ⟨o, p, _, _, rfl⟩

theorem State.recordWith_eq (s : State) (code inst sev : Nat) (priv fault : Bool) (args : List Nat) :
    ∃ o p c e, s.recordWith code inst sev priv fault args = { s with out := o, pwr := p, ctr := c, evr := e } := by
  unfold State.recordWith
  dsimp only
  split
  · exact s.placeEvent_eq _
  · split
    · exact ⟨s.out, s.pwr, s.ctr, s.evr, rfl⟩
    · split
      · exact ⟨s.out, s.pwr, _, _, rfl⟩
      · split
        · exact ⟨s.out, s.pwr, _, _, rfl⟩
        · obtain ⟨o, p, c, e, h⟩ := State.placeEvent_eq _ _
          exact ⟨o, p, c, e, h⟩

theorem State.event_eq (s : State) (code inst : Nat) (args : List Nat) :
    ∃ o p c e, s.event code inst args = { s with out := o, pwr := p, ctr := c, evr := e } := s.recordWith_eq _ _ _ _ _ _

/-- Outside STANDBY an event emits nothing. -/
theorem State.event_out {s : State} (h : s.mode ≠ .standby) (code inst : Nat) (args : List Nat) : (s.event code inst args).out = s.out := by
  have hp : ∀ t : State, t.mode ≠ .standby → ∀ r, (t.placeEvent r).out = t.out := by
    intro t ht r
    unfold State.placeEvent
    rw [State.touchLgm_awake ht]
    dsimp only
    (repeat' split) <;> rfl
  unfold State.event State.recordWith
  dsimp only
  (repeat' split) <;> first
    | rfl
    | exact hp s h _
    | exact Eq.trans (hp (s.modEvr _) h _) rfl

theorem State.countRecord_eq (s : State) (k : Nat) (rx : Bool) : ∃ o d p, s.countRecord k rx = { s with out := o, dxe := d, pwr := p } := by
  unfold State.countRecord
  extract_lets t r w
  split
  · obtain ⟨o, p, e⟩ := s.emitMgt_eq (.keyUpdate k)
    rw [e]
    exact ⟨o, _, p, rfl⟩
  · exact ⟨s.out, _, s.pwr, rfl⟩

theorem State.sendDict_eq (s : State) (k : Nat) (m : Bytes) : ∃ o d p, s.sendDict k m = { s with out := o, dxe := d, pwr := p } := by
  unfold State.sendDict
  dsimp only
  split
  · rename_i h
    rw [if_neg (by omega)]
    exact ⟨_, _, s.pwr, rfl⟩
  · rename_i h
    rw [if_pos (by omega)]
    obtain ⟨o, p, e⟩ := s.emitMgt_eq (.dict k m)
    rw [e]
    obtain ⟨o', d', p', e'⟩ := State.countRecord_eq { s with out := o, pwr := p } k false
    rw [e']
    exact ⟨o', d', p', rfl⟩

theorem State.respond_eq (s : State) (r : Req) (ty : MsgType) (st q : Nat) (g : Bool) (b : Bytes) :
    ∃ o d p, s.respond r ty st q g b = { s with out := o, dxe := d, pwr := p } := by
  unfold State.respond
  dsimp only
  generalize message _ _ _ _ _ _ _ _ _ _ = m
  obtain ⟨o, d, p, h⟩ := s.sendDict_eq r.slot m
  rw [h]
  exact ⟨o, _, p, rfl⟩

theorem State.levelWrite_eq (s : State) (k n i : Nat) : ∃ o p c e, s.levelWrite k n i = { s with out := o, pwr := p, ctr := c, evr := e } := by
  unfold State.levelWrite
  dsimp only
  split
  · exact s.event_eq _ _ _
  · exact ⟨s.out, s.pwr, s.ctr, s.evr, rfl⟩

theorem State.takeRecord_eq (s : State) (k : Nat) : ∃ o d p, s.takeRecord k = { s with out := o, dxe := d, pwr := p } := by
  unfold State.takeRecord
  dsimp only
  split
  · obtain ⟨o, d, p, e⟩ := State.countRecord_eq (s.modSession k fun t => { t with requests := t.requests + 1, lastRecord := s.now }) k true
    rw [e]
    exact ⟨o, d, p, rfl⟩
  · exact ⟨s.out, _, s.pwr, rfl⟩

theorem State.arrived_eq (s : State) (r : Req) (ty : MsgType) : ∃ o d p, s.arrive r ty = { s with out := o, dxe := d, pwr := p } := by
  unfold State.arrive
  dsimp only
  obtain ⟨o, d, p, h⟩ := s.takeRecord_eq r.slot
  rw [h]
  split
  · exact ⟨o, _, p, rfl⟩
  · exact ⟨o, d, p, rfl⟩

theorem State.answered_eq (s : State) (r : Req) :
    ∃ o d p c e, s.answered r = { s with out := o, dxe := d, pwr := p, ctr := c, evr := e } := by
  unfold State.answered
  dsimp only
  obtain ⟨o1, d1, p1, h1⟩ := s.arrived_eq r .command
  rw [h1]
  generalize nextOpSeq _ = q
  obtain ⟨o, p, h2⟩ := State.touchLgm_eq { s with out := o1, dxe := d1, pwr := p1 }
  rw [h2]
  obtain ⟨o2, d2, p2, h3⟩ := State.respond_eq (State.modDxe { s with out := o, dxe := d1, pwr := p } fun d =>
    { d with
      opSeqs := d.opSeqs.set (s.namedBy r) q
      results := d.results.set (s.namedBy r) { state := .pending, opSeq := q, slot := r.slot, arg := r.args } }) r .command Status.ok q false []
  rw [h3]
  obtain ⟨o3, p3, c, e, h4⟩ := State.levelWrite_eq { (State.modDxe { s with out := o, dxe := d1, pwr := p } fun d =>
    { d with
      opSeqs := d.opSeqs.set (s.namedBy r) q
      results := d.results.set (s.namedBy r) { state := .pending, opSeq := q, slot := r.slot, arg := r.args } }) with out := o2, dxe := d2, pwr := p2 }
    r.slot (s.namedBy r) (itemAt r.body).2
  rw [h4]
  exact ⟨o3, d2, p3, c, e, rfl⟩


/-! ### event -/

@[simp] theorem State.event_now (s : State) (code inst : Nat) (args : List Nat) : (s.event code inst args).now = s.now := by
  obtain ⟨_, _, _, _, h⟩ := s.event_eq code inst args
  rw [h]
@[simp] theorem State.event_pending (s : State) (code inst : Nat) (args : List Nat) : (s.event code inst args).pending = s.pending := by
  obtain ⟨_, _, _, _, h⟩ := s.event_eq code inst args
  rw [h]
@[simp] theorem State.event_paused (s : State) (code inst : Nat) (args : List Nat) : (s.event code inst args).paused = s.paused := by
  obtain ⟨_, _, _, _, h⟩ := s.event_eq code inst args
  rw [h]
@[simp] theorem State.event_freeCount (s : State) (code inst : Nat) (args : List Nat) : (s.event code inst args).freeCount = s.freeCount := by
  obtain ⟨_, _, _, _, h⟩ := s.event_eq code inst args
  rw [h]
@[simp] theorem State.event_mode (s : State) (code inst : Nat) (args : List Nat) : (s.event code inst args).mode = s.mode := by
  obtain ⟨_, _, _, _, h⟩ := s.event_eq code inst args
  rw [h]
@[simp] theorem State.event_cfg (s : State) (code inst : Nat) (args : List Nat) : (s.event code inst args).cfg = s.cfg := by
  obtain ⟨_, _, _, _, h⟩ := s.event_eq code inst args
  rw [h]
@[simp] theorem State.event_staged (s : State) (code inst : Nat) (args : List Nat) : (s.event code inst args).staged = s.staged := by
  obtain ⟨_, _, _, _, h⟩ := s.event_eq code inst args
  rw [h]
@[simp] theorem State.event_standby (s : State) (code inst : Nat) (args : List Nat) : (s.event code inst args).standby = s.standby := by
  obtain ⟨_, _, _, _, h⟩ := s.event_eq code inst args
  rw [h]
@[simp] theorem State.event_sticky (s : State) (code inst : Nat) (args : List Nat) : (s.event code inst args).sticky = s.sticky := by
  obtain ⟨_, _, _, _, h⟩ := s.event_eq code inst args
  rw [h]
@[simp] theorem State.event_stickyCtr (s : State) (code inst : Nat) (args : List Nat) : (s.event code inst args).stickyCtr = s.stickyCtr := by
  obtain ⟨_, _, _, _, h⟩ := s.event_eq code inst args
  rw [h]
@[simp] theorem State.event_dxe (s : State) (code inst : Nat) (args : List Nat) : (s.event code inst args).dxe = s.dxe := by
  obtain ⟨_, _, _, _, h⟩ := s.event_eq code inst args
  rw [h]
@[simp] theorem State.event_reg (s : State) (code inst : Nat) (args : List Nat) : (s.event code inst args).reg = s.reg := by
  obtain ⟨_, _, _, _, h⟩ := s.event_eq code inst args
  rw [h]
@[simp] theorem State.event_xpt (s : State) (code inst : Nat) (args : List Nat) : (s.event code inst args).xpt = s.xpt := by
  obtain ⟨_, _, _, _, h⟩ := s.event_eq code inst args
  rw [h]
@[simp] theorem State.event_pde (s : State) (code inst : Nat) (args : List Nat) : (s.event code inst args).pde = s.pde := by
  obtain ⟨_, _, _, _, h⟩ := s.event_eq code inst args
  rw [h]
@[simp] theorem State.event_tmv (s : State) (code inst : Nat) (args : List Nat) : (s.event code inst args).tmv = s.tmv := by
  obtain ⟨_, _, _, _, h⟩ := s.event_eq code inst args
  rw [h]
@[simp] theorem State.event_mir (s : State) (code inst : Nat) (args : List Nat) : (s.event code inst args).mir = s.mir := by
  obtain ⟨_, _, _, _, h⟩ := s.event_eq code inst args
  rw [h]
@[simp] theorem State.event_callerPairs (s : State) (code inst : Nat) (args : List Nat) : (s.event code inst args).callerPairs = s.callerPairs := by
  obtain ⟨_, _, _, _, h⟩ := s.event_eq code inst args
  rw [h]
@[simp] theorem State.event_fab (s : State) (code inst : Nat) (args : List Nat) : (s.event code inst args).fab = s.fab := by
  obtain ⟨_, _, _, _, h⟩ := s.event_eq code inst args
  rw [h]
@[simp] theorem State.event_desig (s : State) (code inst : Nat) (args : List Nat) : (s.event code inst args).desig = s.desig := by
  obtain ⟨_, _, _, _, h⟩ := s.event_eq code inst args
  rw [h]
@[simp] theorem State.event_dram (s : State) (code inst : Nat) (args : List Nat) : (s.event code inst args).dram = s.dram := by
  obtain ⟨_, _, _, _, h⟩ := s.event_eq code inst args
  rw [h]
@[simp] theorem State.event_flash (s : State) (code inst : Nat) (args : List Nat) : (s.event code inst args).flash = s.flash := by
  obtain ⟨_, _, _, _, h⟩ := s.event_eq code inst args
  rw [h]
@[simp] theorem State.event_sec (s : State) (code inst : Nat) (args : List Nat) : (s.event code inst args).sec = s.sec := by
  obtain ⟨_, _, _, _, h⟩ := s.event_eq code inst args
  rw [h]
@[simp] theorem State.event_fco (s : State) (code inst : Nat) (args : List Nat) : (s.event code inst args).fco = s.fco := by
  obtain ⟨_, _, _, _, h⟩ := s.event_eq code inst args
  rw [h]
@[simp] theorem State.event_store (s : State) (code inst : Nat) (args : List Nat) : (s.event code inst args).store = s.store := by
  obtain ⟨_, _, _, _, h⟩ := s.event_eq code inst args
  rw [h]
@[simp] theorem State.event_rst (s : State) (code inst : Nat) (args : List Nat) : (s.event code inst args).rst = s.rst := by
  obtain ⟨_, _, _, _, h⟩ := s.event_eq code inst args
  rw [h]
@[simp] theorem State.event_thermal (s : State) (code inst : Nat) (args : List Nat) : (s.event code inst args).thermal = s.thermal := by
  obtain ⟨_, _, _, _, h⟩ := s.event_eq code inst args
  rw [h]

/-! ### touchLgm -/

@[simp] theorem State.touchLgm_now (s : State) : (s.touchLgm).now = s.now := by
  obtain ⟨_, _, h⟩ := s.touchLgm_eq
  rw [h]
@[simp] theorem State.touchLgm_pending (s : State) : (s.touchLgm).pending = s.pending := by
  obtain ⟨_, _, h⟩ := s.touchLgm_eq
  rw [h]
@[simp] theorem State.touchLgm_paused (s : State) : (s.touchLgm).paused = s.paused := by
  obtain ⟨_, _, h⟩ := s.touchLgm_eq
  rw [h]
@[simp] theorem State.touchLgm_freeCount (s : State) : (s.touchLgm).freeCount = s.freeCount := by
  obtain ⟨_, _, h⟩ := s.touchLgm_eq
  rw [h]
@[simp] theorem State.touchLgm_mode (s : State) : (s.touchLgm).mode = s.mode := by
  obtain ⟨_, _, h⟩ := s.touchLgm_eq
  rw [h]
@[simp] theorem State.touchLgm_cfg (s : State) : (s.touchLgm).cfg = s.cfg := by
  obtain ⟨_, _, h⟩ := s.touchLgm_eq
  rw [h]
@[simp] theorem State.touchLgm_staged (s : State) : (s.touchLgm).staged = s.staged := by
  obtain ⟨_, _, h⟩ := s.touchLgm_eq
  rw [h]
@[simp] theorem State.touchLgm_standby (s : State) : (s.touchLgm).standby = s.standby := by
  obtain ⟨_, _, h⟩ := s.touchLgm_eq
  rw [h]
@[simp] theorem State.touchLgm_ctr (s : State) : (s.touchLgm).ctr = s.ctr := by
  obtain ⟨_, _, h⟩ := s.touchLgm_eq
  rw [h]
@[simp] theorem State.touchLgm_sticky (s : State) : (s.touchLgm).sticky = s.sticky := by
  obtain ⟨_, _, h⟩ := s.touchLgm_eq
  rw [h]
@[simp] theorem State.touchLgm_stickyCtr (s : State) : (s.touchLgm).stickyCtr = s.stickyCtr := by
  obtain ⟨_, _, h⟩ := s.touchLgm_eq
  rw [h]
@[simp] theorem State.touchLgm_dxe (s : State) : (s.touchLgm).dxe = s.dxe := by
  obtain ⟨_, _, h⟩ := s.touchLgm_eq
  rw [h]
@[simp] theorem State.touchLgm_reg (s : State) : (s.touchLgm).reg = s.reg := by
  obtain ⟨_, _, h⟩ := s.touchLgm_eq
  rw [h]
@[simp] theorem State.touchLgm_xpt (s : State) : (s.touchLgm).xpt = s.xpt := by
  obtain ⟨_, _, h⟩ := s.touchLgm_eq
  rw [h]
@[simp] theorem State.touchLgm_pde (s : State) : (s.touchLgm).pde = s.pde := by
  obtain ⟨_, _, h⟩ := s.touchLgm_eq
  rw [h]
@[simp] theorem State.touchLgm_tmv (s : State) : (s.touchLgm).tmv = s.tmv := by
  obtain ⟨_, _, h⟩ := s.touchLgm_eq
  rw [h]
@[simp] theorem State.touchLgm_mir (s : State) : (s.touchLgm).mir = s.mir := by
  obtain ⟨_, _, h⟩ := s.touchLgm_eq
  rw [h]
@[simp] theorem State.touchLgm_callerPairs (s : State) : (s.touchLgm).callerPairs = s.callerPairs := by
  obtain ⟨_, _, h⟩ := s.touchLgm_eq
  rw [h]
@[simp] theorem State.touchLgm_fab (s : State) : (s.touchLgm).fab = s.fab := by
  obtain ⟨_, _, h⟩ := s.touchLgm_eq
  rw [h]
@[simp] theorem State.touchLgm_desig (s : State) : (s.touchLgm).desig = s.desig := by
  obtain ⟨_, _, h⟩ := s.touchLgm_eq
  rw [h]
@[simp] theorem State.touchLgm_dram (s : State) : (s.touchLgm).dram = s.dram := by
  obtain ⟨_, _, h⟩ := s.touchLgm_eq
  rw [h]
@[simp] theorem State.touchLgm_flash (s : State) : (s.touchLgm).flash = s.flash := by
  obtain ⟨_, _, h⟩ := s.touchLgm_eq
  rw [h]
@[simp] theorem State.touchLgm_sec (s : State) : (s.touchLgm).sec = s.sec := by
  obtain ⟨_, _, h⟩ := s.touchLgm_eq
  rw [h]
@[simp] theorem State.touchLgm_fco (s : State) : (s.touchLgm).fco = s.fco := by
  obtain ⟨_, _, h⟩ := s.touchLgm_eq
  rw [h]
@[simp] theorem State.touchLgm_evr (s : State) : (s.touchLgm).evr = s.evr := by
  obtain ⟨_, _, h⟩ := s.touchLgm_eq
  rw [h]
@[simp] theorem State.touchLgm_store (s : State) : (s.touchLgm).store = s.store := by
  obtain ⟨_, _, h⟩ := s.touchLgm_eq
  rw [h]
@[simp] theorem State.touchLgm_rst (s : State) : (s.touchLgm).rst = s.rst := by
  obtain ⟨_, _, h⟩ := s.touchLgm_eq
  rw [h]
@[simp] theorem State.touchLgm_thermal (s : State) : (s.touchLgm).thermal = s.thermal := by
  obtain ⟨_, _, h⟩ := s.touchLgm_eq
  rw [h]

/-! ### respond -/

@[simp] theorem State.respond_now (s : State) (r : Req) (ty : MsgType) (st q : Nat) (b : Bool) (m : Bytes) : (s.respond r ty st q b m).now = s.now := by
  obtain ⟨_, _, _, h⟩ := s.respond_eq r ty st q b m
  rw [h]
@[simp] theorem State.respond_pending (s : State) (r : Req) (ty : MsgType) (st q : Nat) (b : Bool) (m : Bytes) : (s.respond r ty st q b m).pending = s.pending := by
  obtain ⟨_, _, _, h⟩ := s.respond_eq r ty st q b m
  rw [h]
@[simp] theorem State.respond_paused (s : State) (r : Req) (ty : MsgType) (st q : Nat) (b : Bool) (m : Bytes) : (s.respond r ty st q b m).paused = s.paused := by
  obtain ⟨_, _, _, h⟩ := s.respond_eq r ty st q b m
  rw [h]
@[simp] theorem State.respond_freeCount (s : State) (r : Req) (ty : MsgType) (st q : Nat) (b : Bool) (m : Bytes) : (s.respond r ty st q b m).freeCount = s.freeCount := by
  obtain ⟨_, _, _, h⟩ := s.respond_eq r ty st q b m
  rw [h]
@[simp] theorem State.respond_mode (s : State) (r : Req) (ty : MsgType) (st q : Nat) (b : Bool) (m : Bytes) : (s.respond r ty st q b m).mode = s.mode := by
  obtain ⟨_, _, _, h⟩ := s.respond_eq r ty st q b m
  rw [h]
@[simp] theorem State.respond_cfg (s : State) (r : Req) (ty : MsgType) (st q : Nat) (b : Bool) (m : Bytes) : (s.respond r ty st q b m).cfg = s.cfg := by
  obtain ⟨_, _, _, h⟩ := s.respond_eq r ty st q b m
  rw [h]
@[simp] theorem State.respond_staged (s : State) (r : Req) (ty : MsgType) (st q : Nat) (b : Bool) (m : Bytes) : (s.respond r ty st q b m).staged = s.staged := by
  obtain ⟨_, _, _, h⟩ := s.respond_eq r ty st q b m
  rw [h]
@[simp] theorem State.respond_standby (s : State) (r : Req) (ty : MsgType) (st q : Nat) (b : Bool) (m : Bytes) : (s.respond r ty st q b m).standby = s.standby := by
  obtain ⟨_, _, _, h⟩ := s.respond_eq r ty st q b m
  rw [h]
@[simp] theorem State.respond_ctr (s : State) (r : Req) (ty : MsgType) (st q : Nat) (b : Bool) (m : Bytes) : (s.respond r ty st q b m).ctr = s.ctr := by
  obtain ⟨_, _, _, h⟩ := s.respond_eq r ty st q b m
  rw [h]
@[simp] theorem State.respond_sticky (s : State) (r : Req) (ty : MsgType) (st q : Nat) (b : Bool) (m : Bytes) : (s.respond r ty st q b m).sticky = s.sticky := by
  obtain ⟨_, _, _, h⟩ := s.respond_eq r ty st q b m
  rw [h]
@[simp] theorem State.respond_stickyCtr (s : State) (r : Req) (ty : MsgType) (st q : Nat) (b : Bool) (m : Bytes) : (s.respond r ty st q b m).stickyCtr = s.stickyCtr := by
  obtain ⟨_, _, _, h⟩ := s.respond_eq r ty st q b m
  rw [h]
@[simp] theorem State.respond_reg (s : State) (r : Req) (ty : MsgType) (st q : Nat) (b : Bool) (m : Bytes) : (s.respond r ty st q b m).reg = s.reg := by
  obtain ⟨_, _, _, h⟩ := s.respond_eq r ty st q b m
  rw [h]
@[simp] theorem State.respond_xpt (s : State) (r : Req) (ty : MsgType) (st q : Nat) (b : Bool) (m : Bytes) : (s.respond r ty st q b m).xpt = s.xpt := by
  obtain ⟨_, _, _, h⟩ := s.respond_eq r ty st q b m
  rw [h]
@[simp] theorem State.respond_pde (s : State) (r : Req) (ty : MsgType) (st q : Nat) (b : Bool) (m : Bytes) : (s.respond r ty st q b m).pde = s.pde := by
  obtain ⟨_, _, _, h⟩ := s.respond_eq r ty st q b m
  rw [h]
@[simp] theorem State.respond_tmv (s : State) (r : Req) (ty : MsgType) (st q : Nat) (b : Bool) (m : Bytes) : (s.respond r ty st q b m).tmv = s.tmv := by
  obtain ⟨_, _, _, h⟩ := s.respond_eq r ty st q b m
  rw [h]
@[simp] theorem State.respond_mir (s : State) (r : Req) (ty : MsgType) (st q : Nat) (b : Bool) (m : Bytes) : (s.respond r ty st q b m).mir = s.mir := by
  obtain ⟨_, _, _, h⟩ := s.respond_eq r ty st q b m
  rw [h]
@[simp] theorem State.respond_callerPairs (s : State) (r : Req) (ty : MsgType) (st q : Nat) (b : Bool) (m : Bytes) : (s.respond r ty st q b m).callerPairs = s.callerPairs := by
  obtain ⟨_, _, _, h⟩ := s.respond_eq r ty st q b m
  rw [h]
@[simp] theorem State.respond_fab (s : State) (r : Req) (ty : MsgType) (st q : Nat) (b : Bool) (m : Bytes) : (s.respond r ty st q b m).fab = s.fab := by
  obtain ⟨_, _, _, h⟩ := s.respond_eq r ty st q b m
  rw [h]
@[simp] theorem State.respond_desig (s : State) (r : Req) (ty : MsgType) (st q : Nat) (b : Bool) (m : Bytes) : (s.respond r ty st q b m).desig = s.desig := by
  obtain ⟨_, _, _, h⟩ := s.respond_eq r ty st q b m
  rw [h]
@[simp] theorem State.respond_dram (s : State) (r : Req) (ty : MsgType) (st q : Nat) (b : Bool) (m : Bytes) : (s.respond r ty st q b m).dram = s.dram := by
  obtain ⟨_, _, _, h⟩ := s.respond_eq r ty st q b m
  rw [h]
@[simp] theorem State.respond_flash (s : State) (r : Req) (ty : MsgType) (st q : Nat) (b : Bool) (m : Bytes) : (s.respond r ty st q b m).flash = s.flash := by
  obtain ⟨_, _, _, h⟩ := s.respond_eq r ty st q b m
  rw [h]
@[simp] theorem State.respond_sec (s : State) (r : Req) (ty : MsgType) (st q : Nat) (b : Bool) (m : Bytes) : (s.respond r ty st q b m).sec = s.sec := by
  obtain ⟨_, _, _, h⟩ := s.respond_eq r ty st q b m
  rw [h]
@[simp] theorem State.respond_fco (s : State) (r : Req) (ty : MsgType) (st q : Nat) (b : Bool) (m : Bytes) : (s.respond r ty st q b m).fco = s.fco := by
  obtain ⟨_, _, _, h⟩ := s.respond_eq r ty st q b m
  rw [h]
@[simp] theorem State.respond_evr (s : State) (r : Req) (ty : MsgType) (st q : Nat) (b : Bool) (m : Bytes) : (s.respond r ty st q b m).evr = s.evr := by
  obtain ⟨_, _, _, h⟩ := s.respond_eq r ty st q b m
  rw [h]
@[simp] theorem State.respond_store (s : State) (r : Req) (ty : MsgType) (st q : Nat) (b : Bool) (m : Bytes) : (s.respond r ty st q b m).store = s.store := by
  obtain ⟨_, _, _, h⟩ := s.respond_eq r ty st q b m
  rw [h]
@[simp] theorem State.respond_rst (s : State) (r : Req) (ty : MsgType) (st q : Nat) (b : Bool) (m : Bytes) : (s.respond r ty st q b m).rst = s.rst := by
  obtain ⟨_, _, _, h⟩ := s.respond_eq r ty st q b m
  rw [h]
@[simp] theorem State.respond_thermal (s : State) (r : Req) (ty : MsgType) (st q : Nat) (b : Bool) (m : Bytes) : (s.respond r ty st q b m).thermal = s.thermal := by
  obtain ⟨_, _, _, h⟩ := s.respond_eq r ty st q b m
  rw [h]

/-! ### levelWrite -/

@[simp] theorem State.levelWrite_now (s : State) (k n i : Nat) : (s.levelWrite k n i).now = s.now := by
  obtain ⟨_, _, _, _, h⟩ := s.levelWrite_eq k n i
  rw [h]
@[simp] theorem State.levelWrite_pending (s : State) (k n i : Nat) : (s.levelWrite k n i).pending = s.pending := by
  obtain ⟨_, _, _, _, h⟩ := s.levelWrite_eq k n i
  rw [h]
@[simp] theorem State.levelWrite_paused (s : State) (k n i : Nat) : (s.levelWrite k n i).paused = s.paused := by
  obtain ⟨_, _, _, _, h⟩ := s.levelWrite_eq k n i
  rw [h]
@[simp] theorem State.levelWrite_freeCount (s : State) (k n i : Nat) : (s.levelWrite k n i).freeCount = s.freeCount := by
  obtain ⟨_, _, _, _, h⟩ := s.levelWrite_eq k n i
  rw [h]
@[simp] theorem State.levelWrite_mode (s : State) (k n i : Nat) : (s.levelWrite k n i).mode = s.mode := by
  obtain ⟨_, _, _, _, h⟩ := s.levelWrite_eq k n i
  rw [h]
@[simp] theorem State.levelWrite_cfg (s : State) (k n i : Nat) : (s.levelWrite k n i).cfg = s.cfg := by
  obtain ⟨_, _, _, _, h⟩ := s.levelWrite_eq k n i
  rw [h]
@[simp] theorem State.levelWrite_staged (s : State) (k n i : Nat) : (s.levelWrite k n i).staged = s.staged := by
  obtain ⟨_, _, _, _, h⟩ := s.levelWrite_eq k n i
  rw [h]
@[simp] theorem State.levelWrite_standby (s : State) (k n i : Nat) : (s.levelWrite k n i).standby = s.standby := by
  obtain ⟨_, _, _, _, h⟩ := s.levelWrite_eq k n i
  rw [h]
@[simp] theorem State.levelWrite_sticky (s : State) (k n i : Nat) : (s.levelWrite k n i).sticky = s.sticky := by
  obtain ⟨_, _, _, _, h⟩ := s.levelWrite_eq k n i
  rw [h]
@[simp] theorem State.levelWrite_stickyCtr (s : State) (k n i : Nat) : (s.levelWrite k n i).stickyCtr = s.stickyCtr := by
  obtain ⟨_, _, _, _, h⟩ := s.levelWrite_eq k n i
  rw [h]
@[simp] theorem State.levelWrite_dxe (s : State) (k n i : Nat) : (s.levelWrite k n i).dxe = s.dxe := by
  obtain ⟨_, _, _, _, h⟩ := s.levelWrite_eq k n i
  rw [h]
@[simp] theorem State.levelWrite_reg (s : State) (k n i : Nat) : (s.levelWrite k n i).reg = s.reg := by
  obtain ⟨_, _, _, _, h⟩ := s.levelWrite_eq k n i
  rw [h]
@[simp] theorem State.levelWrite_xpt (s : State) (k n i : Nat) : (s.levelWrite k n i).xpt = s.xpt := by
  obtain ⟨_, _, _, _, h⟩ := s.levelWrite_eq k n i
  rw [h]
@[simp] theorem State.levelWrite_pde (s : State) (k n i : Nat) : (s.levelWrite k n i).pde = s.pde := by
  obtain ⟨_, _, _, _, h⟩ := s.levelWrite_eq k n i
  rw [h]
@[simp] theorem State.levelWrite_tmv (s : State) (k n i : Nat) : (s.levelWrite k n i).tmv = s.tmv := by
  obtain ⟨_, _, _, _, h⟩ := s.levelWrite_eq k n i
  rw [h]
@[simp] theorem State.levelWrite_mir (s : State) (k n i : Nat) : (s.levelWrite k n i).mir = s.mir := by
  obtain ⟨_, _, _, _, h⟩ := s.levelWrite_eq k n i
  rw [h]
@[simp] theorem State.levelWrite_callerPairs (s : State) (k n i : Nat) : (s.levelWrite k n i).callerPairs = s.callerPairs := by
  obtain ⟨_, _, _, _, h⟩ := s.levelWrite_eq k n i
  rw [h]
@[simp] theorem State.levelWrite_fab (s : State) (k n i : Nat) : (s.levelWrite k n i).fab = s.fab := by
  obtain ⟨_, _, _, _, h⟩ := s.levelWrite_eq k n i
  rw [h]
@[simp] theorem State.levelWrite_desig (s : State) (k n i : Nat) : (s.levelWrite k n i).desig = s.desig := by
  obtain ⟨_, _, _, _, h⟩ := s.levelWrite_eq k n i
  rw [h]
@[simp] theorem State.levelWrite_dram (s : State) (k n i : Nat) : (s.levelWrite k n i).dram = s.dram := by
  obtain ⟨_, _, _, _, h⟩ := s.levelWrite_eq k n i
  rw [h]
@[simp] theorem State.levelWrite_flash (s : State) (k n i : Nat) : (s.levelWrite k n i).flash = s.flash := by
  obtain ⟨_, _, _, _, h⟩ := s.levelWrite_eq k n i
  rw [h]
@[simp] theorem State.levelWrite_sec (s : State) (k n i : Nat) : (s.levelWrite k n i).sec = s.sec := by
  obtain ⟨_, _, _, _, h⟩ := s.levelWrite_eq k n i
  rw [h]
@[simp] theorem State.levelWrite_fco (s : State) (k n i : Nat) : (s.levelWrite k n i).fco = s.fco := by
  obtain ⟨_, _, _, _, h⟩ := s.levelWrite_eq k n i
  rw [h]
@[simp] theorem State.levelWrite_store (s : State) (k n i : Nat) : (s.levelWrite k n i).store = s.store := by
  obtain ⟨_, _, _, _, h⟩ := s.levelWrite_eq k n i
  rw [h]
@[simp] theorem State.levelWrite_rst (s : State) (k n i : Nat) : (s.levelWrite k n i).rst = s.rst := by
  obtain ⟨_, _, _, _, h⟩ := s.levelWrite_eq k n i
  rw [h]
@[simp] theorem State.levelWrite_thermal (s : State) (k n i : Nat) : (s.levelWrite k n i).thermal = s.thermal := by
  obtain ⟨_, _, _, _, h⟩ := s.levelWrite_eq k n i
  rw [h]

/-! ### arrive -/

@[simp] theorem State.arrive_now (s : State) (r : Req) (ty : MsgType) : (s.arrive r ty).now = s.now := by
  obtain ⟨_, _, _, h⟩ := s.arrived_eq r ty
  rw [h]
@[simp] theorem State.arrive_pending (s : State) (r : Req) (ty : MsgType) : (s.arrive r ty).pending = s.pending := by
  obtain ⟨_, _, _, h⟩ := s.arrived_eq r ty
  rw [h]
@[simp] theorem State.arrive_paused (s : State) (r : Req) (ty : MsgType) : (s.arrive r ty).paused = s.paused := by
  obtain ⟨_, _, _, h⟩ := s.arrived_eq r ty
  rw [h]
@[simp] theorem State.arrive_freeCount (s : State) (r : Req) (ty : MsgType) : (s.arrive r ty).freeCount = s.freeCount := by
  obtain ⟨_, _, _, h⟩ := s.arrived_eq r ty
  rw [h]
@[simp] theorem State.arrive_cfg (s : State) (r : Req) (ty : MsgType) : (s.arrive r ty).cfg = s.cfg := by
  obtain ⟨_, _, _, h⟩ := s.arrived_eq r ty
  rw [h]
@[simp] theorem State.arrive_staged (s : State) (r : Req) (ty : MsgType) : (s.arrive r ty).staged = s.staged := by
  obtain ⟨_, _, _, h⟩ := s.arrived_eq r ty
  rw [h]
@[simp] theorem State.arrive_standby (s : State) (r : Req) (ty : MsgType) : (s.arrive r ty).standby = s.standby := by
  obtain ⟨_, _, _, h⟩ := s.arrived_eq r ty
  rw [h]
@[simp] theorem State.arrive_ctr (s : State) (r : Req) (ty : MsgType) : (s.arrive r ty).ctr = s.ctr := by
  obtain ⟨_, _, _, h⟩ := s.arrived_eq r ty
  rw [h]
@[simp] theorem State.arrive_sticky (s : State) (r : Req) (ty : MsgType) : (s.arrive r ty).sticky = s.sticky := by
  obtain ⟨_, _, _, h⟩ := s.arrived_eq r ty
  rw [h]
@[simp] theorem State.arrive_stickyCtr (s : State) (r : Req) (ty : MsgType) : (s.arrive r ty).stickyCtr = s.stickyCtr := by
  obtain ⟨_, _, _, h⟩ := s.arrived_eq r ty
  rw [h]
@[simp] theorem State.arrive_reg (s : State) (r : Req) (ty : MsgType) : (s.arrive r ty).reg = s.reg := by
  obtain ⟨_, _, _, h⟩ := s.arrived_eq r ty
  rw [h]
@[simp] theorem State.arrive_xpt (s : State) (r : Req) (ty : MsgType) : (s.arrive r ty).xpt = s.xpt := by
  obtain ⟨_, _, _, h⟩ := s.arrived_eq r ty
  rw [h]
@[simp] theorem State.arrive_pde (s : State) (r : Req) (ty : MsgType) : (s.arrive r ty).pde = s.pde := by
  obtain ⟨_, _, _, h⟩ := s.arrived_eq r ty
  rw [h]
@[simp] theorem State.arrive_tmv (s : State) (r : Req) (ty : MsgType) : (s.arrive r ty).tmv = s.tmv := by
  obtain ⟨_, _, _, h⟩ := s.arrived_eq r ty
  rw [h]
@[simp] theorem State.arrive_mir (s : State) (r : Req) (ty : MsgType) : (s.arrive r ty).mir = s.mir := by
  obtain ⟨_, _, _, h⟩ := s.arrived_eq r ty
  rw [h]
@[simp] theorem State.arrive_callerPairs (s : State) (r : Req) (ty : MsgType) : (s.arrive r ty).callerPairs = s.callerPairs := by
  obtain ⟨_, _, _, h⟩ := s.arrived_eq r ty
  rw [h]
@[simp] theorem State.arrive_fab (s : State) (r : Req) (ty : MsgType) : (s.arrive r ty).fab = s.fab := by
  obtain ⟨_, _, _, h⟩ := s.arrived_eq r ty
  rw [h]
@[simp] theorem State.arrive_desig (s : State) (r : Req) (ty : MsgType) : (s.arrive r ty).desig = s.desig := by
  obtain ⟨_, _, _, h⟩ := s.arrived_eq r ty
  rw [h]
@[simp] theorem State.arrive_dram (s : State) (r : Req) (ty : MsgType) : (s.arrive r ty).dram = s.dram := by
  obtain ⟨_, _, _, h⟩ := s.arrived_eq r ty
  rw [h]
@[simp] theorem State.arrive_flash (s : State) (r : Req) (ty : MsgType) : (s.arrive r ty).flash = s.flash := by
  obtain ⟨_, _, _, h⟩ := s.arrived_eq r ty
  rw [h]
@[simp] theorem State.arrive_sec (s : State) (r : Req) (ty : MsgType) : (s.arrive r ty).sec = s.sec := by
  obtain ⟨_, _, _, h⟩ := s.arrived_eq r ty
  rw [h]
@[simp] theorem State.arrive_fco (s : State) (r : Req) (ty : MsgType) : (s.arrive r ty).fco = s.fco := by
  obtain ⟨_, _, _, h⟩ := s.arrived_eq r ty
  rw [h]
@[simp] theorem State.arrive_evr (s : State) (r : Req) (ty : MsgType) : (s.arrive r ty).evr = s.evr := by
  obtain ⟨_, _, _, h⟩ := s.arrived_eq r ty
  rw [h]
@[simp] theorem State.arrive_store (s : State) (r : Req) (ty : MsgType) : (s.arrive r ty).store = s.store := by
  obtain ⟨_, _, _, h⟩ := s.arrived_eq r ty
  rw [h]
@[simp] theorem State.arrive_rst (s : State) (r : Req) (ty : MsgType) : (s.arrive r ty).rst = s.rst := by
  obtain ⟨_, _, _, h⟩ := s.arrived_eq r ty
  rw [h]
@[simp] theorem State.arrive_thermal (s : State) (r : Req) (ty : MsgType) : (s.arrive r ty).thermal = s.thermal := by
  obtain ⟨_, _, _, h⟩ := s.arrived_eq r ty
  rw [h]

/-! ### answered -/

@[simp] theorem State.answered_now (s : State) (r : Req) : (s.answered r).now = s.now := by
  obtain ⟨_, _, _, _, _, h⟩ := s.answered_eq r
  rw [h]
@[simp] theorem State.answered_pending (s : State) (r : Req) : (s.answered r).pending = s.pending := by
  obtain ⟨_, _, _, _, _, h⟩ := s.answered_eq r
  rw [h]
@[simp] theorem State.answered_paused (s : State) (r : Req) : (s.answered r).paused = s.paused := by
  obtain ⟨_, _, _, _, _, h⟩ := s.answered_eq r
  rw [h]
@[simp] theorem State.answered_freeCount (s : State) (r : Req) : (s.answered r).freeCount = s.freeCount := by
  obtain ⟨_, _, _, _, _, h⟩ := s.answered_eq r
  rw [h]
@[simp] theorem State.answered_mode (s : State) (r : Req) : (s.answered r).mode = s.mode := by
  obtain ⟨_, _, _, _, _, h⟩ := s.answered_eq r
  rw [h]
@[simp] theorem State.answered_cfg (s : State) (r : Req) : (s.answered r).cfg = s.cfg := by
  obtain ⟨_, _, _, _, _, h⟩ := s.answered_eq r
  rw [h]
@[simp] theorem State.answered_staged (s : State) (r : Req) : (s.answered r).staged = s.staged := by
  obtain ⟨_, _, _, _, _, h⟩ := s.answered_eq r
  rw [h]
@[simp] theorem State.answered_standby (s : State) (r : Req) : (s.answered r).standby = s.standby := by
  obtain ⟨_, _, _, _, _, h⟩ := s.answered_eq r
  rw [h]
@[simp] theorem State.answered_sticky (s : State) (r : Req) : (s.answered r).sticky = s.sticky := by
  obtain ⟨_, _, _, _, _, h⟩ := s.answered_eq r
  rw [h]
@[simp] theorem State.answered_stickyCtr (s : State) (r : Req) : (s.answered r).stickyCtr = s.stickyCtr := by
  obtain ⟨_, _, _, _, _, h⟩ := s.answered_eq r
  rw [h]
@[simp] theorem State.answered_reg (s : State) (r : Req) : (s.answered r).reg = s.reg := by
  obtain ⟨_, _, _, _, _, h⟩ := s.answered_eq r
  rw [h]
@[simp] theorem State.answered_xpt (s : State) (r : Req) : (s.answered r).xpt = s.xpt := by
  obtain ⟨_, _, _, _, _, h⟩ := s.answered_eq r
  rw [h]
@[simp] theorem State.answered_pde (s : State) (r : Req) : (s.answered r).pde = s.pde := by
  obtain ⟨_, _, _, _, _, h⟩ := s.answered_eq r
  rw [h]
@[simp] theorem State.answered_tmv (s : State) (r : Req) : (s.answered r).tmv = s.tmv := by
  obtain ⟨_, _, _, _, _, h⟩ := s.answered_eq r
  rw [h]
@[simp] theorem State.answered_mir (s : State) (r : Req) : (s.answered r).mir = s.mir := by
  obtain ⟨_, _, _, _, _, h⟩ := s.answered_eq r
  rw [h]
@[simp] theorem State.answered_callerPairs (s : State) (r : Req) : (s.answered r).callerPairs = s.callerPairs := by
  obtain ⟨_, _, _, _, _, h⟩ := s.answered_eq r
  rw [h]
@[simp] theorem State.answered_fab (s : State) (r : Req) : (s.answered r).fab = s.fab := by
  obtain ⟨_, _, _, _, _, h⟩ := s.answered_eq r
  rw [h]
@[simp] theorem State.answered_desig (s : State) (r : Req) : (s.answered r).desig = s.desig := by
  obtain ⟨_, _, _, _, _, h⟩ := s.answered_eq r
  rw [h]
@[simp] theorem State.answered_dram (s : State) (r : Req) : (s.answered r).dram = s.dram := by
  obtain ⟨_, _, _, _, _, h⟩ := s.answered_eq r
  rw [h]
@[simp] theorem State.answered_flash (s : State) (r : Req) : (s.answered r).flash = s.flash := by
  obtain ⟨_, _, _, _, _, h⟩ := s.answered_eq r
  rw [h]
@[simp] theorem State.answered_sec (s : State) (r : Req) : (s.answered r).sec = s.sec := by
  obtain ⟨_, _, _, _, _, h⟩ := s.answered_eq r
  rw [h]
@[simp] theorem State.answered_fco (s : State) (r : Req) : (s.answered r).fco = s.fco := by
  obtain ⟨_, _, _, _, _, h⟩ := s.answered_eq r
  rw [h]
@[simp] theorem State.answered_store (s : State) (r : Req) : (s.answered r).store = s.store := by
  obtain ⟨_, _, _, _, _, h⟩ := s.answered_eq r
  rw [h]
@[simp] theorem State.answered_rst (s : State) (r : Req) : (s.answered r).rst = s.rst := by
  obtain ⟨_, _, _, _, _, h⟩ := s.answered_eq r
  rw [h]
@[simp] theorem State.answered_thermal (s : State) (r : Req) : (s.answered r).thermal = s.thermal := by
  obtain ⟨_, _, _, _, _, h⟩ := s.answered_eq r
  rw [h]

/-! ### finish -/

@[simp] theorem State.finish_now (s : State) (num : Nat) (st : ResState) (d : Bytes) : (s.finish num st d).now = s.now := rfl
@[simp] theorem State.finish_pending (s : State) (num : Nat) (st : ResState) (d : Bytes) : (s.finish num st d).pending = s.pending := rfl
@[simp] theorem State.finish_out (s : State) (num : Nat) (st : ResState) (d : Bytes) : (s.finish num st d).out = s.out := rfl
@[simp] theorem State.finish_paused (s : State) (num : Nat) (st : ResState) (d : Bytes) : (s.finish num st d).paused = s.paused := rfl
@[simp] theorem State.finish_freeCount (s : State) (num : Nat) (st : ResState) (d : Bytes) : (s.finish num st d).freeCount = s.freeCount := rfl
@[simp] theorem State.finish_mode (s : State) (num : Nat) (st : ResState) (d : Bytes) : (s.finish num st d).mode = s.mode := rfl
@[simp] theorem State.finish_cfg (s : State) (num : Nat) (st : ResState) (d : Bytes) : (s.finish num st d).cfg = s.cfg := rfl
@[simp] theorem State.finish_staged (s : State) (num : Nat) (st : ResState) (d : Bytes) : (s.finish num st d).staged = s.staged := rfl
@[simp] theorem State.finish_standby (s : State) (num : Nat) (st : ResState) (d : Bytes) : (s.finish num st d).standby = s.standby := rfl
@[simp] theorem State.finish_ctr (s : State) (num : Nat) (st : ResState) (d : Bytes) : (s.finish num st d).ctr = s.ctr := rfl
@[simp] theorem State.finish_sticky (s : State) (num : Nat) (st : ResState) (d : Bytes) : (s.finish num st d).sticky = s.sticky := rfl
@[simp] theorem State.finish_stickyCtr (s : State) (num : Nat) (st : ResState) (d : Bytes) : (s.finish num st d).stickyCtr = s.stickyCtr := rfl
@[simp] theorem State.finish_reg (s : State) (num : Nat) (st : ResState) (d : Bytes) : (s.finish num st d).reg = s.reg := rfl
@[simp] theorem State.finish_xpt (s : State) (num : Nat) (st : ResState) (d : Bytes) : (s.finish num st d).xpt = s.xpt := rfl
@[simp] theorem State.finish_pde (s : State) (num : Nat) (st : ResState) (d : Bytes) : (s.finish num st d).pde = s.pde := rfl
@[simp] theorem State.finish_tmv (s : State) (num : Nat) (st : ResState) (d : Bytes) : (s.finish num st d).tmv = s.tmv := rfl
@[simp] theorem State.finish_mir (s : State) (num : Nat) (st : ResState) (d : Bytes) : (s.finish num st d).mir = s.mir := rfl
@[simp] theorem State.finish_callerPairs (s : State) (num : Nat) (st : ResState) (d : Bytes) : (s.finish num st d).callerPairs = s.callerPairs := rfl
@[simp] theorem State.finish_fab (s : State) (num : Nat) (st : ResState) (d : Bytes) : (s.finish num st d).fab = s.fab := rfl
@[simp] theorem State.finish_desig (s : State) (num : Nat) (st : ResState) (d : Bytes) : (s.finish num st d).desig = s.desig := rfl
@[simp] theorem State.finish_dram (s : State) (num : Nat) (st : ResState) (d : Bytes) : (s.finish num st d).dram = s.dram := rfl
@[simp] theorem State.finish_flash (s : State) (num : Nat) (st : ResState) (d : Bytes) : (s.finish num st d).flash = s.flash := rfl
@[simp] theorem State.finish_sec (s : State) (num : Nat) (st : ResState) (d : Bytes) : (s.finish num st d).sec = s.sec := rfl
@[simp] theorem State.finish_fco (s : State) (num : Nat) (st : ResState) (d : Bytes) : (s.finish num st d).fco = s.fco := rfl
@[simp] theorem State.finish_evr (s : State) (num : Nat) (st : ResState) (d : Bytes) : (s.finish num st d).evr = s.evr := rfl
@[simp] theorem State.finish_pwr (s : State) (num : Nat) (st : ResState) (d : Bytes) : (s.finish num st d).pwr = s.pwr := rfl
@[simp] theorem State.finish_store (s : State) (num : Nat) (st : ResState) (d : Bytes) : (s.finish num st d).store = s.store := rfl
@[simp] theorem State.finish_rst (s : State) (num : Nat) (st : ResState) (d : Bytes) : (s.finish num st d).rst = s.rst := rfl
@[simp] theorem State.finish_thermal (s : State) (num : Nat) (st : ResState) (d : Bytes) : (s.finish num st d).thermal = s.thermal := rfl

/-! ### done -/

@[simp] theorem State.done_now (s : State) (num : Nat) (d : Bytes) : (s.done num d).now = s.now := rfl
@[simp] theorem State.done_pending (s : State) (num : Nat) (d : Bytes) : (s.done num d).pending = s.pending := rfl
@[simp] theorem State.done_out (s : State) (num : Nat) (d : Bytes) : (s.done num d).out = s.out := rfl
@[simp] theorem State.done_paused (s : State) (num : Nat) (d : Bytes) : (s.done num d).paused = s.paused := rfl
@[simp] theorem State.done_freeCount (s : State) (num : Nat) (d : Bytes) : (s.done num d).freeCount = s.freeCount := rfl
@[simp] theorem State.done_mode (s : State) (num : Nat) (d : Bytes) : (s.done num d).mode = s.mode := rfl
@[simp] theorem State.done_cfg (s : State) (num : Nat) (d : Bytes) : (s.done num d).cfg = s.cfg := rfl
@[simp] theorem State.done_staged (s : State) (num : Nat) (d : Bytes) : (s.done num d).staged = s.staged := rfl
@[simp] theorem State.done_standby (s : State) (num : Nat) (d : Bytes) : (s.done num d).standby = s.standby := rfl
@[simp] theorem State.done_ctr (s : State) (num : Nat) (d : Bytes) : (s.done num d).ctr = s.ctr := rfl
@[simp] theorem State.done_sticky (s : State) (num : Nat) (d : Bytes) : (s.done num d).sticky = s.sticky := rfl
@[simp] theorem State.done_stickyCtr (s : State) (num : Nat) (d : Bytes) : (s.done num d).stickyCtr = s.stickyCtr := rfl
@[simp] theorem State.done_reg (s : State) (num : Nat) (d : Bytes) : (s.done num d).reg = s.reg := rfl
@[simp] theorem State.done_xpt (s : State) (num : Nat) (d : Bytes) : (s.done num d).xpt = s.xpt := rfl
@[simp] theorem State.done_pde (s : State) (num : Nat) (d : Bytes) : (s.done num d).pde = s.pde := rfl
@[simp] theorem State.done_tmv (s : State) (num : Nat) (d : Bytes) : (s.done num d).tmv = s.tmv := rfl
@[simp] theorem State.done_mir (s : State) (num : Nat) (d : Bytes) : (s.done num d).mir = s.mir := rfl
@[simp] theorem State.done_callerPairs (s : State) (num : Nat) (d : Bytes) : (s.done num d).callerPairs = s.callerPairs := rfl
@[simp] theorem State.done_fab (s : State) (num : Nat) (d : Bytes) : (s.done num d).fab = s.fab := rfl
@[simp] theorem State.done_desig (s : State) (num : Nat) (d : Bytes) : (s.done num d).desig = s.desig := rfl
@[simp] theorem State.done_dram (s : State) (num : Nat) (d : Bytes) : (s.done num d).dram = s.dram := rfl
@[simp] theorem State.done_flash (s : State) (num : Nat) (d : Bytes) : (s.done num d).flash = s.flash := rfl
@[simp] theorem State.done_sec (s : State) (num : Nat) (d : Bytes) : (s.done num d).sec = s.sec := rfl
@[simp] theorem State.done_fco (s : State) (num : Nat) (d : Bytes) : (s.done num d).fco = s.fco := rfl
@[simp] theorem State.done_evr (s : State) (num : Nat) (d : Bytes) : (s.done num d).evr = s.evr := rfl
@[simp] theorem State.done_pwr (s : State) (num : Nat) (d : Bytes) : (s.done num d).pwr = s.pwr := rfl
@[simp] theorem State.done_store (s : State) (num : Nat) (d : Bytes) : (s.done num d).store = s.store := rfl
@[simp] theorem State.done_rst (s : State) (num : Nat) (d : Bytes) : (s.done num d).rst = s.rst := rfl
@[simp] theorem State.done_thermal (s : State) (num : Nat) (d : Bytes) : (s.done num d).thermal = s.thermal := rfl

/-! ### failed -/

@[simp] theorem State.failed_now (s : State) (num e : Nat) : (s.failed num e).now = s.now := rfl
@[simp] theorem State.failed_pending (s : State) (num e : Nat) : (s.failed num e).pending = s.pending := rfl
@[simp] theorem State.failed_out (s : State) (num e : Nat) : (s.failed num e).out = s.out := rfl
@[simp] theorem State.failed_paused (s : State) (num e : Nat) : (s.failed num e).paused = s.paused := rfl
@[simp] theorem State.failed_freeCount (s : State) (num e : Nat) : (s.failed num e).freeCount = s.freeCount := rfl
@[simp] theorem State.failed_mode (s : State) (num e : Nat) : (s.failed num e).mode = s.mode := rfl
@[simp] theorem State.failed_cfg (s : State) (num e : Nat) : (s.failed num e).cfg = s.cfg := rfl
@[simp] theorem State.failed_staged (s : State) (num e : Nat) : (s.failed num e).staged = s.staged := rfl
@[simp] theorem State.failed_standby (s : State) (num e : Nat) : (s.failed num e).standby = s.standby := rfl
@[simp] theorem State.failed_ctr (s : State) (num e : Nat) : (s.failed num e).ctr = s.ctr := rfl
@[simp] theorem State.failed_sticky (s : State) (num e : Nat) : (s.failed num e).sticky = s.sticky := rfl
@[simp] theorem State.failed_stickyCtr (s : State) (num e : Nat) : (s.failed num e).stickyCtr = s.stickyCtr := rfl
@[simp] theorem State.failed_reg (s : State) (num e : Nat) : (s.failed num e).reg = s.reg := rfl
@[simp] theorem State.failed_xpt (s : State) (num e : Nat) : (s.failed num e).xpt = s.xpt := rfl
@[simp] theorem State.failed_pde (s : State) (num e : Nat) : (s.failed num e).pde = s.pde := rfl
@[simp] theorem State.failed_tmv (s : State) (num e : Nat) : (s.failed num e).tmv = s.tmv := rfl
@[simp] theorem State.failed_mir (s : State) (num e : Nat) : (s.failed num e).mir = s.mir := rfl
@[simp] theorem State.failed_callerPairs (s : State) (num e : Nat) : (s.failed num e).callerPairs = s.callerPairs := rfl
@[simp] theorem State.failed_fab (s : State) (num e : Nat) : (s.failed num e).fab = s.fab := rfl
@[simp] theorem State.failed_desig (s : State) (num e : Nat) : (s.failed num e).desig = s.desig := rfl
@[simp] theorem State.failed_dram (s : State) (num e : Nat) : (s.failed num e).dram = s.dram := rfl
@[simp] theorem State.failed_flash (s : State) (num e : Nat) : (s.failed num e).flash = s.flash := rfl
@[simp] theorem State.failed_sec (s : State) (num e : Nat) : (s.failed num e).sec = s.sec := rfl
@[simp] theorem State.failed_fco (s : State) (num e : Nat) : (s.failed num e).fco = s.fco := rfl
@[simp] theorem State.failed_evr (s : State) (num e : Nat) : (s.failed num e).evr = s.evr := rfl
@[simp] theorem State.failed_pwr (s : State) (num e : Nat) : (s.failed num e).pwr = s.pwr := rfl
@[simp] theorem State.failed_store (s : State) (num e : Nat) : (s.failed num e).store = s.store := rfl
@[simp] theorem State.failed_rst (s : State) (num e : Nat) : (s.failed num e).rst = s.rst := rfl
@[simp] theorem State.failed_thermal (s : State) (num e : Nat) : (s.failed num e).thermal = s.thermal := rfl

/-! ### aborted -/

@[simp] theorem State.aborted_now (s : State) (num : Nat) : (s.aborted num).now = s.now := rfl
@[simp] theorem State.aborted_pending (s : State) (num : Nat) : (s.aborted num).pending = s.pending := rfl
@[simp] theorem State.aborted_out (s : State) (num : Nat) : (s.aborted num).out = s.out := rfl
@[simp] theorem State.aborted_paused (s : State) (num : Nat) : (s.aborted num).paused = s.paused := rfl
@[simp] theorem State.aborted_freeCount (s : State) (num : Nat) : (s.aborted num).freeCount = s.freeCount := rfl
@[simp] theorem State.aborted_mode (s : State) (num : Nat) : (s.aborted num).mode = s.mode := rfl
@[simp] theorem State.aborted_cfg (s : State) (num : Nat) : (s.aborted num).cfg = s.cfg := rfl
@[simp] theorem State.aborted_staged (s : State) (num : Nat) : (s.aborted num).staged = s.staged := rfl
@[simp] theorem State.aborted_standby (s : State) (num : Nat) : (s.aborted num).standby = s.standby := rfl
@[simp] theorem State.aborted_ctr (s : State) (num : Nat) : (s.aborted num).ctr = s.ctr := rfl
@[simp] theorem State.aborted_sticky (s : State) (num : Nat) : (s.aborted num).sticky = s.sticky := rfl
@[simp] theorem State.aborted_stickyCtr (s : State) (num : Nat) : (s.aborted num).stickyCtr = s.stickyCtr := rfl
@[simp] theorem State.aborted_reg (s : State) (num : Nat) : (s.aborted num).reg = s.reg := rfl
@[simp] theorem State.aborted_xpt (s : State) (num : Nat) : (s.aborted num).xpt = s.xpt := rfl
@[simp] theorem State.aborted_pde (s : State) (num : Nat) : (s.aborted num).pde = s.pde := rfl
@[simp] theorem State.aborted_tmv (s : State) (num : Nat) : (s.aborted num).tmv = s.tmv := rfl
@[simp] theorem State.aborted_mir (s : State) (num : Nat) : (s.aborted num).mir = s.mir := rfl
@[simp] theorem State.aborted_callerPairs (s : State) (num : Nat) : (s.aborted num).callerPairs = s.callerPairs := rfl
@[simp] theorem State.aborted_fab (s : State) (num : Nat) : (s.aborted num).fab = s.fab := rfl
@[simp] theorem State.aborted_desig (s : State) (num : Nat) : (s.aborted num).desig = s.desig := rfl
@[simp] theorem State.aborted_dram (s : State) (num : Nat) : (s.aborted num).dram = s.dram := rfl
@[simp] theorem State.aborted_flash (s : State) (num : Nat) : (s.aborted num).flash = s.flash := rfl
@[simp] theorem State.aborted_sec (s : State) (num : Nat) : (s.aborted num).sec = s.sec := rfl
@[simp] theorem State.aborted_fco (s : State) (num : Nat) : (s.aborted num).fco = s.fco := rfl
@[simp] theorem State.aborted_evr (s : State) (num : Nat) : (s.aborted num).evr = s.evr := rfl
@[simp] theorem State.aborted_pwr (s : State) (num : Nat) : (s.aborted num).pwr = s.pwr := rfl
@[simp] theorem State.aborted_store (s : State) (num : Nat) : (s.aborted num).store = s.store := rfl
@[simp] theorem State.aborted_rst (s : State) (num : Nat) : (s.aborted num).rst = s.rst := rfl
@[simp] theorem State.aborted_thermal (s : State) (num : Nat) : (s.aborted num).thermal = s.thermal := rfl

end Sys2Proof.Machine
end

