-- ==== Sys2Proof/Laws/Table.lean ====
section
/-!
SUPPORT. Sparse tables: what a write leaves at its own key and at every other key, and that keys stay strictly rising.
-/

namespace Sys2Proof.Machine

variable {α : Type}

@[simp] theorem Tbl.find?_nil (k : Nat) : Tbl.find? ([] : Tbl α) k = none := rfl

theorem Tbl.find?_set_self (t : Tbl α) (k : Nat) (a : α) : (t.set k a).find? k = some a := by
  induction t with
  | nil => simp [Tbl.set, Tbl.find?]
  | cons p t ih =>
    obtain ⟨i, b⟩ := p
    by_cases h : k < i
    · simp [Tbl.set, Tbl.find?, h]
    · by_cases e : i = k
      · simp [Tbl.set, Tbl.find?, e]
      · simp [Tbl.set, Tbl.find?, h, e, ih]

theorem Tbl.find?_set_ne (t : Tbl α) {k j : Nat} (a : α) (h : j ≠ k) : (t.set k a).find? j = t.find? j := by
  induction t with
  | nil => simp [Tbl.set, Tbl.find?, Ne.symm h]
  | cons p t ih =>
    obtain ⟨i, b⟩ := p
    by_cases l : k < i
    · simp [Tbl.set, Tbl.find?, l, Ne.symm h]
    · by_cases e : i = k
      · subst e
        simp [Tbl.set, Tbl.find?, Ne.symm h]
      · simp [Tbl.set, Tbl.find?, l, e, ih]

@[simp] theorem Tbl.getD_set_self (t : Tbl α) (k : Nat) (a d : α) : (t.set k a).getD k d = a := by
  simp [Tbl.getD, Tbl.find?_set_self]

theorem Tbl.getD_set_ne (t : Tbl α) {k j : Nat} (a d : α) (h : j ≠ k) : (t.set k a).getD j d = t.getD j d := by
  simp [Tbl.getD, Tbl.find?_set_ne t a h]

@[simp] theorem Tbl.getD_upd_self (t : Tbl α) (k : Nat) (d : α) (f : α → α) : (t.upd k d f).getD k d = f (t.getD k d) := by
  simp [Tbl.upd]

theorem Tbl.getD_upd_ne (t : Tbl α) {k j : Nat} (d : α) (f : α → α) (h : j ≠ k) : (t.upd k d f).getD j d = t.getD j d := by
  simp [Tbl.upd, Tbl.getD_set_ne t _ d h]

/-- Keys strictly rising, all above `lo`. -/
def Tbl.above (lo : Nat) : Tbl α → Bool
  | [] => true
  | (i, _) :: t => decide (lo < i) && Tbl.above i t

/-- Keys strictly rising. -/
def Tbl.rises : Tbl α → Bool
  | [] => true
  | (i, _) :: t => Tbl.above i t

theorem Tbl.above_set (t : Tbl α) {lo k : Nat} (a : α) (h : lo < k) (ht : Tbl.above lo t = true) : Tbl.above lo (t.set k a) = true := by
  induction t generalizing lo with
  | nil => simp [Tbl.set, Tbl.above, h]
  | cons p t ih =>
    obtain ⟨i, b⟩ := p
    simp only [Tbl.above, Bool.and_eq_true, decide_eq_true_eq] at ht
    by_cases l : k < i
    · simp [Tbl.set, Tbl.above, l, h, ht.2]
    · by_cases e : i = k
      · subst e
        simp [Tbl.set, Tbl.above, h, ht.2]
      · have : i < k := by omega
        simp [Tbl.set, Tbl.above, l, e, ht.1, ih this ht.2]

theorem Tbl.rises_set (t : Tbl α) (k : Nat) (a : α) (ht : t.rises = true) : (t.set k a).rises = true := by
  cases t with
  | nil => simp [Tbl.set, Tbl.rises, Tbl.above]
  | cons p t =>
    obtain ⟨i, b⟩ := p
    simp only [Tbl.rises] at ht
    by_cases l : k < i
    · simp [Tbl.set, Tbl.rises, Tbl.above, l, ht]
    · by_cases e : i = k
      · subst e
        simp [Tbl.set, Tbl.rises, ht]
      · have : i < k := by omega
        simp [Tbl.set, Tbl.rises, l, e, Tbl.above_set t a this ht]

end Sys2Proof.Machine
end

