-- ==== Sys2Proof/Laws/Dictionary.lean ====
section
/-!
SUPPORT. Requests and COMMANDs: a request that is taken runs its effect, a COMMAND that starts runs its operation on the answered state.
-/

namespace Sys2Proof.Machine

@[simp] theorem State.session_modSession (s : State) (k : Nat) (f : Session → Session) : (s.modSession k f).session k = f (s.session k) := by
  simp [State.modSession, State.session]

/-- What counting a record leaves of its session: state, version, level and kept responses. -/
theorem State.countRecord_session (s : State) (k : Nat) (rx : Bool) :
    ((s.countRecord k rx).session k).state = (s.session k).state ∧ ((s.countRecord k rx).session k).dsv = (s.session k).dsv ∧
    ((s.countRecord k rx).session k).level = (s.session k).level ∧ ((s.countRecord k rx).session k).kept = (s.session k).kept := by
  unfold State.countRecord
  extract_lets t r w
  split
  · obtain ⟨o, p, e⟩ := s.emitMgt_eq (.keyUpdate k)
    rw [State.session_modSession, e]
    exact ⟨rfl, rfl, rfl, rfl⟩
  · rw [State.session_modSession]
    exact ⟨rfl, rfl, rfl, rfl⟩

/-- What an arriving record leaves of its session: state, version, level and kept responses. -/
theorem State.takeRecord_session (s : State) (k : Nat) :
    ((s.takeRecord k).session k).state = (s.session k).state ∧ ((s.takeRecord k).session k).dsv = (s.session k).dsv ∧
    ((s.takeRecord k).session k).level = (s.session k).level ∧ ((s.takeRecord k).session k).kept = (s.session k).kept := by
  unfold State.takeRecord
  extract_lets t
  have h : (t.session k).state = (s.session k).state ∧ (t.session k).dsv = (s.session k).dsv ∧ (t.session k).level = (s.session k).level ∧
      (t.session k).kept = (s.session k).kept := by
    rw [State.session_modSession]
    exact ⟨rfl, rfl, rfl, rfl⟩
  split
  · have c := t.countRecord_session k true
    exact ⟨c.1.trans h.1, c.2.1.trans h.2.1, c.2.2.1.trans h.2.2.1, c.2.2.2.trans h.2.2.2⟩
  · exact h

/-- What an arriving request leaves of its session. -/
theorem State.arrive_session (s : State) (r : Req) (ty : MsgType) :
    ((s.arrive r ty).session r.slot).state = (s.session r.slot).state ∧ ((s.arrive r ty).session r.slot).dsv = (s.session r.slot).dsv ∧
    ((s.arrive r ty).session r.slot).level = (s.session r.slot).level ∧ ((s.arrive r ty).session r.slot).kept = (s.session r.slot).kept := by
  have h := s.takeRecord_session r.slot
  unfold State.arrive
  dsimp only
  split
  · exact h
  · exact h

/-- A counted record leaves the results, the operation sequences and the subscriptions. -/
theorem State.countRecord_dxe (s : State) (k : Nat) (rx : Bool) :
    (s.countRecord k rx).dxe.results = s.dxe.results ∧ (s.countRecord k rx).dxe.opSeqs = s.dxe.opSeqs ∧
    (s.countRecord k rx).dxe.subs = s.dxe.subs := by
  unfold State.countRecord
  extract_lets t r w
  split
  · obtain ⟨o, p, e⟩ := s.emitMgt_eq (.keyUpdate k)
    rw [e]
    exact ⟨rfl, rfl, rfl⟩
  · exact ⟨rfl, rfl, rfl⟩

/-- An arriving request changes the outbox, the dictionary's own state and what an LGM access changes only. -/
theorem State.arrive_eq (s : State) (r : Req) (ty : MsgType) :
    ∃ o d p, s.arrive r ty = { s with out := o, dxe := d, pwr := p } ∧ d.results = s.dxe.results ∧ d.opSeqs = s.dxe.opSeqs ∧
      d.subs = s.dxe.subs := by
  obtain ⟨o, d, p, e⟩ := s.arrived_eq r ty
  refine ⟨o, d, p, e, ?_⟩
  have h : d = (s.arrive r ty).dxe := by rw [e]
  have k := State.countRecord_dxe (s.modSession r.slot fun t => { t with requests := t.requests + 1, lastRecord := s.now }) r.slot true
  rw [h]
  unfold State.arrive State.takeRecord
  dsimp only
  split <;> split <;> first
    | exact k
    | exact ⟨rfl, rfl, rfl⟩

/-! An arriving request leaves the rest of the machine. -/

theorem State.arrive_served (s : State) (r : Req) (ty : MsgType) (n : Nat) : (s.arrive r ty).served n = s.served n := by
  obtain ⟨o, d, p, e, -⟩ := s.arrive_eq r ty
  rw [e]
  rfl

theorem State.arrive_subs (s : State) (r : Req) (ty : MsgType) : (s.arrive r ty).dxe.subs = s.dxe.subs := by
  obtain ⟨o, d, p, e, -, -, h⟩ := s.arrive_eq r ty
  rw [e]
  exact h

theorem State.arrive_param (s : State) (r : Req) (ty : MsgType) (n i : Nat) : (s.arrive r ty).param n i = s.param n i := by
  obtain ⟨o, d, p, e, -⟩ := s.arrive_eq r ty
  rw [e]
  rfl

@[simp] theorem State.arrive_mode (s : State) (r : Req) (ty : MsgType) : (s.arrive r ty).mode = s.mode := by
  obtain ⟨o, d, p, e, -⟩ := s.arrive_eq r ty
  rw [e]

theorem State.arrive_flags (s : State) (r : Req) (ty : MsgType) (n : Nat) : (s.arrive r ty).flags n = s.flags n := by
  obtain ⟨o, d, p, e, -⟩ := s.arrive_eq r ty
  rw [e]
  rfl

/-- A request that is taken runs its effect on the state in which it has arrived. -/
theorem State.request_takes {s : State} {r : Req} {ty : MsgType} (h : s.takes r ty = true) (f : State → State) :
    s.request r ty f = f (s.arrive r ty) := by
  simp only [State.takes, Bool.and_eq_true, beq_iff_eq, Option.isNone_iff_eq_none, Bool.not_eq_true', decide_eq_true_eq] at h
  obtain ⟨⟨⟨⟨⟨⟨h1, h5⟩, h6⟩, h2⟩, h3⟩, h7⟩, h4⟩ := h
  have h8 : ¬ 8 ≤ r.unanswered := by omega
  unfold State.request
  simp [h1, h2, h3, h4, h5, h7, h8]

theorem State.schemaParam_arrive (s : State) (r : Req) (ty : MsgType) (n i : Nat) :
    (s.arrive r ty).schemaParam r.slot n i = s.schemaParam r.slot n i := by
  simp only [State.schemaParam, (s.arrive_session r ty).2.1]

theorem State.commandRefusal_arrive (s : State) (r : Req) (ty : MsgType) (p : Param) (num : Nat) (own argsOk : Bool) :
    (s.arrive r ty).commandRefusal r p num own argsOk = s.commandRefusal r p num own argsOk := by
  obtain ⟨o, d, w, e, hr, -, -⟩ := s.arrive_eq r ty
  have hl := (s.arrive_session r ty).2.2.1
  have hm : (s.arrive r ty).mode = s.mode := by rw [e]
  have hc : (s.arrive r ty).rst = s.rst := by rw [e]
  have hrun : (s.arrive r ty).running num = s.running num := by
    simp only [State.running, State.result, e, hr]
    rfl
  simp only [State.commandRefusal, State.fwBlocked, hl, (s.arrive_session r ty).2.1, hm, hc, hrun]
  rfl

/-- A COMMAND that starts runs its operation on the answered state. -/
theorem State.command_starts {s : State} {r : Req} {first : Nat} {p : Param} (run : Nat → Bytes → State → State)
    (own : Nat → Bool) (argsOk : Bytes → Bool) (h : s.starts r first p (own (s.namedBy r)) (argsOk r.args)) :
    s.command r first run own argsOk = run (s.namedBy r) r.args (s.answered r) := by
  obtain ⟨ht, ⟨hp, hn, hs⟩, hr⟩ := h
  have hd := (s.arrive_session r .command).2.1
  have hserved : (s.arrive r .command).served (s.namedBy r) = true := by
    obtain ⟨o, d, p, e, -⟩ := s.arrive_eq r .command
    rw [e]
    exact hs
  unfold State.command
  rw [State.request_takes ht]
  dsimp only
  rw [State.schemaParam_arrive, hp, hd]
  rw [show schemaNum (s.session r.slot).dsv (itemAt r.body).1 = s.namedBy r from rfl]
  simp only [hserved, hn, Bool.not_true, Bool.false_eq_true, if_false, ne_eq, not_true_eq_false, State.commandRefusal_arrive, hr]
  rfl

/-- A COMMAND that starts, of a row without checks of its own. -/
theorem State.command_plain {s : State} {r : Req} {first : Nat} {p : Param} (run : Nat → Bytes → State → State) (h : s.starts r first p) :
    s.command r first run = run (s.namedBy r) r.args (s.answered r) := State.command_starts run (fun _ => false) (fun _ => true) h

/-- A COMMAND that starts, of a row with a check of its arguments. -/
theorem State.command_args {s : State} {r : Req} {first : Nat} {p : Param} (run : Nat → Bytes → State → State) (ok : Bytes → Bool)
    (h : s.starts r first p (argsOk := ok r.args)) :
    s.command r first run (argsOk := ok) = run (s.namedBy r) r.args (s.answered r) := State.command_starts run (fun _ => false) ok h

end Sys2Proof.Machine
end

