-- ==== Sys2Proof/Laws/Life.lean ====
section
/-!
SUPPORT. The life-cycle state and the queue through every operation: each shared operation of the machine leaves the queue of commands,
the life-cycle state, the kill fuse, the minimum security version and the target of an outstanding transition as they were; only the
operations of Table 13.6 and `fw_rollback_commit` change them, and no operation touches the queue. One lemma per operation.
-/

set_option maxRecDepth 4000

namespace Sys2Proof.Machine

@[simp] theorem ite_pending (c : Prop) [Decidable c] (a b : State) : (if c then a else b).pending = if c then a.pending else b.pending := apply_ite _ _ _ _
@[simp] theorem ite_sec (c : Prop) [Decidable c] (a b : State) : (if c then a else b).sec = if c then a.sec else b.sec := apply_ite _ _ _ _
@[simp] theorem ite_lifeOf (c : Prop) [Decidable c] (a b : Sec) : (if c then a else b).lifeOf = if c then a.lifeOf else b.lifeOf := apply_ite _ _ _ _
@[simp] theorem ite_fst {α β} (c : Prop) [Decidable c] (a b : α × β) : (if c then a else b).1 = if c then a.1 else b.1 := apply_ite _ _ _ _
@[simp] theorem State.modSec_life (s : State) (f : Sec → Sec) : (s.modSec f).pending = s.pending ∧ (s.modSec f).sec = f s.sec := ⟨rfl, rfl⟩
@[simp] theorem Sec.lifeOf_mk {a0 a1 a2 a3 a4 a5 a6 a7 a8 a9 a10 a11 a12 a13 a14 a15 a16 a17 a18 a19 a20 a21} : Sec.lifeOf (Sec.mk a0 a1 a2 a3 a4 a5 a6 a7 a8 a9 a10 a11 a12 a13 a14 a15 a16 a17 a18 a19 a20 a21) = (a0, a2, a18, a1.map (·.dest)) := rfl
@[simp] theorem Sec.lifeOf_eta (x : Sec) : (x.lc, x.killFused, x.minSecurity, x.lcRecord.map (·.dest)) = x.lifeOf := rfl

theorem State.foldl_keeps {α : Type} (l : List α) (f : State → α → State)
    (h : ∀ s a, (f s a).pending = s.pending ∧ (f s a).sec.lifeOf = s.sec.lifeOf) (s : State) :
    (l.foldl f s).pending = s.pending ∧ (l.foldl f s).sec.lifeOf = s.sec.lifeOf := by
  induction l generalizing s with
  | nil => exact ⟨rfl, rfl⟩
  | cons a l ih => exact ⟨(ih _).1.trans (h s a).1, (ih _).2.trans (h s a).2⟩
@[simp] theorem State.foldl_pending {α : Type} (l : List α) (f : State → α → State)
    (h : ∀ s a, (f s a).pending = s.pending) (s : State) : (l.foldl f s).pending = s.pending := by
  induction l generalizing s with
  | nil => rfl
  | cons a l ih => exact (ih _).trans (h s a)
@[simp] theorem State.foldl_lifeOf {α : Type} (l : List α) (f : State → α → State)
    (h : ∀ s a, (f s a).sec.lifeOf = s.sec.lifeOf) (s : State) : (l.foldl f s).sec.lifeOf = s.sec.lifeOf := by
  induction l generalizing s with
  | nil => rfl
  | cons a l ih => exact (ih _).trans (h s a)
@[simp] theorem State.foldl_pending1 {α β : Type} (l : List α) (f : State × β → α → State × β)
    (h : ∀ r a, (f r a).1.pending = r.1.pending) (r : State × β) : (l.foldl f r).1.pending = r.1.pending := by
  induction l generalizing r with
  | nil => rfl
  | cons a l ih => exact (ih _).trans (h r a)
@[simp] theorem State.foldl_lifeOf1 {α β : Type} (l : List α) (f : State × β → α → State × β)
    (h : ∀ r a, (f r a).1.sec.lifeOf = r.1.sec.lifeOf) (r : State × β) : (l.foldl f r).1.sec.lifeOf = r.1.sec.lifeOf := by
  induction l generalizing r with
  | nil => rfl
  | cons a l ih => exact (ih _).trans (h r a)

theorem State.KeepsLife.trans {s t u : State} (h : s.KeepsLife t) (k : t.KeepsLife u) : s.KeepsLife u := ⟨k.1.trans h.1, k.2.trans h.2⟩
theorem State.KeepsLife.refl (s : State) : s.KeepsLife s := ⟨rfl, rfl⟩
theorem State.keepsLife_foldl {α : Type} (l : List α) (f : State → α → State) (h : ∀ (s : State) a, s.KeepsLife (f s a)) (s : State) : s.KeepsLife (l.foldl f s) :=
  State.foldl_keeps l f h s
theorem State.foldl_keepsLife1 {α β : Type} (l : List α) (f : State × β → α → State × β) (h : ∀ (r : State × β) a, r.1.KeepsLife (f r a).1) (r : State × β) :
    r.1.KeepsLife (l.foldl f r).1 := by
  induction l generalizing r with
  | nil => exact State.KeepsLife.refl _
  | cons a l ih => exact (h r a).trans (ih _)
theorem State.keepsLife_ite {c : Prop} [Decidable c] {s a b : State} (ha : s.KeepsLife a) (hb : s.KeepsLife b) : s.KeepsLife (if c then a else b) := by
  split
  · exact ha
  · exact hb

@[simp] theorem State.setCfg_life (s : State) (num : Nat) (idx : Nat) (v : Nat) :
    (State.setCfg s num idx v).pending = s.pending ∧ (State.setCfg s num idx v).sec.lifeOf = s.sec.lifeOf := by
  exact ⟨rfl, rfl⟩

@[simp] theorem State.applyStaged_life (s : State) (q : Nat → Bool) :
    (State.applyStaged s q).pending = s.pending ∧ (State.applyStaged s q).sec.lifeOf = s.sec.lifeOf := by
  exact ⟨rfl, rfl⟩

@[simp] theorem State.bump_life (s : State) (num : Nat) (idx : Nat) (n : Nat) :
    (State.bump s num idx n).pending = s.pending ∧ (State.bump s num idx n).sec.lifeOf = s.sec.lifeOf := by
  exact ⟨rfl, rfl⟩

@[simp] theorem State.bumpIf_life (s : State) (c : Bool) (num : Nat) (idx : Nat) :
    (State.bumpIf s c num idx).pending = s.pending ∧ (State.bumpIf s c num idx).sec.lifeOf = s.sec.lifeOf := by
  simp [State.bumpIf]

@[simp] theorem State.rqCount_life (s : State) (q : Nat) (n : Nat) :
    (State.rqCount s q n).pending = s.pending ∧ (State.rqCount s q n).sec.lifeOf = s.sec.lifeOf := by
  exact ⟨rfl, rfl⟩

@[simp] theorem State.portFrame_life (s : State) (n : Nat) (f : Fec) :
    (State.portFrame s n f).pending = s.pending ∧ (State.portFrame s n f).sec.lifeOf = s.sec.lifeOf := by
  simp [State.portFrame]

@[simp] theorem State.emit_life (s : State) (o : Out) :
    (State.emit s o).pending = s.pending ∧ (State.emit s o).sec.lifeOf = s.sec.lifeOf := by
  exact ⟨rfl, rfl⟩

@[simp] theorem State.emits_life (s : State) (os : List Out) :
    (State.emits s os).pending = s.pending ∧ (State.emits s os).sec.lifeOf = s.sec.lifeOf := by
  show State.KeepsLife _ _
  unfold State.emits
  refine State.keepsLife_foldl _ _ (fun _ _ => ?_) _
  exact ⟨rfl, rfl⟩

@[simp] theorem State.tick_life (s : State) :
    (State.tick s).pending = s.pending ∧ (State.tick s).sec.lifeOf = s.sec.lifeOf := by
  exact ⟨rfl, rfl⟩

@[simp] theorem State.modDxe_life (s : State) (f : Dxe → Dxe) :
    (State.modDxe s f).pending = s.pending ∧ (State.modDxe s f).sec.lifeOf = s.sec.lifeOf := by
  exact ⟨rfl, rfl⟩

@[simp] theorem State.modReg_life (s : State) (f : Regions → Regions) :
    (State.modReg s f).pending = s.pending ∧ (State.modReg s f).sec.lifeOf = s.sec.lifeOf := by
  exact ⟨rfl, rfl⟩

@[simp] theorem State.modXpt_life (s : State) (f : Xpt → Xpt) :
    (State.modXpt s f).pending = s.pending ∧ (State.modXpt s f).sec.lifeOf = s.sec.lifeOf := by
  exact ⟨rfl, rfl⟩

@[simp] theorem State.modPde_life (s : State) (f : Pde → Pde) :
    (State.modPde s f).pending = s.pending ∧ (State.modPde s f).sec.lifeOf = s.sec.lifeOf := by
  exact ⟨rfl, rfl⟩

@[simp] theorem State.modTmv_life (s : State) (f : Tmv → Tmv) :
    (State.modTmv s f).pending = s.pending ∧ (State.modTmv s f).sec.lifeOf = s.sec.lifeOf := by
  exact ⟨rfl, rfl⟩

@[simp] theorem State.modMir_life (s : State) (f : Mir → Mir) :
    (State.modMir s f).pending = s.pending ∧ (State.modMir s f).sec.lifeOf = s.sec.lifeOf := by
  exact ⟨rfl, rfl⟩

@[simp] theorem State.modFab_life (s : State) (f : Fab → Fab) :
    (State.modFab s f).pending = s.pending ∧ (State.modFab s f).sec.lifeOf = s.sec.lifeOf := by
  exact ⟨rfl, rfl⟩

@[simp] theorem State.modDesig_life (s : State) (f : Designation → Designation) :
    (State.modDesig s f).pending = s.pending ∧ (State.modDesig s f).sec.lifeOf = s.sec.lifeOf := by
  exact ⟨rfl, rfl⟩

@[simp] theorem State.modDram_life (s : State) (f : Dram → Dram) :
    (State.modDram s f).pending = s.pending ∧ (State.modDram s f).sec.lifeOf = s.sec.lifeOf := by
  exact ⟨rfl, rfl⟩

@[simp] theorem State.modFlash_life (s : State) (f : Flash → Flash) :
    (State.modFlash s f).pending = s.pending ∧ (State.modFlash s f).sec.lifeOf = s.sec.lifeOf := by
  exact ⟨rfl, rfl⟩

@[simp] theorem State.modFco_life (s : State) (f : Fco → Fco) :
    (State.modFco s f).pending = s.pending ∧ (State.modFco s f).sec.lifeOf = s.sec.lifeOf := by
  exact ⟨rfl, rfl⟩

@[simp] theorem State.modEvr_life (s : State) (f : Evr → Evr) :
    (State.modEvr s f).pending = s.pending ∧ (State.modEvr s f).sec.lifeOf = s.sec.lifeOf := by
  exact ⟨rfl, rfl⟩

@[simp] theorem State.modPwr_life (s : State) (f : Pwr → Pwr) :
    (State.modPwr s f).pending = s.pending ∧ (State.modPwr s f).sec.lifeOf = s.sec.lifeOf := by
  exact ⟨rfl, rfl⟩

@[simp] theorem State.modStore_life (s : State) (f : Store → Store) :
    (State.modStore s f).pending = s.pending ∧ (State.modStore s f).sec.lifeOf = s.sec.lifeOf := by
  exact ⟨rfl, rfl⟩

@[simp] theorem State.modRst_life (s : State) (f : Rst → Rst) :
    (State.modRst s f).pending = s.pending ∧ (State.modRst s f).sec.lifeOf = s.sec.lifeOf := by
  exact ⟨rfl, rfl⟩

@[simp] theorem State.modThermal_life (s : State) (f : Thermal → Thermal) :
    (State.modThermal s f).pending = s.pending ∧ (State.modThermal s f).sec.lifeOf = s.sec.lifeOf := by
  exact ⟨rfl, rfl⟩

@[simp] theorem State.setRail_life (s : State) (r : Nat) (st : RailState) :
    (State.setRail s r st).pending = s.pending ∧ (State.setRail s r st).sec.lifeOf = s.sec.lifeOf := by
  exact ⟨rfl, rfl⟩

@[simp] theorem State.driveSeq_life (s : State) (pin : Nat) (on : Bool) :
    (State.driveSeq s pin on).pending = s.pending ∧ (State.driveSeq s pin on).sec.lifeOf = s.sec.lifeOf := by
  exact ⟨rfl, rfl⟩

@[simp] theorem State.operation_life (s : State) (i : Nat) (v : Nat) :
    (State.operation s i v).pending = s.pending ∧ (State.operation s i v).sec.lifeOf = s.sec.lifeOf := by
  simp [State.operation]

@[simp] theorem State.raiseStep_life (s : State) (n : Nat) :
    (State.raiseStep s n).pending = s.pending ∧ (State.raiseStep s n).sec.lifeOf = s.sec.lifeOf := by
  simp [State.raiseStep]

@[simp] theorem State.lowerStep_life (s : State) (n : Nat) :
    (State.lowerStep s n).pending = s.pending ∧ (State.lowerStep s n).sec.lifeOf = s.sec.lifeOf := by
  simp [State.lowerStep]

@[simp] theorem State.touchLgm_life (s : State) :
    (State.touchLgm s).pending = s.pending ∧ (State.touchLgm s).sec.lifeOf = s.sec.lifeOf := by
  simp [State.touchLgm]

@[simp] theorem State.emitMgt_life (s : State) (o : Out) :
    (State.emitMgt s o).pending = s.pending ∧ (State.emitMgt s o).sec.lifeOf = s.sec.lifeOf := by
  simp [State.emitMgt]

@[simp] theorem State.lgmIdle_life (s : State) :
    (State.lgmIdle s).pending = s.pending ∧ (State.lgmIdle s).sec.lifeOf = s.sec.lifeOf := by
  simp [State.lgmIdle]

@[simp] theorem State.dramWrite_life (s : State) (a : Nat) (b : Bytes) :
    (State.dramWrite s a b).pending = s.pending ∧ (State.dramWrite s a b).sec.lifeOf = s.sec.lifeOf := by
  exact ⟨rfl, rfl⟩

@[simp] theorem State.dramZero_life (s : State) (a : Nat) (n : Nat) :
    (State.dramZero s a n).pending = s.pending ∧ (State.dramZero s a n).sec.lifeOf = s.sec.lifeOf := by
  exact ⟨rfl, rfl⟩

@[simp] theorem State.setFlag_life (s : State) (num : Nat) (b : Nat) (merges : Nat) :
    (State.setFlag s num b merges).pending = s.pending ∧ (State.setFlag s num b merges).sec.lifeOf = s.sec.lifeOf := by
  exact ⟨rfl, rfl⟩

@[simp] theorem State.foldl_setFlag_pending {α : Type} (l : List α) (f : α → Nat) (b n : Nat) (s : State) :
    (l.foldl (fun s a => s.setFlag (f a) b n) s).pending = s.pending :=
    State.foldl_pending l (fun s a => s.setFlag (f a) b n) (fun _ _ => rfl) s
@[simp] theorem State.foldl_setFlag_lifeOf {α : Type} (l : List α) (f : α → Nat) (b n : Nat) (s : State) :
    (l.foldl (fun s a => s.setFlag (f a) b n) s).sec.lifeOf = s.sec.lifeOf :=
    State.foldl_lifeOf l (fun s a => s.setFlag (f a) b n) (fun _ _ => rfl) s

@[simp] theorem State.setFlagIf_life (s : State) (c : Bool) (num : Nat) (b : Nat) (merges : Nat) :
    (State.setFlagIf s c num b merges).pending = s.pending ∧ (State.setFlagIf s c num b merges).sec.lifeOf = s.sec.lifeOf := by
  simp [State.setFlagIf]

@[simp] theorem State.clearFlags_life (s : State) (num : Nat) (v : Nat) :
    (State.clearFlags s num v).pending = s.pending ∧ (State.clearFlags s num v).sec.lifeOf = s.sec.lifeOf := by
  exact ⟨rfl, rfl⟩

@[simp] theorem State.dropRecord_life (s : State) (priv : Bool) :
    (State.dropRecord s priv).pending = s.pending ∧ (State.dropRecord s priv).sec.lifeOf = s.sec.lifeOf := by
  exact ⟨rfl, rfl⟩

@[simp] theorem State.placeEvent_life (s : State) (r : EvtRec) :
    (State.placeEvent s r).pending = s.pending ∧ (State.placeEvent s r).sec.lifeOf = s.sec.lifeOf := by
  unfold State.placeEvent
  dsimp only
  (repeat' split) <;> simp_all

@[simp] theorem State.recordWith_life (s : State) (code : Nat) (inst : Nat) (sev : Nat) (priv : Bool) (fault : Bool) (args : List Nat) :
    (State.recordWith s code inst sev priv fault args).pending = s.pending ∧ (State.recordWith s code inst sev priv fault args).sec.lifeOf = s.sec.lifeOf := by
  simp [State.recordWith]

@[simp] theorem State.event_life (s : State) (code : Nat) (inst : Nat) (args : List Nat) :
    (State.event s code inst args).pending = s.pending ∧ (State.event s code inst args).sec.lifeOf = s.sec.lifeOf := by
  simp [State.event]

@[simp] theorem State.modSession_life (s : State) (slot : Nat) (f : Session → Session) :
    (State.modSession s slot f).pending = s.pending ∧ (State.modSession s slot f).sec.lifeOf = s.sec.lifeOf := by
  exact ⟨rfl, rfl⟩

@[simp] theorem State.countRecord_life (s : State) (slot : Nat) (rx : Bool) :
    (State.countRecord s slot rx).pending = s.pending ∧ (State.countRecord s slot rx).sec.lifeOf = s.sec.lifeOf := by
  simp [State.countRecord]

@[simp] theorem State.sendDict_life (s : State) (slot : Nat) (msg : Bytes) :
    (State.sendDict s slot msg).pending = s.pending ∧ (State.sendDict s slot msg).sec.lifeOf = s.sec.lifeOf := by
  simp [State.sendDict]

@[simp] theorem State.respond_life (s : State) (r : Req) (ty : MsgType) (status : Nat) (opSeq : Nat) (staged : Bool) (body : Bytes) :
    (State.respond s r ty status opSeq staged body).pending = s.pending ∧ (State.respond s r ty status opSeq staged body).sec.lifeOf = s.sec.lifeOf := by
  simp [State.respond]

@[simp] theorem State.refuse_life (s : State) (r : Req) (ty : MsgType) (status : Nat) :
    (State.refuse s r ty status).pending = s.pending ∧ (State.refuse s r ty status).sec.lifeOf = s.sec.lifeOf := by
  simp [State.refuse]

@[simp] theorem State.takeRecord_life (s : State) (slot : Nat) :
    (State.takeRecord s slot).pending = s.pending ∧ (State.takeRecord s slot).sec.lifeOf = s.sec.lifeOf := by
  simp [State.takeRecord]

@[simp] theorem State.arrive_life (s : State) (r : Req) (ty : MsgType) :
    (State.arrive s r ty).pending = s.pending ∧ (State.arrive s r ty).sec.lifeOf = s.sec.lifeOf := by
  simp [State.arrive]

@[simp] theorem State.discard_life (s : State) (slot : Nat) :
    (State.discard s slot).pending = s.pending ∧ (State.discard s slot).sec.lifeOf = s.sec.lifeOf := by
  simp [State.discard]

@[simp] theorem State.request_life (s : State) (r : Req) (ty : MsgType) (f : State → State) (hf : ∀ a0, (f a0).pending = a0.pending ∧ (f a0).sec.lifeOf = a0.sec.lifeOf) :
    (State.request s r ty f).pending = s.pending ∧ (State.request s r ty f).sec.lifeOf = s.sec.lifeOf := by
  unfold State.request
  dsimp only
  (repeat' split) <;> simp [hf]

@[simp] theorem State.finish_life (s : State) (num : Nat) (st : ResState) (data : Bytes) :
    (State.finish s num st data).pending = s.pending ∧ (State.finish s num st data).sec.lifeOf = s.sec.lifeOf := by
  exact ⟨rfl, rfl⟩

@[simp] theorem State.done_life (s : State) (num : Nat) (data : Bytes) :
    (State.done s num data).pending = s.pending ∧ (State.done s num data).sec.lifeOf = s.sec.lifeOf := by
  exact ⟨rfl, rfl⟩

@[simp] theorem State.failed_life (s : State) (num : Nat) (reason : Nat) :
    (State.failed s num reason).pending = s.pending ∧ (State.failed s num reason).sec.lifeOf = s.sec.lifeOf := by
  exact ⟨rfl, rfl⟩

@[simp] theorem State.aborted_life (s : State) (num : Nat) :
    (State.aborted s num).pending = s.pending ∧ (State.aborted s num).sec.lifeOf = s.sec.lifeOf := by
  exact ⟨rfl, rfl⟩

@[simp] theorem State.levelWrite_life (s : State) (slot : Nat) (num : Nat) (idx : Nat) :
    (State.levelWrite s slot num idx).pending = s.pending ∧ (State.levelWrite s slot num idx).sec.lifeOf = s.sec.lifeOf := by
  simp [State.levelWrite]

@[simp] theorem State.command_life (s : State) (r : Req) (first : Nat) (run : Nat → Bytes → State → State) (own : Nat → Bool) (argsOk : Bytes → Bool) (hf : ∀ a0 a1 a2, (run a0 a1 a2).pending = a2.pending ∧ (run a0 a1 a2).sec.lifeOf = a2.sec.lifeOf) :
    (State.command s r first run own argsOk).pending = s.pending ∧ (State.command s r first run own argsOk).sec.lifeOf = s.sec.lifeOf := by
  unfold State.command
  apply State.request_life
  intro s
  dsimp only
  (repeat' split) <;> simp [hf]

@[simp] theorem State.modGrp_life (s : State) (g : Nat) (f : Grp → Grp) :
    (State.modGrp s g f).pending = s.pending ∧ (State.modGrp s g f).sec.lifeOf = s.sec.lifeOf := by
  exact ⟨rfl, rfl⟩

@[simp] theorem State.countViolation_life (s : State) (ak : Nat) (kind : Nat) :
    (State.countViolation s ak kind).pending = s.pending ∧ (State.countViolation s ak kind).sec.lifeOf = s.sec.lifeOf := by
  unfold State.countViolation
  dsimp only
  (repeat' split) <;> simp_all

@[simp] theorem State.descTouch_life (s : State) (idx : Nat) :
    (State.descTouch s idx).pending = s.pending ∧ (State.descTouch s idx).sec.lifeOf = s.sec.lifeOf := by
  exact ⟨rfl, rfl⟩

@[simp] theorem State.setPool_life (s : State) (p : Nat) (q : Pool) :
    (State.setPool s p q).pending = s.pending ∧ (State.setPool s p q).sec.lifeOf = s.sec.lifeOf := by
  exact ⟨rfl, rfl⟩

@[simp] theorem State.notePool_life (s : State) (p : Nat) :
    (State.notePool s p).pending = s.pending ∧ (State.notePool s p).sec.lifeOf = s.sec.lifeOf := by
  simp [State.notePool]

@[simp] theorem State.takeBuf_life (s : State) (agent : Fin 8) (p : Nat) :
    (State.takeBuf s agent p).1.pending = s.pending ∧ (State.takeBuf s agent p).1.sec.lifeOf = s.sec.lifeOf := by
  simp [State.takeBuf]

@[simp] theorem State.allocFrom_life (s : State) (agent : Fin 8) (n : Nat) (x3 : List Nat) :
    (State.allocFrom s agent n x3).1.pending = s.pending ∧ (State.allocFrom s agent n x3).1.sec.lifeOf = s.sec.lifeOf := by
  induction x3 generalizing s with
  | nil => exact ⟨rfl, rfl⟩
  | cons p t ih =>
    unfold State.allocFrom
    dsimp only
    (repeat' split) <;> simp [ih]

@[simp] theorem State.alloc_life (s : State) (agent : Fin 8) (n : Nat) :
    (State.alloc s agent n).1.pending = s.pending ∧ (State.alloc s agent n).1.sec.lifeOf = s.sec.lifeOf := by
  simp [State.alloc]

@[simp] theorem State.freeBuf_life (s : State) (b : Nat × Nat) :
    (State.freeBuf s b).pending = s.pending ∧ (State.freeBuf s b).sec.lifeOf = s.sec.lifeOf := by
  exact ⟨rfl, rfl⟩

@[simp] theorem State.freeBufs_life (s : State) (l : List (Nat × Nat)) :
    (State.freeBufs s l).pending = s.pending ∧ (State.freeBufs s l).sec.lifeOf = s.sec.lifeOf := by
  simp [State.freeBufs]

@[simp] theorem State.handOver_life (s : State) (agent : Fin 8) (b : Nat × Nat) :
    (State.handOver s agent b).pending = s.pending ∧ (State.handOver s agent b).sec.lifeOf = s.sec.lifeOf := by
  exact ⟨rfl, rfl⟩

@[simp] theorem State.handOvers_life (s : State) (agent : Fin 8) (l : List (Nat × Nat)) :
    (State.handOvers s agent l).pending = s.pending ∧ (State.handOvers s agent l).sec.lifeOf = s.sec.lifeOf := by
  simp [State.handOvers]

@[simp] theorem State.noteHold_life (s : State) (u : BufUse) (b : Nat × Nat) :
    (State.noteHold s u b).pending = s.pending ∧ (State.noteHold s u b).sec.lifeOf = s.sec.lifeOf := by
  exact ⟨rfl, rfl⟩

@[simp] theorem State.holdFor_life (s : State) (agent : Fin 8) (n : Nat) (u : BufUse) :
    (State.holdFor s agent n u).1.pending = s.pending ∧ (State.holdFor s agent n u).1.sec.lifeOf = s.sec.lifeOf := by
  unfold State.holdFor
  dsimp only
  (repeat' split) <;> simp_all

@[simp] theorem State.sweepBufs_life (s : State) :
    (State.sweepBufs s).pending = s.pending ∧ (State.sweepBufs s).sec.lifeOf = s.sec.lifeOf := by
  simp [State.sweepBufs]

@[simp] theorem State.setSeg_life (s : State) (lsn : Nat) (g : Seg) :
    (State.setSeg s lsn g).pending = s.pending ∧ (State.setSeg s lsn g).sec.lifeOf = s.sec.lifeOf := by
  exact ⟨rfl, rfl⟩

@[simp] theorem State.setSegState_life (s : State) (lsn : Nat) (d : Drained) :
    (State.setSegState s lsn d).pending = s.pending ∧ (State.setSegState s lsn d).sec.lifeOf = s.sec.lifeOf := by
  exact ⟨rfl, rfl⟩

@[simp] theorem State.dirtySeg_life (s : State) (lsn : Nat) :
    (State.dirtySeg s lsn).pending = s.pending ∧ (State.dirtySeg s lsn).sec.lifeOf = s.sec.lifeOf := by
  simp [State.dirtySeg]

@[simp] theorem State.wroteSeg_life (s : State) (lsn : Nat) (changed : Bool) :
    (State.wroteSeg s lsn changed).pending = s.pending ∧ (State.wroteSeg s lsn changed).sec.lifeOf = s.sec.lifeOf := by
  simp [State.wroteSeg]

@[simp] theorem State.dirtySegs_life (s : State) (l : List Nat) :
    (State.dirtySegs s l).pending = s.pending ∧ (State.dirtySegs s l).sec.lifeOf = s.sec.lifeOf := by
  simp [State.dirtySegs]

@[simp] theorem State.dirtyArea_life (s : State) (at_ : Nat) (off : Nat) :
    (State.dirtyArea s at_ off).pending = s.pending ∧ (State.dirtyArea s at_ off).sec.lifeOf = s.sec.lifeOf := by
  simp [State.dirtyArea]

@[simp] theorem State.setDesc_life (s : State) (idx : Nat) (d : Desc) :
    (State.setDesc s idx d).pending = s.pending ∧ (State.setDesc s idx d).sec.lifeOf = s.sec.lifeOf := by
  simp [State.setDesc]

@[simp] theorem State.reserveCharge_life (s : State) (n : Nat) :
    (State.reserveCharge s n).pending = s.pending ∧ (State.reserveCharge s n).sec.lifeOf = s.sec.lifeOf := by
  exact ⟨rfl, rfl⟩

@[simp] theorem State.releaseCharge_life (s : State) (n : Nat) :
    (State.releaseCharge s n).pending = s.pending ∧ (State.releaseCharge s n).sec.lifeOf = s.sec.lifeOf := by
  exact ⟨rfl, rfl⟩

@[simp] theorem State.fillSegment_life (s : State) (lsn : Nat) (cells : List Host.Cell) :
    (State.fillSegment s lsn cells).pending = s.pending ∧ (State.fillSegment s lsn cells).sec.lifeOf = s.sec.lifeOf := by
  exact ⟨rfl, rfl⟩

@[simp] theorem State.addFetch_life (s : State) (f : Fetch) :
    (State.addFetch s f).pending = s.pending ∧ (State.addFetch s f).sec.lifeOf = s.sec.lifeOf := by
  exact ⟨rfl, rfl⟩

@[simp] theorem State.dropFetch_life (s : State) (k : FetchKey) :
    (State.dropFetch s k).pending = s.pending ∧ (State.dropFetch s k).sec.lifeOf = s.sec.lifeOf := by
  exact ⟨rfl, rfl⟩

@[simp] theorem State.modFetch_life (s : State) (k : FetchKey) (f : Fetch → Fetch) :
    (State.modFetch s k f).pending = s.pending ∧ (State.modFetch s k f).sec.lifeOf = s.sec.lifeOf := by
  exact ⟨rfl, rfl⟩

@[simp] theorem State.fetchDram_life (s : State) (lsn : Nat) :
    (State.fetchDram s lsn).pending = s.pending ∧ (State.fetchDram s lsn).sec.lifeOf = s.sec.lifeOf := by
  simp [State.fetchDram]

@[simp] theorem State.fillAbsent_life (s : State) (lsn : Nat) (cells : List Host.Cell) :
    (State.fillAbsent s lsn cells).pending = s.pending ∧ (State.fillAbsent s lsn cells).sec.lifeOf = s.sec.lifeOf := by
  show State.KeepsLife _ _
  exact State.KeepsLife.trans (State.KeepsLife.trans (State.fillSegment_life _ _ _) (State.setSegState_life _ _ _)) (State.rqCount_life _ _ _)

@[simp] theorem State.accessDram_life (s : State) (lsn : Nat) (whole : Bool) :
    (State.accessDram s lsn whole).1.pending = s.pending ∧ (State.accessDram s lsn whole).1.sec.lifeOf = s.sec.lifeOf := by
  simp [State.accessDram]

@[simp] theorem State.fetchNow_life (s : State) (lsn : Nat) :
    (State.fetchNow s lsn).pending = s.pending ∧ (State.fetchNow s lsn).sec.lifeOf = s.sec.lifeOf := by
  simp [State.fetchNow]

@[simp] theorem State.writeEntry_life (s : State) (idx : Nat) (seg : Nat) :
    (State.writeEntry s idx seg).pending = s.pending ∧ (State.writeEntry s idx seg).sec.lifeOf = s.sec.lifeOf := by
  simp [State.writeEntry]

@[simp] theorem State.setEntry_life (s : State) (idx : Nat) (seg : Nat) (e : MapEntry) :
    (State.setEntry s idx seg e).pending = s.pending ∧ (State.setEntry s idx seg e).sec.lifeOf = s.sec.lifeOf := by
  simp [State.setEntry]

@[simp] theorem State.modEntry_life (s : State) (idx : Nat) (seg : Nat) (f : MapEntry → MapEntry) :
    (State.modEntry s idx seg f).pending = s.pending ∧ (State.modEntry s idx seg f).sec.lifeOf = s.sec.lifeOf := by
  simp [State.modEntry]

@[simp] theorem State.freeFrame_life (s : State) (n : Nat) :
    (State.freeFrame s n).pending = s.pending ∧ (State.freeFrame s n).sec.lifeOf = s.sec.lifeOf := by
  exact ⟨rfl, rfl⟩

@[simp] theorem State.beginEvict_life (s : State) (f : Frame) :
    (State.beginEvict s f).pending = s.pending ∧ (State.beginEvict s f).sec.lifeOf = s.sec.lifeOf := by
  simp [State.beginEvict]

@[simp] theorem State.endEvict_life (s : State) (idx : Nat) (seg : Nat) :
    (State.endEvict s idx seg).pending = s.pending ∧ (State.endEvict s idx seg).sec.lifeOf = s.sec.lifeOf := by
  unfold State.endEvict
  dsimp only
  (repeat' split) <;> simp_all

@[simp] theorem State.sharedVictim_life (s : State) (keep : Nat → Nat → Bool) :
    (State.sharedVictim s keep).1.pending = s.pending ∧ (State.sharedVictim s keep).1.sec.lifeOf = s.sec.lifeOf := by
  exact ⟨rfl, rfl⟩

@[simp] theorem State.evictOne_life (s : State) (p : Option Nat) (seg : Nat) (keep : Nat → Nat → Bool) :
    (State.evictOne s p seg keep).1.pending = s.pending ∧ (State.evictOne s p seg keep).1.sec.lifeOf = s.sec.lifeOf := by
  unfold State.evictOne
  dsimp only
  (repeat' split) <;> simp_all

@[simp] theorem State.frameRoom_life (s : State) (p : Option Nat) (idx : Nat) (seg : Nat) (keep : Nat → Nat → Bool) :
    (State.frameRoom s p idx seg keep).1.pending = s.pending ∧ (State.frameRoom s p idx seg keep).1.sec.lifeOf = s.sec.lifeOf := by
  simp [State.frameRoom]

@[simp] theorem State.fillFrame_life (s : State) (idx : Nat) (seg : Nat) (window : Bool) :
    (State.fillFrame s idx seg window).1.pending = s.pending ∧ (State.fillFrame s idx seg window).1.sec.lifeOf = s.sec.lifeOf := by
  unfold State.fillFrame
  (repeat' split) <;> simp

@[simp] theorem State.takeFrame_life (s : State) (idx : Nat) (seg : Nat) (borrow : Bool) (keep : List Nat) :
    (State.takeFrame s idx seg borrow keep).1.pending = s.pending ∧ (State.takeFrame s idx seg borrow keep).1.sec.lifeOf = s.sec.lifeOf := by
  simp [State.takeFrame]

@[simp] theorem State.grantFrame_life (s : State) (keep : Nat → Nat → Bool) (r : FrameResv) :
    (State.grantFrame s keep r).pending = s.pending ∧ (State.grantFrame s keep r).sec.lifeOf = s.sec.lifeOf := by
  simp [State.grantFrame]

@[simp] theorem State.grantFrames_life (s : State) (keep : Nat → Nat → Bool) :
    (State.grantFrames s keep).pending = s.pending ∧ (State.grantFrames s keep).sec.lifeOf = s.sec.lifeOf := by
  simp [State.grantFrames]

@[simp] theorem State.reserveFrames_life (s : State) (qpn : Nat) (msg : Nat) (idx : Nat) (segs : List Nat) (keep : Nat → Nat → Bool) :
    (State.reserveFrames s qpn msg idx segs keep).pending = s.pending ∧ (State.reserveFrames s qpn msg idx segs keep).sec.lifeOf = s.sec.lifeOf := by
  simp [State.reserveFrames]

@[simp] theorem State.shrinkShared_life (s : State) (window : Nat) (x2 : Nat) :
    (State.shrinkShared s window x2).pending = s.pending ∧ (State.shrinkShared s window x2).sec.lifeOf = s.sec.lifeOf := by
  induction x2 generalizing s with
  | zero => exact ⟨rfl, rfl⟩
  | succ n ih =>
    unfold State.shrinkShared
    dsimp only
    (repeat' split) <;> simp [ih]

@[simp] theorem State.promote_life (s : State) (idx : Nat) (seg : Nat) (prefetch : Bool) (keep : List Nat) :
    (State.promote s idx seg prefetch keep).pending = s.pending ∧ (State.promote s idx seg prefetch keep).sec.lifeOf = s.sec.lifeOf := by
  show State.KeepsLife _ _
  unfold State.promote
  extract_lets b
  have hb : s.KeepsLife b.1 := by simp [State.KeepsLife, b]
  split
  · exact hb
  have k := State.takeFrame_life b.1 idx seg false keep
  split
  · rename_i h
    rw [h] at k
    exact hb.trans k
  · rename_i h
    rw [h] at k
    exact (hb.trans k).trans (by simp [State.KeepsLife])

@[simp] theorem State.useFrame_life (s : State) (idx : Nat) (seg : Nat) (read : Bool) :
    (State.useFrame s idx seg read).pending = s.pending ∧ (State.useFrame s idx seg read).sec.lifeOf = s.sec.lifeOf := by
  unfold State.useFrame
  (repeat' split) <;> simp

@[simp] theorem State.wholeFrame_life (s : State) (idx : Nat) (seg : Nat) :
    (State.wholeFrame s idx seg).1.pending = s.pending ∧ (State.wholeFrame s idx seg).1.sec.lifeOf = s.sec.lifeOf := by
  simp [State.wholeFrame]

@[simp] theorem State.accessSeg_life (s : State) (idx : Nat) (seg : Nat) (whole : Bool) (read : Bool) :
    (State.accessSeg s idx seg whole read).1.pending = s.pending ∧ (State.accessSeg s idx seg whole read).1.sec.lifeOf = s.sec.lifeOf := by
  unfold State.accessSeg
  (repeat' split) <;> simp

@[simp] theorem State.placeCopy_life (s : State) (idx : Nat) (seg : Nat) (cells : List Host.Cell) :
    (State.placeCopy s idx seg cells).pending = s.pending ∧ (State.placeCopy s idx seg cells).sec.lifeOf = s.sec.lifeOf := by
  exact ⟨rfl, rfl⟩

@[simp] theorem State.residentNow_life (s : State) (idx : Nat) (seg : Nat) (dirty : Bool) :
    (State.residentNow s idx seg dirty).pending = s.pending ∧ (State.residentNow s idx seg dirty).sec.lifeOf = s.sec.lifeOf := by
  simp [State.residentNow]

@[simp] theorem State.poisonSeg_life (s : State) (idx : Nat) (seg : Nat) (member : Nat) :
    (State.poisonSeg s idx seg member).pending = s.pending ∧ (State.poisonSeg s idx seg member).sec.lifeOf = s.sec.lifeOf := by
  show State.KeepsLife _ _
  unfold State.poisonSeg
  refine State.KeepsLife.trans ?_ (State.event_life _ _ _ _)
  refine State.KeepsLife.trans ?_ (State.modTmv_life _ _)
  refine State.KeepsLife.trans ?_ (State.setEntry_life _ _ _ _)
  split
  · exact State.freeFrame_life _ _
  · exact State.KeepsLife.refl _

@[simp] theorem State.present_life (s : State) (idx : Nat) (off : Nat) (len : Nat) :
    (State.present s idx off len).pending = s.pending ∧ (State.present s idx off len).sec.lifeOf = s.sec.lifeOf := by
  simp [State.present]

@[simp] theorem State.wroteRange_life (s : State) (old : State) (idx : Nat) (off : Nat) (len : Nat) :
    (State.wroteRange s old idx off len).pending = s.pending ∧ (State.wroteRange s old idx off len).sec.lifeOf = s.sec.lifeOf := by
  unfold State.wroteRange
  (repeat' split) <;> simp (disch := (intros; (try dsimp only); (repeat' split) <;> simp))

@[simp] theorem State.regionWrite_life (s : State) (idx : Nat) (off : Nat) (b : Bytes) :
    (State.regionWrite s idx off b).pending = s.pending ∧ (State.regionWrite s idx off b).sec.lifeOf = s.sec.lifeOf := by
  show State.KeepsLife _ _
  unfold State.regionWrite
  refine State.keepsLife_foldl _ _ (fun s p => ?_) _
  split <;> simp [State.KeepsLife]

@[simp] theorem State.modTport_life (s : State) (n : Nat) (f : TwinPort → TwinPort) :
    (State.modTport s n f).pending = s.pending ∧ (State.modTport s n f).sec.lifeOf = s.sec.lifeOf := by
  exact ⟨rfl, rfl⟩

@[simp] theorem State.emitTwin_life (s : State) (p : Nat) (g : Nat) (epoch : Nat) (seq : Nat) (body : TwinBody) :
    (State.emitTwin s p g epoch seq body).pending = s.pending ∧ (State.emitTwin s p g epoch seq body).sec.lifeOf = s.sec.lifeOf := by
  exact ⟨rfl, rfl⟩

@[simp] theorem State.twinSend_life (s : State) (g : Nat) (epoch : Nat) (seq : Nat) (body : TwinBody) :
    (State.twinSend s g epoch seq body).pending = s.pending ∧ (State.twinSend s g epoch seq body).sec.lifeOf = s.sec.lifeOf := by
  unfold State.twinSend
  (repeat' split) <;> simp

@[simp] theorem State.sendHello_life (s : State) (p : Nat) (reply : Bool) (chosen : Nat) :
    (State.sendHello s p reply chosen).pending = s.pending ∧ (State.sendHello s p reply chosen).sec.lifeOf = s.sec.lifeOf := by
  exact ⟨rfl, rfl⟩

@[simp] theorem State.helloStarts_life (s : State) (p : Nat) :
    (State.helloStarts s p).pending = s.pending ∧ (State.helloStarts s p).sec.lifeOf = s.sec.lifeOf := by
  simp [State.helloStarts]

@[simp] theorem State.sendEcho_life (s : State) (p : Nat) :
    (State.sendEcho s p).pending = s.pending ∧ (State.sendEcho s p).sec.lifeOf = s.sec.lifeOf := by
  exact ⟨rfl, rfl⟩

@[simp] theorem State.transmit_life (s : State) (g : Nat) (f : OutFrame) (retx : Bool) :
    (State.transmit s g f retx).pending = s.pending ∧ (State.transmit s g f retx).sec.lifeOf = s.sec.lifeOf := by
  unfold State.transmit
  (repeat' split) <;> simp

@[simp] theorem State.pumpFrames_life (s : State) (g : Nat) :
    (State.pumpFrames s g).pending = s.pending ∧ (State.pumpFrames s g).sec.lifeOf = s.sec.lifeOf := by
  simp [State.pumpFrames]

@[simp] theorem State.issueFrame_life (s : State) (g : Nat) (f : OutFrame) :
    (State.issueFrame s g f).1.pending = s.pending ∧ (State.issueFrame s g f).1.sec.lifeOf = s.sec.lifeOf := by
  simp [State.issueFrame]

@[simp] theorem State.frameData_life (s : State) (g : Nat) (seq : Nat) (data : Bytes) :
    (State.frameData s g seq data).pending = s.pending ∧ (State.frameData s g seq data).sec.lifeOf = s.sec.lifeOf := by
  simp [State.frameData]

@[simp] theorem State.issueUnit_life (s : State) (g : Nat) (stream : Bytes) (redoLen : Nat) (extents : Nat) :
    (State.issueUnit s g stream redoLen extents).1.pending = s.pending ∧ (State.issueUnit s g stream redoLen extents).1.sec.lifeOf = s.sec.lifeOf := by
  simp [State.issueUnit]

@[simp] theorem State.setDivergent_life (s : State) (idx : Nat) (seg : Nat) :
    (State.setDivergent s idx seg).pending = s.pending ∧ (State.setDivergent s idx seg).sec.lifeOf = s.sec.lifeOf := by
  simp [State.setDivergent]

@[simp] theorem State.clearDivergent_life (s : State) (idx : Nat) (seg : Nat) :
    (State.clearDivergent s idx seg).pending = s.pending ∧ (State.clearDivergent s idx seg).sec.lifeOf = s.sec.lifeOf := by
  simp [State.clearDivergent]

@[simp] theorem State.setTarget_life (s : State) (g : Nat) (t : Option ResyncTarget) :
    (State.setTarget s g t).pending = s.pending ∧ (State.setTarget s g t).sec.lifeOf = s.sec.lifeOf := by
  simp [State.setTarget]

@[simp] theorem State.modPort_life (s : State) (n : Nat) (f : HostPort → HostPort) :
    (State.modPort s n f).pending = s.pending ∧ (State.modPort s n f).sec.lifeOf = s.sec.lifeOf := by
  exact ⟨rfl, rfl⟩

@[simp] theorem State.sendFab_life (s : State) (port : Nat) (slot : Option Nat) (dscp : Nat) (ecn : Nat) (f : Frh) (b : FabBody) :
    (State.sendFab s port slot dscp ecn f b).pending = s.pending ∧ (State.sendFab s port slot dscp ecn f b).sec.lifeOf = s.sec.lifeOf := by
  simp [State.sendFab]

@[simp] theorem State.sendLease_life (s : State) (dst : Nat) (m : LeaseMsg) :
    (State.sendLease s dst m).pending = s.pending ∧ (State.sendLease s dst m).sec.lifeOf = s.sec.lifeOf := by
  simp [State.sendLease]

@[simp] theorem State.sendCallers_life (s : State) (m : LeaseMsg) :
    (State.sendCallers s m).pending = s.pending ∧ (State.sendCallers s m).sec.lifeOf = s.sec.lifeOf := by
  unfold State.sendCallers
  dsimp only
  (repeat' split) <;> simp_all

@[simp] theorem State.callerRequest_life (s : State) (op : Nat) (g : Nat) (epoch : Nat) (inSync : Bool) (unpair : Bool) (mapB : BitVec 256) (residence : Nat) :
    (State.callerRequest s op g epoch inSync unpair mapB residence).pending = s.pending ∧ (State.callerRequest s op g epoch inSync unpair mapB residence).sec.lifeOf = s.sec.lifeOf := by
  simp [State.callerRequest]

@[simp] theorem State.openRequest_life (s : State) (op : Nat) (g : Nat) (epoch : Nat) (inSync : Bool) (residence : Nat) (cmd : Nat) :
    (State.openRequest s op g epoch inSync residence cmd).pending = s.pending ∧ (State.openRequest s op g epoch inSync residence cmd).sec.lifeOf = s.sec.lifeOf := by
  simp [State.openRequest]

@[simp] theorem State.declareSolo_life (s : State) (g : Nat) :
    (State.declareSolo s g).pending = s.pending ∧ (State.declareSolo s g).sec.lifeOf = s.sec.lifeOf := by
  simp [State.declareSolo]

@[simp] theorem State.setRole_life (s : State) (g : Nat) (r : Role) (epoch : Nat) :
    (State.setRole s g r epoch).pending = s.pending ∧ (State.setRole s g r epoch).sec.lifeOf = s.sec.lifeOf := by
  simp [State.setRole]

@[simp] theorem State.sendConfigAt_life (s : State) (g : Nat) (epoch : Nat) (op : Nat) (idx : Nat) (image : Bytes) (cmd : Nat) :
    (State.sendConfigAt s g epoch op idx image cmd).pending = s.pending ∧ (State.sendConfigAt s g epoch op idx image cmd).sec.lifeOf = s.sec.lifeOf := by
  simp [State.sendConfigAt]

@[simp] theorem State.sendConfig_life (s : State) (g : Nat) (op : Nat) (idx : Nat) (image : Bytes) (cmd : Nat) :
    (State.sendConfig s g op idx image cmd).pending = s.pending ∧ (State.sendConfig s g op idx image cmd).sec.lifeOf = s.sec.lifeOf := by
  simp [State.sendConfig]

@[simp] theorem State.twinRead_life (s : State) (idx : Nat) (seg : Nat) (line : Option Nat) :
    (State.twinRead s idx seg line).pending = s.pending ∧ (State.twinRead s idx seg line).sec.lifeOf = s.sec.lifeOf := by
  simp [State.twinRead]

@[simp] theorem State.qccModify_life (s : State) (qpn : Nat) :
    (State.qccModify s qpn).pending = s.pending ∧ (State.qccModify s qpn).sec.lifeOf = s.sec.lifeOf := by
  unfold State.qccModify
  (repeat' split) <;> simp

@[simp] theorem State.modQp_life (s : State) (n : Nat) (f : Qp → Qp) :
    (State.modQp s n f).pending = s.pending ∧ (State.modQp s n f).sec.lifeOf = s.sec.lifeOf := by
  simp [State.modQp]

@[simp] theorem State.modCq_life (s : State) (n : Nat) (f : Cq → Cq) :
    (State.modCq s n f).pending = s.pending ∧ (State.modCq s n f).sec.lifeOf = s.sec.lifeOf := by
  simp [State.modCq]

@[simp] theorem State.qccWriteBack_life (s : State) :
    (State.qccWriteBack s).pending = s.pending ∧ (State.qccWriteBack s).sec.lifeOf = s.sec.lifeOf := by
  exact ⟨rfl, rfl⟩

@[simp] theorem State.sendNow_life (s : State) (qpn : Nat) (p : OutPkt) :
    (State.sendNow s qpn p).pending = s.pending ∧ (State.sendNow s qpn p).sec.lifeOf = s.sec.lifeOf := by
  unfold State.sendNow
  dsimp only
  (repeat' split) <;> simp_all

@[simp] theorem State.modGov_life (s : State) (qpn : Nat) (f : Governor → Governor) :
    (State.modGov s qpn f).pending = s.pending ∧ (State.modGov s qpn f).sec.lifeOf = s.sec.lifeOf := by
  exact ⟨rfl, rfl⟩

@[simp] theorem State.pumpGov_life (s : State) (qpn : Nat) :
    (State.pumpGov s qpn).pending = s.pending ∧ (State.pumpGov s qpn).sec.lifeOf = s.sec.lifeOf := by
  simp [State.pumpGov]

@[simp] theorem State.pumpGovs_life (s : State) :
    (State.pumpGovs s).pending = s.pending ∧ (State.pumpGovs s).sec.lifeOf = s.sec.lifeOf := by
  simp [State.pumpGovs]

@[simp] theorem State.sendPkt_life (s : State) (qpn : Nat) (p : OutPkt) :
    (State.sendPkt s qpn p).pending = s.pending ∧ (State.sendPkt s qpn p).sec.lifeOf = s.sec.lifeOf := by
  simp [State.sendPkt]

@[simp] theorem State.sendQp_life (s : State) (qpn : Nat) (body : RoceBody) :
    (State.sendQp s qpn body).pending = s.pending ∧ (State.sendQp s qpn body).sec.lifeOf = s.sec.lifeOf := by
  simp [State.sendQp]

@[simp] theorem State.resumePort_life (s : State) (p : Nat) :
    (State.resumePort s p).pending = s.pending ∧ (State.resumePort s p).sec.lifeOf = s.sec.lifeOf := by
  simp [State.resumePort]

@[simp] theorem State.nak_life (s : State) (qpn : Nat) (psn : Nat) (syndrome : Nat) :
    (State.nak s qpn psn syndrome).pending = s.pending ∧ (State.nak s qpn psn syndrome).sec.lifeOf = s.sec.lifeOf := by
  simp [State.nak]

@[simp] theorem State.inOrder_life (s : State) (qpn : Nat) (psn : Nat) (syndrome : Nat) :
    (State.inOrder s qpn psn syndrome).pending = s.pending ∧ (State.inOrder s qpn psn syndrome).sec.lifeOf = s.sec.lifeOf := by
  unfold State.inOrder
  (repeat' split) <;> simp

@[simp] theorem State.nakLater_life (s : State) (qpn : Nat) (psn : Nat) (syndrome : Nat) :
    (State.nakLater s qpn psn syndrome).pending = s.pending ∧ (State.nakLater s qpn psn syndrome).sec.lifeOf = s.sec.lifeOf := by
  simp [State.nakLater]

@[simp] theorem State.rnr_life (s : State) (qpn : Nat) (psn : Nat) (code : Nat) :
    (State.rnr s qpn psn code).pending = s.pending ∧ (State.rnr s qpn psn code).sec.lifeOf = s.sec.lifeOf := by
  simp [State.rnr]

@[simp] theorem State.logRecord_life (s : State) (qpn : Nat) (r : LogRec) :
    (State.logRecord s qpn r).pending = s.pending ∧ (State.logRecord s qpn r).sec.lifeOf = s.sec.lifeOf := by
  simp [State.logRecord]

@[simp] theorem State.releaseRegion_life (s : State) (idx : Nat) :
    (State.releaseRegion s idx).pending = s.pending ∧ (State.releaseRegion s idx).sec.lifeOf = s.sec.lifeOf := by
  simp [State.releaseRegion]

@[simp] theorem State.endDrain_life (s : State) (idx : Nat) (dr : Drain) :
    (State.endDrain s idx dr).pending = s.pending ∧ (State.endDrain s idx dr).sec.lifeOf = s.sec.lifeOf := by
  simp [State.endDrain]

@[simp] theorem State.checkDrain_life (s : State) (idx : Nat) :
    (State.checkDrain s idx).pending = s.pending ∧ (State.checkDrain s idx).sec.lifeOf = s.sec.lifeOf := by
  unfold State.checkDrain
  (repeat' split) <;> simp

@[simp] theorem State.checkDrains_life (s : State) :
    (State.checkDrains s).pending = s.pending ∧ (State.checkDrains s).sec.lifeOf = s.sec.lifeOf := by
  simp [State.checkDrains]

@[simp] theorem State.letBufsGo_life (s : State) (m : OpenMsg) :
    (State.letBufsGo s m).pending = s.pending ∧ (State.letBufsGo s m).sec.lifeOf = s.sec.lifeOf := by
  simp [State.letBufsGo]

@[simp] theorem State.releaseMsg_life (s : State) (qpn : Nat) (m : OpenMsg) :
    (State.releaseMsg s qpn m).pending = s.pending ∧ (State.releaseMsg s qpn m).sec.lifeOf = s.sec.lifeOf := by
  simp [State.releaseMsg]

@[simp] theorem State.freeQp_life (s : State) (qpn : Nat) :
    (State.freeQp s qpn).pending = s.pending ∧ (State.freeQp s qpn).sec.lifeOf = s.sec.lifeOf := by
  simp [State.freeQp]

@[simp] theorem State.endInherit_life (s : State) (qpn : Nat) :
    (State.endInherit s qpn).pending = s.pending ∧ (State.endInherit s qpn).sec.lifeOf = s.sec.lifeOf := by
  simp [State.endInherit]

@[simp] theorem State.errorCore_life (s : State) (qpn : Nat) (cause : Nat) :
    (State.errorCore s qpn cause).pending = s.pending ∧ (State.errorCore s qpn cause).sec.lifeOf = s.sec.lifeOf := by
  simp [State.errorCore]

@[simp] theorem State.descUse_life (s : State) (idx : Nat) :
    (State.descUse s idx).pending = s.pending ∧ (State.descUse s idx).sec.lifeOf = s.sec.lifeOf := by
  simp [State.descUse]

@[simp] theorem State.ringWrite_life (s : State) (idx : Nat) (off : Nat) (b : Bytes) :
    (State.ringWrite s idx off b).pending = s.pending ∧ (State.ringWrite s idx off b).sec.lifeOf = s.sec.lifeOf := by
  unfold State.ringWrite
  (repeat' split) <;> simp (disch := (intros; (try dsimp only); (repeat' split) <;> simp))

@[simp] theorem State.cqReread_life (s : State) (cqn : Nat) :
    (State.cqReread s cqn).pending = s.pending ∧ (State.cqReread s cqn).sec.lifeOf = s.sec.lifeOf := by
  unfold State.cqReread
  dsimp only
  (repeat' split) <;> simp_all

@[simp] theorem State.wakeWaits_life (s : State) (cqn : Nat) :
    (State.wakeWaits s cqn).pending = s.pending ∧ (State.wakeWaits s cqn).sec.lifeOf = s.sec.lifeOf := by
  simp [State.wakeWaits]

@[simp] theorem State.cqError_life (s : State) (cqn : Nat) :
    (State.cqError s cqn).pending = s.pending ∧ (State.cqError s cqn).sec.lifeOf = s.sec.lifeOf := by
  simp [State.cqError]

@[simp] theorem State.cqWrite_life (s : State) (cqn : Nat) (e : CqEntry) :
    (State.cqWrite s cqn e).pending = s.pending ∧ (State.cqWrite s cqn e).sec.lifeOf = s.sec.lifeOf := by
  unfold State.cqWrite
  dsimp only
  (repeat' split) <;> simp_all

@[simp] theorem State.clearErrPending_life (s : State) (qpn : Nat) :
    (State.clearErrPending s qpn).pending = s.pending ∧ (State.clearErrPending s qpn).sec.lifeOf = s.sec.lifeOf := by
  simp [State.clearErrPending]

@[simp] theorem State.cqFlush_life (s : State) (cqn : Nat) (x2 : Nat) :
    (State.cqFlush s cqn x2).pending = s.pending ∧ (State.cqFlush s cqn x2).sec.lifeOf = s.sec.lifeOf := by
  induction x2 generalizing s with
  | zero => exact ⟨rfl, rfl⟩
  | succ n ih =>
    unfold State.cqFlush
    dsimp only
    (repeat' split) <;> simp [ih]

@[simp] theorem State.cqRefresh_life (s : State) (cqn : Nat) :
    (State.cqRefresh s cqn).pending = s.pending ∧ (State.cqRefresh s cqn).sec.lifeOf = s.sec.lifeOf := by
  simp [State.cqRefresh]

@[simp] theorem State.cqRoom_life (s : State) (cqn : Nat) :
    (State.cqRoom s cqn).1.pending = s.pending ∧ (State.cqRoom s cqn).1.sec.lifeOf = s.sec.lifeOf := by
  simp [State.cqRoom]

@[simp] theorem State.cqMessage_life (s : State) (cqn : Nat) (e : CqEntry) :
    (State.cqMessage s cqn e).pending = s.pending ∧ (State.cqMessage s cqn e).sec.lifeOf = s.sec.lifeOf := by
  simp [State.cqMessage]

@[simp] theorem State.cqNotice_life (s : State) (cqn : Nat) (e : CqEntry) :
    (State.cqNotice s cqn e).pending = s.pending ∧ (State.cqNotice s cqn e).sec.lifeOf = s.sec.lifeOf := by
  simp [State.cqNotice]

@[simp] theorem State.cqQpError_life (s : State) (cqn : Nat) (qpn : Nat) (cause : Nat) :
    (State.cqQpError s cqn qpn cause).pending = s.pending ∧ (State.cqQpError s cqn qpn cause).sec.lifeOf = s.sec.lifeOf := by
  simp [State.cqQpError]

@[simp] theorem State.enterError_life (s : State) (qpn : Nat) (cause : Nat) :
    (State.enterError s qpn cause).pending = s.pending ∧ (State.enterError s qpn cause).sec.lifeOf = s.sec.lifeOf := by
  simp [State.enterError]

@[simp] theorem State.modMsg_life (s : State) (qpn : Nat) (id : Nat) (f : OpenMsg → OpenMsg) :
    (State.modMsg s qpn id f).pending = s.pending ∧ (State.modMsg s qpn id f).sec.lifeOf = s.sec.lifeOf := by
  simp [State.modMsg]

@[simp] theorem State.verdict_life (s : State) (qpn : Nat) (id : Nat) (v : Verdict) :
    (State.verdict s qpn id v).pending = s.pending ∧ (State.verdict s qpn id v).sec.lifeOf = s.sec.lifeOf := by
  simp [State.verdict]

@[simp] theorem State.reportViolation_life (s : State) (qpn : Nat) (m : OpenMsg) (kind : Nat) :
    (State.reportViolation s qpn m kind).pending = s.pending ∧ (State.reportViolation s qpn m kind).sec.lifeOf = s.sec.lifeOf := by
  simp [State.reportViolation]

@[simp] theorem State.answerDup_life (s : State) (qpn : Nat) (m : OpenMsg) :
    (State.answerDup s qpn m).pending = s.pending ∧ (State.answerDup s qpn m).sec.lifeOf = s.sec.lifeOf := by
  simp [State.answerDup]

@[simp] theorem State.answerHead_life (s : State) (qpn : Nat) (m : OpenMsg) :
    (State.answerHead s qpn m).pending = s.pending ∧ (State.answerHead s qpn m).sec.lifeOf = s.sec.lifeOf := by
  show State.KeepsLife _ _
  unfold State.answerHead
  extract_lets +onlyGivenNames q posted a q1 q2 ans held far b c d e f g
  have ha : s.KeepsLife a := by
    simp only [a]
    split
    · split <;> simp [State.KeepsLife]
    · exact State.KeepsLife.refl _
  refine ha.trans ?_
  split
  · exact State.KeepsLife.refl _
  have hb : a.KeepsLife b := by simp [State.KeepsLife, b]
  have hc : b.KeepsLife c := by simp [State.KeepsLife, c]
  have hd : c.KeepsLife d := by
    simp only [d]
    split <;> simp [State.KeepsLife]
  have he : d.KeepsLife e := by
    simp only [e]
    split <;> simp [State.KeepsLife]
  have hf : e.KeepsLife f := State.keepsLife_foldl _ _ (fun _ _ => State.sendQp_life _ _ _) _
  have hg : f.KeepsLife g := State.keepsLife_foldl _ _ (fun _ _ => State.sendQp_life _ _ _) _
  refine ((hb.trans (hc.trans (hd.trans (he.trans hf)))).trans hg).trans ?_
  clear_value g
  (repeat' split) <;> simp [State.KeepsLife]

@[simp] theorem State.releaseN_life (s : State) (qpn : Nat) (x2 : Nat) :
    (State.releaseN s qpn x2).pending = s.pending ∧ (State.releaseN s qpn x2).sec.lifeOf = s.sec.lifeOf := by
  induction x2 generalizing s with
  | zero => exact ⟨rfl, rfl⟩
  | succ n ih =>
    unfold State.releaseN
    dsimp only
    (repeat' split) <;> simp [ih]

@[simp] theorem State.release_life (s : State) (qpn : Nat) :
    (State.release s qpn).pending = s.pending ∧ (State.release s qpn).sec.lifeOf = s.sec.lifeOf := by
  simp [State.release]

@[simp] theorem State.issueWrite_life (s : State) (qpn : Nat) (m : OpenMsg) (j : Job) :
    (State.issueWrite s qpn m j).pending = s.pending ∧ (State.issueWrite s qpn m j).sec.lifeOf = s.sec.lifeOf := by
  simp [State.issueWrite]

@[simp] theorem State.issueAtomic_life (s : State) (qpn : Nat) (m : OpenMsg) (j : Job) :
    (State.issueAtomic s qpn m j).pending = s.pending ∧ (State.issueAtomic s qpn m j).sec.lifeOf = s.sec.lifeOf := by
  simp [State.issueAtomic]

@[simp] theorem State.prefetch_life (s : State) (idx : Nat) (seg : Nat) :
    (State.prefetch s idx seg).pending = s.pending ∧ (State.prefetch s idx seg).sec.lifeOf = s.sec.lifeOf := by
  simp [State.prefetch]

@[simp] theorem State.checkAtIssue_life (s : State) (qpn : Nat) (m : OpenMsg) :
    (State.checkAtIssue s qpn m).1.pending = s.pending ∧ (State.checkAtIssue s qpn m).1.sec.lifeOf = s.sec.lifeOf := by
  unfold State.checkAtIssue
  dsimp only
  (repeat' split) <;> simp_all

@[simp] theorem State.issueRead_life (s : State) (qpn : Nat) (m : OpenMsg) :
    (State.issueRead s qpn m).1.pending = s.pending ∧ (State.issueRead s qpn m).1.sec.lifeOf = s.sec.lifeOf := by
  unfold State.issueRead
  dsimp only
  (repeat' split) <;> simp_all

@[simp] theorem State.tryPlace_life (s : State) (qpn : Nat) (m : OpenMsg) (j : Job) :
    (State.tryPlace s qpn m j).1.pending = s.pending ∧ (State.tryPlace s qpn m j).1.sec.lifeOf = s.sec.lifeOf := by
  unfold State.tryPlace
  dsimp only
  (repeat' split) <;> simp_all

@[simp] theorem State.modAwgs_life (s : State) (q : Awg → Bool) (f : Awg → Awg) :
    (State.modAwgs s q f).pending = s.pending ∧ (State.modAwgs s q f).sec.lifeOf = s.sec.lifeOf := by
  exact ⟨rfl, rfl⟩

@[simp] theorem State.issueAwg_life (s : State) (a : Awg) :
    (State.issueAwg s a).1.pending = s.pending ∧ (State.issueAwg s a).1.sec.lifeOf = s.sec.lifeOf := by
  simp [State.issueAwg]

@[simp] theorem State.issueAwgs_life (s : State) :
    (State.issueAwgs s).pending = s.pending ∧ (State.issueAwgs s).sec.lifeOf = s.sec.lifeOf := by
  simp [State.issueAwgs]

@[simp] theorem State.walk_life (s : State) (qpn : Nat) (x2 : List OpenMsg) (x3 : Bool) (x4 : List (Nat × Nat × Nat)) :
    (State.walk s qpn x2 x3 x4).1.pending = s.pending ∧ (State.walk s qpn x2 x3 x4).1.sec.lifeOf = s.sec.lifeOf := by
  induction x2 generalizing s x3 x4 with
  | nil => exact ⟨rfl, rfl⟩
  | cons m t ih =>
    unfold State.walk
    dsimp only
    (repeat' split) <;> simp [ih]

@[simp] theorem State.issueN_life (s : State) (qpn : Nat) (x2 : Nat) :
    (State.issueN s qpn x2).pending = s.pending ∧ (State.issueN s qpn x2).sec.lifeOf = s.sec.lifeOf := by
  induction x2 generalizing s with
  | zero => exact ⟨rfl, rfl⟩
  | succ n ih =>
    unfold State.issueN
    dsimp only
    (repeat' split) <;> simp [ih]

@[simp] theorem State.advance_life (s : State) (qpn : Nat) :
    (State.advance s qpn).pending = s.pending ∧ (State.advance s qpn).sec.lifeOf = s.sec.lifeOf := by
  simp [State.advance]

@[simp] theorem State.advanceAll_life (s : State) :
    (State.advanceAll s).pending = s.pending ∧ (State.advanceAll s).sec.lifeOf = s.sec.lifeOf := by
  simp [State.advanceAll]

@[simp] theorem State.advanceGroup_life (s : State) (_g : Nat) :
    (State.advanceGroup s _g).pending = s.pending ∧ (State.advanceGroup s _g).sec.lifeOf = s.sec.lifeOf := by
  simp [State.advanceGroup]

@[simp] theorem State.frameForWhole_life (s : State) (idx : Nat) (seg : Nat) :
    (State.frameForWhole s idx seg).pending = s.pending ∧ (State.frameForWhole s idx seg).sec.lifeOf = s.sec.lifeOf := by
  unfold State.frameForWhole
  dsimp only
  (repeat' split) <;> simp_all

@[simp] theorem State.placeJob_life (s : State) (j : Job) (bad : List Nat) :
    (State.placeJob s j bad).1.pending = s.pending ∧ (State.placeJob s j bad).1.sec.lifeOf = s.sec.lifeOf := by
  show State.KeepsLife _ (Prod.fst _)
  unfold State.placeJob
  extract_lets +onlyGivenNames seg fresh a
  have ha : s.KeepsLife a := by simp [State.KeepsLife, a]
  refine ha.trans ?_
  clear_value a
  split
  · exact State.KeepsLife.refl _
  · extract_lets +onlyGivenNames base first old res data n lines isOp was fails new d m charged before keep b changed c e f g
    clear_value keep new fails lines changed
    have hb : a.KeepsLife b := by
      simp only [b]
      cases data <;> exact ⟨rfl, rfl⟩
    have hc : b.KeepsLife c := by
      clear_value b
      simp only [c]
      split <;> simp [State.KeepsLife]
    have he : c.KeepsLife e := by
      clear_value c
      simp only [e]
      split <;> simp [State.KeepsLife]
    have hf : e.KeepsLife f := by
      clear_value e m
      simp only [f]
      cases m <;> simp [State.KeepsLife]
    have hg : f.KeepsLife g := by
      clear_value f
      simp only [g]
      cases j.seq <;> simp [State.KeepsLife]
    exact (hb.trans (hc.trans (he.trans hf))).trans hg

@[simp] theorem State.placementDone_life (s : State) (bad : List Nat) :
    (State.placementDone s bad).1.pending = s.pending ∧ (State.placementDone s bad).1.sec.lifeOf = s.sec.lifeOf := by
  unfold State.placementDone
  (repeat' split) <;> simp

@[simp] theorem State.reserveLater_life (s : State) (qpn : Nat) (msg : Nat) :
    (State.reserveLater s qpn msg).pending = s.pending ∧ (State.reserveLater s qpn msg).sec.lifeOf = s.sec.lifeOf := by
  unfold State.reserveLater
  (repeat' split) <;> simp

@[simp] theorem State.readDone_life (s : State) (bad : List Nat) :
    (State.readDone s bad).1.pending = s.pending ∧ (State.readDone s bad).1.sec.lifeOf = s.sec.lifeOf := by
  unfold State.readDone
  dsimp only
  (repeat' split) <;> simp_all

@[simp] theorem State.mark_life (s : State) (qpn : Nat) :
    (State.mark s qpn).pending = s.pending ∧ (State.mark s qpn).sec.lifeOf = s.sec.lifeOf := by
  simp [State.mark]

@[simp] theorem State.ceMark_life (s : State) (qpn : Nat) (ce : Bool) :
    (State.ceMark s qpn ce).pending = s.pending ∧ (State.ceMark s qpn ce).sec.lifeOf = s.sec.lifeOf := by
  simp [State.ceMark]

@[simp] theorem State.endpointMark_life (s : State) (qpn : Nat) (psn : Nat) (op : ReqOp) :
    (State.endpointMark s qpn psn op).1.pending = s.pending ∧ (State.endpointMark s qpn psn op).1.sec.lifeOf = s.sec.lifeOf := by
  simp [State.endpointMark]

@[simp] theorem State.nextRecv_life (s : State) (qpn : Nat) :
    (State.nextRecv s qpn).1.pending = s.pending ∧ (State.nextRecv s qpn).1.sec.lifeOf = s.sec.lifeOf := by
  unfold State.nextRecv
  dsimp only
  (repeat' split) <;> simp_all

@[simp] theorem State.consumeRecv_life (s : State) (qpn : Nat) :
    (State.consumeRecv s qpn).pending = s.pending ∧ (State.consumeRecv s qpn).sec.lifeOf = s.sec.lifeOf := by
  simp [State.consumeRecv]

@[simp] theorem State.acceptPsn_life (s : State) (qpn : Nat) (n : Nat) :
    (State.acceptPsn s qpn n).pending = s.pending ∧ (State.acceptPsn s qpn n).sec.lifeOf = s.sec.lifeOf := by
  simp [State.acceptPsn]

@[simp] theorem State.invalidRequest_life (s : State) (qpn : Nat) (psn : Nat) :
    (State.invalidRequest s qpn psn).pending = s.pending ∧ (State.invalidRequest s qpn psn).sec.lifeOf = s.sec.lifeOf := by
  simp [State.invalidRequest]

@[simp] theorem State.pushMsg_life (s : State) (qpn : Nat) (m : OpenMsg) :
    (State.pushMsg s qpn m).pending = s.pending ∧ (State.pushMsg s qpn m).sec.lifeOf = s.sec.lifeOf := by
  simp [State.pushMsg]

@[simp] theorem State.refuseMsg_life (s : State) (qpn : Nat) (m : OpenMsg) (v : Verdict) :
    (State.refuseMsg s qpn m v).pending = s.pending ∧ (State.refuseMsg s qpn m v).sec.lifeOf = s.sec.lifeOf := by
  simp [State.refuseMsg]

@[simp] theorem State.stage_life (s : State) (m : OpenMsg) (n : Nat) :
    (State.stage s m n).1.pending = s.pending ∧ (State.stage s m n).1.sec.lifeOf = s.sec.lifeOf := by
  simp [State.stage]

@[simp] theorem State.letIn_life (s : State) (qpn : Nat) (m : OpenMsg) (segs : List (Nat × Nat)) (redo : Nat) (n : Nat) (local_ : Bool) (k : State → OpenMsg → State) (hf : ∀ a0 a1, (k a0 a1).pending = a0.pending ∧ (k a0 a1).sec.lifeOf = a0.sec.lifeOf) :
    (State.letIn s qpn m segs redo n local_ k).pending = s.pending ∧ (State.letIn s qpn m segs redo n local_ k).sec.lifeOf = s.sec.lifeOf := by
  show State.KeepsLife _ _
  unfold State.letIn
  extract_lets +onlyGivenNames rnr q charge needCq c a frames b d e f
  have hrnr : ∀ x : State, x.KeepsLife (rnr x) := fun x => by simp [State.KeepsLife, rnr]
  clear_value rnr
  split
  · exact hrnr _
  split
  · simp [State.KeepsLife]
  split
  · simp [State.KeepsLife]
  split
  · simp [State.KeepsLife]
  · exact State.KeepsLife.trans (by simp [State.KeepsLife]) (hrnr _)
  have ha : s.KeepsLife a := by
    simp only [a, c]
    split <;> simp [State.KeepsLife]
  refine ha.trans ?_
  clear_value a
  split
  · exact hrnr _
  split
  · exact State.KeepsLife.trans (by simp [State.KeepsLife]) (hrnr _)
  split
  · exact State.KeepsLife.trans (by simp [State.KeepsLife]) (hrnr _)
  split
  · exact State.KeepsLife.trans (by simp [State.KeepsLife]) (hrnr _)
  have hb : a.KeepsLife b.1 := by simp [State.KeepsLife, b]
  refine hb.trans ?_
  clear_value b
  split
  · simp [State.KeepsLife]
  refine State.KeepsLife.trans ?_ (hf _ _)
  simp [State.KeepsLife, f, e, d]

@[simp] theorem State.addCover_life (s : State) (qpn : Nat) (m : OpenMsg) :
    (State.addCover s qpn m).pending = s.pending ∧ (State.addCover s qpn m).sec.lifeOf = s.sec.lifeOf := by
  simp [State.addCover]

@[simp] theorem State.sendSession_life (s : State) (dst : Nat) (op : Nat) (hxv : Nat) (sender : Nat) (psn : Nat) (peer : Nat) :
    (State.sendSession s dst op hxv sender psn peer).pending = s.pending ∧ (State.sendSession s dst op hxv sender psn peer).sec.lifeOf = s.sec.lifeOf := by
  unfold State.sendSession
  (repeat' split) <;> simp

@[simp] theorem State.clearErrored_life (s : State) (m : Nat) :
    (State.clearErrored s m).pending = s.pending ∧ (State.clearErrored s m).sec.lifeOf = s.sec.lifeOf := by
  simp [State.clearErrored]

@[simp] theorem State.closeIdlest_life (s : State) :
    (State.closeIdlest s).pending = s.pending ∧ (State.closeIdlest s).sec.lifeOf = s.sec.lifeOf := by
  unfold State.closeIdlest
  (repeat' split) <;> simp

@[simp] theorem State.openSession_life (s : State) (m : Nat) :
    (State.openSession s m).pending = s.pending ∧ (State.openSession s m).sec.lifeOf = s.sec.lifeOf := by
  unfold State.openSession
  dsimp only
  (repeat' split) <;> simp_all

@[simp] theorem State.sendFabReq_life (s : State) (fq : Nat) (r : FabReq) :
    (State.sendFabReq s fq r).pending = s.pending ∧ (State.sendFabReq s fq r).sec.lifeOf = s.sec.lifeOf := by
  simp [State.sendFabReq]

@[simp] theorem State.forwardPacket_life (s : State) (fq : Nat) (qpn : Nat) (m : OpenMsg) (op : ReqOp) :
    (State.forwardPacket s fq qpn m op).pending = s.pending ∧ (State.forwardPacket s fq qpn m op).sec.lifeOf = s.sec.lifeOf := by
  simp [State.forwardPacket]

@[simp] theorem State.forwardMsg_life (s : State) (qpn : Nat) (m : OpenMsg) (op : ReqOp) :
    (State.forwardMsg s qpn m op).pending = s.pending ∧ (State.forwardMsg s qpn m op).sec.lifeOf = s.sec.lifeOf := by
  unfold State.forwardMsg
  dsimp only
  (repeat' split) <;> simp_all

@[simp] theorem State.takeMsg_life (s : State) (qpn : Nat) (m : OpenMsg) (op : ReqOp) :
    (State.takeMsg s qpn m op).pending = s.pending ∧ (State.takeMsg s qpn m op).sec.lifeOf = s.sec.lifeOf := by
  simp [State.takeMsg]

@[simp] theorem State.firstAwg_life (s : State) (qpn : Nat) (m : OpenMsg) (op : ReqOp) (extents : Nat) :
    (State.firstAwg s qpn m op extents).pending = s.pending ∧ (State.firstAwg s qpn m op extents).sec.lifeOf = s.sec.lifeOf := by
  unfold State.firstAwg
  dsimp only
  (repeat' split) <;> simp_all

@[simp] theorem State.firstAccess_life (s : State) (qpn : Nat) (m : OpenMsg) (op : ReqOp) :
    (State.firstAccess s qpn m op).pending = s.pending ∧ (State.firstAccess s qpn m op).sec.lifeOf = s.sec.lifeOf := by
  unfold State.firstAccess
  (repeat' split) <;> simp

@[simp] theorem State.firstSend_life (s : State) (qpn : Nat) (m : OpenMsg) (e : RecvEntry) (op : ReqOp) (imm : Option (BitVec 32)) :
    (State.firstSend s qpn m e op imm).pending = s.pending ∧ (State.firstSend s qpn m e op imm).sec.lifeOf = s.sec.lifeOf := by
  unfold State.firstSend
  dsimp only
  (repeat' split) <;> simp_all

@[simp] theorem State.firstHxv_life (s : State) (qpn : Nat) (m : OpenMsg) (offers : List (BitVec 16)) :
    (State.firstHxv s qpn m offers).pending = s.pending ∧ (State.firstHxv s qpn m offers).sec.lifeOf = s.sec.lifeOf := by
  simp [State.firstHxv]

@[simp] theorem State.firstWait_life (s : State) (qpn : Nat) (m : OpenMsg) (cqn : Nat) (threshold : Nat) :
    (State.firstWait s qpn m cqn threshold).pending = s.pending ∧ (State.firstWait s qpn m cqn threshold).sec.lifeOf = s.sec.lifeOf := by
  unfold State.firstWait
  dsimp only
  (repeat' split) <;> simp

@[simp] theorem State.firstRouted_life (s : State) (qpn : Nat) (m : OpenMsg) (away : Bool) (op : ReqOp) :
    (State.firstRouted s qpn m away op).pending = s.pending ∧ (State.firstRouted s qpn m away op).sec.lifeOf = s.sec.lifeOf := by
  unfold State.firstRouted
  split <;> simp

@[simp] theorem State.firstImm_life (s : State) (qpn : Nat) (m : OpenMsg) (op : ReqOp) :
    (State.firstImm s qpn m op).pending = s.pending ∧ (State.firstImm s qpn m op).sec.lifeOf = s.sec.lifeOf := by
  show State.KeepsLife _ _
  unfold State.firstImm
  refine State.KeepsLife.trans (State.nextRecv_life s qpn) ?_
  dsimp only
  split
  · simp [State.KeepsLife]
  · simp [State.KeepsLife]
  · split
    · simp [State.KeepsLife]
    · split
      · exact State.KeepsLife.trans (State.firstRouted_life _ _ _ _ _) (State.consumeRecv_life _ _)
      · exact State.firstRouted_life _ _ _ _ _

@[simp] theorem State.firstByKind_life (s : State) (qpn : Nat) (m : OpenMsg) (op : ReqOp) :
    (State.firstByKind s qpn m op).pending = s.pending ∧ (State.firstByKind s qpn m op).sec.lifeOf = s.sec.lifeOf := by
  show State.KeepsLife _ _
  unfold State.firstByKind
  split
  · simp [State.KeepsLife]
  · simp [State.KeepsLife]
  · exact State.letIn_life _ _ _ _ _ _ _ _ fun a b => by simp [State.KeepsLife]
  · refine State.KeepsLife.trans (State.nextRecv_life s qpn) ?_
    dsimp only
    split <;> simp [State.KeepsLife]
  · dsimp only
    split <;> simp [State.KeepsLife]
  · split
    · simp [State.KeepsLife]
    · exact State.firstRouted_life _ _ _ _ _

@[simp] theorem State.firstPacket_life (s : State) (qpn : Nat) (psn : Nat) (fwd : Option Fwd) (op : ReqOp) :
    (State.firstPacket s qpn psn fwd op).pending = s.pending ∧ (State.firstPacket s qpn psn fwd op).sec.lifeOf = s.sec.lifeOf := by
  unfold State.firstPacket
  dsimp only
  (repeat' split) <;> simp

@[simp] theorem State.nextPacket_life (s : State) (qpn : Nat) (psn : Nat) (m : OpenMsg) (op : ReqOp) :
    (State.nextPacket s qpn psn m op).pending = s.pending ∧ (State.nextPacket s qpn psn m op).sec.lifeOf = s.sec.lifeOf := by
  show State.KeepsLife _ _
  unfold State.nextPacket
  extract_lets +onlyGivenNames q n total ends sameKind want known imm late r c b a d e
  clear_value sameKind known imm late
  refine State.keepsLife_ite (by simp [State.KeepsLife]) (State.keepsLife_ite (by simp [State.KeepsLife]) (State.keepsLife_ite (by simp [State.KeepsLife])
    (State.keepsLife_ite (by simp [State.KeepsLife]) ?_)))
  have hr : s.KeepsLife r.1 := by
    simp only [r]
    split <;> simp [State.KeepsLife]
  refine hr.trans ?_
  clear_value r
  split
  · simp [State.KeepsLife]
  · simp [State.KeepsLife]
  split
  · simp [State.KeepsLife]
  have hc : r.1.KeepsLife c.1 := by
    simp only [c]
    split <;> simp [State.KeepsLife]
  refine hc.trans ?_
  clear_value c
  split
  · simp [State.KeepsLife]
  have hb : c.1.KeepsLife b.1 := by simp [State.KeepsLife, b]
  refine hb.trans ?_
  clear_value b
  split
  · simp [State.KeepsLife]
  have ha : b.1.KeepsLife a := by
    simp only [a]
    split <;> simp [State.KeepsLife]
  have hd : a.KeepsLife d := by
    clear_value a
    simp only [d]
    split <;> simp [State.KeepsLife]
  have he : d.KeepsLife e := State.acceptPsn_life _ _ _
  refine (ha.trans (hd.trans he)).trans ?_
  clear_value e
  cases m.via <;> simp [State.KeepsLife]

@[simp] theorem State.pushDup_life (s : State) (qpn : Nat) (m : OpenMsg) :
    (State.pushDup s qpn m).pending = s.pending ∧ (State.pushDup s qpn m).sec.lifeOf = s.sec.lifeOf := by
  simp [State.pushDup]

@[simp] theorem State.duplicateRead_life (s : State) (qpn : Nat) (psn : Nat) (m : OpenMsg) (op : ReqOp) :
    (State.duplicateRead s qpn psn m op).pending = s.pending ∧ (State.duplicateRead s qpn psn m op).sec.lifeOf = s.sec.lifeOf := by
  unfold State.duplicateRead
  dsimp only
  (repeat' split) <;> simp_all

@[simp] theorem State.duplicate_life (s : State) (qpn : Nat) (psn : Nat) (fwd : Option Fwd) (op : ReqOp) :
    (State.duplicate s qpn psn fwd op).pending = s.pending ∧ (State.duplicate s qpn psn fwd op).sec.lifeOf = s.sec.lifeOf := by
  unfold State.duplicate
  dsimp only
  (repeat' split) <;> simp_all

@[simp] theorem State.ackRequested_life (s : State) (qpn : Nat) (ackReq : Bool) (op : ReqOp) :
    (State.ackRequested s qpn ackReq op).pending = s.pending ∧ (State.ackRequested s qpn ackReq op).sec.lifeOf = s.sec.lifeOf := by
  unfold State.ackRequested
  dsimp only
  (repeat' split) <;> simp_all

@[simp] theorem State.expected_life (s : State) (qpn : Nat) (psn : Nat) (ackReq : Bool) (fresh : Bool) (fwd : Option Fwd) (op : ReqOp) :
    (State.expected s qpn psn ackReq fresh fwd op).pending = s.pending ∧ (State.expected s qpn psn ackReq fresh fwd op).sec.lifeOf = s.sec.lifeOf := by
  unfold State.expected
  dsimp only
  (repeat' split) <;> simp_all

@[simp] theorem State.classify_life (s : State) (qpn : Nat) (psn : Nat) (ackReq : Bool) (fresh : Bool) (fwd : Option Fwd) (op : ReqOp) :
    (State.classify s qpn psn ackReq fresh fwd op).pending = s.pending ∧ (State.classify s qpn psn ackReq fresh fwd op).sec.lifeOf = s.sec.lifeOf := by
  simp [State.classify]

@[simp] theorem State.qccUse_life (s : State) (qpn : Nat) :
    (State.qccUse s qpn).pending = s.pending ∧ (State.qccUse s qpn).sec.lifeOf = s.sec.lifeOf := by
  exact ⟨rfl, rfl⟩

@[simp] theorem State.process_life (s : State) (qpn : Nat) (psn : Nat) (ackReq : Bool) (fwd : Option Fwd) (op : ReqOp) :
    (State.process s qpn psn ackReq fwd op).pending = s.pending ∧ (State.process s qpn psn ackReq fwd op).sec.lifeOf = s.sec.lifeOf := by
  simp [State.process]

@[simp] theorem State.receive_life (s : State) (qpn : Nat) (psn : Nat) (ackReq : Bool) (ce : Bool) (fwd : Option Fwd) (op : ReqOp) :
    (State.receive s qpn psn ackReq ce fwd op).pending = s.pending ∧ (State.receive s qpn psn ackReq ce fwd op).sec.lifeOf = s.sec.lifeOf := by
  simp [State.receive]

@[simp] theorem State.resume_life (s : State) (x1 : List WaitPkt) :
    (State.resume s x1).pending = s.pending ∧ (State.resume s x1).sec.lifeOf = s.sec.lifeOf := by
  induction x1 generalizing s with
  | nil => exact ⟨rfl, rfl⟩
  | cons w t ih =>
    unfold State.resume
    simp [ih]

@[simp] theorem State.resumeQp_life (s : State) (qpn : Nat) :
    (State.resumeQp s qpn).pending = s.pending ∧ (State.resumeQp s qpn).sec.lifeOf = s.sec.lifeOf := by
  simp [State.resumeQp]

@[simp] theorem State.rxLevel_life (s : State) (p : Pkt) :
    (State.rxLevel s p).pending = s.pending ∧ (State.rxLevel s p).sec.lifeOf = s.sec.lifeOf := by
  simp [State.rxLevel]

@[simp] theorem State.hostPacket_life (s : State) (p : Pkt) (op : Nat) (f : Nat → State → State) (hf : ∀ a0 a1, (f a0 a1).pending = a1.pending ∧ (f a0 a1).sec.lifeOf = a1.sec.lifeOf) :
    (State.hostPacket s p op f).pending = s.pending ∧ (State.hostPacket s p op f).sec.lifeOf = s.sec.lifeOf := by
  unfold State.hostPacket
  dsimp only
  (repeat' split) <;> simp [hf]

@[simp] theorem State.hostRequest_life (s : State) (p : Pkt) (op : ReqOp) :
    (State.hostRequest s p op).pending = s.pending ∧ (State.hostRequest s p op).sec.lifeOf = s.sec.lifeOf := by
  simp [State.hostRequest]

@[simp] theorem State.setDivergents_life (s : State) (l : List (Nat × Nat)) :
    (State.setDivergents s l).pending = s.pending ∧ (State.setDivergents s l).sec.lifeOf = s.sec.lifeOf := by
  simp [State.setDivergents]

@[simp] theorem State.failCmd_life (s : State) (cmd : Nat) (reason : Nat) :
    (State.failCmd s cmd reason).pending = s.pending ∧ (State.failCmd s cmd reason).sec.lifeOf = s.sec.lifeOf := by
  simp [State.failCmd]

@[simp] theorem State.endConfigs_life (s : State) (g : Nat) (fenced : Bool) :
    (State.endConfigs s g fenced).pending = s.pending ∧ (State.endConfigs s g fenced).sec.lifeOf = s.sec.lifeOf := by
  show State.KeepsLife _ _
  unfold State.endConfigs
  extract_lets a b mine c
  have hb : s.KeepsLife b := by
    simp only [b]
    split
    · split <;> simp [State.KeepsLife, a]
    · simp [State.KeepsLife, a]
  have hc : b.KeepsLife c := by
    refine State.keepsLife_foldl _ _ (fun s i => ?_) _
    split
    · dsimp only
      simp [State.KeepsLife]
    · exact State.KeepsLife.refl _
  exact (hb.trans hc).trans (by simp [State.KeepsLife])

@[simp] theorem State.fenceMessages_life (s : State) (g : Nat) (wasActive : Bool) :
    (State.fenceMessages s g wasActive).pending = s.pending ∧ (State.fenceMessages s g wasActive).sec.lifeOf = s.sec.lifeOf := by
  simp [State.fenceMessages]

@[simp] theorem State.toFenced_life (s : State) (g : Nat) (epoch : Nat) :
    (State.toFenced s g epoch).pending = s.pending ∧ (State.toFenced s g epoch).sec.lifeOf = s.sec.lifeOf := by
  simp [State.toFenced]

@[simp] theorem State.toSolo_life (s : State) (g : Nat) (epoch : Nat) (leaseEnd : Nat) :
    (State.toSolo s g epoch leaseEnd).pending = s.pending ∧ (State.toSolo s g epoch leaseEnd).sec.lifeOf = s.sec.lifeOf := by
  simp [State.toSolo]

@[simp] theorem State.checkResync_life (s : State) :
    (State.checkResync s).pending = s.pending ∧ (State.checkResync s).sec.lifeOf = s.sec.lifeOf := by
  simp [State.checkResync]

@[simp] theorem State.modCarrier_life (s : State) (n : Nat) (f : Carrier → Carrier) :
    (State.modCarrier s n f).pending = s.pending ∧ (State.modCarrier s n f).sec.lifeOf = s.sec.lifeOf := by
  exact ⟨rfl, rfl⟩

@[simp] theorem State.freeSession_life (s : State) (slot : Nat) :
    (State.freeSession s slot).pending = s.pending ∧ (State.freeSession s slot).sec.lifeOf = s.sec.lifeOf := by
  exact ⟨rfl, rfl⟩

@[simp] theorem State.resetClusters_life (s : State) (q : Nat → Bool) :
    (State.resetClusters s q).pending = s.pending ∧ (State.resetClusters s q).sec.lifeOf = s.sec.lifeOf := by
  simp [State.resetClusters]

@[simp] theorem State.powerLog_life (s : State) (kind : Nat) (saveSeq : Nat) (rail : Nat) (railMv : Nat) :
    (State.powerLog s kind saveSeq rail railMv).pending = s.pending ∧ (State.powerLog s kind saveSeq rail railMv).sec.lifeOf = s.sec.lifeOf := by
  simp [State.powerLog]

@[simp] theorem State.abortOps_life (s : State) :
    (State.abortOps s).pending = s.pending ∧ (State.abortOps s).sec.lifeOf = s.sec.lifeOf := by
  exact State.foldl_keeps _ _ (fun s n => State.aborted_life s n) _

@[simp] theorem State.modeTargets_life (s : State) :
    (State.modeTargets s).pending = s.pending ∧ (State.modeTargets s).sec.lifeOf = s.sec.lifeOf := by
  show State.KeepsLife _ _
  unfold State.modeTargets
  extract_lets stopped a b want hit
  have ha : s.KeepsLife a := by
    simp only [a]
    (repeat' split) <;> simp [State.KeepsLife]
  have hb : a.KeepsLife b := by
    simp only [b]
    split <;> simp [State.KeepsLife]
  refine (ha.trans hb).trans ?_
  (repeat' split) <;> simp [State.KeepsLife]

@[simp] theorem State.capStop_life (s : State) :
    (State.capStop s).pending = s.pending ∧ (State.capStop s).sec.lifeOf = s.sec.lifeOf := by
  simp [State.capStop]

@[simp] theorem State.attachBegin_life (s : State) (n : Nat) :
    (State.attachBegin s n).pending = s.pending ∧ (State.attachBegin s n).sec.lifeOf = s.sec.lifeOf := by
  exact ⟨rfl, rfl⟩

@[simp] theorem State.attachPresent_life (s : State) :
    (State.attachPresent s).pending = s.pending ∧ (State.attachPresent s).sec.lifeOf = s.sec.lifeOf := by
  simp [State.attachPresent]

@[simp] theorem State.enterTrain_life (s : State) :
    (State.enterTrain s).pending = s.pending ∧ (State.enterTrain s).sec.lifeOf = s.sec.lifeOf := by
  simp [State.enterTrain]

@[simp] theorem State.eraseSlot_life (s : State) (slot : Nat) :
    (State.eraseSlot s slot).pending = s.pending ∧ (State.eraseSlot s slot).sec.lifeOf = s.sec.lifeOf := by
  exact ⟨rfl, rfl⟩

@[simp] theorem State.enterRestore_life (s : State) :
    (State.enterRestore s).pending = s.pending ∧ (State.enterRestore s).sec.lifeOf = s.sec.lifeOf := by
  unfold State.enterRestore
  dsimp only
  (repeat' split) <;> simp_all

@[simp] theorem State.restoreClean_life (s : State) :
    (State.restoreClean s).pending = s.pending ∧ (State.restoreClean s).sec.lifeOf = s.sec.lifeOf := by
  simp [State.restoreClean]

@[simp] theorem State.enterQuiesce_life (s : State) :
    (State.enterQuiesce s).pending = s.pending ∧ (State.enterQuiesce s).sec.lifeOf = s.sec.lifeOf := by
  exact ⟨rfl, rfl⟩

@[simp] theorem State.setMode_life (s : State) (m : Mode) (trig : Nat) :
    (State.setMode s m trig).pending = s.pending ∧ (State.setMode s m trig).sec.lifeOf = s.sec.lifeOf := by
  unfold State.setMode
  (repeat' split) <;> simp

@[simp] theorem State.enableStep_life (s : State) (n : Nat) :
    (State.enableStep s n).pending = s.pending ∧ (State.enableStep s n).sec.lifeOf = s.sec.lifeOf := by
  simp [State.enableStep]

@[simp] theorem State.identify_life (s : State) :
    (State.identify s).pending = s.pending ∧ (State.identify s).sec.lifeOf = s.sec.lifeOf := by
  simp [State.identify]

@[simp] theorem State.zeroCounters_life (s : State) (q : Nat → Bool) :
    (State.zeroCounters s q).pending = s.pending ∧ (State.zeroCounters s q).sec.lifeOf = s.sec.lifeOf := by
  exact ⟨rfl, rfl⟩

@[simp] theorem State.fenceLifted_life (s : State) (f : Nat) :
    (State.fenceLifted s f).pending = s.pending ∧ (State.fenceLifted s f).sec.lifeOf = s.sec.lifeOf := by
  exact ⟨rfl, rfl⟩

@[simp] theorem State.callersQuiet_life (s : State) :
    (State.callersQuiet s).pending = s.pending ∧ (State.callersQuiet s).sec.lifeOf = s.sec.lifeOf := by
  exact ⟨rfl, rfl⟩

@[simp] theorem State.powerReset_life (s : State) :
    (State.powerReset s).pending = s.pending ∧ (State.powerReset s).sec.lifeOf = s.sec.lifeOf := by
  show State.KeepsLife _ _
  unfold State.powerReset
  have h0 : s.KeepsLife (((s.modXpt fun x => { x with qps := s.closeFabricQps }).resetClusters fun _ => true).applyStaged
      fun n => n / 2 ^ 28 != 1) := by simp [State.KeepsLife]
  have h1 : ∀ x : State, x.KeepsLife (x.zeroCounters dataPathArea) := fun x => by simp [State.KeepsLife]
  have h2 : ∀ x : State, x.KeepsLife ((List.range 39).foldl (fun s d => s.bump P.domain_resets d) x) := fun x =>
    State.keepsLife_foldl _ _ (fun _ _ => by simp [State.KeepsLife]) _
  have h3 := (h0.trans (h1 _)).trans (h2 _)
  dsimp only
  generalize List.foldl (fun s d => State.bump s P.domain_resets d) _ (List.range 39) = d at *
  exact ⟨h3.1, h3.2⟩

@[simp] theorem State.lower_life (s : State) (n : Nat) :
    (State.lower s n).pending = s.pending ∧ (State.lower s n).sec.lifeOf = s.sec.lifeOf := by
  unfold State.lower
  (repeat' split) <;> simp

@[simp] theorem State.powerDown_life (s : State) (off : OffTrigger) (trig : Nat) (auto_ : Bool) (seq : Nat) :
    (State.powerDown s off trig auto_ seq).pending = s.pending ∧ (State.powerDown s off trig auto_ seq).sec.lifeOf = s.sec.lifeOf := by
  simp [State.powerDown]

@[simp] theorem State.afterSave_life (s : State) :
    (State.afterSave s).pending = s.pending ∧ (State.afterSave s).sec.lifeOf = s.sec.lifeOf := by
  simp [State.afterSave]

@[simp] theorem State.planPending_life (s : State) :
    (State.planPending s).pending = s.pending ∧ (State.planPending s).sec.lifeOf = s.sec.lifeOf := by
  simp [State.planPending]

@[simp] theorem State.stopGroups_life (s : State) :
    (State.stopGroups s).pending = s.pending ∧ (State.stopGroups s).sec.lifeOf = s.sec.lifeOf := by
  simp [State.stopGroups]

@[simp] theorem State.abandonJobs_life (s : State) :
    (State.abandonJobs s).pending = s.pending ∧ (State.abandonJobs s).sec.lifeOf = s.sec.lifeOf := by
  exact ⟨rfl, rfl⟩

@[simp] theorem State.stopQp_life (s : State) (n : Nat) :
    (State.stopQp s n).pending = s.pending ∧ (State.stopQp s n).sec.lifeOf = s.sec.lifeOf := by
  simp [State.stopQp]

@[simp] theorem State.stopTraffic_life (s : State) :
    (State.stopTraffic s).pending = s.pending ∧ (State.stopTraffic s).sec.lifeOf = s.sec.lifeOf := by
  simp [State.stopTraffic]

@[simp] theorem State.enterSave_life (s : State) (trigger : Nat) (off : OffTrigger) (trig : Nat) (t0 : SaveStart) :
    (State.enterSave s trigger off trig t0).pending = s.pending ∧ (State.enterSave s trigger off trig t0).sec.lifeOf = s.sec.lifeOf := by
  simp [State.enterSave]

@[simp] theorem State.coldReset_life (s : State) (cause : ResetCause) :
    (State.coldReset s cause).pending = s.pending ∧ (State.coldReset s cause).sec.lifeOf = s.sec.lifeOf := by
  simp [State.coldReset]

@[simp] theorem State.enterRamp_life (s : State) :
    (State.enterRamp s).pending = s.pending ∧ (State.enterRamp s).sec.lifeOf = s.sec.lifeOf := by
  unfold State.enterRamp
  dsimp only
  (repeat' split) <;> simp_all

@[simp] theorem State.onRequest_life (s : State) :
    (State.onRequest s).pending = s.pending ∧ (State.onRequest s).sec.lifeOf = s.sec.lifeOf := by
  unfold State.onRequest
  (repeat' split) <;> simp

@[simp] theorem State.downEnd_life (s : State) :
    (State.downEnd s).pending = s.pending ∧ (State.downEnd s).sec.lifeOf = s.sec.lifeOf := by
  unfold State.downEnd
  (repeat' split) <;> simp

@[simp] theorem State.abortRamp_life (s : State) (trig : Nat) (auto_ : Bool) :
    (State.abortRamp s trig auto_).pending = s.pending ∧ (State.abortRamp s trig auto_).sec.lifeOf = s.sec.lifeOf := by
  simp [State.abortRamp]

@[simp] theorem State.orderlyOff_life (s : State) :
    (State.orderlyOff s).pending = s.pending ∧ (State.orderlyOff s).sec.lifeOf = s.sec.lifeOf := by
  simp [State.orderlyOff]

@[simp] theorem State.immediateOff_life (s : State) :
    (State.immediateOff s).pending = s.pending ∧ (State.immediateOff s).sec.lifeOf = s.sec.lifeOf := by
  simp [State.immediateOff]

@[simp] theorem State.feedLoss_life (s : State) :
    (State.feedLoss s).pending = s.pending ∧ (State.feedLoss s).sec.lifeOf = s.sec.lifeOf := by
  simp [State.feedLoss]

@[simp] theorem State.fatalNote_life (s : State) (code : Nat) (seq : Nat) :
    (State.fatalNote s code seq).pending = s.pending ∧ (State.fatalNote s code seq).sec.lifeOf = s.sec.lifeOf := by
  simp [State.fatalNote]

@[simp] theorem State.fatalStop_life (s : State) (code : Nat) (seq : Nat) (impossible : Bool) (cd39 : Bool) :
    (State.fatalStop s code seq impossible cd39).pending = s.pending ∧ (State.fatalStop s code seq impossible cd39).sec.lifeOf = s.sec.lifeOf := by
  simp [State.fatalStop]

@[simp] theorem State.drawn_life (s : State) :
    (State.drawn s).pending = s.pending ∧ (State.drawn s).sec.lifeOf = s.sec.lifeOf := by
  exact ⟨rfl, rfl⟩

@[simp] theorem State.reseed_life (s : State) (draw : Bool) :
    (State.reseed s draw).pending = s.pending ∧ (State.reseed s draw).sec.lifeOf = s.sec.lifeOf := by
  simp [State.reseed]

@[simp] theorem State.lcOverwrite_life (s : State) (r : LcRecord) :
    (s.lcOverwrite r).pending = s.pending ∧
    (s.lcOverwrite r).sec.lifeOf = (s.sec.lc, s.sec.killFused, s.sec.minSecurity, some r.dest) := by
  unfold State.lcOverwrite State.reseed
  have h := s.drawn_life.2
  simp only [Sec.lifeOf, Prod.mk.injEq] at h
  dsimp only
  by_cases k : r.dest.keyed = true <;> simp [k, h]

@[simp] theorem State.switchStep_life (s : State) (g : Nat) :
    (State.switchStep s g).pending = s.pending ∧ (State.switchStep s g).sec.lifeOf = s.sec.lifeOf := by
  simp [State.switchStep]

@[simp] theorem State.switchSteps_life (s : State) :
    (State.switchSteps s).pending = s.pending ∧ (State.switchSteps s).sec.lifeOf = s.sec.lifeOf := by
  simp [State.switchSteps]

@[simp] theorem State.settle_life (s : State) :
    (State.settle s).pending = s.pending ∧ (State.settle s).sec.lifeOf = s.sec.lifeOf := by
  show State.KeepsLife _ _
  unfold State.settle
  extract_lets w a
  have hw : s.KeepsLife w := by simp [State.KeepsLife, w]
  have ha : w.KeepsLife a := by
    simp only [a]
    split <;> simp [State.KeepsLife]
  refine (hw.trans ha).trans ?_
  clear_value a
  have k : ∀ r, a.sec.lcRecord = some r → ∀ m n, a.KeepsLife ((a.setMode m n).lcOverwrite r) := by
    intro r hr m n
    refine ⟨by simp, ?_⟩
    have h := (a.setMode_life m n).2
    simp only [Sec.lifeOf, Prod.mk.injEq] at h
    rw [(State.lcOverwrite_life _ _).2, h.1, h.2.1, h.2.2.1]
    simp [Sec.lifeOf, hr]
  split
  · exact State.KeepsLife.refl _
  · split
    · simp [State.KeepsLife]
    · split
      · split <;> simp [State.KeepsLife]
      · split <;> simp [State.KeepsLife]
      · split <;> simp [State.KeepsLife]
      · split
        · show a.KeepsLife (match (a.setMode .maint 5).sec.lcRecord with
            | some r => (a.setMode .maint 5).lcOverwrite r
            | none => a.setMode .maint 5)
          have hh := (a.setMode_life .maint 5).2
          simp only [Sec.lifeOf, Prod.mk.injEq] at hh
          split
          · rename_i r hr
            have := hh.2.2.2
            rw [hr] at this
            refine ⟨by simp, ?_⟩
            rw [(State.lcOverwrite_life _ _).2, hh.1, hh.2.1, hh.2.2.1]
            simp only [Sec.lifeOf, ← this, Option.map_some]
          · simp [State.KeepsLife]
        · split
          · split
            · rename_i r hr
              exact k r hr _ _
            · split <;> simp [State.KeepsLife]
          · exact State.KeepsLife.refl _
      · split <;> simp [State.KeepsLife]
      · exact State.KeepsLife.refl _

@[simp] theorem State.writeDynamic_life (s : State) (n : Nat) (state : Nat) (newFormat : Bool) :
    (State.writeDynamic s n state newFormat).pending = s.pending ∧ (State.writeDynamic s n state newFormat).sec.lifeOf = s.sec.lifeOf := by
  exact ⟨rfl, rfl⟩

@[simp] theorem State.modBlk_life (s : State) (k : Nat) (f : Blk → Blk) :
    (State.modBlk s k f).pending = s.pending ∧ (State.modBlk s k f).sec.lifeOf = s.sec.lifeOf := by
  exact ⟨rfl, rfl⟩

@[simp] theorem State.evalArea_life (s : State) :
    (State.evalArea s).pending = s.pending ∧ (State.evalArea s).sec.lifeOf = s.sec.lifeOf := by
  simp [State.evalArea]

@[simp] theorem State.newSb_life (s : State) :
    (State.newSb s).1.pending = s.pending ∧ (State.newSb s).1.sec.lifeOf = s.sec.lifeOf := by
  simp [State.newSb]

@[simp] theorem State.noteUnits_life (s : State) (programmed : Nat) (written : Nat) :
    (State.noteUnits s programmed written).pending = s.pending ∧ (State.noteUnits s programmed written).sec.lifeOf = s.sec.lifeOf := by
  exact ⟨rfl, rfl⟩

@[simp] theorem State.takeUnits_life (s : State) (n : Nat) :
    (State.takeUnits s n).1.pending = s.pending ∧ (State.takeUnits s n).1.sec.lifeOf = s.sec.lifeOf := by
  unfold State.takeUnits
  dsimp only
  (repeat' split) <;> simp_all

@[simp] theorem State.setDeep_life (s : State) (lsn : Nat) (e : DeepEntry) :
    (State.setDeep s lsn e).pending = s.pending ∧ (State.setDeep s lsn e).sec.lifeOf = s.sec.lifeOf := by
  exact ⟨rfl, rfl⟩

@[simp] theorem State.relocateEntry_life (s : State) (lsn : Nat) :
    (State.relocateEntry s lsn).1.pending = s.pending ∧ (State.relocateEntry s lsn).1.sec.lifeOf = s.sec.lifeOf := by
  unfold State.relocateEntry
  dsimp only
  (repeat' split) <;> simp_all

@[simp] theorem State.writePage_life (s : State) (m : Nat) :
    (State.writePage s m).1.pending = s.pending ∧ (State.writePage s m).1.sec.lifeOf = s.sec.lifeOf := by
  unfold State.writePage
  dsimp only
  (repeat' split) <;> simp_all

@[simp] theorem State.relocate_life (s : State) (q : DeepEntry → Bool) :
    (State.relocate s q).1.pending = s.pending ∧ (State.relocate s q).1.sec.lifeOf = s.sec.lifeOf := by
  simp [State.relocate]

@[simp] theorem State.dropRewritten_life (s : State) (q : Hold → Bool) :
    (State.dropRewritten s q).pending = s.pending ∧ (State.dropRewritten s q).sec.lifeOf = s.sec.lifeOf := by
  exact ⟨rfl, rfl⟩

@[simp] theorem State.settleHolds_life (s : State) (lost : Nat → Bool) :
    (State.settleHolds s lost).pending = s.pending ∧ (State.settleHolds s lost).sec.lifeOf = s.sec.lifeOf := by
  simp [State.settleHolds]

@[simp] theorem State.abandonDrain_life (s : State) (lsn : Nat) :
    (State.abandonDrain s lsn).pending = s.pending ∧ (State.abandonDrain s lsn).sec.lifeOf = s.sec.lifeOf := by
  exact ⟨rfl, rfl⟩

@[simp] theorem State.abandonOn_life (s : State) (q : DeepEntry → Bool) :
    (State.abandonOn s q).pending = s.pending ∧ (State.abandonOn s q).sec.lifeOf = s.sec.lifeOf := by
  simp [State.abandonOn]

@[simp] theorem State.retireCarrier_life (s : State) (n : Nat) (byChannel : Bool) :
    (State.retireCarrier s n byChannel).pending = s.pending ∧ (State.retireCarrier s n byChannel).sec.lifeOf = s.sec.lifeOf := by
  simp [State.retireCarrier]

@[simp] theorem State.retireBlock_life (s : State) (k : Nat) (cause : Nat) :
    (State.retireBlock s k cause).pending = s.pending ∧ (State.retireBlock s k cause).sec.lifeOf = s.sec.lifeOf := by
  unfold State.retireBlock
  dsimp only
  (repeat' split) <;> simp_all

@[simp] theorem State.suspectBlock_life (s : State) (k : Nat) :
    (State.suspectBlock s k).pending = s.pending ∧ (State.suspectBlock s k).sec.lifeOf = s.sec.lifeOf := by
  simp [State.suspectBlock]

@[simp] theorem State.expose_life (s : State) (n : Nat) :
    (State.expose s n).pending = s.pending ∧ (State.expose s n).sec.lifeOf = s.sec.lifeOf := by
  simp [State.expose]

@[simp] theorem State.failPart_life (s : State) (n : Nat) :
    (State.failPart s n).pending = s.pending ∧ (State.failPart s n).sec.lifeOf = s.sec.lifeOf := by
  unfold State.failPart
  (repeat' split) <;> simp

@[simp] theorem State.carrierOffline_life (s : State) (n : Nat) :
    (State.carrierOffline s n).pending = s.pending ∧ (State.carrierOffline s n).sec.lifeOf = s.sec.lifeOf := by
  simp [State.carrierOffline]

@[simp] theorem State.carrierPowerOff_life (s : State) (n : Nat) (st : CarState) :
    (State.carrierPowerOff s n st).pending = s.pending ∧ (State.carrierPowerOff s n st).sec.lifeOf = s.sec.lifeOf := by
  simp [State.carrierPowerOff]

@[simp] theorem State.modMc_life (s : State) (n : Nat) (f : Mc → Mc) :
    (State.modMc s n f).pending = s.pending ∧ (State.modMc s n f).sec.lifeOf = s.sec.lifeOf := by
  exact ⟨rfl, rfl⟩

@[simp] theorem State.poisonLine_life (s : State) (line : Nat) :
    (State.poisonLine s line).pending = s.pending ∧ (State.poisonLine s line).sec.lifeOf = s.sec.lifeOf := by
  exact ⟨rfl, rfl⟩

@[simp] theorem State.loseRegion_life (s : State) (idx : Nat) (segs : Nat) :
    (State.loseRegion s idx segs).pending = s.pending ∧ (State.loseRegion s idx segs).sec.lifeOf = s.sec.lifeOf := by
  simp [State.loseRegion]

@[simp] theorem State.loseSole_life (s : State) (idx : Nat) (segs : Nat) :
    (State.loseSole s idx segs).pending = s.pending ∧ (State.loseSole s idx segs).sec.lifeOf = s.sec.lifeOf := by
  simp [State.loseSole]

@[simp] theorem State.freeContexts_life (s : State) (q : Nat → Bool) :
    (State.freeContexts s q).pending = s.pending ∧ (State.freeContexts s q).sec.lifeOf = s.sec.lifeOf := by
  show State.KeepsLife _ _
  unfold State.freeContexts
  extract_lets +onlyGivenNames qps a cqs
  have ha : s.KeepsLife a := State.keepsLife_foldl _ _ (fun s n => State.freeQp_life s n) _
  exact ha.trans (State.modXpt_life _ _)

@[simp] theorem State.freeFramesOf_life (s : State) (k : Nat) :
    (State.freeFramesOf s k).pending = s.pending ∧ (State.freeFramesOf s k).sec.lifeOf = s.sec.lifeOf := by
  simp [State.freeFramesOf]

@[simp] theorem State.haltMigration_life (s : State) (idx : Nat) (seg : Nat) :
    (State.haltMigration s idx seg).pending = s.pending ∧ (State.haltMigration s idx seg).sec.lifeOf = s.sec.lifeOf := by
  unfold State.haltMigration
  dsimp only
  (repeat' split) <;> simp_all

@[simp] theorem State.haltPde_life (s : State) (lsn : Nat) :
    (State.haltPde s lsn).pending = s.pending ∧ (State.haltPde s lsn).sec.lifeOf = s.sec.lifeOf := by
  exact ⟨rfl, rfl⟩

@[simp] theorem State.haltUse_life (s : State) (x1 : BufUse) :
    (State.haltUse s x1).pending = s.pending ∧ (State.haltUse s x1).sec.lifeOf = s.sec.lifeOf := by
  unfold State.haltUse
  (repeat' split) <;> simp

@[simp] theorem State.withdrawBufs_life (s : State) (k : Nat) :
    (State.withdrawBufs s k).pending = s.pending ∧ (State.withdrawBufs s k).sec.lifeOf = s.sec.lifeOf := by
  simp [State.withdrawBufs]

@[simp] theorem State.setLeaves_life (s : State) (k : Nat) :
    (State.setLeaves s k).pending = s.pending ∧ (State.setLeaves s k).sec.lifeOf = s.sec.lifeOf := by
  show State.KeepsLife _ _
  unfold State.setLeaves
  extract_lets regions a groups b c
  have ha : s.KeepsLife a := State.keepsLife_foldl _ _ (fun _ _ => by split <;> simp [State.KeepsLife]) _
  have hb : a.KeepsLife b := State.keepsLife_foldl _ _ (fun _ _ => by split <;> simp [State.KeepsLife]) _
  exact (ha.trans hb).trans (by simp [State.KeepsLife, c])

@[simp] theorem State.addFence_life (s : State) (f : Nat) :
    (State.addFence s f).pending = s.pending ∧ (State.addFence s f).sec.lifeOf = s.sec.lifeOf := by
  simp [State.addFence]

@[simp] theorem State.fenceChannel_life (s : State) (ch : Nat) (cause : Nat) :
    (State.fenceChannel s ch cause).pending = s.pending ∧ (State.fenceChannel s ch cause).sec.lifeOf = s.sec.lifeOf := by
  simp [State.fenceChannel]

@[simp] theorem State.retireStart_life (s : State) (a : Nat) :
    (State.retireStart s a).1.pending = s.pending ∧ (State.retireStart s a).1.sec.lifeOf = s.sec.lifeOf := by
  unfold State.retireStart
  dsimp only
  (repeat' split) <;> simp_all

@[simp] theorem State.retireInPlace_life (s : State) (a : Nat) :
    (State.retireInPlace s a).pending = s.pending ∧ (State.retireInPlace s a).sec.lifeOf = s.sec.lifeOf := by
  unfold State.retireInPlace
  (repeat' split) <;> simp

@[simp] theorem State.firmwareRetire_life (s : State) (a : Nat) :
    (State.firmwareRetire s a).pending = s.pending ∧ (State.firmwareRetire s a).sec.lifeOf = s.sec.lifeOf := by
  simp [State.firmwareRetire]

@[simp] theorem State.pageCe_life (s : State) (a : Nat) :
    (State.pageCe s a).pending = s.pending ∧ (State.pageCe s a).sec.lifeOf = s.sec.lifeOf := by
  simp [State.pageCe]

@[simp] theorem State.newUncorrected_life (s : State) (a : Nat) :
    (State.newUncorrected s a).pending = s.pending ∧ (State.newUncorrected s a).sec.lifeOf = s.sec.lifeOf := by
  simp [State.newUncorrected]

@[simp] theorem State.setRec_life (s : State) (slot : Nat) (r : SaveRec) :
    (State.setRec s slot r).pending = s.pending ∧ (State.setRec s slot r).sec.lifeOf = s.sec.lifeOf := by
  exact ⟨rfl, rfl⟩

@[simp] theorem State.setDir_life (s : State) (slot : Nat) (d : List DirEntry) :
    (State.setDir s slot d).pending = s.pending ∧ (State.setDir s slot d).sec.lifeOf = s.sec.lifeOf := by
  exact ⟨rfl, rfl⟩

@[simp] theorem State.freezeSave_life (s : State) :
    (State.freezeSave s).pending = s.pending ∧ (State.freezeSave s).sec.lifeOf = s.sec.lifeOf := by
  unfold State.freezeSave
  (repeat' split) <;> simp

@[simp] theorem State.planSave_life (s : State) :
    (State.planSave s).pending = s.pending ∧ (State.planSave s).sec.lifeOf = s.sec.lifeOf := by
  unfold State.planSave
  (repeat' split) <;> simp

@[simp] theorem State.saveEntry_life (s : State) (n : Nat) (frameLen : Nat) (bad : Bool) :
    (State.saveEntry s n frameLen bad).pending = s.pending ∧ (State.saveEntry s n frameLen bad).sec.lifeOf = s.sec.lifeOf := by
  unfold State.saveEntry
  dsimp only
  (repeat' split) <;> simp_all

@[simp] theorem State.closeSave_life (s : State) :
    (State.closeSave s).pending = s.pending ∧ (State.closeSave s).sec.lifeOf = s.sec.lifeOf := by
  unfold State.closeSave
  (repeat' split) <;> simp

@[simp] theorem State.stopData_life (s : State) :
    (State.stopData s).pending = s.pending ∧ (State.stopData s).sec.lifeOf = s.sec.lifeOf := by
  unfold State.stopData
  (repeat' split) <;> simp

@[simp] theorem State.endFetch_life (s : State) (idx : Nat) (seg : Nat) :
    (State.endFetch s idx seg).pending = s.pending ∧ (State.endFetch s idx seg).sec.lifeOf = s.sec.lifeOf := by
  exact ⟨rfl, rfl⟩

@[simp] theorem State.sourcesFail_life (s : State) (idx : Nat) (seg : Nat) :
    (State.sourcesFail s idx seg).pending = s.pending ∧ (State.sourcesFail s idx seg).sec.lifeOf = s.sec.lifeOf := by
  unfold State.sourcesFail
  dsimp only
  (repeat' split) <;> simp_all

@[simp] theorem State.dramFail_life (s : State) (lsn : Nat) :
    (State.dramFail s lsn).pending = s.pending ∧ (State.dramFail s lsn).sec.lifeOf = s.sec.lifeOf := by
  simp [State.dramFail]

@[simp] theorem State.askTwin_life (s : State) (idx : Nat) (seg : Nat) :
    ∀ t, State.askTwin s idx seg = some t → t.pending = s.pending ∧ t.sec.lifeOf = s.sec.lifeOf := by
  unfold State.askTwin
  (repeat' split) <;> simp

@[simp] theorem State.twinCopy_life (s : State) (idx : Nat) (seg : Nat) (cells : List Host.Cell) :
    (State.twinCopy s idx seg cells).pending = s.pending ∧ (State.twinCopy s idx seg cells).sec.lifeOf = s.sec.lifeOf := by
  unfold State.twinCopy
  dsimp only
  (repeat' split) <;> simp_all

@[simp] theorem State.twinNoCopy_life (s : State) (idx : Nat) (seg : Nat) :
    (State.twinNoCopy s idx seg).pending = s.pending ∧ (State.twinNoCopy s idx seg).sec.lifeOf = s.sec.lifeOf := by
  unfold State.twinNoCopy
  dsimp only
  (repeat' split) <;> simp_all

@[simp] theorem State.modAdj_life (s : State) (k : Nat) (f : Adj → Adj) :
    (State.modAdj s k f).pending = s.pending ∧ (State.modAdj s k f).sec.lifeOf = s.sec.lifeOf := by
  exact ⟨rfl, rfl⟩

@[simp] theorem State.sendFabHello_life (s : State) (port : Nat) (slot : Option Nat) (echo : Option (BitVec 64)) :
    (State.sendFabHello s port slot echo).pending = s.pending ∧ (State.sendFabHello s port slot echo).sec.lifeOf = s.sec.lifeOf := by
  simp [State.sendFabHello]

@[simp] theorem State.routeChanged_life (s : State) (m : Nat) :
    (State.routeChanged s m).pending = s.pending ∧ (State.routeChanged s m).sec.lifeOf = s.sec.lifeOf := by
  exact ⟨rfl, rfl⟩

@[simp] theorem State.modRoute_life (s : State) (m : Nat) (f : Route → Route) :
    (State.modRoute s m f).pending = s.pending ∧ (State.modRoute s m f).sec.lifeOf = s.sec.lifeOf := by
  exact ⟨rfl, rfl⟩

@[simp] theorem State.sendRoutes_life (s : State) (k : Nat) (full : Bool) (l : List RouteEntry) :
    (State.sendRoutes s k full l).pending = s.pending ∧ (State.sendRoutes s k full l).sec.lifeOf = s.sec.lifeOf := by
  simp [State.sendRoutes]

@[simp] theorem State.fullUpdate_life (s : State) (k : Nat) :
    (State.fullUpdate s k).pending = s.pending ∧ (State.fullUpdate s k).sec.lifeOf = s.sec.lifeOf := by
  simp [State.fullUpdate]

@[simp] theorem State.routeTo15_life (s : State) (m : Nat) :
    (State.routeTo15 s m).pending = s.pending ∧ (State.routeTo15 s m).sec.lifeOf = s.sec.lifeOf := by
  exact ⟨rfl, rfl⟩

@[simp] theorem State.loseHop_life (s : State) (k : Nat) :
    (State.loseHop s k).pending = s.pending ∧ (State.loseHop s k).sec.lifeOf = s.sec.lifeOf := by
  show State.KeepsLife _ _
  unfold State.loseHop
  extract_lets uses a
  have ha : s.KeepsLife a := by
    refine State.keepsLife_foldl _ _ (fun _ _ => ?_) _
    exact ⟨rfl, rfl⟩
  exact ha.trans (State.keepsLife_foldl _ _ (fun _ _ => by simp [State.KeepsLife]) _)

@[simp] theorem State.dropAdj_life (s : State) (k : Nat) :
    (State.dropAdj s k).pending = s.pending ∧ (State.dropAdj s k).sec.lifeOf = s.sec.lifeOf := by
  simp [State.dropAdj]

@[simp] theorem State.dropPortAdjs_life (s : State) (p : Nat) :
    (State.dropPortAdjs s p).pending = s.pending ∧ (State.dropPortAdjs s p).sec.lifeOf = s.sec.lifeOf := by
  simp [State.dropPortAdjs]

@[simp] theorem State.refuseAdj_life (s : State) (k : Nat) :
    (State.refuseAdj s k).pending = s.pending ∧ (State.refuseAdj s k).sec.lifeOf = s.sec.lifeOf := by
  simp [State.refuseAdj]

@[simp] theorem State.configMismatch_life (s : State) (k : Nat) (st : AdjState) :
    (State.configMismatch s k st).pending = s.pending ∧ (State.configMismatch s k st).sec.lifeOf = s.sec.lifeOf := by
  simp [State.configMismatch]

@[simp] theorem State.judgeAdj_life (s : State) (k : Nat) (echo : Bool) :
    (State.judgeAdj s k echo).pending = s.pending ∧ (State.judgeAdj s k echo).sec.lifeOf = s.sec.lifeOf := by
  unfold State.judgeAdj
  dsimp only
  (repeat' split) <;> simp_all

@[simp] theorem State.rejudge_life (s : State) :
    (State.rejudge s).pending = s.pending ∧ (State.rejudge s).sec.lifeOf = s.sec.lifeOf := by
  simp [State.rejudge]

@[simp] theorem State.nextCandidate_life (s : State) :
    (State.nextCandidate s).pending = s.pending ∧ (State.nextCandidate s).sec.lifeOf = s.sec.lifeOf := by
  simp [State.nextCandidate]

@[simp] theorem State.seenMember_life (s : State) (m : Nat) (tag : Nat) (uid : Option Nat) (tentative : Bool) :
    (State.seenMember s m tag uid tentative).pending = s.pending ∧ (State.seenMember s m tag uid tentative).sec.lifeOf = s.sec.lifeOf := by
  unfold State.seenMember
  (repeat' split) <;> simp

@[simp] theorem State.sendControl_life (s : State) (dst : Nat) (b : FabBody) :
    (State.sendControl s dst b).pending = s.pending ∧ (State.sendControl s dst b).sec.lifeOf = s.sec.lifeOf := by
  unfold State.sendControl
  (repeat' split) <;> simp

@[simp] theorem State.offerNext_life (s : State) (l : List Nat) :
    (State.offerNext s l).pending = s.pending ∧ (State.offerNext s l).sec.lifeOf = s.sec.lifeOf := by
  unfold State.offerNext
  (repeat' split) <;> simp

@[simp] theorem State.designate_life (s : State) :
    (State.designate s).pending = s.pending ∧ (State.designate s).sec.lifeOf = s.sec.lifeOf := by
  simp [State.designate]

@[simp] theorem State.checkCaller_life (s : State) :
    (State.checkCaller s).pending = s.pending ∧ (State.checkCaller s).sec.lifeOf = s.sec.lifeOf := by
  simp [State.checkCaller]

@[simp] theorem State.storeFatal_life (s : State) (c : Capture) :
    (State.storeFatal s c).pending = s.pending ∧ (State.storeFatal s c).sec.lifeOf = s.sec.lifeOf := by
  exact ⟨rfl, rfl⟩

@[simp] theorem State.acceptFault_life (s : State) (m : FaultMsg) (cls : FaultClass) :
    (State.acceptFault s m cls).pending = s.pending ∧ (State.acceptFault s m cls).sec.lifeOf = s.sec.lifeOf := by
  unfold State.acceptFault
  dsimp only
  (repeat' split) <;> simp_all

@[simp] theorem State.hostLinkDown_life (s : State) (p : Nat) :
    (State.hostLinkDown s p).pending = s.pending ∧ (State.hostLinkDown s p).sec.lifeOf = s.sec.lifeOf := by
  simp [State.hostLinkDown]

@[simp] theorem State.resyncBreak_life (s : State) (g : Nat) :
    (State.resyncBreak s g).pending = s.pending ∧ (State.resyncBreak s g).sec.lifeOf = s.sec.lifeOf := by
  unfold State.resyncBreak
  dsimp only
  (repeat' split) <;> simp_all

@[simp] theorem State.resendFrom_life (s : State) (p : Nat) :
    (State.resendFrom s p).pending = s.pending ∧ (State.resendFrom s p).sec.lifeOf = s.sec.lifeOf := by
  simp [State.resendFrom]

@[simp] theorem State.twinLost_life (s : State) :
    (State.twinLost s).pending = s.pending ∧ (State.twinLost s).sec.lifeOf = s.sec.lifeOf := by
  simp [State.twinLost]

@[simp] theorem State.twinPortLost_life (s : State) (p : Nat) :
    (State.twinPortLost s p).pending = s.pending ∧ (State.twinPortLost s p).sec.lifeOf = s.sec.lifeOf := by
  simp [State.twinPortLost]

@[simp] theorem State.twinLinkDown_life (s : State) (p : Nat) :
    (State.twinLinkDown s p).pending = s.pending ∧ (State.twinLinkDown s p).sec.lifeOf = s.sec.lifeOf := by
  simp [State.twinLinkDown]

@[simp] theorem State.portDown_life (s : State) (p : Nat) :
    (State.portDown s p).pending = s.pending ∧ (State.portDown s p).sec.lifeOf = s.sec.lifeOf := by
  simp [State.portDown]

@[simp] theorem State.holdDomain_life (s : State) (d : Nat) :
    (State.holdDomain s d).pending = s.pending ∧ (State.holdDomain s d).sec.lifeOf = s.sec.lifeOf := by
  exact ⟨rfl, rfl⟩

@[simp] theorem State.portStaged_life (s : State) (p : Nat) :
    (State.portStaged s p).pending = s.pending ∧ (State.portStaged s p).sec.lifeOf = s.sec.lifeOf := by
  exact ⟨rfl, rfl⟩

@[simp] theorem State.portReset_life (s : State) (p : Nat) :
    (State.portReset s p).pending = s.pending ∧ (State.portReset s p).sec.lifeOf = s.sec.lifeOf := by
  simp [State.portReset]

@[simp] theorem State.fencePort_life (s : State) (p : Nat) :
    (State.fencePort s p).pending = s.pending ∧ (State.fencePort s p).sec.lifeOf = s.sec.lifeOf := by
  simp [State.fencePort]

@[simp] theorem State.fencePorts_life (s : State) :
    (State.fencePorts s).pending = s.pending ∧ (State.fencePorts s).sec.lifeOf = s.sec.lifeOf := by
  simp [State.fencePorts]

@[simp] theorem State.clockFence_life (s : State) (d : Nat) :
    (State.clockFence s d).pending = s.pending ∧ (State.clockFence s d).sec.lifeOf = s.sec.lifeOf := by
  exact ⟨rfl, rfl⟩

@[simp] theorem State.domainOut_life (s : State) (d : Nat) :
    (State.domainOut s d).pending = s.pending ∧ (State.domainOut s d).sec.lifeOf = s.sec.lifeOf := by
  exact ⟨rfl, rfl⟩

@[simp] theorem State.xptReset_life (s : State) :
    (State.xptReset s).pending = s.pending ∧ (State.xptReset s).sec.lifeOf = s.sec.lifeOf := by
  simp [State.xptReset]

@[simp] theorem State.abandonDrains_life (s : State) :
    (State.abandonDrains s).pending = s.pending ∧ (State.abandonDrains s).sec.lifeOf = s.sec.lifeOf := by
  exact ⟨rfl, rfl⟩

@[simp] theorem State.clusterReset_life (s : State) (c : Nat) :
    (State.clusterReset s c).pending = s.pending ∧ (State.clusterReset s c).sec.lifeOf = s.sec.lifeOf := by
  simp [State.clusterReset]

@[simp] theorem State.coreRestarted_life (s : State) (core : Nat) (cause : Nat) :
    (State.coreRestarted s core cause).pending = s.pending ∧ (State.coreRestarted s core cause).sec.lifeOf = s.sec.lifeOf := by
  simp [State.coreRestarted]

@[simp] theorem State.fenceFlash_life (s : State) (ch : Nat) :
    (State.fenceFlash s ch).pending = s.pending ∧ (State.fenceFlash s ch).sec.lifeOf = s.sec.lifeOf := by
  simp [State.fenceFlash]

@[simp] theorem State.haltChannel_life (s : State) (tag : Nat) (id : Nat) :
    (State.haltChannel s tag id).pending = s.pending ∧ (State.haltChannel s tag id).sec.lifeOf = s.sec.lifeOf := by
  unfold State.haltChannel
  (repeat' split) <;> simp

@[simp] theorem State.clockFault_life (s : State) (d : Nat) :
    (State.clockFault s d).pending = s.pending ∧ (State.clockFault s d).sec.lifeOf = s.sec.lifeOf := by
  simp [State.clockFault]

@[simp] theorem State.carriersOffline_life (s : State) :
    (State.carriersOffline s).pending = s.pending ∧ (State.carriersOffline s).sec.lifeOf = s.sec.lifeOf := by
  simp [State.carriersOffline]

@[simp] theorem State.railFence_life (s : State) (r : Nat) :
    (State.railFence s r).pending = s.pending ∧ (State.railFence s r).sec.lifeOf = s.sec.lifeOf := by
  simp [State.railFence]

@[simp] theorem State.railInSave_life (s : State) (r : Nat) :
    (State.railInSave s r).pending = s.pending ∧ (State.railInSave s r).sec.lifeOf = s.sec.lifeOf := by
  simp [State.railInSave]

@[simp] theorem State.containFault_life (s : State) (m : FaultMsg) :
    (State.containFault s m).pending = s.pending ∧ (State.containFault s m).sec.lifeOf = s.sec.lifeOf := by
  unfold State.containFault
  (repeat' split) <;> simp

@[simp] theorem State.faultBus_life (s : State) (m : FaultMsg) :
    (State.faultBus s m).pending = s.pending ∧ (State.faultBus s m).sec.lifeOf = s.sec.lifeOf := by
  unfold State.faultBus
  dsimp only
  (repeat' split) <;> simp_all

@[simp] theorem State.fault_life (s : State) (m : FaultMsg) :
    (State.fault s m).pending = s.pending ∧ (State.fault s m).sec.lifeOf = s.sec.lifeOf := by
  simp [State.fault]

@[simp] theorem State.keyFault_life (s : State) (block : Nat) (id : Nat) :
    (State.keyFault s block id).pending = s.pending ∧ (State.keyFault s block id).sec.lifeOf = s.sec.lifeOf := by
  simp [State.keyFault]

@[simp] theorem State.lineFault_life (s : State) (rq : Nat) (a : Nat) (access : Nat) :
    (State.lineFault s rq a access).pending = s.pending ∧ (State.lineFault s rq a access).sec.lifeOf = s.sec.lifeOf := by
  simp [State.lineFault]

@[simp] theorem State.lineFaults_life (s : State) (rq : Nat) (access : Nat) (l : List Nat) :
    (State.lineFaults s rq access l).pending = s.pending ∧ (State.lineFaults s rq access l).sec.lifeOf = s.sec.lifeOf := by
  simp [State.lineFaults]

@[simp] theorem State.lineCorrected_life (s : State) (rq : Nat) (a : Nat) :
    (State.lineCorrected s rq a).pending = s.pending ∧ (State.lineCorrected s rq a).sec.lifeOf = s.sec.lifeOf := by
  simp [State.lineCorrected]

@[simp] theorem State.railFail_life (s : State) (r : Nat) (mv : Nat) :
    (State.railFail s r mv).pending = s.pending ∧ (State.railFail s r mv).sec.lifeOf = s.sec.lifeOf := by
  simp [State.railFail]

@[simp] theorem State.clearJobs_life (s : State) (within : Nat → Bool) :
    (State.clearJobs s within).pending = s.pending ∧ (State.clearJobs s within).sec.lifeOf = s.sec.lifeOf := by
  exact ⟨rfl, rfl⟩

@[simp] theorem State.prepare_life (s : State) (idx : Nat) (d : Desc) :
    (State.prepare s idx d).pending = s.pending ∧ (State.prepare s idx d).sec.lifeOf = s.sec.lifeOf := by
  simp [State.prepare]

@[simp] theorem State.endRegister_life (s : State) (idx : Nat) (d : Desc) (cmd : Bool) :
    (State.endRegister s idx d cmd).pending = s.pending ∧ (State.endRegister s idx d cmd).sec.lifeOf = s.sec.lifeOf := by
  simp [State.endRegister]

@[simp] theorem State.checkRegister_life (s : State) :
    (State.checkRegister s).pending = s.pending ∧ (State.checkRegister s).sec.lifeOf = s.sec.lifeOf := by
  unfold State.checkRegister
  (repeat' split) <;> simp

@[simp] theorem State.registerRun_life (s : State) (num : Nat) (w : Nat) (backing : Option Nat) :
    (State.registerRun s num w backing).pending = s.pending ∧ (State.registerRun s num w backing).sec.lifeOf = s.sec.lifeOf := by
  unfold State.registerRun
  (repeat' split) <;> simp

@[simp] theorem State.revoke_life (s : State) (num : Nat) (idx : Nat) (dereg : Bool) :
    (State.revoke s num idx dereg).pending = s.pending ∧ (State.revoke s num idx dereg).sec.lifeOf = s.sec.lifeOf := by
  simp [State.revoke]

@[simp] theorem State.revokeRun_life (s : State) (num : Nat) (ak : Nat) (dereg : Bool) :
    (State.revokeRun s num ak dereg).pending = s.pending ∧ (State.revokeRun s num ak dereg).sec.lifeOf = s.sec.lifeOf := by
  simp [State.revokeRun]

@[simp] theorem State.redoWrite_life (s : State) (off : Nat) (x2 : Bytes) (x3 : Nat) :
    (State.redoWrite s off x2 x3).pending = s.pending ∧ (State.redoWrite s off x2 x3).sec.lifeOf = s.sec.lifeOf := by
  induction x3 generalizing s off x2 with
  | zero => exact ⟨rfl, rfl⟩
  | succ n ih =>
    unfold State.redoWrite
    dsimp only
    (repeat' split) <;> simp [ih]

@[simp] theorem State.awgStage_life (s : State) :
    (State.awgStage s).pending = s.pending ∧ (State.awgStage s).sec.lifeOf = s.sec.lifeOf := by
  unfold State.awgStage
  dsimp only
  (repeat' split) <;> simp_all

@[simp] theorem State.awgCommit_life (s : State) :
    (State.awgCommit s).pending = s.pending ∧ (State.awgCommit s).sec.lifeOf = s.sec.lifeOf := by
  unfold State.awgCommit
  (repeat' split) <;> simp

@[simp] theorem State.applyExtents_life (s : State) (a : Awg) :
    (State.applyExtents s a).pending = s.pending ∧ (State.applyExtents s a).sec.lifeOf = s.sec.lifeOf := by
  simp [State.applyExtents]

@[simp] theorem State.awgApply_life (s : State) (n : Nat) :
    (State.awgApply s n).pending = s.pending ∧ (State.awgApply s n).sec.lifeOf = s.sec.lifeOf := by
  unfold State.awgApply
  (repeat' split) <;> simp

@[simp] theorem State.computeBudget_life (s : State) :
    (State.computeBudget s).pending = s.pending ∧ (State.computeBudget s).sec.lifeOf = s.sec.lifeOf := by
  unfold State.computeBudget
  dsimp only
  (repeat' split) <;> simp_all

@[simp] theorem State.sample_life (s : State) (codes : List (BitVec 12)) :
    (State.sample s codes).pending = s.pending ∧ (State.sample s codes).sec.lifeOf = s.sec.lifeOf := by
  simp [State.sample]

@[simp] theorem State.skipCompress_life (s : State) (idx : Nat) :
    (State.skipCompress s idx).1.pending = s.pending ∧ (State.skipCompress s idx).1.sec.lifeOf = s.sec.lifeOf := by
  simp [State.skipCompress]

@[simp] theorem State.noteAttempt_life (s : State) (idx : Nat) (raw : Bool) :
    (State.noteAttempt s idx raw).pending = s.pending ∧ (State.noteAttempt s idx raw).sec.lifeOf = s.sec.lifeOf := by
  exact ⟨rfl, rfl⟩

@[simp] theorem State.drainSeg_life (s : State) (lsn : Nat) (frameLen : Nat) :
    (State.drainSeg s lsn frameLen).pending = s.pending ∧ (State.drainSeg s lsn frameLen).sec.lifeOf = s.sec.lifeOf := by
  unfold State.drainSeg
  (repeat' split) <;> simp

@[simp] theorem State.promenade_life (s : State) (frameLen : Nat) (bad : List Nat) :
    (State.promenade s frameLen bad).pending = s.pending ∧ (State.promenade s frameLen bad).sec.lifeOf = s.sec.lifeOf := by
  unfold State.promenade
  (repeat' split) <;> simp

@[simp] theorem State.drainDone_life (s : State) (lsn : Nat) :
    (State.drainDone s lsn).pending = s.pending ∧ (State.drainDone s lsn).sec.lifeOf = s.sec.lifeOf := by
  unfold State.drainDone
  dsimp only
  (repeat' split) <;> simp_all

@[simp] theorem State.refillDone_life (s : State) (lsn : Nat) :
    (State.refillDone s lsn).pending = s.pending ∧ (State.refillDone s lsn).sec.lifeOf = s.sec.lifeOf := by
  unfold State.refillDone
  (repeat' split) <;> simp

@[simp] theorem State.lowerRails_life (s : State) (l : List Nat) :
    (State.lowerRails s l).pending = s.pending ∧ (State.lowerRails s l).sec.lifeOf = s.sec.lifeOf := by
  simp [State.lowerRails]

@[simp] theorem State.saveShed_life (s : State) :
    (State.saveShed s).pending = s.pending ∧ (State.saveShed s).sec.lifeOf = s.sec.lifeOf := by
  unfold State.saveShed
  (repeat' split) <;> simp

@[simp] theorem State.refuseParts_life (s : State) :
    (State.refuseParts s).pending = s.pending ∧ (State.refuseParts s).sec.lifeOf = s.sec.lifeOf := by
  unfold State.refuseParts
  (repeat' split) <;> simp

@[simp] theorem State.saveProgrammed_life (s : State) (n : Nat) (frameLen : Nat) (bad : List Nat) :
    (State.saveProgrammed s n frameLen bad).pending = s.pending ∧ (State.saveProgrammed s n frameLen bad).sec.lifeOf = s.sec.lifeOf := by
  unfold State.saveProgrammed
  (repeat' split) <;> simp

@[simp] theorem State.restoreEntry_life (s : State) (n : Nat) (outcome : RestoreOutcome) :
    (State.restoreEntry s n outcome).pending = s.pending ∧ (State.restoreEntry s n outcome).sec.lifeOf = s.sec.lifeOf := by
  unfold State.restoreEntry
  (repeat' split) <;> simp

@[simp] theorem State.missing_life (s : State) (idx : Nat) (l : List Nat) :
    (State.missing s idx l).pending = s.pending ∧ (State.missing s idx l).sec.lifeOf = s.sec.lifeOf := by
  simp [State.missing]

@[simp] theorem State.restoreMaps_life (s : State) (restored : List Nat) (inc : List Nat) :
    (State.restoreMaps s restored inc).pending = s.pending ∧ (State.restoreMaps s restored inc).sec.lifeOf = s.sec.lifeOf := by
  show State.KeepsLife _ _
  unfold State.restoreMaps
  extract_lets lost a b c
  have ha : s.KeepsLife a := ⟨rfl, rfl⟩
  have hb : a.KeepsLife b := by
    refine State.keepsLife_foldl _ _ (fun s m => ?_) _
    dsimp only
    split
    · simp [State.KeepsLife]
    · simp [State.KeepsLife]
    · split
      · split <;> simp [State.KeepsLife]
      · simp [State.KeepsLife]
    · simp [State.KeepsLife]
    · simp [State.KeepsLife]
  exact (ha.trans hb).trans (State.keepsLife_foldl _ _ (fun s m => State.setSegState_life _ _ _) _)

@[simp] theorem State.recoverAwg_life (s : State) (a : Awg) :
    (State.recoverAwg s a).pending = s.pending ∧ (State.recoverAwg s a).sec.lifeOf = s.sec.lifeOf := by
  simp [State.recoverAwg]

@[simp] theorem State.restartQps_life (s : State) :
    (State.restartQps s).pending = s.pending ∧ (State.restartQps s).sec.lifeOf = s.sec.lifeOf := by
  show State.KeepsLife _ _
  unfold State.restartQps
  refine State.KeepsLife.trans ?_ (State.keepsLife_foldl _ _ (fun s n => ?_) _)
  · exact State.keepsLife_foldl _ _ (fun s n => State.freeQp_life s n) _
  · exact State.enterError_life s n _

@[simp] theorem State.restartGroups_life (s : State) :
    (State.restartGroups s).pending = s.pending ∧ (State.restartGroups s).sec.lifeOf = s.sec.lifeOf := by
  simp [State.restartGroups]

@[simp] theorem State.restoreEnd_life (s : State) :
    (State.restoreEnd s).pending = s.pending ∧ (State.restoreEnd s).sec.lifeOf = s.sec.lifeOf := by
  unfold State.restoreEnd
  (repeat' split) <;> simp

@[simp] theorem State.lostClear_life (s : State) (num : Nat) (ak : Nat) :
    (State.lostClear s num ak).pending = s.pending ∧ (State.lostClear s num ak).sec.lifeOf = s.sec.lifeOf := by
  simp [State.lostClear]

@[simp] theorem State.rateTestStart_life (s : State) :
    (State.rateTestStart s).pending = s.pending ∧ (State.rateTestStart s).sec.lifeOf = s.sec.lifeOf := by
  simp [State.rateTestStart]

@[simp] theorem State.rateTestEnd_life (s : State) (rate : Nat) (mw : Nat) :
    (State.rateTestEnd s rate mw).pending = s.pending ∧ (State.rateTestEnd s rate mw).sec.lifeOf = s.sec.lifeOf := by
  simp [State.rateTestEnd]

@[simp] theorem State.aonLoss_life (s : State) :
    (State.aonLoss s).pending = s.pending ∧ (State.aonLoss s).sec.lifeOf = s.sec.lifeOf := by
  simp [State.aonLoss]

@[simp] theorem State.railDown_life (s : State) (r : Nat) (mv : Nat) :
    (State.railDown s r mv).pending = s.pending ∧ (State.railDown s r mv).sec.lifeOf = s.sec.lifeOf := by
  simp [State.railDown]

@[simp] theorem State.statusRead_life (s : State) (i : Nat) (w : BitVec 16) :
    (State.statusRead s i w).pending = s.pending ∧ (State.statusRead s i w).sec.lifeOf = s.sec.lifeOf := by
  simp [State.statusRead]

@[simp] theorem State.pollEntry_life (s : State) (p : PmbusReading) :
    (State.pollEntry s p).pending = s.pending ∧ (State.pollEntry s p).sec.lifeOf = s.sec.lifeOf := by
  simp [State.pollEntry]

@[simp] theorem State.alertEntry_life (s : State) (a : Fin 32 × BitVec 16) :
    (State.alertEntry s a).pending = s.pending ∧ (State.alertEntry s a).sec.lifeOf = s.sec.lifeOf := by
  simp [State.alertEntry]

@[simp] theorem State.setFeed_life (s : State) (f : Nat) (mv : Nat) (on : Bool) :
    (State.setFeed s f mv on).pending = s.pending ∧ (State.setFeed s f mv on).sec.lifeOf = s.sec.lifeOf := by
  exact ⟨rfl, rfl⟩

@[simp] theorem State.feedPresent_life (s : State) (f : Nat) (mv : Nat) :
    (State.feedPresent s f mv).pending = s.pending ∧ (State.feedPresent s f mv).sec.lifeOf = s.sec.lifeOf := by
  simp [State.feedPresent]

@[simp] theorem State.feedLost_life (s : State) (f : Nat) (mv : Nat) :
    (State.feedLost s f mv).pending = s.pending ∧ (State.feedLost s f mv).sec.lifeOf = s.sec.lifeOf := by
  simp [State.feedLost]

@[simp] theorem State.modeRequest_life (s : State) (want : Nat) :
    (State.modeRequest s want).pending = s.pending ∧ (State.modeRequest s want).sec.lifeOf = s.sec.lifeOf := by
  unfold State.modeRequest
  (repeat' split) <;> simp

@[simp] theorem State.storeStandby_life (s : State) :
    (State.storeStandby s).pending = s.pending ∧ (State.storeStandby s).sec.lifeOf = s.sec.lifeOf := by
  simp [State.storeStandby]

@[simp] theorem State.rampEnd_life (s : State) :
    (State.rampEnd s).pending = s.pending ∧ (State.rampEnd s).sec.lifeOf = s.sec.lifeOf := by
  simp [State.rampEnd]

@[simp] theorem State.stepStable_life (s : State) :
    (State.stepStable s).pending = s.pending ∧ (State.stepStable s).sec.lifeOf = s.sec.lifeOf := by
  unfold State.stepStable
  dsimp only
  (repeat' split) <;> simp_all

@[simp] theorem State.stepTimeout_life (s : State) (out : List (Fin 64)) :
    (State.stepTimeout s out).pending = s.pending ∧ (State.stepTimeout s out).sec.lifeOf = s.sec.lifeOf := by
  simp [State.stepTimeout]

@[simp] theorem State.downStep_life (s : State) :
    (State.downStep s).pending = s.pending ∧ (State.downStep s).sec.lifeOf = s.sec.lifeOf := by
  unfold State.downStep
  dsimp only
  (repeat' split) <;> simp_all

@[simp] theorem State.capStart_life (s : State) (cmd : Bool) :
    (State.capStart s cmd).pending = s.pending ∧ (State.capStart s cmd).sec.lifeOf = s.sec.lifeOf := by
  simp [State.capStart]

@[simp] theorem State.capFail_life (s : State) (reason : Nat) :
    (State.capFail s reason).pending = s.pending ∧ (State.capFail s reason).sec.lifeOf = s.sec.lifeOf := by
  exact ⟨rfl, rfl⟩

@[simp] theorem State.capEnd_life (s : State) (ma : Nat) (dtUs : Nat) (mv : Nat) :
    (State.capEnd s ma dtUs mv).pending = s.pending ∧ (State.capEnd s ma dtUs mv).sec.lifeOf = s.sec.lifeOf := by
  simp [State.capEnd]

@[simp] theorem State.modSlot_life (s : State) (b : Bool) (f : ImageSlot → ImageSlot) :
    (State.modSlot s b f).pending = s.pending ∧ (State.modSlot s b f).sec.lifeOf = s.sec.lifeOf := by
  simp [State.modSlot]

@[simp] theorem State.sysRst_life (s : State) :
    (State.sysRst s).pending = s.pending ∧ (State.sysRst s).sec.lifeOf = s.sec.lifeOf := by
  unfold State.sysRst
  dsimp only
  (repeat' split) <;> simp_all

@[simp] theorem State.refclkFault_life (s : State) :
    (State.refclkFault s).pending = s.pending ∧ (State.refclkFault s).sec.lifeOf = s.sec.lifeOf := by
  simp [State.refclkFault]

@[simp] theorem State.rootLock_life (s : State) (a : Bool) (b : Bool) :
    (State.rootLock s a b).pending = s.pending ∧ (State.rootLock s a b).sec.lifeOf = s.sec.lifeOf := by
  simp [State.rootLock]

@[simp] theorem State.bootFails_life (s : State) (l : ImageLoad) :
    (State.bootFails s l).pending = s.pending ∧ (State.bootFails s l).sec.lifeOf = s.sec.lifeOf := by
  unfold State.bootFails
  dsimp only
  (repeat' split) <;> simp_all

@[simp] theorem State.slotFails_life (s : State) (l : ImageLoad) (step : Nat) :
    (State.slotFails s l step).pending = s.pending ∧ (State.slotFails s l step).sec.lifeOf = s.sec.lifeOf := by
  simp [State.slotFails]

@[simp] theorem State.bodyVerified_life (s : State) (ok : Bool) :
    (State.bodyVerified s ok).pending = s.pending ∧ (State.bodyVerified s ok).sec.lifeOf = s.sec.lifeOf := by
  unfold State.bodyVerified
  (repeat' split) <;> simp

@[simp] theorem State.coreRestart_life (s : State) :
    (State.coreRestart s).pending = s.pending ∧ (State.coreRestart s).sec.lifeOf = s.sec.lifeOf := by
  simp [State.coreRestart]

@[simp] theorem State.portResetRun_life (s : State) (p : Nat) (clockOk : Bool) :
    (State.portResetRun s p clockOk).pending = s.pending ∧ (State.portResetRun s p clockOk).sec.lifeOf = s.sec.lifeOf := by
  simp [State.portResetRun]

@[simp] theorem State.liftPort_life (s : State) (p : Nat) :
    (State.liftPort s p).pending = s.pending ∧ (State.liftPort s p).sec.lifeOf = s.sec.lifeOf := by
  simp [State.liftPort]

@[simp] theorem State.domainReleased_life (s : State) (d : Nat) :
    (State.domainReleased s d).pending = s.pending ∧ (State.domainReleased s d).sec.lifeOf = s.sec.lifeOf := by
  simp [State.domainReleased]

@[simp] theorem State.ethrefFault_life (s : State) (khz : Nat) :
    (State.ethrefFault s khz).pending = s.pending ∧ (State.ethrefFault s khz).sec.lifeOf = s.sec.lifeOf := by
  simp [State.ethrefFault]

@[simp] theorem State.clockCheck_life (s : State) (src : Nat) (khz : Nat) :
    (State.clockCheck s src khz).pending = s.pending ∧ (State.clockCheck s src khz).sec.lifeOf = s.sec.lifeOf := by
  simp [State.clockCheck]

@[simp] theorem State.thermalSample_life (s : State) (temps : List (BitVec 8)) :
    (State.thermalSample s temps).pending = s.pending ∧ (State.thermalSample s temps).sec.lifeOf = s.sec.lifeOf := by
  simp [State.thermalSample]

@[simp] theorem State.carrierIn_life (s : State) (n : Nat) :
    (State.carrierIn s n).pending = s.pending ∧ (State.carrierIn s n).sec.lifeOf = s.sec.lifeOf := by
  simp [State.carrierIn]

@[simp] theorem State.carrierGone_life (s : State) (n : Nat) :
    (State.carrierGone s n).pending = s.pending ∧ (State.carrierGone s n).sec.lifeOf = s.sec.lifeOf := by
  simp [State.carrierGone]

@[simp] theorem State.carrierOut_life (s : State) (n : Nat) :
    (State.carrierOut s n).pending = s.pending ∧ (State.carrierOut s n).sec.lifeOf = s.sec.lifeOf := by
  unfold State.carrierOut
  dsimp only
  (repeat' split) <;> simp_all

@[simp] theorem State.carrierService_life (s : State) (n : Nat) (draw : Nat) (o : CarrierObs) :
    (State.carrierService s n draw o).pending = s.pending ∧ (State.carrierService s n draw o).sec.lifeOf = s.sec.lifeOf := by
  simp [State.carrierService]

@[simp] theorem State.attachChecked_life (s : State) (n : Nat) (o : CarrierObs) :
    (State.attachChecked s n o).pending = s.pending ∧ (State.attachChecked s n o).sec.lifeOf = s.sec.lifeOf := by
  unfold State.attachChecked
  dsimp only
  (repeat' split) <;> simp_all

@[simp] theorem State.pgoodLow_life (s : State) (n : Nat) :
    (State.pgoodLow s n).pending = s.pending ∧ (State.pgoodLow s n).sec.lifeOf = s.sec.lifeOf := by
  simp [State.pgoodLow]

@[simp] theorem State.drawFails_life (s : State) (num : Nat) :
    (State.drawFails s num).pending = s.pending ∧ (State.drawFails s num).sec.lifeOf = s.sec.lifeOf := by
  exact ⟨rfl, rfl⟩

@[simp] theorem State.formatRun_life (s : State) (num : Nat) :
    (State.formatRun s num).pending = s.pending ∧ (State.formatRun s num).sec.lifeOf = s.sec.lifeOf := by
  simp [State.formatRun]

@[simp] theorem State.asFormatted_life (s : State) (n : Nat) :
    (State.asFormatted s n).pending = s.pending ∧ (State.asFormatted s n).sec.lifeOf = s.sec.lifeOf := by
  show State.KeepsLife _ _
  unfold State.asFormatted
  refine State.KeepsLife.trans ?_ (State.writeDynamic_life _ _ _ _)
  exact State.KeepsLife.trans (State.modFlash_life _ _) (State.modCarrier_life _ _ _)

@[simp] theorem State.formatted_life (s : State) (n : Nat) (bad : Nat) :
    (State.formatted s n bad).pending = s.pending ∧ (State.formatted s n bad).sec.lifeOf = s.sec.lifeOf := by
  simp [State.formatted]

@[simp] theorem State.detachRun_life (s : State) (num : Nat) :
    (State.detachRun s num).pending = s.pending ∧ (State.detachRun s num).sec.lifeOf = s.sec.lifeOf := by
  unfold State.detachRun
  dsimp only
  (repeat' split) <;> simp_all

@[simp] theorem State.evacuated_life (s : State) (n : Nat) (noSpace : Bool) :
    (State.evacuated s n noSpace).pending = s.pending ∧ (State.evacuated s n noSpace).sec.lifeOf = s.sec.lifeOf := by
  simp [State.evacuated]

@[simp] theorem State.programReject_life (s : State) (k : Nat) :
    (State.programReject s k).pending = s.pending ∧ (State.programReject s k).sec.lifeOf = s.sec.lifeOf := by
  simp [State.programReject]

@[simp] theorem State.programFailed_life (s : State) (k : Nat) :
    (State.programFailed s k).pending = s.pending ∧ (State.programFailed s k).sec.lifeOf = s.sec.lifeOf := by
  simp [State.programFailed]

@[simp] theorem State.holdPage_life (s : State) (k : Nat) (page : Nat) :
    (State.holdPage s k page).pending = s.pending ∧ (State.holdPage s k page).sec.lifeOf = s.sec.lifeOf := by
  unfold State.holdPage
  dsimp only
  (repeat' split) <;> simp_all

@[simp] theorem State.programPassed_life (s : State) (k : Nat) (page : Nat) (verifyOk : Bool) :
    (State.programPassed s k page verifyOk).pending = s.pending ∧ (State.programPassed s k page verifyOk).sec.lifeOf = s.sec.lifeOf := by
  simp [State.programPassed]

@[simp] theorem State.programDone_life (s : State) (k : Nat) (page : Nat) (r : ProgramResult) :
    (State.programDone s k page r).pending = s.pending ∧ (State.programDone s k page r).sec.lifeOf = s.sec.lifeOf := by
  unfold State.programDone
  (repeat' split) <;> simp

@[simp] theorem State.eraseFailed_life (s : State) (k : Nat) :
    (State.eraseFailed s k).pending = s.pending ∧ (State.eraseFailed s k).sec.lifeOf = s.sec.lifeOf := by
  simp [State.eraseFailed]

@[simp] theorem State.eraseDone_life (s : State) (k : Nat) (ok : Bool) :
    (State.eraseDone s k ok).pending = s.pending ∧ (State.eraseDone s k ok).sec.lifeOf = s.sec.lifeOf := by
  simp [State.eraseDone]

@[simp] theorem State.flashTimeout_life (s : State) (b : BlkAddr) (kind : FlashOpKind) :
    (State.flashTimeout s b kind).pending = s.pending ∧ (State.flashTimeout s b kind).sec.lifeOf = s.sec.lifeOf := by
  unfold State.flashTimeout
  (repeat' split) <;> simp

@[simp] theorem State.mapFlush_life (s : State) :
    (State.mapFlush s).pending = s.pending ∧ (State.mapFlush s).sec.lifeOf = s.sec.lifeOf := by
  simp [State.mapFlush]

@[simp] theorem State.moveBlock_life (s : State) (k : Nat) :
    (State.moveBlock s k).pending = s.pending ∧ (State.moveBlock s k).sec.lifeOf = s.sec.lifeOf := by
  simp [State.moveBlock]

@[simp] theorem State.blockRead_life (s : State) (k : Nat) :
    (State.blockRead s k).pending = s.pending ∧ (State.blockRead s k).sec.lifeOf = s.sec.lifeOf := by
  simp [State.blockRead]

@[simp] theorem State.flashPatrol_life (s : State) (k : Nat) (worst : UnitOutcome) :
    (State.flashPatrol s k worst).pending = s.pending ∧ (State.flashPatrol s k worst).sec.lifeOf = s.sec.lifeOf := by
  unfold State.flashPatrol
  (repeat' split) <;> simp

@[simp] theorem State.collect_life (s : State) :
    (State.collect s).pending = s.pending ∧ (State.collect s).sec.lifeOf = s.sec.lifeOf := by
  unfold State.collect
  (repeat' split) <;> simp

@[simp] theorem State.wearLevel_life (s : State) (n : Nat) :
    (State.wearLevel s n).pending = s.pending ∧ (State.wearLevel s n).sec.lifeOf = s.sec.lifeOf := by
  unfold State.wearLevel
  dsimp only
  (repeat' split) <;> simp_all

@[simp] theorem State.rawRead_life (s : State) (num : Nat) (a : Bytes) (o : UnitOutcome) (corrected : Nat) :
    (State.rawRead s num a o corrected).pending = s.pending ∧ (State.rawRead s num a o corrected).sec.lifeOf = s.sec.lifeOf := by
  simp [State.rawRead]

@[simp] theorem State.afterParity_life (s : State) (k : FetchKey) :
    (State.afterParity s k).pending = s.pending ∧ (State.afterParity s k).sec.lifeOf = s.sec.lifeOf := by
  show State.KeepsLife _ _
  unfold State.afterParity
  split
  · dsimp only
    split
    · rename_i h
      exact State.KeepsLife.trans (State.askTwin_life _ _ _ _ h) (by simp [State.KeepsLife])
    · simp [State.KeepsLife]
  · split
    · split
      · rename_i h
        exact State.KeepsLife.trans (State.askTwin_life _ _ _ _ h) (by simp [State.KeepsLife])
      · simp [State.KeepsLife]
    · simp [State.KeepsLife]

@[simp] theorem State.mapCorrupt_life (s : State) (k : Nat) :
    (State.mapCorrupt s k).pending = s.pending ∧ (State.mapCorrupt s k).sec.lifeOf = s.sec.lifeOf := by
  simp [State.mapCorrupt]

@[simp] theorem State.flashRead_life (s : State) (k : FetchKey) (units : List UnitOutcome) :
    (State.flashRead s k units).pending = s.pending ∧ (State.flashRead s k units).sec.lifeOf = s.sec.lifeOf := by
  unfold State.flashRead
  (repeat' split) <;> simp

@[simp] theorem State.rebuilt_life (s : State) (k : FetchKey) (ok : Bool) :
    (State.rebuilt s k ok).pending = s.pending ∧ (State.rebuilt s k ok).sec.lifeOf = s.sec.lifeOf := by
  show State.KeepsLife _ _
  unfold State.rebuilt
  split
  · exact State.KeepsLife.refl _
  · refine State.keepsLife_ite (State.KeepsLife.refl _) (State.keepsLife_ite ?_ ?_)
    · exact State.KeepsLife.trans (State.bump_life _ _ _ _) (State.afterParity_life _ _)
    · extract_lets +onlyGivenNames a
      have ha : s.KeepsLife a := State.keepsLife_foldl _ _
        (fun s b => State.KeepsLife.trans (State.bump_life _ _ _ _) (State.suspectBlock_life _ _)) _
      refine ha.trans ?_
      clear_value a
      split
      · refine State.KeepsLife.trans ?_ (State.advanceAll_life _)
        refine State.KeepsLife.trans ?_ (State.rqCount_life _ _ _)
        refine State.KeepsLife.trans ?_ (State.bump_life _ _ _ _)
        refine State.KeepsLife.trans ?_ (State.residentNow_life _ _ _ _)
        exact State.KeepsLife.trans (State.endFetch_life _ _ _) (State.placeCopy_life _ _ _ _)
      · exact State.modFetch_life _ _ _

@[simp] theorem State.promoted_life (s : State) (idx : Nat) (seg : Nat) :
    (State.promoted s idx seg).pending = s.pending ∧ (State.promoted s idx seg).sec.lifeOf = s.sec.lifeOf := by
  show State.KeepsLife _ _
  unfold State.promoted
  split
  · exact State.KeepsLife.refl _
  · refine State.keepsLife_ite (State.KeepsLife.refl _) ?_
    refine State.KeepsLife.trans ?_ (State.advanceAll_life _)
    refine State.KeepsLife.trans ?_ (State.rqCount_life _ _ _)
    refine State.KeepsLife.trans ?_ (State.residentNow_life _ _ _ _)
    refine State.KeepsLife.trans ?_ (State.bump_life _ _ _ _)
    exact State.KeepsLife.trans (State.endFetch_life _ _ _) (State.placeCopy_life _ _ _ _)

@[simp] theorem State.deadline_life (s : State) (idx : Nat) (seg : Nat) (qpn : Nat) (psn : Nat) :
    (State.deadline s idx seg qpn psn).pending = s.pending ∧ (State.deadline s idx seg qpn psn).sec.lifeOf = s.sec.lifeOf := by
  simp [State.deadline]

@[simp] theorem State.evictN_life (s : State) (x1 : Nat) :
    (State.evictN s x1).pending = s.pending ∧ (State.evictN s x1).sec.lifeOf = s.sec.lifeOf := by
  induction x1 generalizing s with
  | zero => exact ⟨rfl, rfl⟩
  | succ n ih =>
    unfold State.evictN
    dsimp only
    (repeat' split) <;> simp [ih]

@[simp] theorem State.unmapped_life (s : State) (idx : Nat) (seg : Nat) :
    (State.unmapped s idx seg).pending = s.pending ∧ (State.unmapped s idx seg).sec.lifeOf = s.sec.lifeOf := by
  simp [State.unmapped]

@[simp] theorem State.evictRequest_life (r : State × Nat × Nat) (idx : Nat) (seg : Nat) :
    (State.evictRequest r idx seg).1.pending = r.1.pending ∧ (State.evictRequest r idx seg).1.sec.lifeOf = r.1.sec.lifeOf := by
  unfold State.evictRequest
  dsimp only
  (repeat' split) <;> simp_all

@[simp] theorem State.tierEvict_life (s : State) (num : Nat) (a : Bytes) :
    (State.tierEvict s num a).pending = s.pending ∧ (State.tierEvict s num a).sec.lifeOf = s.sec.lifeOf := by
  show State.KeepsLife _ _
  unfold State.tierEvict
  extract_lets g
  split
  · simp [State.KeepsLife]
  · have h : ∀ (l : List Nat) (r : State × Nat × Nat),
        r.1.KeepsLife (l.foldl (fun r i => State.evictRequest r (akIndex g.1) (g.2.1 + i)) r).1 := by
      intro l
      induction l with
      | nil => exact fun r => State.KeepsLife.refl _
      | cons x l ih =>
        intro r
        refine State.KeepsLife.trans ?_ (ih _)
        unfold State.evictRequest
        dsimp only
        (repeat' split) <;> simp [State.KeepsLife]
    exact State.KeepsLife.trans (h _ (s, 0, 0)) (State.done_life _ _ _)

@[simp] theorem State.clearPoison_life (s : State) (idx : Nat) (seg : Nat) :
    (State.clearPoison s idx seg).pending = s.pending ∧ (State.clearPoison s idx seg).sec.lifeOf = s.sec.lifeOf := by
  show State.KeepsLife _ _
  unfold State.clearPoison
  extract_lets e g tmv flash a b
  have hb : s.KeepsLife b := by
    have ha : s.KeepsLife a := ⟨rfl, rfl⟩
    exact ha.trans (by simp [State.KeepsLife, b])
  refine hb.trans ?_
  clear_value b
  split
  · refine State.keepsLife_foldl _ _ (fun _ _ => ?_) _
    exact State.issueFrame_life _ _ _
  · split <;> simp [State.KeepsLife]

@[simp] theorem State.poisonClear_life (s : State) (num : Nat) (a : Bytes) :
    (State.poisonClear s num a).pending = s.pending ∧ (State.poisonClear s num a).sec.lifeOf = s.sec.lifeOf := by
  unfold State.poisonClear
  dsimp only
  (repeat' split) <;> simp_all

@[simp] theorem State.capacityTick_life (s : State) :
    (State.capacityTick s).pending = s.pending ∧ (State.capacityTick s).sec.lifeOf = s.sec.lifeOf := by
  simp [State.capacityTick]

@[simp] theorem State.populationFault_life (s : State) (l : List SpdSlot) :
    (State.populationFault s l).pending = s.pending ∧ (State.populationFault s l).sec.lifeOf = s.sec.lifeOf := by
  simp [State.populationFault]

@[simp] theorem State.spdRead_life (s : State) (l : List SpdSlot) :
    (State.spdRead s l).pending = s.pending ∧ (State.spdRead s l).sec.lifeOf = s.sec.lifeOf := by
  unfold State.spdRead
  (repeat' split) <;> simp

@[simp] theorem State.liftChannel_life (s : State) (ch : Nat) :
    (State.liftChannel s ch).pending = s.pending ∧ (State.liftChannel s ch).sec.lifeOf = s.sec.lifeOf := by
  exact ⟨rfl, rfl⟩

@[simp] theorem State.trainStep_life (s : State) (ch : Nat) (step : Nat) (ok : Bool) (margin : Nat) :
    (State.trainStep s ch step ok margin).pending = s.pending ∧ (State.trainStep s ch step ok margin).sec.lifeOf = s.sec.lifeOf := by
  simp [State.trainStep]

@[simp] theorem State.pprRepair_life (s : State) (rows : List PprRow) :
    (State.pprRepair s rows).pending = s.pending ∧ (State.pprRepair s rows).sec.lifeOf = s.sec.lifeOf := by
  simp [State.pprRepair]

@[simp] theorem State.trainResult_life (s : State) :
    (State.trainResult s).pending = s.pending ∧ (State.trainResult s).sec.lifeOf = s.sec.lifeOf := by
  exact ⟨rfl, rfl⟩

@[simp] theorem State.trainDone_life (s : State) (rows : List PprRow) :
    (State.trainDone s rows).pending = s.pending ∧ (State.trainDone s rows).sec.lifeOf = s.sec.lifeOf := by
  simp [State.trainDone]

@[simp] theorem State.retrain_life (s : State) (mask : Nat) (slots : List SpdSlot) (failed : List (Fin 16 × Nat)) :
    (State.retrain s mask slots failed).pending = s.pending ∧ (State.retrain s mask slots failed).sec.lifeOf = s.sec.lifeOf := by
  show State.KeepsLife _ _
  unfold State.retrain
  extract_lets a chs bad b passed
  have ha : s.KeepsLife a := by simp [State.KeepsLife, a]
  refine ha.trans ?_
  split
  · simp [State.KeepsLife]
  · have hb : a.KeepsLife b := by
      refine State.keepsLife_foldl _ _ (fun s ch => ?_) _
      split
      · simp [State.KeepsLife]
      · split <;> simp [State.KeepsLife]
    exact hb.trans (by simp [State.KeepsLife])

@[simp] theorem State.tempPoll_life (s : State) (ch : Nat) (slot : Nat) (t : Nat) :
    (State.tempPoll s ch slot t).pending = s.pending ∧ (State.tempPoll s ch slot t).sec.lifeOf = s.sec.lifeOf := by
  simp [State.tempPoll]

@[simp] theorem State.repairLine_life (s : State) (line : Nat) (b : Bytes) :
    (State.repairLine s line b).pending = s.pending ∧ (State.repairLine s line b).sec.lifeOf = s.sec.lifeOf := by
  simp [State.repairLine]

@[simp] theorem State.lineRepair_life (s : State) (a : Nat) :
    (State.lineRepair s a).pending = s.pending ∧ (State.lineRepair s a).sec.lifeOf = s.sec.lifeOf := by
  unfold State.lineRepair
  dsimp only
  (repeat' split) <;> simp_all

@[simp] theorem State.descLineLost_life (s : State) (a : Nat) :
    (State.descLineLost s a).pending = s.pending ∧ (State.descLineLost s a).sec.lifeOf = s.sec.lifeOf := by
  simp [State.descLineLost]

@[simp] theorem State.agentActs_life (s : State) (rq : Nat) (a : Nat) (unit : Nat) :
    (State.agentActs s rq a unit).pending = s.pending ∧ (State.agentActs s rq a unit).sec.lifeOf = s.sec.lifeOf := by
  unfold State.agentActs
  (repeat' split) <;> simp

@[simp] theorem State.uncorrectedRead_life (s : State) (rq : Nat) (a : Nat) (unit : Nat) :
    (State.uncorrectedRead s rq a unit).pending = s.pending ∧ (State.uncorrectedRead s rq a unit).sec.lifeOf = s.sec.lifeOf := by
  simp [State.uncorrectedRead]

@[simp] theorem State.caAlert_life (s : State) (ch : Nat) (entries : Nat) (retired : Bool) :
    (State.caAlert s ch entries retired).pending = s.pending ∧ (State.caAlert s ch entries retired).sec.lifeOf = s.sec.lifeOf := by
  simp [State.caAlert]

@[simp] theorem State.scrub_life (s : State) (a : Nat) (o : LineOutcome) :
    (State.scrub s a o).pending = s.pending ∧ (State.scrub s a o).sec.lifeOf = s.sec.lifeOf := by
  unfold State.scrub
  dsimp only
  (repeat' split) <;> simp_all

@[simp] theorem State.pageRetire_life (s : State) (a : Nat) :
    (State.pageRetire s a).pending = s.pending ∧ (State.pageRetire s a).sec.lifeOf = s.sec.lifeOf := by
  unfold State.pageRetire
  dsimp only
  (repeat' split) <;> simp_all

@[simp] theorem State.pageCopied_life (s : State) (ch : Nat) (page : Nat) :
    (State.pageCopied s ch page).pending = s.pending ∧ (State.pageCopied s ch page).sec.lifeOf = s.sec.lifeOf := by
  unfold State.pageCopied
  (repeat' split) <;> simp

@[simp] theorem State.mcFenceWrite_life (s : State) (old : Nat) (new : Nat) :
    (State.mcFenceWrite s old new).pending = s.pending ∧ (State.mcFenceWrite s old new).sec.lifeOf = s.sec.lifeOf := by
  simp [State.mcFenceWrite]

@[simp] theorem State.twinDrop_life (s : State) (p : Nat) :
    (State.twinDrop s p).pending = s.pending ∧ (State.twinDrop s p).sec.lifeOf = s.sec.lifeOf := by
  exact ⟨rfl, rfl⟩

@[simp] theorem State.twinFrame_life (s : State) (h : TwinHdr) (major : Nat) (f : State → State) (hf : ∀ a0, (f a0).pending = a0.pending ∧ (f a0).sec.lifeOf = a0.sec.lifeOf) :
    (State.twinFrame s h major f).pending = s.pending ∧ (State.twinFrame s h major f).sec.lifeOf = s.sec.lifeOf := by
  show State.KeepsLife _ _
  unfold State.twinFrame
  have k := fun a => (hf a).1
  have k' := fun a => (hf a).2
  dsimp only
  (repeat' split) <;> simp [State.KeepsLife, k, k']

@[simp] theorem State.sendMack_life (s : State) (g : Nat) :
    (State.sendMack s g).pending = s.pending ∧ (State.sendMack s g).sec.lifeOf = s.sec.lifeOf := by
  simp [State.sendMack]

@[simp] theorem State.sendMnak_life (s : State) (g : Nat) (reason : Nat) (seq : Nat) :
    (State.sendMnak s g reason seq).pending = s.pending ∧ (State.sendMnak s g reason seq).sec.lifeOf = s.sec.lifeOf := by
  simp [State.sendMnak]

@[simp] theorem State.groupFrame_life (s : State) (h : TwinHdr) (major : Nat) (f : Nat → State → State) (old : Role → Bool) (hf : ∀ a0 a1, (f a0 a1).pending = a1.pending ∧ (f a0 a1).sec.lifeOf = a1.sec.lifeOf) :
    (State.groupFrame s h major f old).pending = s.pending ∧ (State.groupFrame s h major f old).sec.lifeOf = s.sec.lifeOf := by
  unfold State.groupFrame
  dsimp only
  (repeat' split) <;> simp_all [hf]

@[simp] theorem State.sendMaps_life (s : State) (g : Nat) (l : List ResyncRun) :
    (State.sendMaps s g l).pending = s.pending ∧ (State.sendMaps s g l).sec.lifeOf = s.sec.lifeOf := by
  simp [State.sendMaps]

@[simp] theorem State.sendBegin_life (s : State) (g : Nat) :
    (State.sendBegin s g).pending = s.pending ∧ (State.sendBegin s g).sec.lifeOf = s.sec.lifeOf := by
  simp [State.sendBegin]

@[simp] theorem State.openTarget_life (s : State) (g : Nat) :
    (State.openTarget s g).pending = s.pending ∧ (State.openTarget s g).sec.lifeOf = s.sec.lifeOf := by
  simp [State.openTarget]

@[simp] theorem State.dropUnits_life (s : State) (g : Nat) :
    (State.dropUnits s g).pending = s.pending ∧ (State.dropUnits s g).sec.lifeOf = s.sec.lifeOf := by
  exact ⟨rfl, rfl⟩

@[simp] theorem State.sendRelease_life (s : State) (g : Nat) (unpair : Bool) :
    (State.sendRelease s g unpair).pending = s.pending ∧ (State.sendRelease s g unpair).sec.lifeOf = s.sec.lifeOf := by
  simp [State.sendRelease]

@[simp] theorem State.outOfSync_life (s : State) (g : Nat) :
    (State.outOfSync s g).pending = s.pending ∧ (State.outOfSync s g).sec.lifeOf = s.sec.lifeOf := by
  simp [State.outOfSync]

@[simp] theorem State.rejoin_life (s : State) (g : Nat) :
    (State.rejoin s g).pending = s.pending ∧ (State.rejoin s g).sec.lifeOf = s.sec.lifeOf := by
  simp [State.rejoin]

@[simp] theorem State.sendResume_life (s : State) (g : Nat) :
    (State.sendResume s g).pending = s.pending ∧ (State.sendResume s g).sec.lifeOf = s.sec.lifeOf := by
  simp [State.sendResume]

@[simp] theorem State.noteReply_life (s : State) (m : LeaseMsg) :
    (State.noteReply s m).pending = s.pending ∧ (State.noteReply s m).sec.lifeOf = s.sec.lifeOf := by
  exact ⟨rfl, rfl⟩

@[simp] theorem State.onceReply_life (s : State) (m : LeaseMsg) (f : State → State) (hf : ∀ a0, (f a0).pending = a0.pending ∧ (f a0).sec.lifeOf = a0.sec.lifeOf) :
    (State.onceReply s m f).pending = s.pending ∧ (State.onceReply s m f).sec.lifeOf = s.sec.lifeOf := by
  unfold State.onceReply
  split
  · exact hf _
  · exact ⟨rfl, rfl⟩

@[simp] theorem State.advanceLease_life (s : State) (g : Nat) (t : Nat) :
    (State.advanceLease s g t).pending = s.pending ∧ (State.advanceLease s g t).sec.lifeOf = s.sec.lifeOf := by
  exact ⟨rfl, rfl⟩

@[simp] theorem State.fenceGroup_life (s : State) (g : Nat) :
    (State.fenceGroup s g).pending = s.pending ∧ (State.fenceGroup s g).sec.lifeOf = s.sec.lifeOf := by
  unfold State.fenceGroup
  dsimp only
  (repeat' split) <;> simp_all

@[simp] theorem State.becomeHolder_life (s : State) (g : Nat) (r : Role) (epoch : Nat) (leaseEnd : Nat) :
    (State.becomeHolder s g r epoch leaseEnd).pending = s.pending ∧ (State.becomeHolder s g r epoch leaseEnd).sec.lifeOf = s.sec.lifeOf := by
  simp [State.becomeHolder]

@[simp] theorem State.freeGroup_life (s : State) (g : Nat) (keep : Nat → Bool) :
    (State.freeGroup s g keep).pending = s.pending ∧ (State.freeGroup s g keep).sec.lifeOf = s.sec.lifeOf := by
  show State.KeepsLife _ _
  unfold State.freeGroup
  refine State.keepsLife_foldl _ _ (fun s n => ?_) _
  exact State.KeepsLife.trans (State.releaseRegion_life _ _) (State.setDesc_life _ _ _)

@[simp] theorem State.unpairLocal_life (s : State) (g : Nat) :
    (State.unpairLocal s g).pending = s.pending ∧ (State.unpairLocal s g).sec.lifeOf = s.sec.lifeOf := by
  simp [State.unpairLocal]

@[simp] theorem State.twinLinkUp_life (s : State) (p : Nat) :
    (State.twinLinkUp s p).pending = s.pending ∧ (State.twinLinkUp s p).sec.lifeOf = s.sec.lifeOf := by
  simp [State.twinLinkUp]

@[simp] theorem State.helloRole_life (s : State) (g : Nat) :
    (State.helloRole s g).pending = s.pending ∧ (State.helloRole s g).sec.lifeOf = s.sec.lifeOf := by
  unfold State.helloRole
  dsimp only
  (repeat' split) <;> simp_all

@[simp] theorem State.helloAgree_life (s : State) (p : Nat) (b : HelloBody) :
    (State.helloAgree s p b).pending = s.pending ∧ (State.helloAgree s p b).sec.lifeOf = s.sec.lifeOf := by
  simp [State.helloAgree]

@[simp] theorem State.twinHello_life (s : State) (h : TwinHdr) (b : HelloBody) :
    (State.twinHello s h b).pending = s.pending ∧ (State.twinHello s h b).sec.lifeOf = s.sec.lifeOf := by
  simp [State.twinHello]

@[simp] theorem State.maskLines_life (s : State) (idx : Nat) (seg : Nat) (off : Nat) (n : Nat) :
    (State.maskLines s idx seg off n).pending = s.pending ∧ (State.maskLines s idx seg off n).sec.lifeOf = s.sec.lifeOf := by
  simp [State.maskLines]

@[simp] theorem State.mirrorReady_life (s : State) (idx : Nat) (off : Nat) (n : Nat) (resync : Bool) :
    (State.mirrorReady s idx off n resync).1.pending = s.pending ∧ (State.mirrorReady s idx off n resync).1.sec.lifeOf = s.sec.lifeOf := by
  show State.KeepsLife _ (Prod.fst _)
  unfold State.mirrorReady
  extract_lets d seg a e b key
  split
  · simp [State.KeepsLife, a]
  split
  · simp [State.KeepsLife]
  · simp [State.KeepsLife]
  · exact State.KeepsLife.refl _
  · split <;> simp [State.KeepsLife]
  · split
    · exact State.KeepsLife.refl _
    have hb : s.KeepsLife b.1 := by simp [State.KeepsLife, b]
    split
    · exact hb
    have k := State.takeFrame_life b.1 idx seg true []
    split
    · rename_i h
      rw [h] at k
      exact hb.trans k
    · rename_i h
      rw [h] at k
      exact (hb.trans k).trans (by simp [State.KeepsLife])
  · split
    · exact State.KeepsLife.refl _
    have k := State.takeFrame_life s idx seg true []
    split
    · rename_i h
      rw [h] at k
      exact k
    · rename_i h
      rw [h] at k
      exact State.KeepsLife.trans k (by simp [State.KeepsLife])

@[simp] theorem State.mirrorPlace_life (s : State) (idx : Nat) (off : Nat) (data : Bytes) (bad : List Nat) :
    (State.mirrorPlace s idx off data bad).1.pending = s.pending ∧ (State.mirrorPlace s idx off data bad).1.sec.lifeOf = s.sec.lifeOf := by
  simp [State.mirrorPlace]

@[simp] theorem State.placeWrite_life (s : State) (g : Nat) (f : HeldFrame) :
    (State.placeWrite s g f).1.pending = s.pending ∧ (State.placeWrite s g f).1.sec.lifeOf = s.sec.lifeOf := by
  unfold State.placeWrite
  dsimp only
  (repeat' split) <;> simp_all

@[simp] theorem State.placeUnit_life (s : State) (g : Nat) (f : HeldFrame) :
    (State.placeUnit s g f).1.pending = s.pending ∧ (State.placeUnit s g f).1.sec.lifeOf = s.sec.lifeOf := by
  unfold State.placeUnit
  dsimp only
  (repeat' split) <;> simp_all

@[simp] theorem State.resyncStep_life (s : State) (g : Nat) (f : HeldFrame) (ok : Bool) :
    (State.resyncStep s g f ok).pending = s.pending ∧ (State.resyncStep s g f ok).sec.lifeOf = s.sec.lifeOf := by
  unfold State.resyncStep
  (repeat' split) <;> simp

@[simp] theorem State.syncedAt_life (s : State) (g : Nat) (epoch : Nat) :
    (State.syncedAt s g epoch).pending = s.pending ∧ (State.syncedAt s g epoch).sec.lifeOf = s.sec.lifeOf := by
  simp [State.syncedAt]

@[simp] theorem State.answerEnd_life (s : State) (g : Nat) (b : ResyncBody) (ok : Bool) :
    (State.answerEnd s g b ok).pending = s.pending ∧ (State.answerEnd s g b ok).sec.lifeOf = s.sec.lifeOf := by
  simp [State.answerEnd]

@[simp] theorem State.endInOrder_life (s : State) (g : Nat) (b : ResyncBody) :
    (State.endInOrder s g b).pending = s.pending ∧ (State.endInOrder s g b).sec.lifeOf = s.sec.lifeOf := by
  unfold State.endInOrder
  dsimp only
  (repeat' split) <;> simp_all

@[simp] theorem State.framePlaced_life (s : State) (g : Nat) (seq : Nat) :
    (State.framePlaced s g seq).pending = s.pending ∧ (State.framePlaced s g seq).sec.lifeOf = s.sec.lifeOf := by
  exact ⟨rfl, rfl⟩

@[simp] theorem State.placeNext_life (s : State) (g : Nat) :
    (State.placeNext s g).1.pending = s.pending ∧ (State.placeNext s g).1.sec.lifeOf = s.sec.lifeOf := by
  unfold State.placeNext
  dsimp only
  (repeat' split) <;> simp_all

@[simp] theorem State.drainHeldN_life (s : State) (g : Nat) (x2 : Nat) :
    (State.drainHeldN s g x2).pending = s.pending ∧ (State.drainHeldN s g x2).sec.lifeOf = s.sec.lifeOf := by
  induction x2 generalizing s with
  | zero => exact ⟨rfl, rfl⟩
  | succ n ih =>
    unfold State.drainHeldN
    dsimp only
    (repeat' split) <;> simp [ih]

@[simp] theorem State.drainHeld_life (s : State) (g : Nat) :
    (State.drainHeld s g).pending = s.pending ∧ (State.drainHeld s g).sec.lifeOf = s.sec.lifeOf := by
  simp [State.drainHeld]

@[simp] theorem State.numbered_life (s : State) (g : Nat) (f : HeldFrame) :
    (State.numbered s g f).pending = s.pending ∧ (State.numbered s g f).sec.lifeOf = s.sec.lifeOf := by
  simp [State.numbered]

@[simp] theorem State.readStatus_life (s : State) (p : Nat) (g : Nat) (b : ReadBody) (status : Nat) :
    (State.readStatus s p g b status).pending = s.pending ∧ (State.readStatus s p g b status).sec.lifeOf = s.sec.lifeOf := by
  exact ⟨rfl, rfl⟩

@[simp] theorem State.serveRead_life (s : State) (p : Nat) (g : Nat) (b : ReadBody) (bad : List Nat) :
    (State.serveRead s p g b bad).1.pending = s.pending ∧ (State.serveRead s p g b bad).1.sec.lifeOf = s.sec.lifeOf := by
  show State.KeepsLife _ (Prod.fst _)
  unfold State.serveRead
  extract_lets gr idx n
  split
  · simp [State.KeepsLife]
  · split
    · simp [State.KeepsLife]
    · split
      · exact State.KeepsLife.refl _
      · extract_lets r
        have hr : s.KeepsLife r.1 := by
          refine State.foldl_keepsLife1 _ _ (fun r i => ?_) _
          exact State.accessSeg_life _ _ _ _ _
        clear_value r
        split
        · exact hr
        · exact hr.trans (by simp [State.KeepsLife])
        · have hl : ∀ x, s.KeepsLife ((r.1.rqCount 4 n).lineFaults 4 1 x) := fun x => hr.trans (by simp [State.KeepsLife])
          split
          · exact State.KeepsLife.trans (hl _) (State.readStatus_life _ _ _ _ _)
          · refine State.KeepsLife.trans (hl _) (State.keepsLife_foldl _ _ (fun _ _ => ?_) _)
            exact ⟨rfl, rfl⟩

@[simp] theorem State.serveWaiting_life (s : State) :
    (State.serveWaiting s).pending = s.pending ∧ (State.serveWaiting s).sec.lifeOf = s.sec.lifeOf := by
  simp [State.serveWaiting]

@[simp] theorem State.readReq_life (s : State) (p : Nat) (g : Nat) (b : ReadBody) (bad : List Nat) :
    (State.readReq s p g b bad).pending = s.pending ∧ (State.readReq s p g b bad).sec.lifeOf = s.sec.lifeOf := by
  simp [State.readReq]

@[simp] theorem State.mackTick_life (s : State) (g : Nat) :
    (State.mackTick s g).pending = s.pending ∧ (State.mackTick s g).sec.lifeOf = s.sec.lifeOf := by
  simp [State.mackTick]

@[simp] theorem State.takeAck_life (s : State) (p : Nat) (g : Nat) (acked : Nat) (free : Nat) (window : Nat) :
    (State.takeAck s p g acked free window).pending = s.pending ∧ (State.takeAck s p g acked free window).sec.lifeOf = s.sec.lifeOf := by
  simp [State.takeAck]

@[simp] theorem State.afterAck_life (s : State) :
    (State.afterAck s).pending = s.pending ∧ (State.afterAck s).sec.lifeOf = s.sec.lifeOf := by
  simp [State.afterAck]

@[simp] theorem State.resyncAgain_life (s : State) (g : Nat) (f : OutFrame) :
    (State.resyncAgain s g f).pending = s.pending ∧ (State.resyncAgain s g f).sec.lifeOf = s.sec.lifeOf := by
  unfold State.resyncAgain
  (repeat' split) <;> simp

@[simp] theorem State.nakAction_life (s : State) (g : Nat) (reason : Nat) (seq : Nat) (frame : Option OutFrame) :
    (State.nakAction s g reason seq frame).pending = s.pending ∧ (State.nakAction s g reason seq frame).sec.lifeOf = s.sec.lifeOf := by
  unfold State.nakAction
  dsimp only
  (repeat' split) <;> simp_all

@[simp] theorem State.takeNak_life (s : State) (p : Nat) (g : Nat) (acked : Nat) (free : Nat) (window : Nat) (reason : Nat) (seq : Nat) :
    (State.takeNak s p g acked free window reason seq).pending = s.pending ∧ (State.takeNak s p g acked free window reason seq).sec.lifeOf = s.sec.lifeOf := by
  simp [State.takeNak]

@[simp] theorem State.retxOldest_life (s : State) (g : Nat) :
    (State.retxOldest s g).pending = s.pending ∧ (State.retxOldest s g).sec.lifeOf = s.sec.lifeOf := by
  unfold State.retxOldest
  (repeat' split) <;> simp

@[simp] theorem State.frameMissed_life (s : State) (g : Nat) (x : OutFrame) :
    (State.frameMissed s g x).pending = s.pending ∧ (State.frameMissed s g x).sec.lifeOf = s.sec.lifeOf := by
  simp [State.frameMissed]

@[simp] theorem State.ackMissing_life (s : State) (g : Nat) :
    (State.ackMissing s g).pending = s.pending ∧ (State.ackMissing s g).sec.lifeOf = s.sec.lifeOf := by
  unfold State.ackMissing
  (repeat' split) <;> simp

@[simp] theorem State.gapTimeout_life (s : State) (g : Nat) :
    (State.gapTimeout s g).pending = s.pending ∧ (State.gapTimeout s g).sec.lifeOf = s.sec.lifeOf := by
  simp [State.gapTimeout]

@[simp] theorem State.repairSegment_life (s : State) (idx : Nat) (seg : Nat) (b : Bytes) :
    (State.repairSegment s idx seg b).pending = s.pending ∧ (State.repairSegment s idx seg b).sec.lifeOf = s.sec.lifeOf := by
  unfold State.repairSegment
  (repeat' split) <;> simp

@[simp] theorem State.readResp_life (s : State) (b : ReadBody) (status : Nat) (data : Bytes) (last : Bool) :
    (State.readResp s b status data last).pending = s.pending ∧ (State.readResp s b status data last).sec.lifeOf = s.sec.lifeOf := by
  unfold State.readResp
  (repeat' split) <;> simp

@[simp] theorem State.startResync_life (s : State) (g : Nat) (r : ResyncSource) :
    (State.startResync s g r).pending = s.pending ∧ (State.startResync s g r).sec.lifeOf = s.sec.lifeOf := by
  simp [State.startResync]

@[simp] theorem State.tryDecide_life (s : State) (g : Nat) :
    (State.tryDecide s g).pending = s.pending ∧ (State.tryDecide s g).sec.lifeOf = s.sec.lifeOf := by
  unfold State.tryDecide
  dsimp only
  (repeat' split) <;> simp_all

@[simp] theorem State.begin__life (s : State) (g : Nat) (epoch : Nat) (b : ResyncBody) :
    (State.begin_ s g epoch b).pending = s.pending ∧ (State.begin_ s g epoch b).sec.lifeOf = s.sec.lifeOf := by
  unfold State.begin_
  dsimp only
  (repeat' split) <;> simp_all

@[simp] theorem State.takeMap_life (s : State) (g : Nat) (l : List ResyncRun) :
    (State.takeMap s g l).pending = s.pending ∧ (State.takeMap s g l).sec.lifeOf = s.sec.lifeOf := by
  unfold State.takeMap
  dsimp only
  (repeat' split) <;> simp_all

@[simp] theorem State.sendSegment_life (s : State) (g : Nat) (r : ResyncSource) (p : Nat × Nat) :
    (State.sendSegment s g r p).pending = s.pending ∧ (State.sendSegment s g r p).sec.lifeOf = s.sec.lifeOf := by
  simp [State.sendSegment]

@[simp] theorem State.resyncNext_life (s : State) (g : Nat) :
    (State.resyncNext s g).pending = s.pending ∧ (State.resyncNext s g).sec.lifeOf = s.sec.lifeOf := by
  unfold State.resyncNext
  dsimp only
  (repeat' split) <;> simp_all

@[simp] theorem State.endAnswered_life (s : State) (g : Nat) (epoch : Nat) (b : ResyncBody) :
    (State.endAnswered s g epoch b).pending = s.pending ∧ (State.endAnswered s g epoch b).sec.lifeOf = s.sec.lifeOf := by
  unfold State.endAnswered
  dsimp only
  (repeat' split) <;> simp_all

@[simp] theorem State.rejoinExpiry_life (s : State) (g : Nat) :
    (State.rejoinExpiry s g).pending = s.pending ∧ (State.rejoinExpiry s g).sec.lifeOf = s.sec.lifeOf := by
  simp [State.rejoinExpiry]

@[simp] theorem State.twinRegister_life (s : State) (g : Nat) (idx : Nat) (d : Desc) (backing : Option Nat) :
    (State.twinRegister s g idx d backing).1.pending = s.pending ∧ (State.twinRegister s g idx d backing).1.sec.lifeOf = s.sec.lifeOf := by
  unfold State.twinRegister
  (repeat' split) <;> simp

@[simp] theorem State.twinSync_life (s : State) (g : Nat) (idx : Nat) (d : Desc) (backing : Option Nat) :
    (State.twinSync s g idx d backing).1.pending = s.pending ∧ (State.twinSync s g idx d backing).1.sec.lifeOf = s.sec.lifeOf := by
  unfold State.twinSync
  (repeat' split) <;> simp

@[simp] theorem State.applyConfig_life (s : State) (g : Nat) (op : Nat) (idx : Nat) (image : Bytes) (backing : Option Nat) :
    (State.applyConfig s g op idx image backing).1.pending = s.pending ∧ (State.applyConfig s g op idx image backing).1.sec.lifeOf = s.sec.lifeOf := by
  unfold State.applyConfig
  (repeat' split) <;> simp

@[simp] theorem State.config_life (s : State) (g : Nat) (retx : Bool) (op : Nat) (idx : Nat) (image : Bytes) (backing : Option Nat) :
    (State.config s g retx op idx image backing).pending = s.pending ∧ (State.config s g retx op idx image backing).sec.lifeOf = s.sec.lifeOf := by
  unfold State.config
  dsimp only
  (repeat' split) <;> simp_all

@[simp] theorem State.dropConfig_life (s : State) (g : Nat) (op : Nat) (idx : Nat) :
    (State.dropConfig s g op idx).pending = s.pending ∧ (State.dropConfig s g op idx).sec.lifeOf = s.sec.lifeOf := by
  exact ⟨rfl, rfl⟩

@[simp] theorem State.regAnswered_life (s : State) (idx : Nat) (ok : Bool) :
    (State.regAnswered s idx ok).pending = s.pending ∧ (State.regAnswered s idx ok).sec.lifeOf = s.sec.lifeOf := by
  unfold State.regAnswered
  (repeat' split) <;> simp

@[simp] theorem State.drainAnswered_life (s : State) (idx : Nat) (ok : Bool) :
    (State.drainAnswered s idx ok).pending = s.pending ∧ (State.drainAnswered s idx ok).sec.lifeOf = s.sec.lifeOf := by
  unfold State.drainAnswered
  (repeat' split) <;> simp

@[simp] theorem State.configAck_life (s : State) (g : Nat) (op : Nat) (idx : Nat) (result : Nat) :
    (State.configAck s g op idx result).pending = s.pending ∧ (State.configAck s g op idx result).sec.lifeOf = s.sec.lifeOf := by
  unfold State.configAck
  (repeat' split) <;> simp

@[simp] theorem State.configTimeout_life (s : State) (c : PendingConfig) :
    (State.configTimeout s c).pending = s.pending ∧ (State.configTimeout s c).sec.lifeOf = s.sec.lifeOf := by
  unfold State.configTimeout
  (repeat' split) <;> simp

@[simp] theorem State.twinLease_life (s : State) (m : LeaseMsg) :
    (State.twinLease s m).pending = s.pending ∧ (State.twinLease s m).sec.lifeOf = s.sec.lifeOf := by
  simp [State.twinLease]

@[simp] theorem State.renew_life (s : State) :
    (State.renew s).pending = s.pending ∧ (State.renew s).sec.lifeOf = s.sec.lifeOf := by
  simp [State.renew]

@[simp] theorem State.renewNamed_life (s : State) (g : Nat) :
    (State.renewNamed s g).pending = s.pending ∧ (State.renewNamed s g).sec.lifeOf = s.sec.lifeOf := by
  unfold State.renewNamed
  dsimp only
  (repeat' split) <;> simp_all

@[simp] theorem State.twinRequest_life (s : State) (m : LeaseMsg) :
    (State.twinRequest s m).pending = s.pending ∧ (State.twinRequest s m).sec.lifeOf = s.sec.lifeOf := by
  simp [State.twinRequest]

@[simp] theorem State.sampleRtt_life (s : State) (m : LeaseMsg) :
    (State.sampleRtt s m).pending = s.pending ∧ (State.sampleRtt s m).sec.lifeOf = s.sec.lifeOf := by
  exact ⟨rfl, rfl⟩

@[simp] theorem State.renewReply_life (s : State) (m : LeaseMsg) (viaTwin : Bool) :
    (State.renewReply s m viaTwin).pending = s.pending ∧ (State.renewReply s m viaTwin).sec.lifeOf = s.sec.lifeOf := by
  show State.KeepsLife _ _
  unfold State.renewReply
  extract_lets t a b
  have ha : s.KeepsLife a := by
    simp only [a]
    (repeat' split) <;> simp [State.KeepsLife]
  have hb : a.KeepsLife b := by
    refine State.keepsLife_foldl _ _ (fun s g => ?_) _
    dsimp only
    (repeat' split) <;> simp [State.KeepsLife]
  refine (ha.trans hb).trans (State.keepsLife_foldl _ _ (fun s g => ?_) _)
  split <;> simp [State.KeepsLife]

@[simp] theorem State.renewLapse_life (s : State) (g : Nat) :
    (State.renewLapse s g).pending = s.pending ∧ (State.renewLapse s g).sec.lifeOf = s.sec.lifeOf := by
  simp [State.renewLapse]

@[simp] theorem State.leaseBudget_life (s : State) :
    (State.leaseBudget s).pending = s.pending ∧ (State.leaseBudget s).sec.lifeOf = s.sec.lifeOf := by
  simp [State.leaseBudget]

@[simp] theorem State.grant_life (s : State) (op : Nat) (m : LeaseMsg) (role : Role → Bool) (f : Nat → State → State) (hf : ∀ a0 a1, (f a0 a1).pending = a1.pending ∧ (f a0 a1).sec.lifeOf = a1.sec.lifeOf) :
    (State.grant s op m role f).pending = s.pending ∧ (State.grant s op m role f).sec.lifeOf = s.sec.lifeOf := by
  unfold State.grant
  dsimp only
  (repeat' split) <;> simp [hf]

@[simp] theorem State.takeOver_life (s : State) (g : Nat) :
    (State.takeOver s g).pending = s.pending ∧ (State.takeOver s g).sec.lifeOf = s.sec.lifeOf := by
  unfold State.takeOver
  (repeat' split) <;> simp

@[simp] theorem State.activeGranted_life (s : State) (g : Nat) (epoch : Nat) (tEnd : Nat) :
    (State.activeGranted s g epoch tEnd).pending = s.pending ∧ (State.activeGranted s g epoch tEnd).sec.lifeOf = s.sec.lifeOf := by
  simp [State.activeGranted]

@[simp] theorem State.handedOver_life (s : State) (g : Nat) (epoch : Nat) (inSync : Bool) :
    (State.handedOver s g epoch inSync).pending = s.pending ∧ (State.handedOver s g epoch inSync).sec.lifeOf = s.sec.lifeOf := by
  simp [State.handedOver]

@[simp] theorem State.takesOver_life (s : State) (g : Nat) (m : LeaseMsg) :
    (State.takesOver s g m).pending = s.pending ∧ (State.takesOver s g m).sec.lifeOf = s.sec.lifeOf := by
  simp [State.takesOver]

@[simp] theorem State.pairFails_life (s : State) (g : Nat) (cmd : Nat) :
    (State.pairFails s g cmd).pending = s.pending ∧ (State.pairFails s g cmd).sec.lifeOf = s.sec.lifeOf := by
  simp [State.pairFails]

@[simp] theorem State.handoverFails_life (s : State) (g : Nat) (cmd : Nat) :
    (State.handoverFails s g cmd).pending = s.pending ∧ (State.handoverFails s g cmd).sec.lifeOf = s.sec.lifeOf := by
  simp [State.handoverFails]

@[simp] theorem State.refused_life (s : State) (g : Nat) (result : Nat) (r : LeaseReq) :
    (State.refused s g result r).pending = s.pending ∧ (State.refused s g result r).sec.lifeOf = s.sec.lifeOf := by
  simp [State.refused]

@[simp] theorem State.leaseRefused_life (s : State) (m : LeaseMsg) :
    (State.leaseRefused s m).pending = s.pending ∧ (State.leaseRefused s m).sec.lifeOf = s.sec.lifeOf := by
  unfold State.leaseRefused
  dsimp only
  (repeat' split) <;> simp_all

@[simp] theorem State.modPair_life (s : State) (k : Nat) (f : CallerPairState → CallerPairState) :
    (State.modPair s k f).pending = s.pending ∧ (State.modPair s k f).sec.lifeOf = s.sec.lifeOf := by
  exact ⟨rfl, rfl⟩

@[simp] theorem State.setCallerRec_life (s : State) (k : Nat) (g : Nat) (r : CallerRec) :
    (State.setCallerRec s k g r).pending = s.pending ∧ (State.setCallerRec s k g r).sec.lifeOf = s.sec.lifeOf := by
  exact ⟨rfl, rfl⟩

@[simp] theorem State.writeRec_life (s : State) (k : Nat) (g : Nat) (r : CallerRec) :
    (State.writeRec s k g r).pending = s.pending ∧ (State.writeRec s k g r).sec.lifeOf = s.sec.lifeOf := by
  simp [State.writeRec]

@[simp] theorem State.callerReply_life (s : State) (dst : Nat) (m : LeaseMsg) (result : Nat) (epoch : Nat) (since : Nat) (mapA : BitVec 256) (mapB : BitVec 256) :
    (State.callerReply s dst m result epoch since mapA mapB).pending = s.pending ∧ (State.callerReply s dst m result epoch since mapA mapB).sec.lifeOf = s.sec.lifeOf := by
  simp [State.callerReply]

@[simp] theorem State.answer_life (s : State) (m : LeaseMsg) (result : Nat) (epoch : Nat) :
    (State.answer s m result epoch).pending = s.pending ∧ (State.answer s m result epoch).sec.lifeOf = s.sec.lifeOf := by
  simp [State.answer]

@[simp] theorem State.asCaller_life (s : State) (m : LeaseMsg) (f : Nat → State → State) (hf : ∀ a0 a1, (f a0 a1).pending = a1.pending ∧ (f a0 a1).sec.lifeOf = a1.sec.lifeOf) :
    (State.asCaller s m f).pending = s.pending ∧ (State.asCaller s m f).sec.lifeOf = s.sec.lifeOf := by
  unfold State.asCaller
  dsimp only
  (repeat' split) <;> simp [hf]

@[simp] theorem State.refuseHeld_life (s : State) (k : Nat) (g : Nat) :
    (State.refuseHeld s k g).pending = s.pending ∧ (State.refuseHeld s k g).sec.lifeOf = s.sec.lifeOf := by
  unfold State.refuseHeld
  (repeat' split) <;> simp

@[simp] theorem State.renewRec_life (s : State) (k : Nat) (g : Nat) :
    (State.renewRec s k g).pending = s.pending ∧ (State.renewRec s k g).sec.lifeOf = s.sec.lifeOf := by
  unfold State.renewRec
  dsimp only
  (repeat' split) <;> simp_all

@[simp] theorem State.callerRenew_life (s : State) (m : LeaseMsg) :
    (State.callerRenew s m).pending = s.pending ∧ (State.callerRenew s m).sec.lifeOf = s.sec.lifeOf := by
  simp [State.callerRenew]

@[simp] theorem State.holderOp_life (s : State) (m : LeaseMsg) (f : Nat → CallerRec → State → State) (hf : ∀ a0 a1 a2, (f a0 a1 a2).pending = a2.pending ∧ (f a0 a1 a2).sec.lifeOf = a2.sec.lifeOf) :
    (State.holderOp s m f).pending = s.pending ∧ (State.holderOp s m f).sec.lifeOf = s.sec.lifeOf := by
  show State.KeepsLife _ _
  unfold State.holderOp
  refine State.asCaller_life _ _ _ fun k s => ?_
  (repeat' split) <;> first | exact hf _ _ _ | (simp; done)

@[simp] theorem State.callerSolo_life (s : State) (m : LeaseMsg) :
    (State.callerSolo s m).pending = s.pending ∧ (State.callerSolo s m).sec.lifeOf = s.sec.lifeOf := by
  simp [State.callerSolo]

@[simp] theorem State.callerActive_life (s : State) (m : LeaseMsg) :
    (State.callerActive s m).pending = s.pending ∧ (State.callerActive s m).sec.lifeOf = s.sec.lifeOf := by
  simp [State.callerActive]

@[simp] theorem State.callerHandover_life (s : State) (m : LeaseMsg) :
    (State.callerHandover s m).pending = s.pending ∧ (State.callerHandover s m).sec.lifeOf = s.sec.lifeOf := by
  simp [State.callerHandover]

@[simp] theorem State.callerTakeover_life (s : State) (m : LeaseMsg) :
    (State.callerTakeover s m).pending = s.pending ∧ (State.callerTakeover s m).sec.lifeOf = s.sec.lifeOf := by
  show State.KeepsLife _ _
  unfold State.callerTakeover
  refine State.asCaller_life _ _ _ fun k s => ?_
  (repeat' split) <;> simp

@[simp] theorem State.takeoverDue_life (s : State) (k : Nat) (g : Nat) :
    (State.takeoverDue s k g).pending = s.pending ∧ (State.takeoverDue s k g).sec.lifeOf = s.sec.lifeOf := by
  unfold State.takeoverDue
  (repeat' split) <;> simp

@[simp] theorem State.callerResume_life (s : State) (m : LeaseMsg) :
    (State.callerResume s m).pending = s.pending ∧ (State.callerResume s m).sec.lifeOf = s.sec.lifeOf := by
  show State.KeepsLife _ _
  unfold State.callerResume
  refine State.asCaller_life _ _ _ fun k s => ?_
  dsimp only
  (repeat' split) <;> simp

@[simp] theorem State.callerClaim_life (s : State) (m : LeaseMsg) :
    (State.callerClaim s m).pending = s.pending ∧ (State.callerClaim s m).sec.lifeOf = s.sec.lifeOf := by
  show State.KeepsLife _ _
  unfold State.callerClaim
  dsimp only
  (repeat' split) <;> simp [State.KeepsLife]

@[simp] theorem State.callerRelease_life (s : State) (m : LeaseMsg) :
    (State.callerRelease s m).pending = s.pending ∧ (State.callerRelease s m).sec.lifeOf = s.sec.lifeOf := by
  show State.KeepsLife _ _
  unfold State.callerRelease
  refine State.asCaller_life _ _ _ fun k s => ?_
  extract_lets g a
  have ha : s.KeepsLife a := by
    simp only [a]
    (repeat' split) <;> simp [State.KeepsLife]
  exact ha.trans (by simp [State.KeepsLife])

@[simp] theorem State.callerForce_life (s : State) (m : LeaseMsg) :
    (State.callerForce s m).pending = s.pending ∧ (State.callerForce s m).sec.lifeOf = s.sec.lifeOf := by
  show State.KeepsLife _ _
  unfold State.callerForce
  refine State.asCaller_life _ _ _ fun k s => ?_
  dsimp only
  (repeat' split) <;> simp

@[simp] theorem State.callerPair_life (s : State) (m : LeaseMsg) :
    (State.callerPair s m).pending = s.pending ∧ (State.callerPair s m).sec.lifeOf = s.sec.lifeOf := by
  show State.KeepsLife _ _
  unfold State.callerPair
  refine State.asCaller_life _ _ _ fun k s => ?_
  (repeat' split) <;> simp

@[simp] theorem State.callerStart_life (s : State) (k : Nat) :
    (State.callerStart s k).pending = s.pending ∧ (State.callerStart s k).sec.lifeOf = s.sec.lifeOf := by
  simp [State.callerStart]

@[simp] theorem State.governorCnp_life (s : State) (qpn : Nat) :
    (State.governorCnp s qpn).pending = s.pending ∧ (State.governorCnp s qpn).sec.lifeOf = s.sec.lifeOf := by
  unfold State.governorCnp
  dsimp only
  (repeat' split) <;> simp_all

@[simp] theorem State.occupancyTick_life (s : State) :
    (State.occupancyTick s).pending = s.pending ∧ (State.occupancyTick s).sec.lifeOf = s.sec.lifeOf := by
  simp [State.occupancyTick]

@[simp] theorem State.wregTick_life (s : State) (emptyPct : Nat) :
    (State.wregTick s emptyPct).pending = s.pending ∧ (State.wregTick s emptyPct).sec.lifeOf = s.sec.lifeOf := by
  simp [State.wregTick]

@[simp] theorem State.sendPfc_life (s : State) (p : Nat) (quanta : Nat) :
    (State.sendPfc s p quanta).pending = s.pending ∧ (State.sendPfc s p quanta).sec.lifeOf = s.sec.lifeOf := by
  exact ⟨rfl, rfl⟩

@[simp] theorem State.pfcReceived_life (s : State) (p : Nat) (prio : Nat) (quanta : Nat) :
    (State.pfcReceived s p prio quanta).pending = s.pending ∧ (State.pfcReceived s p prio quanta).sec.lifeOf = s.sec.lifeOf := by
  simp [State.pfcReceived]

@[simp] theorem State.pfcTrip_life (s : State) (p : Nat) :
    (State.pfcTrip s p).pending = s.pending ∧ (State.pfcTrip s p).sec.lifeOf = s.sec.lifeOf := by
  unfold State.pfcTrip
  (repeat' split) <;> simp

@[simp] theorem State.fabStart_life (s : State) :
    (State.fabStart s).pending = s.pending ∧ (State.fabStart s).sec.lifeOf = s.sec.lifeOf := by
  simp [State.fabStart]

@[simp] theorem State.newNonce_life (s : State) :
    (State.newNonce s).pending = s.pending ∧ (State.newNonce s).sec.lifeOf = s.sec.lifeOf := by
  simp [State.newNonce]

@[simp] theorem State.hearHello_life (s : State) (k : Nat) (mac : BitVec 48) (b : FabHello) (slot : Nat) :
    (State.hearHello s k mac b slot).pending = s.pending ∧ (State.hearHello s k mac b slot).sec.lifeOf = s.sec.lifeOf := by
  simp [State.hearHello]

@[simp] theorem State.fabricHello_life (s : State) (port : Nat) (fec : Fec) (mac : BitVec 48) (b : FabHello) (slot : Option Nat) :
    (State.fabricHello s port fec mac b slot).pending = s.pending ∧ (State.fabricHello s port fec mac b slot).sec.lifeOf = s.sec.lifeOf := by
  unfold State.fabricHello
  dsimp only
  (repeat' split) <;> simp_all

@[simp] theorem State.adjDead_life (s : State) (k : Nat) :
    (State.adjDead s k).pending = s.pending ∧ (State.adjDead s k).sec.lifeOf = s.sec.lifeOf := by
  simp [State.adjDead]

@[simp] theorem State.fabRx_life (s : State) (d : FabRx) (f : State → State) (hf : ∀ a0, (f a0).pending = a0.pending ∧ (f a0).sec.lifeOf = a0.sec.lifeOf) :
    (State.fabRx s d f).pending = s.pending ∧ (State.fabRx s d f).sec.lifeOf = s.sec.lifeOf := by
  unfold State.fabRx
  dsimp only
  (repeat' split) <;> simp [hf]

@[simp] theorem State.relay_life (s : State) (d : FabRx) :
    (State.relay s d).pending = s.pending ∧ (State.relay s d).sec.lifeOf = s.sec.lifeOf := by
  unfold State.relay
  (repeat' split) <;> simp

@[simp] theorem State.fabFor_life (s : State) (d : FabRx) (f : State → State) (hf : ∀ a0, (f a0).pending = a0.pending ∧ (f a0).sec.lifeOf = a0.sec.lifeOf) :
    (State.fabFor s d f).pending = s.pending ∧ (State.fabFor s d f).sec.lifeOf = s.sec.lifeOf := by
  show State.KeepsLife _ _
  unfold State.fabFor
  refine State.fabRx_life _ _ _ fun a => ?_
  split
  · exact hf _
  · simp

@[simp] theorem State.takeEntry_life (s : State) (k : Nat) (frozen : Bool) (e : RouteEntry) :
    (State.takeEntry s k frozen e).pending = s.pending ∧ (State.takeEntry s k frozen e).sec.lifeOf = s.sec.lifeOf := by
  simp [State.takeEntry]

@[simp] theorem State.takeRoutes_life (s : State) (d : FabRx) (entries : List RouteEntry) :
    (State.takeRoutes s d entries).pending = s.pending ∧ (State.takeRoutes s d entries).sec.lifeOf = s.sec.lifeOf := by
  simp [State.takeRoutes]

@[simp] theorem State.triggered_life (s : State) (k : Nat) :
    (State.triggered s k).pending = s.pending ∧ (State.triggered s k).sec.lifeOf = s.sec.lifeOf := by
  simp [State.triggered]

@[simp] theorem State.ownerRequest_life (s : State) (d : FabRx) (b : InnerBth) (op : ReqOp) (icrcOk : Bool) :
    (State.ownerRequest s d b op icrcOk).pending = s.pending ∧ (State.ownerRequest s d b op icrcOk).sec.lifeOf = s.sec.lifeOf := by
  unfold State.ownerRequest
  (repeat' split) <;> simp

@[simp] theorem State.modPtp_life (s : State) (f : Ptp → Ptp) :
    (State.modPtp s f).pending = s.pending ∧ (State.modPtp s f).sec.lifeOf = s.sec.lifeOf := by
  exact ⟨rfl, rfl⟩

@[simp] theorem State.sendPtp_life (s : State) (port : Nat) (kind : Nat) :
    (State.sendPtp s port kind).pending = s.pending ∧ (State.sendPtp s port kind).sec.lifeOf = s.sec.lifeOf := by
  exact ⟨rfl, rfl⟩

@[simp] theorem State.ptpTake_life (s : State) (k : Nat) (msg : PtpMsg) :
    (State.ptpTake s k msg).pending = s.pending ∧ (State.ptpTake s k msg).sec.lifeOf = s.sec.lifeOf := by
  unfold State.ptpTake
  (repeat' split) <;> simp

@[simp] theorem State.ptpTimer_life (s : State) (k : Nat) (t : PtpTimer) :
    (State.ptpTimer s k t).pending = s.pending ∧ (State.ptpTimer s k t).sec.lifeOf = s.sec.lifeOf := by
  unfold State.ptpTimer
  (repeat' split) <;> simp

@[simp] theorem State.failUsers_life (s : State) (fq : Nat) :
    (State.failUsers s fq).pending = s.pending ∧ (State.failUsers s fq).sec.lifeOf = s.sec.lifeOf := by
  simp [State.failUsers]

@[simp] theorem State.endFabQp_life (s : State) (fq : Nat) :
    (State.endFabQp s fq).pending = s.pending ∧ (State.endFabQp s fq).sec.lifeOf = s.sec.lifeOf := by
  simp [State.endFabQp]

@[simp] theorem State.acceptSession_life (s : State) (fq : Nat) (src : Nat) (b : SessionBody) :
    (State.acceptSession s fq src b).pending = s.pending ∧ (State.acceptSession s fq src b).sec.lifeOf = s.sec.lifeOf := by
  simp [State.acceptSession]

@[simp] theorem State.sessionOpen_life (s : State) (src : Nat) (b : SessionBody) :
    (State.sessionOpen s src b).pending = s.pending ∧ (State.sessionOpen s src b).sec.lifeOf = s.sec.lifeOf := by
  unfold State.sessionOpen
  dsimp only
  (repeat' split) <;> simp_all

@[simp] theorem State.sessionAccept_life (s : State) (src : Nat) (b : SessionBody) :
    (State.sessionAccept s src b).pending = s.pending ∧ (State.sessionAccept s src b).sec.lifeOf = s.sec.lifeOf := by
  simp [State.sessionAccept]

@[simp] theorem State.sessionClose_life (s : State) (src : Nat) (b : SessionBody) :
    (State.sessionClose s src b).pending = s.pending ∧ (State.sessionClose s src b).sec.lifeOf = s.sec.lifeOf := by
  simp [State.sessionClose]

@[simp] theorem State.sessionRefuse_life (s : State) (src : Nat) (b : SessionBody) :
    (State.sessionRefuse s src b).pending = s.pending ∧ (State.sessionRefuse s src b).sec.lifeOf = s.sec.lifeOf := by
  simp [State.sessionRefuse]

@[simp] theorem State.modFabSide_life (s : State) (n : Nat) (f : FabSide → FabSide) :
    (State.modFabSide s n f).pending = s.pending ∧ (State.modFabSide s n f).sec.lifeOf = s.sec.lifeOf := by
  simp [State.modFabSide]

@[simp] theorem State.unqueueReqs_life (s : State) (n : Nat) :
    (State.unqueueReqs s n).pending = s.pending ∧ (State.unqueueReqs s n).sec.lifeOf = s.sec.lifeOf := by
  exact ⟨rfl, rfl⟩

@[simp] theorem State.resendFab_life (s : State) (n : Nat) (psn : Nat) :
    (State.resendFab s n psn).pending = s.pending ∧ (State.resendFab s n psn).sec.lifeOf = s.sec.lifeOf := by
  simp [State.resendFab]

@[simp] theorem State.resendAll_life (s : State) (n : Nat) :
    (State.resendAll s n).pending = s.pending ∧ (State.resendAll s n).sec.lifeOf = s.sec.lifeOf := by
  simp [State.resendAll]

@[simp] theorem State.hostAnswered_life (s : State) (r : FabReq) (f : OpenMsg → OpenMsg) :
    (State.hostAnswered s r f).pending = s.pending ∧ (State.hostAnswered s r f).sec.lifeOf = s.sec.lifeOf := by
  simp [State.hostAnswered]

@[simp] theorem State.coverFab_life (s : State) (n : Nat) (psn : Nat) (x3 : Nat) :
    (State.coverFab s n psn x3).pending = s.pending ∧ (State.coverFab s n psn x3).sec.lifeOf = s.sec.lifeOf := by
  induction x3 generalizing s with
  | zero => exact ⟨rfl, rfl⟩
  | succ n ih =>
    unfold State.coverFab
    dsimp only
    (repeat' split) <;> simp [ih]

@[simp] theorem State.cover_life (s : State) (n : Nat) (psn : Nat) :
    (State.cover s n psn).pending = s.pending ∧ (State.cover s n psn).sec.lifeOf = s.sec.lifeOf := by
  simp [State.cover]

@[simp] theorem State.fabAnswer_life (s : State) (d : FabRx) (n : Nat) (f : State → State) (hf : ∀ a0, (f a0).pending = a0.pending ∧ (f a0).sec.lifeOf = a0.sec.lifeOf) :
    (State.fabAnswer s d n f).pending = s.pending ∧ (State.fabAnswer s d n f).sec.lifeOf = s.sec.lifeOf := by
  unfold State.fabAnswer
  dsimp only
  (repeat' split) <;> simp [hf]

@[simp] theorem State.fabReply_life (s : State) (n : Nat) (psn : Nat) (want : Reply) (f : FabReq → State → State) (hf : ∀ a0 a1, (f a0 a1).pending = a1.pending ∧ (f a0 a1).sec.lifeOf = a1.sec.lifeOf) :
    (State.fabReply s n psn want f).pending = s.pending ∧ (State.fabReply s n psn want f).sec.lifeOf = s.sec.lifeOf := by
  unfold State.fabReply
  dsimp only
  (repeat' split) <;> simp [hf]

@[simp] theorem State.endReq_life (s : State) (n : Nat) (r : FabReq) (f : OpenMsg → OpenMsg) :
    (State.endReq s n r f).pending = s.pending ∧ (State.endReq s n r f).sec.lifeOf = s.sec.lifeOf := by
  simp [State.endReq]

@[simp] theorem State.fabReadResponse_life (s : State) (n : Nat) (psn : Nat) (last : Bool) (data : Bytes) :
    (State.fabReadResponse s n psn last data).pending = s.pending ∧ (State.fabReadResponse s n psn last data).sec.lifeOf = s.sec.lifeOf := by
  simp [State.fabReadResponse]

@[simp] theorem State.fabGx_life (s : State) (n : Nat) (psn : Nat) (g : Grb) :
    (State.fabGx s n psn g).pending = s.pending ∧ (State.fabGx s n psn g).sec.lifeOf = s.sec.lifeOf := by
  unfold State.fabGx
  (repeat' split) <;> simp

@[simp] theorem State.remoteViolation_life (s : State) (r : FabReq) :
    (State.remoteViolation s r).pending = s.pending ∧ (State.remoteViolation s r).sec.lifeOf = s.sec.lifeOf := by
  unfold State.remoteViolation
  (repeat' split) <;> simp

@[simp] theorem State.fabNak_life (s : State) (n : Nat) (psn : Nat) (syn : Nat) :
    (State.fabNak s n psn syn).pending = s.pending ∧ (State.fabNak s n psn syn).sec.lifeOf = s.sec.lifeOf := by
  unfold State.fabNak
  dsimp only
  (repeat' split) <;> simp_all

@[simp] theorem State.fabTimeout_life (s : State) (n : Nat) :
    (State.fabTimeout s n).pending = s.pending ∧ (State.fabTimeout s n).sec.lifeOf = s.sec.lifeOf := by
  simp [State.fabTimeout]

@[simp] theorem State.releaseId_life (s : State) :
    (State.releaseId s).pending = s.pending ∧ (State.releaseId s).sec.lifeOf = s.sec.lifeOf := by
  simp [State.releaseId]

@[simp] theorem State.takeOffer_life (s : State) (src : Nat) (b : CallerBody) :
    (State.takeOffer s src b).pending = s.pending ∧ (State.takeOffer s src b).sec.lifeOf = s.sec.lifeOf := by
  simp [State.takeOffer]

@[simp] theorem State.takeRelease_life (s : State) (src : Nat) (b : CallerBody) :
    (State.takeRelease s src b).pending = s.pending ∧ (State.takeRelease s src b).sec.lifeOf = s.sec.lifeOf := by
  simp [State.takeRelease]

@[simp] theorem State.adopt_life (s : State) (caller : Nat) (seq : Nat) :
    (State.adopt s caller seq).pending = s.pending ∧ (State.adopt s caller seq).sec.lifeOf = s.sec.lifeOf := by
  simp [State.adopt]

@[simp] theorem State.desigDone_life (s : State) (r : Desig) :
    (State.desigDone s r).pending = s.pending ∧ (State.desigDone s r).sec.lifeOf = s.sec.lifeOf := by
  simp [State.desigDone]

@[simp] theorem State.inRun_life (s : State) (st : DesigStage) (b : CallerBody) (f : Desig → State → State) (hf : ∀ a0 a1, (f a0 a1).pending = a1.pending ∧ (f a0 a1).sec.lifeOf = a1.sec.lifeOf) :
    (State.inRun s st b f).pending = s.pending ∧ (State.inRun s st b f).sec.lifeOf = s.sec.lifeOf := by
  show State.KeepsLife _ _
  unfold State.inRun
  (repeat' split) <;> first | exact hf _ _ | exact State.KeepsLife.refl _

@[simp] theorem State.takeAnswer_life (s : State) (src : Nat) (b : CallerBody) :
    (State.takeAnswer s src b).pending = s.pending ∧ (State.takeAnswer s src b).sec.lifeOf = s.sec.lifeOf := by
  simp [State.takeAnswer]

@[simp] theorem State.takeAdopt_life (s : State) (src : Nat) (b : CallerBody) :
    (State.takeAdopt s src b).pending = s.pending ∧ (State.takeAdopt s src b).sec.lifeOf = s.sec.lifeOf := by
  simp [State.takeAdopt]

@[simp] theorem State.takeReply_life (s : State) (src : Nat) (b : CallerBody) :
    (State.takeReply s src b).pending = s.pending ∧ (State.takeReply s src b).sec.lifeOf = s.sec.lifeOf := by
  simp [State.takeReply]

@[simp] theorem State.takeReleased_life (s : State) (src : Nat) (b : CallerBody) :
    (State.takeReleased s src b).pending = s.pending ∧ (State.takeReleased s src b).sec.lifeOf = s.sec.lifeOf := by
  simp [State.takeReleased]

@[simp] theorem State.takeDone_life (s : State) (src : Nat) (b : CallerBody) :
    (State.takeDone s src b).pending = s.pending ∧ (State.takeDone s src b).sec.lifeOf = s.sec.lifeOf := by
  simp [State.takeDone]

@[simp] theorem State.droppedEvent_life (s : State) (part : Nat) (n : Nat) :
    (State.droppedEvent s part n).pending = s.pending ∧ (State.droppedEvent s part n).sec.lifeOf = s.sec.lifeOf := by
  simp [State.droppedEvent]

@[simp] theorem State.groupPair_life (s : State) (num : Nat) (g : Nat) :
    (State.groupPair s num g).pending = s.pending ∧ (State.groupPair s num g).sec.lifeOf = s.sec.lifeOf := by
  unfold State.groupPair
  (repeat' split) <;> simp

@[simp] theorem State.groupUnpair_life (s : State) (num : Nat) (g : Nat) :
    (State.groupUnpair s num g).pending = s.pending ∧ (State.groupUnpair s num g).sec.lifeOf = s.sec.lifeOf := by
  simp [State.groupUnpair]

@[simp] theorem State.groupSwitchover_life (s : State) (num : Nat) (g : Nat) :
    (State.groupSwitchover s num g).pending = s.pending ∧ (State.groupSwitchover s num g).sec.lifeOf = s.sec.lifeOf := by
  simp [State.groupSwitchover]

@[simp] theorem State.groupForce_life (s : State) (num : Nat) (g : Nat) :
    (State.groupForce s num g).pending = s.pending ∧ (State.groupForce s num g).sec.lifeOf = s.sec.lifeOf := by
  simp [State.groupForce]

@[simp] theorem State.groupFull_life (s : State) (num : Nat) (g : Nat) :
    (State.groupFull s num g).pending = s.pending ∧ (State.groupFull s num g).sec.lifeOf = s.sec.lifeOf := by
  simp [State.groupFull]

@[simp] theorem State.placementComplete_life (s : State) (bad : List Nat) :
    (State.placementComplete s bad).pending = s.pending ∧ (State.placementComplete s bad).sec.lifeOf = s.sec.lifeOf := by
  unfold State.placementComplete
  (repeat' split) <;> simp

@[simp] theorem State.readReturned_life (s : State) (bad : List Nat) (corrected : List Nat) :
    (State.readReturned s bad corrected).pending = s.pending ∧ (State.readReturned s bad corrected).sec.lifeOf = s.sec.lifeOf := by
  unfold State.readReturned
  (repeat' split) <;> simp

@[simp] theorem State.closeSession_life (s : State) (slot : Nat) :
    (State.closeSession s slot).pending = s.pending ∧ (State.closeSession s slot).sec.lifeOf = s.sec.lifeOf := by
  simp [State.closeSession]

@[simp] theorem State.closeSessions_life (s : State) (slots : List Nat) :
    (State.closeSessions s slots).pending = s.pending ∧ (State.closeSessions s slots).sec.lifeOf = s.sec.lifeOf := by
  simp [State.closeSessions]

@[simp] theorem State.failHandshake_life (s : State) (slot : Nat) :
    (State.failHandshake s slot).pending = s.pending ∧ (State.failHandshake s slot).sec.lifeOf = s.sec.lifeOf := by
  simp [State.failHandshake]

@[simp] theorem State.helloOpens_life (s : State) (r : Req) :
    (State.helloOpens s r).pending = s.pending ∧ (State.helloOpens s r).sec.lifeOf = s.sec.lifeOf := by
  simp [State.helloOpens]

@[simp] theorem State.hello_life (s : State) (r : Req) :
    (State.hello s r).pending = s.pending ∧ (State.hello s r).sec.lifeOf = s.sec.lifeOf := by
  unfold State.hello
  dsimp only
  (repeat' split) <;> simp_all

@[simp] theorem State.zeroFilled_life (s : State) :
    (State.zeroFilled s).pending = s.pending ∧ (State.zeroFilled s).sec.lifeOf = s.sec.lifeOf := by
  show State.KeepsLife _ _
  unfold State.zeroFilled
  split
  · exact State.KeepsLife.refl _
  · rename_i r hr
    split
    · exact State.KeepsLife.refl _
    · refine ⟨rfl, ?_⟩
      show ((s.sec.lc, s.sec.killFused, s.sec.minSecurity, some r.dest) : LcState × Bool × Nat × Option LcState) = s.sec.lifeOf
      simp only [Sec.lifeOf, hr, Option.map_some]

@[simp] theorem State.wipeCarrier_life (s : State) (keyed : Bool) (n : Nat) :
    (State.wipeCarrier s keyed n).pending = s.pending ∧ (State.wipeCarrier s keyed n).sec.lifeOf = s.sec.lifeOf := by
  simp [State.wipeCarrier]

@[simp] theorem State.toSealed_life (s : State) :
    (State.toSealed s).pending = s.pending ∧ (State.toSealed s).sec.lifeOf = s.sec.lifeOf := by
  simp [State.toSealed]

@[simp] theorem State.updateChunk_life (s : State) (num : Nat) (a : Bytes) :
    (State.updateChunk s num a).pending = s.pending ∧ (State.updateChunk s num a).sec.lifeOf = s.sec.lifeOf := by
  simp [State.updateChunk]

@[simp] theorem State.updateCommit_life (s : State) (num : Nat) (f : Nat) :
    (State.updateCommit s num f).pending = s.pending ∧ (State.updateCommit s num f).sec.lifeOf = s.sec.lifeOf := by
  simp [State.updateCommit]

@[simp] theorem State.readMarks_life (s : State) (slot : Nat) (num : Nat) (idx : Nat) :
    (State.readMarks s slot num idx).pending = s.pending ∧ (State.readMarks s slot num idx).sec.lifeOf = s.sec.lifeOf := by
  unfold State.readMarks
  (repeat' split) <;> simp

@[simp] theorem State.readResult_life (s : State) (r : Req) (num : Nat) :
    (State.readResult s r num).pending = s.pending ∧ (State.readResult s r num).sec.lifeOf = s.sec.lifeOf := by
  simp [State.readResult]

@[simp] theorem State.readItem_life (s : State) (r : Req) :
    (State.readItem s r).pending = s.pending ∧ (State.readItem s r).sec.lifeOf = s.sec.lifeOf := by
  simp [State.readItem]

@[simp] theorem State.multiRead_life (s : State) (r : Req) :
    (State.multiRead s r).pending = s.pending ∧ (State.multiRead s r).sec.lifeOf = s.sec.lifeOf := by
  simp [State.multiRead]

@[simp] theorem State.describe_life (s : State) (r : Req) :
    (State.describe s r).pending = s.pending ∧ (State.describe s r).sec.lifeOf = s.sec.lifeOf := by
  unfold State.describe
  dsimp only
  (repeat' split) <;> simp_all

@[simp] theorem State.digestReply_life (s : State) (r : Req) :
    (State.digestReply s r).pending = s.pending ∧ (State.digestReply s r).sec.lifeOf = s.sec.lifeOf := by
  simp [State.digestReply]

@[simp] theorem State.subscribe_life (s : State) (r : Req) :
    (State.subscribe s r).pending = s.pending ∧ (State.subscribe s r).sec.lifeOf = s.sec.lifeOf := by
  unfold State.subscribe
  dsimp only
  (repeat' split) <;> simp_all

@[simp] theorem State.unsubscribe_life (s : State) (r : Req) :
    (State.unsubscribe s r).pending = s.pending ∧ (State.unsubscribe s r).sec.lifeOf = s.sec.lifeOf := by
  simp [State.unsubscribe]

@[simp] theorem State.notify_life (s : State) (b : Sub) :
    (State.notify s b).pending = s.pending ∧ (State.notify s b).sec.lifeOf = s.sec.lifeOf := by
  simp [State.notify]

@[simp] theorem State.drainTimeout_life (s : State) (idx : Nat) :
    (State.drainTimeout s idx).pending = s.pending ∧ (State.drainTimeout s idx).sec.lifeOf = s.sec.lifeOf := by
  unfold State.drainTimeout
  (repeat' split) <;> simp

@[simp] theorem State.descFill_life (s : State) (idx : Nat) (bad : Bool) :
    (State.descFill s idx bad).pending = s.pending ∧ (State.descFill s idx bad).sec.lifeOf = s.sec.lifeOf := by
  simp [State.descFill]

@[simp] theorem State.badFree_life (s : State) (pool : Nat) (b : Nat) (agent : Nat) (addr : Nat) (unit : Nat) :
    (State.badFree s pool b agent addr unit).pending = s.pending ∧ (State.badFree s pool b agent addr unit).sec.lifeOf = s.sec.lifeOf := by
  simp [State.badFree]

@[simp] theorem State.bufferFree_life (s : State) (agent : Fin 8) (addr : Nat) (unit : Nat) :
    (State.bufferFree s agent addr unit).pending = s.pending ∧ (State.bufferFree s agent addr unit).sec.lifeOf = s.sec.lifeOf := by
  unfold State.bufferFree
  dsimp only
  (repeat' split) <;> simp_all

@[simp] theorem State.scratchZeroed_life (s : State) (idx : Nat) :
    (State.scratchZeroed s idx).pending = s.pending ∧ (State.scratchZeroed s idx).sec.lifeOf = s.sec.lifeOf := by
  unfold State.scratchZeroed
  (repeat' split) <;> simp

@[simp] theorem State.hostLinkUp_life (s : State) (p : Nat) :
    (State.hostLinkUp s p).pending = s.pending ∧ (State.hostLinkUp s p).sec.lifeOf = s.sec.lifeOf := by
  simp [State.hostLinkUp]

@[simp] theorem State.qpCreateRun_life (s : State) (num : Nat) (w : Nat) (saOk : Bool) :
    (State.qpCreateRun s num w saOk).pending = s.pending ∧ (State.qpCreateRun s num w saOk).sec.lifeOf = s.sec.lifeOf := by
  unfold State.qpCreateRun
  (repeat' split) <;> simp

@[simp] theorem State.qpDestroyRun_life (s : State) (num : Nat) (n : Nat) :
    (State.qpDestroyRun s num n).pending = s.pending ∧ (State.qpDestroyRun s num n).sec.lifeOf = s.sec.lifeOf := by
  unfold State.qpDestroyRun
  (repeat' split) <;> simp

@[simp] theorem State.qpForceErrorRun_life (s : State) (num : Nat) (n : Nat) :
    (State.qpForceErrorRun s num n).pending = s.pending ∧ (State.qpForceErrorRun s num n).sec.lifeOf = s.sec.lifeOf := by
  unfold State.qpForceErrorRun
  (repeat' split) <;> simp

@[simp] theorem State.regionZero_life (s : State) (idx : Nat) (off : Nat) (len : Nat) :
    (State.regionZero s idx off len).pending = s.pending ∧ (State.regionZero s idx off len).sec.lifeOf = s.sec.lifeOf := by
  show State.KeepsLife _ _
  unfold State.regionZero
  extract_lets a t
  have ha : s.KeepsLife a := by simp [State.KeepsLife, a]
  have ht : a.KeepsLife t := by
    refine State.keepsLife_foldl _ _ (fun s g => ?_) _
    split <;> simp [State.KeepsLife]
  exact (ha.trans ht).trans (by simp [State.KeepsLife])

@[simp] theorem State.cqCreateRun_life (s : State) (num : Nat) (w : Nat) :
    (State.cqCreateRun s num w).pending = s.pending ∧ (State.cqCreateRun s num w).sec.lifeOf = s.sec.lifeOf := by
  unfold State.cqCreateRun
  dsimp only
  (repeat' split) <;> simp_all

@[simp] theorem State.cqDestroyRun_life (s : State) (num : Nat) (n : Nat) :
    (State.cqDestroyRun s num n).pending = s.pending ∧ (State.cqDestroyRun s num n).sec.lifeOf = s.sec.lifeOf := by
  simp [State.cqDestroyRun]

@[simp] theorem State.qpCloseTimeout_life (s : State) (n : Nat) :
    (State.qpCloseTimeout s n).pending = s.pending ∧ (State.qpCloseTimeout s n).sec.lifeOf = s.sec.lifeOf := by
  simp [State.qpCloseTimeout]

@[simp] theorem State.waitDeadline_life (s : State) (n : Nat) :
    (State.waitDeadline s n).pending = s.pending ∧ (State.waitDeadline s n).sec.lifeOf = s.sec.lifeOf := by
  simp [State.waitDeadline]

@[simp] theorem State.qccFill_life (s : State) (n : Nat) (bad : Bool) :
    (State.qccFill s n bad).pending = s.pending ∧ (State.qccFill s n bad).sec.lifeOf = s.sec.lifeOf := by
  simp [State.qccFill]

@[simp] theorem State.cqControl_life (s : State) (n : Nat) :
    (State.cqControl s n).pending = s.pending ∧ (State.cqControl s n).sec.lifeOf = s.sec.lifeOf := by
  simp [State.cqControl]

@[simp] theorem State.clearCapture_life (s : State) (num : Nat) (i : Nat) :
    (State.clearCapture s num i).pending = s.pending ∧ (State.clearCapture s num i).sec.lifeOf = s.sec.lifeOf := by
  unfold State.clearCapture
  (repeat' split) <;> simp

@[simp] theorem State.clearSticky_life (s : State) (p : Param) (num : Nat) (v : Nat) :
    (State.clearSticky s p num v).pending = s.pending ∧ (State.clearSticky s p num v).sec.lifeOf = s.sec.lifeOf := by
  simp [State.clearSticky]

@[simp] theorem State.keySlotChanged_life (s : State) :
    (State.keySlotChanged s).pending = s.pending ∧ (State.keySlotChanged s).sec.lifeOf = s.sec.lifeOf := by
  simp [State.keySlotChanged]

@[simp] theorem State.writeEffect_life (s : State) (num : Nat) (idx : Nat) (old : Nat) (v : Nat) :
    (State.writeEffect s num idx old v).pending = s.pending ∧ (State.writeEffect s num idx old v).sec.lifeOf = s.sec.lifeOf := by
  simp [State.writeEffect]

@[simp] theorem State.storeValue_life (s : State) (p : Param) (num : Nat) (idx : Nat) (v : Nat) :
    (State.storeValue s p num idx v).pending = s.pending ∧ (State.storeValue s p num idx v).sec.lifeOf = s.sec.lifeOf := by
  simp [State.storeValue]

@[simp] theorem State.applyWrite_life (s : State) (r : Req) (p : Param) (num : Nat) (idx : Nat) :
    (State.applyWrite s r p num idx).pending = s.pending ∧ (State.applyWrite s r p num idx).sec.lifeOf = s.sec.lifeOf := by
  simp [State.applyWrite]

@[simp] theorem State.writeRequest_life (s : State) (r : Req) :
    (State.writeRequest s r).pending = s.pending ∧ (State.writeRequest s r).sec.lifeOf = s.sec.lifeOf := by
  unfold State.writeRequest
  apply State.request_life
  intro s
  dsimp only
  (repeat' split) <;> simp

@[simp] theorem idleTick_life (s : State) :
    (idleTick s).pending = s.pending ∧ (idleTick s).sec.lifeOf = s.sec.lifeOf := by
  simp [idleTick]

@[simp] theorem State.withFetchWord_life (s : State) (nbits : Nat) (w : Nat) :
    (State.withFetchWord s nbits w).pending = s.pending ∧ (State.withFetchWord s nbits w).sec.lifeOf = s.sec.lifeOf := by
  exact ⟨rfl, rfl⟩

@[simp] theorem State.answered_life (s : State) (r : Req) :
    (State.answered s r).pending = s.pending ∧ (State.answered s r).sec.lifeOf = s.sec.lifeOf := by
  simp [State.answered]

@[simp] theorem State.counted_life (s : State) (p : Pkt) (qpn : Nat) :
    (State.counted s p qpn).pending = s.pending ∧ (State.counted s p qpn).sec.lifeOf = s.sec.lifeOf := by
  unfold State.counted
  (repeat' split) <;> simp

@[simp] theorem State.judged_life (s : State) (p : Pkt) (qpn : Nat) (op : ReqOp) :
    (State.judged s p qpn op).pending = s.pending ∧ (State.judged s p qpn op).sec.lifeOf = s.sec.lifeOf := by
  simp [State.judged]

@[simp] theorem State.presented_life (s : State) (p : Pkt) (qpn : Nat) (op : ReqOp) :
    (State.presented s p qpn op).pending = s.pending ∧ (State.presented s p qpn op).sec.lifeOf = s.sec.lifeOf := by
  simp [State.presented]

@[simp] theorem State.charged_life (s : State) (qpn : Nat) (m : OpenMsg) (segs : List (Nat × Nat)) (n : Nat) :
    (State.charged s qpn m segs n).1.pending = s.pending ∧ (State.charged s qpn m segs n).1.sec.lifeOf = s.sec.lifeOf := by
  simp [State.charged]

@[simp] theorem State.continued_life (s : State) (p : Pkt) (qpn : Nat) (op : ReqOp) :
    (State.continued s p qpn op).pending = s.pending ∧ (State.continued s p qpn op).sec.lifeOf = s.sec.lifeOf := by
  simp [State.continued]

@[simp] theorem State.twinCounted_life (s : State) (h : TwinHdr) :
    (State.twinCounted s h).pending = s.pending ∧ (State.twinCounted s h).sec.lifeOf = s.sec.lifeOf := by
  simp [State.twinCounted]

@[simp] theorem State.fabCounted_life (s : State) (d : FabRx) :
    (State.fabCounted s d).pending = s.pending ∧ (State.fabCounted s d).sec.lifeOf = s.sec.lifeOf := by
  simp [State.fabCounted]

end Sys2Proof.Machine
end

