-- ==== Sys2Proof/Laws/Memory.lean ====
section
/-!
SUPPORT. The DRAM as a list of cells: every memory operation keeps the canonical form, a read after a write gives what was written,
and a write leaves every other byte as it was.
-/

namespace Sys2Proof.Machine

open Host (Cell)

/-- Canonical form above a bound: addresses strictly rising from `lo`, no zero byte listed. -/
def Memory.wfFrom (lo : Nat) : List Cell → Prop
  | [] => True
  | c :: t => lo ≤ c.1 ∧ c.2 ≠ 0#8 ∧ Memory.wfFrom (c.1 + 1) t

theorem Memory.wfFrom_mono {lo hi : Nat} (h : lo ≤ hi) : ∀ {m : List Cell}, Memory.wfFrom hi m → Memory.wfFrom lo m
  | [], _ => trivial
  | _ :: _, w => ⟨Nat.le_trans h w.1, w.2⟩

theorem Memory.wf_iff : ∀ (m : List Cell), Memory.wf m = true ↔ Memory.wfFrom 0 m
  | [] => by simp [Memory.wf, Memory.wfFrom]
  | [c] => by simp [Memory.wf, Memory.wfFrom]
  | c :: d :: t => by
    have ih := Memory.wf_iff (d :: t)
    simp only [Memory.wf, Bool.and_eq_true, bne_iff_ne, decide_eq_true_eq, ih, Memory.wfFrom, Nat.zero_le, true_and]
    constructor
    · rintro ⟨⟨h1, h2⟩, h3⟩
      exact ⟨h1, by omega, h3⟩
    · rintro ⟨h1, h2, h3⟩
      exact ⟨⟨h1, by omega⟩, h3⟩

theorem Memory.writeByte_wfFrom {lo a : Nat} (h : lo ≤ a) (v : Byte) :
    ∀ {m : List Cell}, Memory.wfFrom lo m → Memory.wfFrom lo (Memory.writeByte m a v)
  | [], _ => by
    by_cases z : v = 0#8 <;> simp [Memory.writeByte, Memory.wfFrom, z, h]
  | c :: t, w => by
    obtain ⟨w1, w2, w3⟩ := w
    by_cases l : a < c.1
    · by_cases z : v = 0#8
      · simp [Memory.writeByte, l, z, Memory.wfFrom, w1, w2, w3]
      · simp [Memory.writeByte, l, z, Memory.wfFrom, h, w2, w3, Nat.succ_le_of_lt l]
    · by_cases e : c.1 = a
      · by_cases z : v = 0#8
        · simp [Memory.writeByte, e, z]
          exact Memory.wfFrom_mono (by omega) w3
        · subst e
          simp [Memory.writeByte, z, Memory.wfFrom, h, w3]
      · have : c.1 + 1 ≤ a := by omega
        simp [Memory.writeByte, l, e, Memory.wfFrom, w1, w2, Memory.writeByte_wfFrom this v w3]

theorem Memory.writeByte_wf (m : List Cell) (a : Nat) (v : Byte) (h : Memory.wf m = true) : Memory.wf (Memory.writeByte m a v) = true :=
  (Memory.wf_iff _).2 (Memory.writeByte_wfFrom (Nat.zero_le a) v ((Memory.wf_iff _).1 h))

theorem Memory.write_wf (b : Bytes) : ∀ (m : List Cell) (a : Nat), Memory.wf m = true → Memory.wf (Memory.write m a b) = true := by
  induction b with
  | nil => intro m a h; exact h
  | cons x t ih => intro m a h; exact ih _ _ (Memory.writeByte_wf m a x h)

theorem Memory.filter_wfFrom (p : Cell → Bool) {lo : Nat} : ∀ {m : List Cell}, Memory.wfFrom lo m → Memory.wfFrom lo (m.filter p)
  | [], _ => trivial
  | c :: t, w => by
    have ih := Memory.filter_wfFrom p w.2.2
    by_cases h : p c = true
    · simp [List.filter, h, Memory.wfFrom, w.1, w.2.1, ih]
    · have hf : p c = false := by simpa using h
      simp only [List.filter, hf]
      exact Memory.wfFrom_mono (by have := w.1; omega) ih

theorem Memory.zero_wf (m : List Cell) (a n : Nat) (h : Memory.wf m = true) : Memory.wf (Memory.zero m a n) = true :=
  (Memory.wf_iff _).2 (Memory.filter_wfFrom _ ((Memory.wf_iff _).1 h))

theorem Memory.overlay_wf (a : Nat) (cs : List Cell) : ∀ (m : List Cell), Memory.wf m = true → Memory.wf (Memory.overlay m a cs) = true := by
  induction cs with
  | nil => intro m h; exact h
  | cons c t ih => intro m h; exact ih _ (Memory.writeByte_wf m (a + c.1) c.2 h)

theorem Memory.replace_wf (m : List Cell) (a n : Nat) (cs : List Cell) (h : Memory.wf m = true) :
    Memory.wf (Memory.replace m a n cs) = true := Memory.overlay_wf a _ _ (Memory.zero_wf m a n h)

theorem Memory.readByte_below {lo a : Nat} (h : a < lo) : ∀ {m : List Cell}, Memory.wfFrom lo m → Memory.readByte m a = 0
  | [], _ => rfl
  | c :: t, w => by
    have n : c.1 ≠ a := by have := w.1; omega
    have l : a < c.1 + 1 := by have := w.1; omega
    simp [Memory.readByte, n, Memory.readByte_below l w.2.2]

theorem Memory.readByte_writeByte_self {lo : Nat} (a : Nat) (v : Byte) :
    ∀ {m : List Cell}, Memory.wfFrom lo m → Memory.readByte (Memory.writeByte m a v) a = v
  | [], _ => by by_cases z : v = 0#8 <;> simp [Memory.writeByte, Memory.readByte, z]
  | c :: t, w => by
    by_cases l : a < c.1
    · by_cases z : v = 0#8
      · have : Memory.readByte (c :: t) a = 0 := Memory.readByte_below l ⟨Nat.le_refl _, w.2⟩
        simp [Memory.writeByte, l, z, this]
      · simp [Memory.writeByte, l, z, Memory.readByte]
    · by_cases e : c.1 = a
      · by_cases z : v = 0#8
        · have : Memory.readByte t a = 0 := Memory.readByte_below (by omega) w.2.2
          simp [Memory.writeByte, e, z, this]
        · simp [Memory.writeByte, e, z, Memory.readByte]
      · simp [Memory.writeByte, l, e, Memory.readByte, Memory.readByte_writeByte_self a v w.2.2]

theorem Memory.readByte_writeByte_ne {a b : Nat} (v : Byte) (h : b ≠ a) :
    ∀ (m : List Cell), Memory.readByte (Memory.writeByte m a v) b = Memory.readByte m b
  | [] => by by_cases z : v = 0#8 <;> simp [Memory.writeByte, Memory.readByte, z, Ne.symm h]
  | c :: t => by
    by_cases l : a < c.1
    · by_cases z : v = 0#8 <;> simp [Memory.writeByte, l, z, Memory.readByte, Ne.symm h]
    · by_cases e : c.1 = a
      · subst e
        by_cases z : v = 0#8 <;> simp [Memory.writeByte, z, Memory.readByte, Ne.symm h]
      · simp [Memory.writeByte, l, e, Memory.readByte, Memory.readByte_writeByte_ne v h t]

theorem Memory.readByte_write_out (b : Bytes) : ∀ (m : List Cell) (a x : Nat), (x < a ∨ a + b.length ≤ x) →
    Memory.readByte (Memory.write m a b) x = Memory.readByte m x := by
  induction b with
  | nil => intro m a x _; rfl
  | cons v t ih =>
    intro m a x h
    simp only [List.length_cons] at h
    rw [Memory.write, ih _ _ _ (by omega), Memory.readByte_writeByte_ne v (by omega)]

theorem Memory.readByte_write_in (b : Bytes) : ∀ (m : List Cell) (a i : Nat), Memory.wf m = true → (h : i < b.length) →
    Memory.readByte (Memory.write m a b) (a + i) = b[i] := by
  induction b with
  | nil => intro m a i _ h; simp at h
  | cons v t ih =>
    intro m a i w h
    cases i with
    | zero =>
      rw [Memory.write, Nat.add_zero, Memory.readByte_write_out t _ _ _ (by omega)]
      exact Memory.readByte_writeByte_self a v ((Memory.wf_iff _).1 w)
    | succ i =>
      have := ih (Memory.writeByte m a v) (a + 1) i (Memory.writeByte_wf m a v w) (by simpa using h)
      rw [Memory.write, show a + (i + 1) = a + 1 + i by omega, this]
      rfl

theorem Memory.readByte_zero (m : List Cell) (a n x : Nat) :
    Memory.readByte (Memory.zero m a n) x = if a ≤ x ∧ x < a + n then 0 else Memory.readByte m x := by
  induction m with
  | nil => simp [Memory.zero, Memory.readByte]
  | cons c t ih =>
    have hz : Memory.zero (c :: t) a n = if c.1 < a ∨ a + n ≤ c.1 then c :: Memory.zero t a n else Memory.zero t a n := by
      by_cases h : c.1 < a ∨ a + n ≤ c.1
      · simp [Memory.zero, h]
      · simp [Memory.zero, h]
    rw [hz]
    by_cases h : c.1 < a ∨ a + n ≤ c.1
    · rw [if_pos h]
      by_cases e : c.1 = x
      · subst e
        rw [if_neg (by omega)]
        simp [Memory.readByte]
      · simp only [Memory.readByte, beq_iff_eq, e, if_false, ih]
    · rw [if_neg h, ih]
      by_cases e : c.1 = x
      · subst e
        rw [if_pos (by omega), if_pos (by omega)]
      · simp [Memory.readByte, e]

theorem Memory.reset_wf : Memory.wf State.reset.dram.mem = true := rfl

end Sys2Proof.Machine
end

