-- ==== Sys2Proof/Laws/Packets.lean ====
section
/-!
SUPPORT. Request packets: a packet that opens a message is examined as the first of its message, and a message with room is admitted;
twin frames and fabric datagrams: an accepted one goes to its meaning, counted.
-/

namespace Sys2Proof.Machine

/-- A packet that reaches a queue pair asks for no neighbour's address. -/
theorem State.target_neighbour {s : State} {p : Pkt} {op qpn : Nat} (h : s.target p op = .ok qpn) : s.answersNeighbour p = false := by
  have hn : p.neighbour = none := by
    unfold State.target at h
    extract_lets n rc sa at h
    cases hp : p.neighbour with
    | none => rfl
    | some a => simp [hp] at h
  simp [State.answersNeighbour, hn]

/-- An accepted frame is handed on, counted, with its queue pair. -/
theorem State.hostPacket_accepts {s : State} {p : Pkt} {op qpn : Nat} (h : s.accepts p op qpn) (f : Nat → State → State) :
    s.hostPacket p op f = f qpn (s.counted p qpn) := by
  obtain ⟨h1, h2, h3, h4, h5, h6⟩ := h
  unfold State.hostPacket State.counted
  have c : ¬ ((!(s.port p.port.val).linkUp) = true ∨ (!s.mode.traffic) = true ∨ s.rst.inReset.contains 11 = true ∨
      s.rst.inReset.contains 12 = true) := by simp [h1, h2, h3, h4]
  dsimp only
  rw [if_neg c, if_neg (by simp [h5]), if_neg (by rw [State.target_neighbour h6]; decide), h6]
  all_goals (cases p.esp <;> rfl)

/-- A packet that reaches its queue pair is examined as the first of its message. -/
theorem State.hostRequest_presents {s : State} {p : Pkt} {op : ReqOp} {qpn : Nat} (h : s.presents p op qpn) :
    s.hostRequest p op = ((s.presented p qpn op).firstPacket qpn p.psn.toNat none op).ackRequested qpn p.ackReq op := by
  obtain ⟨ha, hw, hc, hr, he, hd, hi, hs, hn, -⟩ := h
  have hj : s.hostRequest p op = (s.judged p qpn op).process qpn p.psn.toNat p.ackReq none op := by
    unfold State.hostRequest
    rw [State.hostPacket_accepts ha]
    rfl
  rw [hj]
  unfold State.process
  dsimp only
  rw [hw, hc]
  simp only [Bool.false_eq_true, if_false, if_true]
  unfold State.classify
  dsimp only
  rw [he, if_neg (by rw [hr]; decide), if_pos rfl]
  unfold State.expected
  dsimp only
  rw [hd, hi, hs, hn]
  simp only [Bool.false_eq_true, if_false, Bool.not_true, Bool.true_and]
  rfl

/-- An AckReq bit in the last packet of a message asks for nothing more. -/
theorem State.ackRequested_ends (s : State) (qpn : Nat) (a : Bool) {op : ReqOp} (h : (opPos op).ends = true) :
    s.ackRequested qpn a op = s := by
  unfold State.ackRequested
  dsimp only
  rw [h]
  simp

/-- A message with room is admitted with what it reserves. -/
theorem State.letIn_roomFor {s : State} {qpn : Nat} {m : OpenMsg} {segs : List (Nat × Nat)} {redo n : Nat} {l : Bool}
    (h : s.roomFor qpn m segs redo n l) (k : State → OpenMsg → State) :
    s.letIn qpn m segs redo n l k = k (s.charged qpn m segs n).1 (s.charged qpn m segs n).2 := by
  obtain ⟨h1, h2, h3, h4, h5, h6, h7, h8, h9⟩ := h
  unfold State.letIn State.charged
  dsimp only
  rw [h1, h2, h3, h4]
  generalize (if (m.cqe.isSome && (s.qp qpn).ctx.cqBound) = true then s.cqRoom (s.qp qpn).ctx.cq.toNat else (s, true)) = c at *
  have hawg : (decide (m.kind = .awg) && (decide (c.1.redoUsed + redo > redoSegs * segBytes) ||
      decide (c.1.awgRecent ≥ defaultOf P.awg_rate_limit_per_s))) = false := by
    by_cases e : m.kind = .awg
    · obtain ⟨a, b⟩ := h8 e
      simp [e, Nat.not_lt.2 a, Nat.not_le.2 b]
    · simp [e]
  have hb : (decide (n > 0) && (c.1.stage m n).2.isNone) = false := by
    rcases h9 with h9 | h9
    · simp [h9]
    · simp [Option.isNone_eq_false_iff, h9]
  simp only [Bool.false_eq_true, if_false, h5, Bool.not_true]
  rw [if_neg (Nat.not_lt.2 h6), if_neg (by simpa using h7), hawg, hb]
  simp only [Bool.false_eq_true, if_false]

/-- A message that no other member forwarded is not redirected. -/
theorem openMsg_forwarded (q : Qp) (psn : Nat) (op : ReqOp) : (openMsg q psn none op).forwarded = false := by
  unfold openMsg
  dsimp only
  split <;> rfl

theorem State.redirects_own (s : State) {m : OpenMsg} (ak : Nat) (h : m.forwarded = false) : s.redirects m ak = false := by
  simp [State.redirects, h]

/-- A packet that opens a message is admitted by its kind. -/
theorem State.firstPacket_opens {s : State} {p : Pkt} {op : ReqOp} {qpn : Nat} (h : s.opens p op qpn) :
    s.hostRequest p op = ((s.presented p qpn op).firstByKind qpn (openMsg ((s.presented p qpn op).qp qpn) p.psn.toNat none op) op).ackRequested
      qpn p.ackReq op := by
  obtain ⟨hp, hh, hi, hq, hw⟩ := h
  rw [State.hostRequest_presents hp]
  have hst := hp.2.2.2.2.2.2.2.2.2
  generalize s.presented p qpn op = u at *
  have e : u.firstPacket qpn p.psn.toNat none op = u.firstByKind qpn (openMsg (u.qp qpn) p.psn.toNat none op) op := by
    unfold State.firstPacket
    dsimp only
    rw [if_neg (by rw [hst]; decide), hh, if_neg (by decide), hi]
    dsimp only
    rw [if_neg (by simp [hq]), hw, if_neg (by decide)]
  rw [e]

/-- A SEND that fits its receive entry, and names storage it may write, goes on to admission. -/
theorem State.firstSend_fits {u : State} {qpn : Nat} {m : OpenMsg} {e : RecvEntry} {op : ReqOp} {imm : Option (BitVec 32)}
    (hl : (opData op).length ≤ e.len) :
    let w := u.descUse (akIndex e.ak)
    let x := { m with gga := e.gga, ak := e.ak, len := (opData op).length, bufLen := e.len,
                      cqe := some { tag := e.wrId, gga := e.gga, imm := (imm.getD 0).toNat } }
    let lm := w.located x e.gga e.ak
    let span := if m.ended then (opData op).length else e.len
    w.placementCheck { pd := (u.qp qpn).ctx.pd, ak := e.ak, gga := e.gga, len := span, need := x.rights } = none →
    lm.idx ∉ w.reg.lost →
    u.firstSend qpn m e op imm =
      w.letIn qpn lm ((segsOf lm.off span).map fun g => (lm.idx, g)) 0 (opData op).length true
        fun s m => (s.consumeRecv qpn).takeMsg qpn m op := by
  intro w x lm span hp hlost
  unfold State.firstSend
  dsimp only
  rw [if_neg (Nat.not_lt.2 hl)]
  split
  · rename_i h
    rw [show _ = none from hp] at h
    cases h
  · rw [if_neg (fun h => hlost (List.elem_iff.1 h))]

/-- A write to storage it may write goes on to admission. -/
theorem State.firstAccess_writes {w : State} {qpn : Nat} {m : OpenMsg} {op : ReqOp} (hk : (m.kind.isRead || m.kind.isAtomic) = false)
    (hp : w.placementCheck { pd := m.pd, ak := m.ak, gga := m.gga, len := m.len, need := m.rights } = none)
    (hlost : (w.located m m.gga m.ak).idx ∉ w.reg.lost) :
    let lm := w.located m m.gga m.ak
    w.firstAccess qpn m op =
      w.letIn qpn lm ((segsOf lm.off m.len).map fun g => (lm.idx, g)) 0 (opData op).length true fun s m => s.takeMsg qpn m op := by
  intro lm
  unfold State.firstAccess
  dsimp only
  rw [hk, if_neg (by decide), hp]
  dsimp only
  rw [if_neg (fun h => hlost (List.elem_iff.1 h))]

/-- A read or an atomic goes on to admission; it is checked when it is served. -/
theorem State.firstAccess_defers {w : State} {qpn : Nat} {m : OpenMsg} {op : ReqOp} (hk : (m.kind.isRead || m.kind.isAtomic) = true) :
    let lm := w.located m m.gga m.ak
    w.firstAccess qpn m op =
      w.letIn qpn { lm with keys := [] } (if m.kind.isAtomic then (segsOf lm.off m.len).map fun g => (lm.idx, g) else []) 0 0 true
        fun s m => s.takeMsg qpn m op := by
  intro lm
  unfold State.firstAccess
  dsimp only
  rw [hk, if_pos rfl]

/-- A WRITE with immediate data that is admitted takes its receive entry. -/
theorem State.firstImm_taken {u : State} {qpn : Nat} {m : OpenMsg} {op : ReqOp} {e : RecvEntry} (hr : (u.nextRecv qpn).2 = .entry e)
    (hl : m.len ≤ e.len) (away : u.isAway m = false) :
    let x := { m with cqe := m.cqe.map fun c => { c with tag := e.wrId } }
    let w := (u.nextRecv qpn).1
    let t := w.firstAccess qpn x op
    t.taken qpn m.id (w.qp qpn).nextId = true → u.firstImm qpn m op = t.consumeRecv qpn := by
  intro x w t ht
  unfold State.firstImm
  dsimp only
  rw [hr]
  dsimp only
  have a : u.isAway x = false := away
  rw [if_neg (Nat.not_lt.2 hl), show u.isAway { m with cqe := _ } = false from a]
  simp only [State.firstRouted, Bool.false_eq_true, if_false]
  exact if_pos ht

/-! ### Twin frames and fabric datagrams -/

/-- Counting a frame changes counters only. -/
theorem State.portFrame_counts (s : State) (n : Nat) (f : Fec) : ∃ c, s.portFrame n f = { s with ctr := c } := by
  unfold State.portFrame State.bumpIf
  dsimp only
  split
  · exact ⟨_, rfl⟩
  · exact ⟨_, rfl⟩

/-- An accepted twin frame goes to its meaning, counted. -/
theorem State.twinFrame_accepts {s : State} {h : TwinHdr} {n : Nat} (a : s.twinAccepts h n) (f : State → State) :
    s.twinFrame h n f = f (s.twinCounted h) := by
  obtain ⟨h1, h2, h3, h4, h5, h6, h7⟩ := a
  unfold State.twinFrame State.twinCounted
  obtain ⟨c, hc⟩ := s.portFrame_counts (4 + h.port) h.fec
  dsimp only
  rw [if_neg (by simp [h1, h2]), hc, h3, if_neg (by decide), h4, show State.tportUp { s with ctr := c } h.port = true from h5,
    if_neg (by decide), h6, if_neg]
  intro e
  have e' : s.mir.mpv / 256 < n := by simpa using e
  omega

/-- An accepted frame of a group goes to its meaning, counted, with the group. -/
theorem State.groupFrame_accepts {s : State} {h : TwinHdr} {n : Nat} (a : s.groupAccepts h n) (f : Nat → State → State)
    (old : Role → Bool := fun _ => false) : s.groupFrame h n f old = f h.group.toNat (s.twinCounted h) := by
  unfold State.groupFrame
  dsimp only
  obtain ⟨c, hc⟩ := s.portFrame_counts (4 + h.port) h.fec
  have e : ((s.twinCounted h).grp h.group.toNat).epoch = (s.grp h.group.toNat).epoch := by
    unfold State.twinCounted
    rw [hc]
    rfl
  rw [State.twinFrame_accepts a.1, if_neg a.2.1, e, if_neg]
  simp [Nat.not_lt.2 a.2.2]

/-- An accepted datagram goes to its meaning, counted. -/
theorem State.fabRx_accepts {s : State} {d : FabRx} (a : s.fabAccepts d) (f : State → State) : s.fabRx d f = f (s.fabCounted d) := by
  obtain ⟨h1, h2, h3, h4, h6, h5⟩ := a
  unfold State.fabRx State.fabCounted
  obtain ⟨c, hc⟩ := s.portFrame_counts d.port.val d.fec
  dsimp only
  rw [if_neg (by simp [h1, h2]), hc, h3, if_neg (by decide), h4, h6,
    show (State.adj { s with ctr := c } (adjKey d.port.val d.slot.val)).state.usable = true from h5, if_neg (by decide)]

theorem State.fabCounted_fab (s : State) (d : FabRx) : (s.fabCounted d).fab = s.fab := by
  unfold State.fabCounted
  obtain ⟨c, hc⟩ := s.portFrame_counts d.port.val d.fec
  rw [hc]

/-- A datagram for this member goes to its meaning, counted. -/
theorem State.fabFor_mine {s : State} {d : FabRx} (a : s.fabMine d) (f : State → State) : s.fabFor d f = f (s.fabCounted d) := by
  unfold State.fabFor
  rw [State.fabRx_accepts a.1, State.fabCounted_fab, if_pos a.2]

end Sys2Proof.Machine
end

