-- ==== Sys2Proof/Tests/Slice0.lean ====
section
/-!
SUPPORT. Tests of single commands against worked examples of the spec; one ill-formed term for each check of well-formedness; and for
every statement that has hypotheses a state and operands that meet them, clause by clause.
-/

set_option maxRecDepth 10000
set_option Elab.async false

namespace Sys2Proof.Tests

open Sys2Proof.Machine

/-! ### Small states and operands -/

/-- The device in SERVICE with its cores up, and an OPEN Custodian session of schema 2.4 on slot 0. -/
def dev : State :=
  { mode := .service
    rst := { vddAon := true, cold := .done, coresUp := true, refclkOk := true, rootLocked := true }
    dxe := { sessions := [(0, { state := .open_, level := 2, dsv := 0x0204 })] } }

/-- A request of slot 0 on an item, with the octets after the item. -/
def req (num : Nat) (args : Bytes := []) (idx : Nat := 0) : Req :=
  { slot := 0, dsvMajor := 2, dsvMinor := 4, tag := 1, opSeq := 0, staged := false
    bodyLen := BitVec.ofNat 16 (8 + args.length), body := leBytes 4 num ++ leBytes 4 idx ++ args }

/-- A request of slot 0 with a body of another form. -/
def bodyReq (body : Bytes) : Req :=
  { slot := 0, dsvMajor := 2, dsvMinor := 4, tag := 1, opSeq := 0, staged := false, bodyLen := BitVec.ofNat 16 body.length, body := body }

/-- `State.starts` for some parameter, as a test. -/
def startsNow (s : State) (r : Req) (first : Nat) (own argsOk : Bool) : Bool :=
  s.takes r .command && match s.schemaParam r.slot (itemAt r.body).1 (itemAt r.body).2 with
    | some p => p.num == first && s.served (s.namedBy r) && decide (s.commandRefusal r p (s.namedBy r) own argsOk = none)
    | none => false

theorem startsNow_starts {s : State} {r : Req} {first : Nat} {own argsOk : Bool} (h : startsNow s r first own argsOk = true) :
    ∃ p, s.starts r first p own argsOk := by
  unfold startsNow at h
  rw [Bool.and_eq_true] at h
  obtain ⟨ht, h⟩ := h
  split at h
  · rename_i p hp
    simp only [Bool.and_eq_true, beq_iff_eq, decide_eq_true_eq] at h
    exact ⟨p, ht, ⟨hp, h.1.1, h.1.2⟩, h.2⟩
  · cases h

/-- A sound frame on host port 0 for a queue pair. -/
def pkt (qpn psn : Nat) : Pkt :=
  { port := 0, frameBytes := 128, rxBufKib := 0, fcsOk := true, fec := ⟨0, 0⟩, udpRoce := true, ipFormOk := true, dstIp := 0xFFFF0A000001, esp := none
    icrcOk := true, tver := 0, pkey := 0xFFFF, ce := false, ackReq := false, destQp := BitVec.ofNat 24 qpn, psn := BitVec.ofNat 24 psn }

/-- One interleave set of four 64 GiB channels in service. -/
def mem4 : Dram :=
  { channels := 4, cu := 2 ^ 36, train := .passed, mcs := (List.range 4).map fun k => (k, { state := .inService, capacityGib := 64, steps := 8 }) }

/-- First address behind the device areas: where firmware may place regions. -/
def home : Nat := 210176 * 65536

/-- Member 1 with one LOCAL region of two segments, index 0 and generation 1, cached, with every right but FORWARD. -/
def regDev : State :=
  { dev with
    dram := mem4
    fab := { member := 1, bound := true, state := .joined, started := true }
    reg := { descs := [(0, { cls := 1, group := 255, lengthSeg := 2, backing := home, state := .valid
                             rights := { awg := true, durable := true, atomic := true, write := true, read := true } })]
             cache := [0] }
    flash := { saveAreaLow := false }
    pde := { budget := { permittedGib := 1 } } }

/-- Its global address. -/
def gga (off : Nat) : BitVec 64 := BitVec.ofNat 64 (2 ^ 52 + off)

/-- The same device with port 0 up at 10.0.0.1 and queue pair 1 of that address READY and cached, HXV 2.1. -/
def qpDev : State :=
  { regDev with
    cfg := [(pkey P.port_ipv4_addr 0, 0x0100000A)]
    xpt := { ports := [(0, { linkUp := true })], qcc := [{ qpn := 1 }]
             qps := [(1, { state := .ready, hxvSet := true, hxv := 0x0201, ctx := { mtu := 5, localIp := 0xFFFF0A000001 } })] } }

/-- The device with a changed queue pair 1. -/
def withQp (s : State) (f : Qp → Qp) : State := s.modQp 1 f

/-- `State.accepts`, as a test. -/
def acceptsNow (s : State) (p : Pkt) (op qpn : Nat) : Bool :=
  (s.port p.port.val).linkUp && s.mode.traffic && !s.rst.inReset.contains 11 && !s.rst.inReset.contains 12 && p.fec.uncorrectable == 0 &&
  match (s.rxLevel p).target p op with
    | .ok n => n == qpn
    | .error _ => false

theorem acceptsNow_accepts {s : State} {p : Pkt} {op qpn : Nat} (h : acceptsNow s p op qpn = true) : s.accepts p op qpn := by
  unfold acceptsNow at h
  simp only [Bool.and_eq_true, Bool.not_eq_true', beq_iff_eq, List.contains_eq_mem, decide_eq_false_iff_not] at h
  obtain ⟨⟨⟨⟨⟨h1, h2⟩, h3⟩, h4⟩, h5⟩, h6⟩ := h
  refine ⟨h1, h2, h3, h4, h5, ?_⟩
  split at h6
  · rename_i n hn
    rw [hn, beq_iff_eq.1 h6]
  · cases h6

/-- `State.presents`, as a test. -/
def presentsNow (s : State) (p : Pkt) (op : ReqOp) (qpn : Nat) : Bool :=
  acceptsNow s p (opCode op) qpn && !(s.judged p qpn op).xpt.waiting.any (·.qpn == qpn) && (s.judged p qpn op).qccHas qpn &&
  let t := ((s.judged p qpn op).bump P.qcc_hits).qccUse qpn
  decide ((t.qp qpn).state = .ready) && psnSub (t.qp qpn).epsn p.psn.toNat == 0 && !(t.qp qpn).discarding && (t.qp qpn).inProgress.isNone &&
  (opPos op).starts && ((t.descNeeds (t.qp qpn) none op).find? fun i => !t.descCached i).isNone &&
  decide (((s.presented p qpn op).qp qpn).state = .ready)

theorem presentsNow_presents {s : State} {p : Pkt} {op : ReqOp} {qpn : Nat} (h : presentsNow s p op qpn = true) : s.presents p op qpn := by
  unfold presentsNow at h
  simp only [Bool.and_eq_true, Bool.not_eq_true', beq_iff_eq, decide_eq_true_eq, Option.isNone_iff_eq_none] at h
  obtain ⟨⟨⟨h1, h2⟩, h3⟩, ⟨⟨⟨⟨⟨h4, h5⟩, h6⟩, h7⟩, h8⟩, h9⟩, h10⟩ := h
  exact ⟨acceptsNow_accepts h1, h2, h3, h4, h5, h6, h7, h8, h9, h10⟩

/-- `State.opens`, as a test. -/
def opensNow (s : State) (p : Pkt) (op : ReqOp) (qpn : Nat) : Bool :=
  presentsNow s p op qpn &&
  let u := s.presented p qpn op
  headerOk (u.qp qpn) op && (u.inherited (u.qp qpn) (openMsg (u.qp qpn) p.psn.toNat none op).tag).isNone && decide (u.mode ≠ .quiesce) &&
  !(u.qp qpn).wait.active

theorem opensNow_opens {s : State} {p : Pkt} {op : ReqOp} {qpn : Nat} (h : opensNow s p op qpn = true) : s.opens p op qpn := by
  unfold opensNow at h
  simp only [Bool.and_eq_true, Bool.not_eq_true', decide_eq_true_eq, Option.isNone_iff_eq_none] at h
  obtain ⟨h1, ⟨⟨h2, h3⟩, h4⟩, h5⟩ := h
  exact ⟨presentsNow_presents h1, h2, h3, h4, h5⟩

/-! ### Ill-formed terms -/

/-- The request of a body longer than body_len can name is refused, whatever row it belongs to. -/
theorem test_wf_body (r : Req) (h : 65536 ≤ r.body.length) :
    Instr.wf (.read r) = false ∧ Instr.wf (.write r) = false ∧ Instr.wf (.powerOn r) = false ∧ Instr.wf (.qpCreate r true) = false ∧
    Instr.wf (.lcTransition r) = false := by
  have hr : r.wf = false := by simp [Req.wf, Nat.not_lt.2 h]
  exact ⟨hr, hr, hr, hr, hr⟩
theorem test_wf_chain : Instr.wf (.handshakeComplete 0 ⟨2, 100, true, [], [[]]⟩) = false := by decide
theorem test_wf_carries : Instr.wf (.send { pkt 0 0 with frameBytes := 0 } .only none [0]) = false := by decide
theorem test_wf_imm : Instr.wf (.send (pkt 0 0) .first (some 0) []) = false := by decide
theorem test_wf_header : Instr.wf (.rdmaWrite (pkt 0 0) .middle (some ⟨0, 0, 0⟩) []) = false ∧ Instr.wf (.dwrite (pkt 0 0) .only none []) = false ∧
    Instr.wf (.awg (pkt 0 0) .first none []) = false := by decide
theorem test_wf_write_imm : Instr.wf (.rdmaWriteWithImmediate (pkt 0 0) true none 0 []) = false := by decide
theorem test_wf_rising : Instr.wf (.placementComplete [3, 3]) = false ∧ Instr.wf (.readDataReturned [] [4, 1]) = false ∧
    Instr.wf (.promenadeSelect 0 [1, 0]) = false ∧ Instr.wf (.saveSegmentProgrammed 0 0 [2, 2]) = false := by decide
theorem test_wf_window : Instr.wf (.wregWindowTick 101) = false := by decide
theorem test_wf_sense : Instr.wf (.budgetCompute []) = false ∧ Instr.wf (.pmbusPoll (List.replicate 23 0) []) = false := by decide
theorem test_wf_hello : Instr.wf (.pddHello ⟨0, ⟨0, 0⟩, true, true, false, false, false, false, 255, 0, 0, 0, 0⟩ ⟨[], 0, 0, 0, false, 0, 0, []⟩) =
    false := by decide
theorem test_wf_mirror_write :
    Instr.wf (.mirrorWrite ⟨0, ⟨0, 0⟩, true, true, false, false, false, false, 1, 0, 0, 1, 0⟩ ⟨0, 0, 2, 0, 0, 0⟩ [0] []) = false := by decide
theorem test_wf_resync_map :
    Instr.wf (.resyncMap ⟨0, ⟨0, 0⟩, true, true, false, false, false, false, 1, 0, 0, 1, 0⟩ []) = false := by decide
theorem test_wf_units : Instr.wf (.flashReadComplete (.dram 0) []) = false := by decide
theorem test_wf_fab_hello : Instr.wf (.fabricHello 0 0 ⟨0, 0⟩ ⟨[], 0, 0, false, false, false, false, 0, 0, 0, 0, 0, 0, 0⟩ none) = false := by
  decide
theorem test_wf_route : Instr.wf (.route ⟨0, 0, ⟨0, 0⟩, true, true, ⟨0, 0, false, 0, 0, 0⟩, 0⟩ 0 true []) = false := by decide
theorem test_wf_fabric_data : Instr.wf (.fabricData ⟨0, 0, ⟨0, 0⟩, true, true, ⟨0, 0, false, 0, 0, 0⟩, 0⟩ ⟨0, 0, false⟩ (.awg .last (some ⟨0, 0, 0, 0, 0, 0, false,
    false, false⟩) []) true) = false := by decide
theorem test_wf_spd : Instr.wf (.spdReadComplete []) = false := by decide
theorem test_wf_step : Instr.wf (.trainingStepComplete 0 0 true 0) = false ∧ Instr.wf (.trainingStepComplete 0 8 true 0) = false := by decide
theorem test_wf_alert : Instr.wf (.alertN 0 65 true) = false := by decide
theorem test_wf_option : Instr.wf (.carrierAttachChecks 0 ⟨true, [0], true, true, 0⟩) = false := by decide
theorem test_wf_temps : Instr.wf (.thermalSample []) = false := by decide

/-! ### Witnesses: the dictionary -/

theorem witness_EmptyQueueLetsTimePass : dev.pending = [] ∧ dev.rst.vddAon = true ∧ State.reset.rst.vddAon = false := by decide

theorem witness_MgtFramesAnsweredOrDiscarded : dev.mode ≠ .off ∧ dev.mgtUp = true := by decide +kernel

/-- A chain that R34 admits at level 1. -/
def goodChain : ClientChain := ⟨2, 1000, true, List.replicate 120 1, [[1], [2]]⟩

theorem witness_SessionsOpenAndClose_HandshakeOpensSession :
    let s : State :=
      { dev with
        dxe := { sessions := [(0, { state := .handshake })] }
        cfg := [(pkey P.trust_anchor 0, leNat (List.replicate 120 1)), (pkey P.trust_anchor_level 0, 1)]
        sec := { lc := .deployed } }
    let full : State := { s with dxe := { sessions := (List.range 16).map fun k => (k, { state := .open_ }) } }
    let hot : State := { s with dxe := { s.dxe with handshakes := List.replicate (s.param P.handshake_rate_per_s) 0 } }
    (s.mode ≠ .off ∧ s.mgtUp = true ∧ (List.range 16).find? (fun j => (s.session j).state = .free) = some 1 ∧
      s.mgtInUse < s.param P.session_max ∧ s.rateExceeded = false) ∧
    (s.recentHandshakes.length < s.param P.handshake_rate_per_s ∧ (s.session 0).state = .handshake ∧ s.admission goodChain = some 1 ∧
      s.admission { goodChain with verified := false } = none) ∧
    (hot.mgtUp = true ∧ (List.range 16).find? (fun j => (hot.session j).state = .free) = some 1 ∧ hot.rateExceeded = true) ∧
    full.mgtUp = true ∧ ∀ j : Fin 16, (full.session j).state ≠ .free := by decide +kernel
theorem witness_SessionsOpenAndClose_SessionCloses :
    let s : State := { dev with dxe := { sessions := [(15, { state := .open_ }), (19, { state := .established })] }, cfg := [(pkey P.window_enable 0, 1)] }
    (s.session 15).live = true ∧ (s.session (16 + (3 : Fin 4))).live = true ∧ s.rst.coresUp = true ∧ (3 : Fin 4).val ∉ s.rst.heldClusters ∧
    s.param P.window_enable ≠ 0 ∧ (s.session (16 + (0 : Fin 4))).state = .free := by decide +kernel

theorem witness_SessionsOpenAndClose_HelloFixesVersion :
    let s : State := { dev with dxe := { sessions := [(0, { state := .established })] } }
    let r := fun b : Bytes => { bodyReq b with dsvMajor := 0, dsvMinor := 0 }
    (s.session 0).state = .established ∧ (s.session 0).kept.find? (·.tag == 1) = none ∧ (r [4, 2]).wellFormed .hello = true ∧
    s.unheard (r [4, 2]) = false ∧ (r [4, 2]).unanswered < 8 ∧ versionChoice [0x0204, 0x0107] (helloWords [4, 2]) ≠ 0 ∧
    (r [0, 9]).wellFormed .hello = true ∧ s.unheard (r [0, 9]) = false ∧ (r [0, 9]).unanswered < 8 ∧
    versionChoice [0x0204, 0x0107] (helloWords [0, 9]) = 0 := by decide +kernel
theorem witness_QueriesAnswered_ReadAnswersItem :
    dev.takes (req P.session_idle_timeout_s) .read = true ∧
    (∃ p, dev.schemaParam 0 P.session_idle_timeout_s 0 = some p ∧ p.access ≠ .cmd) ∧
    dev.takes (req P.cap_test) .read = true ∧
    (∃ p, dev.schemaParam 0 P.cap_test 0 = some p ∧ p.access = .cmd) ∧
    ((dev.arrive (req P.cap_test) .read).show 0 P.cap_test 0 false).status = Status.ok := by
  refine ⟨by decide +kernel, ⟨_, rfl, by decide⟩, by decide +kernel, ⟨_, rfl, by decide⟩, by decide +kernel⟩

theorem witness_ShownValue :
    (∃ p, ({ dev with mode := .standby } : State).schemaParam 0 P.cap_mf 0 = some p ∧ p.access ≠ .wo) ∧
    (∃ p, dev.schemaParam 0 P.sa_wrap_key 0 = some p ∧ p.access = .wo ∧ p.ty = .key) ∧
    (∃ p, dev.schemaParam 0 P.session_idle_timeout_s 0 = some p ∧ p.access = .rw ∧
      dev.unavailable p P.session_idle_timeout_s = false ∧ dev.fwBlocked p = false) ∧
    (∃ p, dev.schemaParam 0 P.mgt_ipv4_addr 0 = some p ∧ p.access = .rwr ∧
      ({ dev with staged := [(pkey P.mgt_ipv4_addr 0, 5)] } : State).stagedParam P.mgt_ipv4_addr 0 = some 5) ∧
    dev.served (schemaNum (dev.session 0).dsv P.session_idle_timeout_s) = true := by
  refine ⟨⟨_, rfl, by decide⟩, ⟨_, rfl, by decide, by decide⟩, ⟨_, rfl, by decide, by decide +kernel, by decide +kernel⟩, ⟨_, rfl, by decide, by decide +kernel⟩, by decide +kernel⟩

theorem witness_QueriesAnswered_MultiReadAndDescribe :
    dev.takes (bodyReq (leBytes 4 P.lc_state ++ leBytes 4 0)) .multiRead = true ∧ dev.takes (req P.lc_state) .describe = true ∧
    (req P.lc_state).staged = false ∧ dev.namedBy (req P.lc_state) ≠ P.sticky_counts ∧
    (∃ p, dev.schemaParam 0 P.lc_state 0 = some p) ∧ dev.served (dev.namedBy (req P.lc_state)) = true := by
  refine ⟨by decide +kernel, by decide +kernel, rfl, by decide +kernel, ⟨_, rfl⟩, by decide +kernel⟩

theorem witness_QueriesAnswered_DigestAnswers :
    (dev.takes (bodyReq [0, 0, 2, 0]) .digest = true ∧ leAt [0, 0, 2, 0] 2 1 = 2) ∧
    (dev.takes (bodyReq [255, 255, 0, 0]) .digest = true ∧ leAt [255, 255, 0, 0] 2 1 = 0) := by decide +kernel

/-- SUBSCRIBE to a parameter: PERIODIC with the shortest period, or ON_CHANGE. -/
def subReq (periodic : Bool) : Req :=
  bodyReq (leBytes 4 P.lc_state ++ leBytes 4 0 ++ [if periodic then 2 else 1, 0, 0, 0] ++ leBytes 4 10)

theorem witness_SubscriptionsAndNotifications_SubscriptionsComeAndGo :
    (∃ p, dev.schemaParam 0 P.lc_state 0 = some p ∧ p.access ≠ .wo ∧ p.ty ≠ .key) ∧
    (∀ b, dev.takes (subReq b) .subscribe = true ∧ dev.served (dev.namedBy (subReq b)) = true ∧
      (leAt (subReq b).body 8 1 == 2) = b ∧ leAt (subReq b).body 12 4 = 10) ∧
    dev.dxe.subs.countP (fun b => b.slot == 0) < dev.param P.subs_per_session_max ∧ dev.dxe.subs.length < 256 ∧
    dev.takes (bodyReq [255, 255, 0, 0]) .unsubscribe = true ∧ dev.takes (bodyReq [1, 0, 0, 0]) .unsubscribe = true := by
  refine ⟨⟨_, rfl, by decide, by decide⟩, by decide +kernel, by decide +kernel, by decide, by decide +kernel, by decide +kernel⟩

/-- A session that holds one subscription, whose last notified value is no longer the present one. -/
def subscribed (periodic : Bool) : State :=
  { dev with dxe := { dev.dxe with subs := [{ slot := 0, subId := 1, param := P.lc_state, index := 0, periodic := periodic, intervalMs := 0, periodMs := 10 }] } }

theorem witness_SubscriptionsAndNotifications_NotificationsSent :
    (∃ b, (subscribed false).dxe.subs = [b] ∧ (subscribed false).changed b = true) ∧ (∀ b, b ∈ dev.dxe.subs → dev.changed b = false) ∧
    (∃ b, (subscribed true).dxe.subs.find? (fun b => b.slot == 0 && b.subId == 1 && b.periodic) = some b) := by
  exact ⟨⟨_, rfl, by decide +kernel⟩, (fun b (h : b ∈ ([] : List Sub)) => by cases h), ⟨_, rfl⟩⟩

/-- A WRITE of the session's item is accepted. -/
def writesNow (s : State) (r : Req) : Bool :=
  s.takes r .write && match s.schemaParam r.slot (itemAt r.body).1 (itemAt r.body).2 with
    | some p => s.served (s.namedBy r) && decide ((s.arrive r .write).writeRefusal r p (s.namedBy r) (itemAt r.body).2 = none)
    | none => false

theorem witness_WriteStores :
    (writesNow dev (req P.session_idle_timeout_s [60, 0]) = true ∧ dev.mode ≠ .standby) ∧
    (writesNow dev (req P.mgt_ipv4_addr (leBytes 4 1)) = true) ∧
    (writesNow { dev with mode := .standby } (req P.session_idle_timeout_s [60, 0]) = true) ∧
    (writesNow dev (req P.fabric_key_tx [1]) = true ∧ (dev.arrive (req P.fabric_key_tx [1]) .write).param P.fabric_key_tx 0 ≠ 1) ∧
    writesNow { dev with mode := .maint } (req P.mc_fence (leBytes 4 1)) = true := by decide +kernel

theorem witness_StickyWriteClears :
    writesNow { dev with sticky := [(P.pool_bad_free_status, 3)] } (req P.pool_bad_free_status (leBytes 4 1)) = true ∧
    (∃ p, dev.schemaParam 0 P.pool_bad_free_status 0 = some p ∧
      bit p.flags 3 = true ∧ p.access = .rw ∧ p.num ≠ P.blk_fault_status ∧ p.num ≠ P.clk_status ∧ p.num ≠ P.car_err_status) := by
  exact ⟨by decide +kernel, _, rfl, by decide, by decide, by decide, by decide, by decide⟩

theorem witness_CommandAnswered : ∃ p, dev.starts (req P.session_close_all [0]) P.session_close_all p := startsNow_starts (by decide +kernel)

theorem witness_CommandRefusalsInOrder :
    let low : State := { dev with dxe := { sessions := [(0, { state := .open_, level := 0, dsv := 0x0204 })] } }
    let busy : State := { dev with dxe := { dev.dxe with results := [(P.session_close_all, { state := .pending })] } }
    (∃ p, findParam P.lc_state = some p ∧ p.access ≠ .cmd) ∧
    (∃ p, findParam P.cap_test = some p ∧ p.access = .cmd ∧ (low.session 0).level < p.level ∧ p.level ≤ (dev.session 0).level ∧
      bit p.modes State.reset.mode.code = false ∧ bit p.modes dev.mode.code = true ∧ (req P.cap_test).args.length ≠ p.len ∧
      (req P.cap_test [0]).args.length = p.len) ∧
    (∃ p, findParam P.raw_read = some p ∧ p.fw = true ∧ bit p.modes dev.mode.code = true ∧
      (req P.raw_read (List.replicate 16 0)).args.length = p.len ∧ p.inRange (leNat (List.replicate 16 0)) = true ∧
      ({ dev with rst := {} } : State).rst.coresUp = false) ∧
    busy.running P.session_close_all = true ∧
    (∃ p, dev.takes (req P.cap_test [1]) .command = true ∧ dev.names (req P.cap_test [1]) P.cap_test p ∧
      dev.commandRefusal (req P.cap_test [1]) p (dev.namedBy (req P.cap_test [1])) false true = some Status.outOfRange) := by
  refine ⟨⟨_, rfl, by decide⟩, ⟨_, rfl, by decide +kernel⟩, ⟨_, rfl, by decide +kernel⟩, by decide +kernel, _, by decide +kernel,
    ⟨rfl, rfl, by decide +kernel⟩, by decide +kernel⟩

theorem witness_SessionCommands :
    (∃ p, dev.starts (req P.mgt_apply [0]) P.mgt_apply p) ∧ (∃ p, dev.starts (req P.session_revalidate [0]) P.session_revalidate p) ∧
    (∃ p, dev.starts (req P.sess_close [0]) P.sess_close p (own := dev.namedBy (req P.sess_close [0]) == perInst P.sess_close 0)) :=
  ⟨startsNow_starts (by decide +kernel), startsNow_starts (by decide +kernel), startsNow_starts (by decide +kernel)⟩

theorem witness_UnsubscribeRemoves :
    dev.takes (bodyReq [1, 0, 0, 0]) .unsubscribe = true ∧ leAt [1, 0, 0, 0] 0 2 ≠ 0xFFFF ∧ leAt [255, 255, 0, 0] 0 2 = 0xFFFF ∧
    (∀ b, b ∈ dev.dxe.subs → b.slot = 0 → b.subId ≠ 1) ∧ (dev.session 0).live = true := by
  exact ⟨by decide +kernel, by decide, by decide, (fun b (h : b ∈ ([] : List Sub)) => by cases h), by decide⟩

theorem witness_SessCloseLevels :
    let low : State := { dev with dxe := { sessions := [(0, { state := .open_, level := 1, dsv := 0x0204 })] } }
    let other := req (P.sess_close + 65536) [0]
    (∀ s : Fin 2, (if s = 0 then dev else low).takes other .command = true) ∧
    (∃ p, dev.names other P.sess_close p ∧ bit p.modes dev.mode.code = true ∧ other.args.length = p.len ∧ p.inRange (leNat other.args) = true) ∧
    dev.running (dev.namedBy other) = false ∧ dev.namedBy other ≠ perInst P.sess_close 0 ∧
    dev.namedBy (req P.sess_close [0]) = perInst P.sess_close 0 ∧ (low.session 0).level < 2 ∧ 2 ≤ (dev.session 0).level ∧
    (dev.session ((dev.namedBy other - P.sess_close) / 65536)).state = .free ∧ (dev.namedBy other - P.sess_close) / 65536 ≠ 0 := by
  refine ⟨by decide +kernel, ⟨_, ⟨rfl, rfl, by decide +kernel⟩, by decide +kernel⟩, by decide +kernel⟩

/-! ### Witnesses: regions and buffers -/

/-- The argument of a registration at base 2^20: one segment of a class without a group, READ and WRITE. -/
def regArg (cls : Nat) : Bytes := leBytes 32 (place 112 255 + place 104 3 + place 96 cls + place 64 1 + 2 ^ 20)

theorem freeIndex_lt (s : State) : s.freeIndex < 1048576 := by
  unfold State.freeIndex
  cases h : (List.range maxRegions).find? s.idxFree with
  | none => simp
  | some i => simpa using List.mem_range.1 (List.mem_of_find?_eq_some h)
theorem witness_RegionCommands_RegionRegisters :
    (∃ p, regDev.starts (req P.region_register (regArg 1)) P.region_register p) ∧
    ((regDev.answered (req P.region_register (regArg 1))).regFails (leNat (regArg 1)) (some (home + 131072)) = none ∧
      (regDesc (leNat (regArg 1))).group = 255 ∧ (regDesc (leNat (regArg 1))).cls ≠ clsScratch) ∧
    ((regDev.answered (req P.region_register (regArg 2))).regFails (leNat (regArg 2)) (some (home + 131072)) = none ∧
      (regDesc (leNat (regArg 2))).group = 255 ∧ (regDesc (leNat (regArg 2))).cls = clsScratch) ∧
    (∀ x : PendingReg, ∃ t : State, t.reg.pendingReg = some x) ∧
    ((regDev.answered (req P.region_register (regArg 1))).regFails (leNat (regArg 1)) (some home) = some 0x04) := by
  refine ⟨startsNow_starts (by decide +kernel), by decide +kernel, by decide +kernel, fun x => ⟨{ reg := { pendingReg := some x } }, rfl⟩,
    by decide +kernel⟩

theorem witness_RegionCommands_RegionRevokes :
    (∃ p, regDev.starts (req P.region_rekey (leBytes 4 1)) P.region_rekey p) ∧
    (∃ p, regDev.starts (req P.region_deregister (leBytes 4 1)) P.region_deregister p) ∧
    (∀ n ∈ [P.region_rekey, P.region_deregister],
      let a := regDev.answered (req n (leBytes 4 1))
      akIndex 1 < 1048576 ∧ (a.desc 0).state = .valid ∧ (a.desc 0).gen = akGen 1 ∧ a.twinActive (a.desc 0).group = false ∧
      akIndex 2 < 1048576 ∧ akIndex 2 = 0 ∧ (a.desc 0).gen ≠ akGen 2 ∧ (a.desc (akIndex (256 + 1))).state ≠ .valid) ∧
    (let s : State := { regDev with reg := { regDev.reg with drains := [(0, { oldGen := 1 })] } }
     s.reg.drains.find? 0 = some { oldGen := 1 } ∧ s.openUnder 0 1 = 0) ∧
    (let s : State := withQp { qpDev with reg := { regDev.reg with drains := [(0, { oldGen := 1 })] } } fun q =>
       { q with msgs := [{ id := 0, kind := .write, opcode := 0x0A, firstPsn := 0, lastPsn := 0, keys := [(0, 1)] }] }
     s.reg.drains.find? 0 = some { oldGen := 1 } ∧ s.openUnder 0 1 ≠ 0) :=
  ⟨startsNow_starts (by decide +kernel), startsNow_starts (by decide +kernel), by decide +kernel, by decide +kernel, by decide +kernel⟩
/-- Buffer 1 of pool 0 is held by agent 7. -/
def bufDev : State := { dev with reg := { pools := [(0, { held := [(1, 7)] })] } }

theorem witness_RegionCommands_CacheFillAndBufferFree :
    (let s : State := { qpDev with xpt := { qpDev.xpt with waiting := [⟨1, some 0, 0, false, .invalid 0, none⟩] } }
     (s.waitsFor 0).isEmpty = false ∧ (s.rqCount 2 64).dram.poison.contains (s.descAddr 0 / 64) = false) ∧
    bufDev.poolOf 0 = none ∧ bufDev.poolOf (2 ^ 63) = some (0, 0) ∧ bufDev.poolOf (2 ^ 63 + 1) = some (0, 0) ∧
    bufDev.poolOf (2 ^ 63 + 256) = some (0, 0) ∧ bufDev.poolBase 0 0 = 2 ^ 63 ∧ 1 % poolSize 0 ≠ 0 ∧ 256 % poolSize 0 = 0 ∧
    (bufDev.pool 0).held.find? (bufDev.bufAt 0 0 0) = none ∧ (bufDev.pool 0).held.find? (bufDev.bufAt 0 0 256) = some 7 ∧
    (7 : Fin 8) ≠ 6 ∧ bufDev.bufReads (0, bufDev.bufAt 0 0 256) = false := by decide +kernel

/-! ### Witnesses: transport -/

theorem witness_PortsAndFlowControl_PortLinkChanges :
    (∀ k : Fin 4, dev.portHeld k = false ∧ (dev.port k).linkUp = false) ∧ (qpDev.port 0).linkUp = true := by decide +kernel

/-- Context image of queue pair 0 of host port 0 at 10.0.0.1, protected by IPsec. -/
def qpImage : Bytes :=
  leBytes 512 (place 816 1 + place 800 49152 + place 640 (octetSwap 16 0xFFFF0A000001) + place 224 256 + place 192 256 + place 48 5 + place 24 1)

theorem witness_QueuePairsAndCompletionQueues_QueuePairCommands :
    (let s : State := { regDev with cfg := [(pkey P.port_ipv4_addr 0, 0x0100000A)] }
     (∃ p, s.starts (req P.qp_create qpImage) P.qp_create p) ∧
     (s.answered (req P.qp_create qpImage)).qpCreateFails (leNat qpImage) true = none) ∧
    (∃ p, qpDev.starts (req P.qp_destroy (leBytes 4 1)) P.qp_destroy p) ∧
    ((qpDev.answered (req P.qp_destroy (leBytes 4 1))).qp 1).state = .ready ∧
    (((withQp qpDev fun q => { q with state := .error }).answered (req P.qp_destroy (leBytes 4 1))).qp 1).state = .error ∧
    (((withQp qpDev fun _ => {}).answered (req P.qp_destroy (leBytes 4 1))).qp 1).state = .free ∧
    (∃ p, qpDev.starts (req P.qp_force_error (leBytes 4 1)) P.qp_force_error p) ∧
    ((qpDev.answered (req P.qp_force_error (leBytes 4 1))).qp 1).state = .ready := by
  refine ⟨⟨startsNow_starts (by decide +kernel), by decide +kernel⟩, startsNow_starts (by decide +kernel), by decide +kernel,
    by decide +kernel, by decide +kernel, startsNow_starts (by decide +kernel), by decide +kernel⟩

/-- Context image of completion queue 0 with 64 slots at the region's first byte. -/
def cqImage : Bytes := leBytes 64 (place 128 6 + place 64 (2 ^ 52) + place 32 1)

theorem witness_QueuePairsAndCompletionQueues_CompletionQueueCommands :
    (∃ p, regDev.starts (req P.cq_create cqImage) P.cq_create p) ∧
    (regDev.answered (req P.cq_create cqImage)).cqCreateFails (leNat cqImage) = none ∧
    (regDev.answered (req P.cq_create cqImage)).ringAt (cqOf (leNat cqImage)).ringGga.toNat (cqOf (leNat cqImage)).ringAk.toNat
      (32 * 2 ^ (cqOf (leNat cqImage)).log2 + 64) = some (0, 0) ∧
    (let s : State := { regDev with xpt := { cqs := [(3, { state := .ready, log2 := 6, pending := [{}] })] } }
     (∃ p, s.starts (req P.cq_destroy (leBytes 4 3)) P.cq_destroy p) ∧
     ((s.answered (req P.cq_destroy (leBytes 4 3))).cq 3).state ≠ .free ∧ ((s.answered (req P.cq_destroy (leBytes 4 3))).cq 3).boundQps = 0 ∧
     (s.cq 3).pending.isEmpty = false ∧ (s.cq 3).state = .ready) := by
  refine ⟨startsNow_starts (by decide +kernel), by decide +kernel, by decide +kernel, startsNow_starts (by decide +kernel),
    by decide +kernel, by decide +kernel, by decide +kernel, by decide +kernel⟩

theorem witness_QueuePairsAndCompletionQueues_QueuePairTimers :
    (let s := withQp { qpDev with dxe := { qpDev.dxe with results := [(P.qp_destroy, { state := .pending, arg := leBytes 4 1 })] } }
       fun q => { q with state := .closing }
     (s.qp 1).state = .closing ∧ leNat (s.cmdArg P.qp_destroy) = 1 ∧ s.running P.qp_destroy = true) ∧
    ((withQp qpDev fun q => { q with state := .closing }).qp 1).state = .closing ∧ qpDev.running P.qp_destroy = false ∧
    ((withQp qpDev fun q => { q with ctx := { q.ctx with inherit := true } }).qp 1).ctx.inherit = true ∧
    ((withQp qpDev fun q => { q with wait := { q.wait with active := true } }).qp 1).wait.active = true ∧
    (let s : State := { qpDev with xpt := { qpDev.xpt with qcc := [], waiting := [⟨1, none, 0, false, .invalid 0, none⟩] } }
     s.qccHas 1 = false ∧ s.xpt.waiting.any (fun w => w.qpn == 1 && w.idx.isNone) = true ∧ s.xpt.qcc.length < 16384 ∧
     let t := (s.modXpt fun x => { x with qcc := { qpn := 1 } :: x.qcc }).rqCount 3 1536
     t.dram.poison.contains (t.ctxAddr 1 / 64) = false) := by decide +kernel

/-- The first packets of a write of four octets and of a DWRITE to the region. -/
def writeOp : ReqOp := .write .only (some ⟨gga 0, 1, 4⟩) none [1, 2, 3, 4]
def dwriteOp : ReqOp := .dwrite .only (some ⟨9, gga 0, 1, 4, 0, 0, false, false, false⟩) [1, 2, 3, 4]

/-- The segments that a write-type message of queue pair 1 takes, and the message once it has been located. -/
def placedAt (op : ReqOp) : OpenMsg :=
  let u := qpDev.presented (pkt 1 0) 1 op
  let m := openMsg (u.qp 1) 0 none op
  u.located m m.gga m.ak

theorem witness_WritesReadsAndAtomicsAdmitted_WritesAdmitted : ∀ op ∈ [writeOp, dwriteOp],
    qpDev.opens (pkt 1 0) op 1 ∧
    let u := qpDev.presented (pkt 1 0) 1 op
    let m := openMsg (u.qp 1) 0 none op
    let lm := placedAt op
    u.foreign m.gga m.ak = false ∧
    u.placementCheck { pd := m.pd, ak := m.ak, gga := m.gga, len := m.len, need := m.rights } = none ∧ lm.idx ∉ u.reg.lost ∧
    u.roomFor 1 lm ((segsOf lm.off m.len).map fun g => (lm.idx, g)) 0 4 true := by
  intro op h
  simp only [List.mem_cons, List.not_mem_nil, or_false] at h
  obtain rfl | rfl := h
  all_goals
    refine ⟨opensNow_opens (by decide +kernel), by decide +kernel, by decide +kernel, by decide +kernel, ?_⟩
    unfold State.roomFor
    dsimp only
    decide +kernel

/-- An extension header of tag 9 for `n` octets at the region's first byte, DURABLE or not. -/
def hdr (n : Nat) (dur : Bool := false) : Gxh := ⟨9, gga 0, 1, BitVec.ofNat 32 n, 0, 0, false, dur, false⟩

theorem witness_WritesReadsAndAtomicsAdmitted_ReadsAndAtomicsAdmitted :
    ∀ op ∈ [ReqOp.read ⟨gga 0, 1, 64⟩, .cswap ⟨gga 8, 1, 1, 2⟩, .fadd ⟨gga 8, 1, 1, 0⟩, .cas16 (hdr 16) 1 2, .tread (hdr 64)],
    qpDev.opens (pkt 1 0) op 1 ∧
    let u := qpDev.presented (pkt 1 0) 1 op
    let m := openMsg (u.qp 1) 0 none op
    let lm := { u.located m m.gga m.ak with keys := [] }
    u.foreign m.gga m.ak = false ∧
    u.roomFor 1 lm (if m.kind.isAtomic then (segsOf lm.off m.len).map fun g => (lm.idx, g) else []) 0 0 true := by
  intro op h
  simp only [List.mem_cons, List.not_mem_nil, or_false] at h
  obtain rfl | rfl | rfl | rfl | rfl := h
  all_goals
    refine ⟨opensNow_opens (by decide +kernel), by decide +kernel, ?_⟩
    unfold State.roomFor
    dsimp only
    decide +kernel

/-- The device with a receive ring of 64 entries in the second segment of its region, whose first entry has been produced: the region's
first 8,192 octets under wr_id 5. -/
def ringDev : State :=
  withQp { qpDev with dram := { mem4 with mem := [(home + 65545, 32), (home + 65548, 1), (home + 65558, 16), (home + 65560, 5), (home + 67584, 1)] } }
    fun q => { q with ring := { gga := gga 65536, ak := 1, log2 := 6 } }

def sendOp : ReqOp := .send .only none [1, 2, 3, 4]
def writeImmOp : ReqOp := .write .only (some ⟨gga 0, 1, 4⟩) (some 7) [1, 2, 3, 4]
def ringEntry : RecvEntry := { wrId := 5, gga := 2 ^ 52, ak := 1, len := 8192 }

theorem msgUndecided {o : Option OpenMsg} (h : (match o with | some x => decide (x.verdict = none) | none => false) = true) :
    ∃ x, o = some x ∧ x.verdict = none := by
  cases o with
  | none => cases h
  | some x => exact ⟨x, rfl, of_decide_eq_true h⟩

theorem witness_SendsTakeReceiveEntries :
    (ringDev.opens (pkt 1 0) sendOp 1 ∧
      let u := ringDev.presented (pkt 1 0) 1 sendOp
      let e := ringEntry
      let w := (u.nextRecv 1).1.descUse (akIndex e.ak)
      let m := { openMsg (u.qp 1) 0 none sendOp with
        gga := e.gga, ak := e.ak, len := 4, bufLen := e.len, cqe := some { tag := e.wrId, gga := e.gga, imm := 0 } }
      let lm := w.located m e.gga e.ak
      (u.nextRecv 1).2 = .entry e ∧ 4 ≤ e.len ∧
      w.placementCheck { pd := ((u.nextRecv 1).1.qp 1).ctx.pd, ak := e.ak, gga := e.gga, len := 4, need := m.rights } = none ∧
      lm.idx ∉ w.reg.lost ∧ w.roomFor 1 lm ((segsOf lm.off 4).map fun g => (lm.idx, g)) 0 4 true) := by
  refine ⟨opensNow_opens (by decide +kernel), by decide +kernel, by decide +kernel, by decide +kernel, by decide +kernel, ?_⟩
  unfold State.roomFor
  dsimp only
  decide +kernel

theorem witness_SendsTakeReceiveEntries_imm :
    ringDev.opens (pkt 1 0) writeImmOp 1 ∧
      let u := ringDev.presented (pkt 1 0) 1 writeImmOp
      let w := (u.nextRecv 1).1
      let e := ringEntry
      let m0 := openMsg (u.qp 1) 0 none writeImmOp
      let m := { m0 with cqe := m0.cqe.map fun c => { c with tag := e.wrId } }
      let lm := w.located m m.gga m.ak
      let segs := (segsOf lm.off m.len).map fun g => (lm.idx, g)
      (u.nextRecv 1).2 = .entry e ∧ m.len ≤ e.len ∧ u.foreign m.gga m.ak = false ∧
      w.placementCheck { pd := m.pd, ak := m.ak, gga := m.gga, len := m.len, need := m.rights } = none ∧ lm.idx ∉ w.reg.lost ∧
      w.roomFor 1 lm segs 0 4 true ∧
      let c := w.charged 1 lm segs 4
      let t := c.1.takeMsg 1 c.2 writeImmOp
      (w.qp 1).nextId < (t.qp 1).nextId ∧ (∃ x, (t.qp 1).msg m.id = some x ∧ x.verdict = none) := by
  refine ⟨opensNow_opens (by decide +kernel), by decide +kernel, by decide +kernel, by decide +kernel, by decide +kernel, by decide +kernel, ?_,
    by decide +kernel, msgUndecided (by decide +kernel)⟩
  unfold State.roomFor
  dsimp only
  decide +kernel

/-- A message of 4,100 octets whose first packet has been taken. -/
def begun (k : MsgKind) : OpenMsg :=
  { kind := k, id := 0, opcode := 6, firstPsn := 0, lastPsn := 0, gga := 2 ^ 52, ak := 1, len := 4100, total := 4100, rcvd := 4096, keys := [(0, 1)], bufLen := 8192 }
def begunDev (k : MsgKind) : State :=
  withQp ringDev fun q => { q with epsn := 1, inProgress := some 0, msgs := [begun k], nextId := 1 }

/-- `State.continues` and room for a later packet, as a test. -/
def continuesNow (s : State) (p : Pkt) (op : ReqOp) (m : OpenMsg) : Bool :=
  acceptsNow s p (opCode op) 1 && !(s.judged p 1 op).xpt.waiting.any (·.qpn == 1) && (s.judged p 1 op).qccHas 1 &&
  let q := (s.continued p 1 op).qp 1
  let total := m.rcvd + (opData op).length
  decide (q.state = .ready) && psnSub q.epsn p.psn.toNat == 0 && !q.discarding && decide (q.inProgress = some m.id) &&
  decide (q.msg m.id = some m) && decide (m.via = none) && !m.forwarded && !(opPos op).starts && payloadFits q.ctx.mtuBytes op &&
  m.kind.continuedBy (opKind op) && (decide (m.kind = .send) || (if (opPos op).ends then total == m.total else decide (total < m.total))) &&
  (decide (m.kind ≠ .send) || decide (total ≤ 2 ^ 30 ∧ total ≤ m.bufLen)) && (((s.continued p 1 op).stage m 4).2.isSome)

theorem continuesNow_continues {s : State} {p : Pkt} {op : ReqOp} {m : OpenMsg} (h : continuesNow s p op m = true) :
    s.continues p op 1 m ∧ ((s.continued p 1 op).stage m 4).2.isSome = true := by
  unfold continuesNow at h
  simp only [Bool.and_eq_true, Bool.not_eq_true', beq_iff_eq, decide_eq_true_eq, Bool.or_eq_true] at h
  obtain ⟨⟨⟨h1, h2⟩, h3⟩, ⟨⟨⟨⟨⟨⟨⟨⟨⟨⟨⟨⟨a, b⟩, c⟩, d⟩, e⟩, f⟩, g⟩, i⟩, j⟩, k⟩, l⟩, m⟩, n⟩⟩ := h
  refine ⟨⟨acceptsNow_accepts h1, h2, h3, a, b, c, d, e, f, g, i, j, k, fun hk => ?_, fun hk => m.resolve_left (· hk)⟩, n⟩
  have := l.resolve_left hk
  split at this
  · rw [if_pos ‹_›]; exact beq_iff_eq.1 this
  · rw [if_neg ‹_›]; exact of_decide_eq_true this

theorem witness_WritesReadsAndAtomicsAdmitted_LaterPacketsTaken :
    (∀ x ∈ [(MsgKind.write, ReqOp.write .last none none [1, 2, 3, 4]), (.dwrite, .dwrite .last none [1, 2, 3, 4]),
        (.send, .send .last none [1, 2, 3, 4]), (.awg, .awg .last none [1, 2, 3, 4]), (.write, .write .last none (some 7) [1, 2, 3, 4])],
      (begunDev x.1).continues (pkt 1 1) x.2 1 (begun x.1) ∧
      (((begunDev x.1).continued (pkt 1 1) 1 x.2).stage (begun x.1) 4).2.isSome = true) ∧
    (((begunDev .write).continued (pkt 1 1) 1 (.write .last none (some 7) [1, 2, 3, 4])).nextRecv 1).2 = .entry ringEntry ∧
    (begun .write).len ≤ ringEntry.len := by
  refine ⟨fun x h => continuesNow_continues ?_, by decide +kernel, by decide⟩
  revert x
  decide +kernel
theorem witness_TargetlessOperations :
    (let s := withQp qpDev fun q => { q with hxvSet := false, hxv := 0 }
     s.opens (pkt 1 0) (.hxvOffer 0x0201 0 0 0) 1 ∧ ((s.presented (pkt 1 0) 1 (.hxvOffer 0x0201 0 0 0)).qp 1).hxvSet = false ∧
     hxvChoice [0x0201, 0, 0, 0] ≠ 0) ∧
    (let op := ReqOp.flush ⟨9, 0, 0, 0, 0, 0, false, false, false⟩
     qpDev.opens (pkt 1 0) op 1 ∧
     let u := qpDev.presented (pkt 1 0) 1 op
     u.roomFor 1 (openMsg (u.qp 1) 0 none op) [] 0 0 false) ∧
    (let s : State := { qpDev with xpt := { qpDev.xpt with cqs := [(3, { state := .ready, log2 := 6 })] } }
     s.opens (pkt 1 0) (.wait 1 3) 1 ∧ ((s.presented (pkt 1 0) 1 (.wait 1 3)).cq 3).state = .ready ∧
     ((s.presented (pkt 1 0) 1 (.wait 1 3)).cq 3).count < 1) ∧
    qpDev.presents (pkt 1 0) (.invalid 0xFF) 1 := by
  refine ⟨⟨opensNow_opens (by decide +kernel), by decide +kernel, by decide +kernel⟩, ⟨opensNow_opens (by decide +kernel), ?_⟩,
    ⟨opensNow_opens (by decide +kernel), by decide +kernel, by decide +kernel⟩, presentsNow_presents (by decide +kernel)⟩
  unfold State.roomFor
  dsimp only
  decide +kernel

/-- An atomic write group of one extent of four octets. -/
def awgOp : ReqOp :=
  .awg .only (some ⟨9, 0, 0, 4, 0, 1, false, false, false⟩) (beBytes 8 (2 ^ 52) ++ beBytes 4 1 ++ beBytes 4 4 ++ [1, 2, 3, 4])

theorem witness_AtomicWriteGroupAdmitted :
    qpDev.opens (pkt 1 0) awgOp 1 ∧
    let u := qpDev.presented (pkt 1 0) 1 awgOp
    let m := openMsg (u.qp 1) 0 none awgOp
    let ext := awgExtents 1 (opData awgOp)
    let lm := { m with group := 255, cls := clsMirrored, idx := 0, keys := [(0, 1)] }
    u.foreign (beAt (opData awgOp) 0 8) (beAt (opData awgOp) 8 4) = false ∧
    awgStructure (u.qp 1).ctx.mtuBytes 1 m.len (u.ownExtents ext) = none ∧ u.awgAccess m ext = none ∧
    (ext.map fun e => (akIndex e.2.1, ggaOffset e.1 - (u.desc (akIndex e.2.1)).base, e.2.2)) = [(0, 0, 4)] ∧
    ((ext.map fun e => u.desc (akIndex e.2.1)).map fun d => (d.group, d.cls, d.gen)) = [(255, clsLocal, 1)] ∧
    (ext.any fun e => u.reg.lost.contains (akIndex e.2.1)) = false ∧ ceilDiv (16 * 1 + m.len) 64 * 64 = 64 ∧
    u.roomFor 1 lm [(0, 0)] 64 20 true := by
  refine ⟨opensNow_opens (by decide +kernel), by decide +kernel, by decide +kernel, by decide +kernel, by decide +kernel, by decide +kernel,
    by decide +kernel, by decide +kernel, ?_⟩
  unfold State.roomFor
  dsimp only
  decide +kernel

/-- A write of four octets to the region's first byte, issued on RQ0, and a read of as much, issued on RQ1, of message 0. -/
def busy : State :=
  withQp { qpDev with xpt := { qpDev.xpt with
      rq0 := [{ qpn := 1, msg := 0, idx := 0, off := 0, op := .write [1, 2, 3, 4] }]
      rq1 := [{ qpn := 1, msg := 0, idx := 0, off := 0, len := 4 }] } }
    fun q => { q with msgs := [{ id := 0, kind := .read, opcode := 12, firstPsn := 0, lastPsn := 0, outstanding := 1, len := 4 }] }

theorem witness_PlacementsAndReadsComplete :
    (∃ j rest, busy.xpt.rq0 = j :: rest ∧ ∀ k, j.op ≠ .awg k) ∧
    (∃ j rest m, busy.xpt.rq1 = j :: rest ∧
      let t := (busy.rqCount 1 j.len).modXpt fun x => { x with rq1 := rest }
      (∀ i, t.dram.poison.contains i = false) ∧ (t.qp j.qpn).msg j.msg = some m) :=
  ⟨⟨_, _, rfl, by intro k h; cases h⟩, _, _, _, rfl, fun _ => rfl, rfl⟩

theorem witness_PlacementWritesExactlyItsBytes :
    (1 ≤ ([1, 2, 3, 4] : Bytes).length) ∧ Memory.wf busy.dram.mem = true ∧ (busy.desc 0).tiered = false ∧
    busy.lsnOf 0 (0 / 65536) = some (home / 65536) ∧ busy.dram.poison = [] := by decide +kernel

/-! ### Witnesses: congestion -/

/-- The device with a permitted budget of `gib` GiB and a charge of `n` segments. -/
def charged (gib n : Nat) : State := { dev with pde := { reserved := n, budget := { permittedGib := gib } } }

theorem witness_CongestionControl_MarkingFractions :
    (∀ g ∈ [0, 1], ∀ n ∈ [0, 1, 12287, 12288, 14745, 14746], (charged g n).gated 4 = false) ∧
    ((charged 0 0).permitted = 0 ∧ (charged 0 0).dirtyCount + (charged 0 0).pde.reserved = 0) ∧
    ((charged 0 1).permitted = 0 ∧ 0 < (charged 0 1).dirtyCount + (charged 0 1).pde.reserved) ∧
    (let n := fun k => (charged 1 k).dirtyCount + (charged 1 k).pde.reserved
     let p := (charged 1 0).permitted
     let low := (charged 1 0).param P.mark_low_pct
     let high := (charged 1 0).param P.mark_high_pct
     0 < p ∧ 100 * n 12287 < low * p ∧ low * p ≤ 100 * n 12288 ∧ 100 * n 14745 < high * p ∧ high * p ≤ 100 * n 14746) := by
  decide +kernel

/-- The queue pair of `qpDev` with its rate at 400 and its target at `rt` Mb/s, cut last at `c`, at TIME 20 µs. -/
def governed (rc rt : Nat) (c : Option Nat) : State :=
  withQp { qpDev with now := 20000 } fun q => { q with gov := { rc := rc, rt := rt, lastCut := c } }

/-- The state in which `GovernorRates` looks at the last cut. -/
def atCut (c : Option Nat) : State :=
  (((governed 400000 400000 c).counted (pkt 1 0) 1).bump P.cnp_received).modGov 1 fun g => g.fill 20000

theorem witness_CongestionControl_GovernorRates :
    (∀ c ∈ [none, some 0, some 1], (governed 400000 400000 c).accepts (pkt 1 0) 0x81 1 ∧
      (((governed 400000 400000 c).counted (pkt 1 0) 1).qp 1).state = .ready ∧ ((atCut c).qp 1).gov.lastCut = c) ∧
    (let c := atCut none
     0 + c.param P.gov_cut_hold_us * 1000 ≤ c.now ∧ c.now < 1 + c.param P.gov_cut_hold_us * 1000) ∧
    (let s := withQp qpDev fun q => { q with state := .closing }
     s.accepts (pkt 1 0) 0x81 1 ∧ ((s.counted (pkt 1 0) 1).qp 1).state ≠ .ready ∧ (s.qp 1).state ≠ .ready) ∧
    (let g := fun rt => ((governed 400000 rt none).qp 1).gov
     let ai := dev.param P.gov_ai_mbps
     let half := fun rt => (g rt).rc + ((g rt).rt - (g rt).rc) / 2
     ((governed 400000 410000 none).qp 1).state = .ready ∧ ((g 410000).rc < (g 410000).rt ∧ ai ≤ (g 410000).rt - half 410000) ∧
     ((g 409998).rc < (g 409998).rt ∧ (g 409998).rt - half 409998 < ai) ∧ (g 400000).rt ≤ (g 400000).rc) := by
  refine ⟨fun c hc => ⟨acceptsNow_accepts ?_, ?_, ?_⟩, by decide +kernel, ⟨acceptsNow_accepts (by decide +kernel), by decide +kernel⟩,
    by decide +kernel⟩
  all_goals (revert c; decide +kernel)
theorem witness_PortsAndFlowControl_PriorityFlowControl :
    (let s : State := { dev with cfg := [(pkey P.pfc_enable 0, 1)], xpt := { ports := [(0, { linkUp := true, xoff := true, rxBufKib := 257 })] } }
     (s.port 0).linkUp = true ∧ s.paramOn P.pfc_enable = true ∧ (s.port 0).xoff = true ∧ s.param P.pfc_xon_kib < (s.port 0).rxBufKib ∧
     255 < s.param P.pfc_xon_kib ∧ (3 : Fin 8).val = s.param P.pfc_priority ∧ (s.port 0).ignoring = false ∧
     (2 : Fin 8).val ≠ s.param P.pfc_priority) ∧
    (({ dev with xpt := { ports := [(0, { ignoring := true })] } } : State).port 0).ignoring = true ∧
    (({ dev with xpt := { ports := [(0, { pausedSince := some 0 })] } } : State).port 0).pausedSince = some 0 := by decide +kernel

/-! ### Witnesses and worked examples: persistence -/

/-- The appliance of the worked example of R193: eight carriers ready, 54.0 V on HOLD_BUS through the divider of input 2, and `mf` mF. -/
def bank (mf : Nat) (b : Budget) : State :=
  { dev with
    now := 20000000000
    cfg := [(pkey P.sns_ratio_milli 2, 90000)]
    store := { capMf := mf, holdMv := 54000 }
    flash := { cars := (List.range 8).map fun n => (n, { state := .inService, present := true, erasedSlot0 := true, usableMib := 20000 }) }
    pde := { budget := b } }

/-- Input 2 at half scale, the other inputs at 0. -/
def sense54 : List (BitVec 12) := [0, 0, 2048] ++ List.replicate 21 0

/-- The worked example of the chapter: at 0.80 F the energy allows 29 GiB, and 1.25 F the configured 32 GiB. -/
theorem test_budget_example :
    ((bank 800 {}).sample sense54).candidate = (29, .energy) ∧ ((bank 1250 {}).sample sense54).candidate = (32, .configured) ∧
    (bank 800 {}).energyBytes.1 / (bank 800 {}).energyBytes.2 = 31380489386 := by decide +kernel

/-- The worked example of R402: at 52.0 V the aged bank allows 26.44 GiB. -/
theorem test_deferral_example :
    100 * ((bank 800 {}).energyAt 52000).1 / (((bank 800 {}).energyAt 52000).2 * 2 ^ 30) = 2644 := by decide +kernel

theorem witness_BudgetFollowsCandidate :
    (∀ b : Budget, ((bank 800 b).sample sense54).gated 4 = false) ∧
    (let c := fun b => ((bank 800 b).sample sense54).candidate.1
     let hold := fun b => ((bank 800 b).sample sense54).param P.budget_raise_hold_s * secNs
     let b0 : Budget := { permittedGib := 32, firstSet := true }
     let b2 : Budget := { permittedGib := 28, firstSet := true, raiseSince := some 10000000000 }
     let b3 : Budget := { permittedGib := 28, firstSet := true, raiseSince := some 10000000001 }
     let b4 : Budget := { permittedGib := 29, firstSet := true }
     c b0 < b0.permittedGib ∧ (0 ≤ c {} ∧ 0 < c {}) ∧
     (b2.permittedGib + 1 ≤ c b2 ∧ 10000000000 + hold b2 ≤ (bank 800 b2).now) ∧
     (b3.permittedGib + 1 ≤ c b3 ∧ (bank 800 b3).now < 10000000001 + hold b3) ∧ b4.permittedGib = c b4) ∧
    ((charged 1 16384).occAtLeast 100 = true ∧ (charged 1 16384).gated 4 = false) ∧
    (dev.occAtLeast 100 = false ∧ ((bank 800 {}).sample (List.replicate 24 0)).candidate.1 = 0 ∧
     (({ bank 800 {} with mode := .save } : State).sample sense54).gated 4 = false ∧
     (({ bank 800 {} with rst := { (bank 800 {}).rst with fenced := [4] } } : State).sample sense54).gated 4 = true) := by
  exact ⟨fun _ => rfl, by decide +kernel, by decide +kernel, by decide +kernel⟩

/-- The device with the group of `witness_AtomicWriteGroupAdmitted` in PDE in a given state, its message complete. -/
def withAwg (st : AwgState) : State :=
  withQp { qpDev with pde := { qpDev.pde with awgs := [{ qpn := 1, msg := 0, group := 255, state := st, seqNo := 6
                                                         extents := [(0, 0, [1, 2, 3, 4])], redoLen := 64 }] } }
    fun q => { q with msgs := [{ id := 0, kind := .awg, opcode := 0xD0, firstPsn := 0, lastPsn := 0, ended := true, len := 4
                                 data := beBytes 8 (2 ^ 52) ++ beBytes 4 1 ++ beBytes 4 4 ++ [1, 2, 3, 4] }] }

/-- The committed group's apply heads RQ0. -/
def applying : State := { withAwg .committed with xpt := { (withAwg .committed).xpt with rq0 := [{ qpn := 1, msg := 0, idx := 0, off := 0, op := .awg 6 }] } }

theorem witness_AtomicWriteGroupLife :
    (∃ a, (withAwg .staging).pde.awgs.find? (withAwg .staging).awgArrived = some a) ∧ dev.pde.awgs.find? dev.awgArrived = none ∧
    (∃ a, (withAwg .staged).pde.awgs.find? (·.state = .staged) = some a ∧ a.twin = false ∧
      ((withAwg .staged).mirrors a.group && (withAwg .staged).mpv2) = false) ∧
    (∃ a, ({ dev with pde := { awgs := [{ qpn := 0, msg := 0, group := 0, state := .staged, twin := true }] } } : State).pde.awgs.find?
      (·.state = .staged) = some a ∧ a.twin = true) ∧
    (∃ j t a, applying.xpt.rq0 = j :: t ∧ applying.pde.awgs.find? (fun a => a.state = .committed && a.seqNo == 6) = some a ∧
      j.op = .awg 6 ∧ a.twin = false) ∧
    (∃ j t, busy.xpt.rq0 = j :: t ∧ j.op ≠ .awg 6) ∧ dev.xpt.rq0 = [] := by
  refine ⟨⟨_, rfl⟩, rfl, ⟨_, rfl, rfl, by decide +kernel⟩, ⟨_, rfl, rfl⟩, ⟨_, _, _, rfl, rfl, rfl, rfl⟩, ⟨_, _, rfl, by intro h; cases h⟩, rfl⟩
/-- The device at 2 s with one segment of the region's backing in a drain state. -/
def segment (g : Seg) : State := { regDev with now := 2000000000, pde := { regDev.pde with segs := [(home / 65536, g)] } }

theorem witness_DrainAndRefill_PromenadeDrains :
    (let s := segment { state := .dirty, lastMs := 1000 }
     s.live = true ∧ s.nextDrain = some 210176 ∧ (s.pde.drains.any fun d => d.lsn == 210176) = false ∧
     (s.holdFor 2 65536 (.drain 210176)).2 = true ∧ ([0, 1024] : List Nat).filter (· < 1024) = 0 :: []) ∧
    (let s : State := { segment { state := .dirty, lastMs := 1000 } with cfg := (List.range 8).map fun n => (pkey (perInst P.pool_count n) 0, 0) }
     s.nextDrain = some 210176 ∧ (s.holdFor 2 65536 (.drain 210176)).2 = false) ∧
    regDev.nextDrain = none ∧
    (∀ st ∈ [Drained.draining, .redirty], ∀ k ∈ [none, some (0, 0, 0)],
      let d : DrainJob := { lsn := 210176, place := k }
      let s : State := { segment { state := st } with pde := { (segment { state := st }).pde with drains := [d] } }
      let t := s.modPde fun p => { p with drains := p.drains.filter fun x => x.lsn != (210176#32).toNat }
      s.pde.drains.find? (·.lsn == (210176#32).toNat) = some d ∧ t.copyKey 210176 = some 210176 ∧ s.segState 210176 = st ∧
      (d.copy = none ↔ k = none)) := by decide +kernel
theorem witness_DrainAndRefill_RefillFills :
    (let s : State := { segment {} with pde := { segs := [(3, { state := .absent })] } }
     s.mode.refills = true ∧ s.firstAbsent (s.dramBytes / 65536) 0 = some 3 ∧ (s.deepOf 3).noRead = true ∧
     (let t : State := { s with flash := { deep := [(3, { kind := .raw })] } }
      (t.deepOf 3).noRead = false ∧ (t.fetchDram 3).fetching (.dram 3) = true) ∧
     (let t : State := { s with flash := { deep := [(3, { kind := .raw })] }, cfg := (List.range 8).map fun n => (pkey (perInst P.pool_count n) 0, 0) }
      (t.deepOf 3).noRead = false ∧ (t.fetchDram 3).fetching (.dram 3) = false)) ∧
    dev.mode.refills = true ∧ dev.firstAbsent (dev.dramBytes / 65536) 0 = none ∧
    (let s : State := { segment {} with tmv := { fetches := [{ key := .dram 3, ready := true }] } }
     let f : Fetch := { key := .dram 3, ready := true }
     s.fetchOf (.dram 3) = some f ∧ f.ready = true ∧ (s.dropFetch (.dram 3)).segState 3 ≠ .absent ∧
     (({ s with pde := { segs := [(3, { state := .absent })] } } : State).dropFetch (.dram 3)).segState 3 = .absent ∧
     dev.fetchOf (.dram 3) = none) := by decide +kernel
/-- A save in slot 0 as far as a run says. -/
def saving (r : SaveRun) : State := { regDev with mode := .save, pde := { run := some r } }

theorem witness_SaveAndRestore_SavePhases :
    (saving {}).pde.run = some {} ∧ ({} : SaveRun).shed = false ∧ ({} : SaveRun).frozen = false ∧ (saving {}).xpt.rq0 = [] ∧
    (saving {}).sec.drbgStopped = false ∧ (saving { stopped := true }).pde.run = some { stopped := true } ∧
    (({ saving {} with xpt := busy.xpt } : State).xpt.rq0 ≠ []) ∧
    (saving { frozen := true }).pde.run = some { frozen := true } ∧ (saving { planned := true }).pde.run = some { planned := true } ∧
    (({ saving { planned := true } with pde := { (saving { planned := true }).pde with dir0 := [{ lsn := 3, part := 0 }] } } : State).dir 0)[0]? =
      some { lsn := 3, part := 0 } ∧ dev.pde.run = none := by
  refine ⟨rfl, rfl, rfl, rfl, rfl, rfl, ?_, rfl, rfl, rfl, rfl⟩
  decide
theorem witness_SaveAndRestore_RestoreSegments :
    ∀ e ∈ [({ lsn := 0, part := 0, kind := .zero } : DirEntry), { lsn := 0, part := 0, kind := .planned }],
    let s : State := { regDev with
      mode := .restore, sec := { saveKeys := [(0, 1)] }, rst := { regDev.rst with copied := true }
      pde := { restore := some { slot := some 0 }, dir0 := [e], recs := [(0, { state := .complete, planEntries := 1 })] } }
    s.pde.restore = some { slot := some 0 } ∧ (s.dir 0)[0]? = some e ∧ 0 < (s.saveRecord 0).planEntries ∧ s.rst.copied = true ∧
    e.seqLo = (s.saveRecord 0).saveSeq % 64 ∧
    ((e.kind ≠ .planned && (e.kind = .zero || (s.carrier e.part).state.readable) && s.sec.saveKeys.has (s.saveRecord 0).keyId &&
      !s.pwr.unsavedPending && !s.setFenced (s.setOf e.lsn) && decide (e.lsn * 65536 < s.dramBytes)) = decide (e.kind = .zero)) := by decide +kernel
theorem witness_SaveAndRestore_PersistenceCommands :
    (∃ p, regDev.starts (req P.region_lost_clear (leBytes 4 1)) P.region_lost_clear p) ∧
    (∃ p, regDev.starts (req P.region_lost_clear (leBytes 4 2)) P.region_lost_clear p) ∧
    (let s : State := { regDev with reg := { regDev.reg with lost := [0] } }
     (s.desc (akIndex 1)).gen = akGen 1 ∧ akIndex 1 ∈ s.reg.lost ∧ (s.desc (akIndex 2)).gen ≠ akGen 2 ∧ akIndex 1 ∉ regDev.reg.lost) ∧
    (∃ p, ({ dev with mode := .maint } : State).starts (req P.save_rate_test [0]) P.save_rate_test p) ∧
    ({ dev with pde := { rateTest := true } } : State).pde.rateTest = true ∧ dev.pde.rateTest = false ∧ dev.mode ≠ .restore ∧
    (({ dev with mode := .restore } : State).mode = .restore ∧ ({ dev with mode := .restore } : State).pwr.falling = false) := by
  refine ⟨startsNow_starts (by decide +kernel), startsNow_starts (by decide +kernel), by decide +kernel, startsNow_starts (by decide +kernel),
    rfl, rfl, by decide, rfl, rfl⟩

/-! ### Witnesses: the twin link -/

/-- Member 1 with its twin 2 on both twin ports under MPV 2.1, its region in group 5, and group 5 as given. -/
def twinDev (g : Grp) : State :=
  { regDev with
    reg := { regDev.reg with descs := [(0, { cls := 0, group := 5, lengthSeg := 2, backing := home, state := .valid, rights := { write := true, read := true } })] }
    mir := { twinMember := 2, mpv := 0x0201, groups := [(5, g)]
             ports := [(0, { linkUp := true, state := .up, windowKib := some 1024 }), (1, { linkUp := true, state := .up, windowKib := some 1024 })] } }

/-- A sound frame of group 5 from the twin on twin port 0. -/
def twinHdr : TwinHdr := ⟨0, ⟨0, 0⟩, true, true, false, false, false, false, 5, 2, 3, 1, 0⟩

/-- A group paired, in a role at epoch 3. -/
def grpIn (r : Role) : Grp := { role := r, paired := true, epoch := 3, inSync := true }

theorem takesTwin (h : TwinHdr) (g : Grp) (hg : g.epoch ≤ 3) (hp : h ∈ [twinHdr, { twinHdr with unit := true }, { twinHdr with retx := true },
    { twinHdr with seq := 0 }]) : (twinDev g).groupAccepts h 2 := by
  simp only [List.mem_cons, List.not_mem_nil, or_false] at hp
  obtain rfl | rfl | rfl | rfl := hp
  all_goals exact ⟨⟨rfl, rfl, rfl, rfl, rfl, rfl, by show 2 ≤ 0x0201 / 256; decide⟩, by decide, hg⟩
theorem witness_TwinPortsAndHello :
    (∀ k : Fin 2, dev.gated (9 + k) = false ∧ 9 + k.val ∉ dev.rst.fenced ∧ 9 + k.val ∉ dev.rst.inReset ∧ (dev.tport k).linkUp = false) ∧
    (((dev.modTport 0 fun t => { t with linkUp := true }).event 0x3140 0 [1]).twinOn = true) ∧
    (let s : State := { dev with mode := .train }
     s.gated 9 = false ∧ (s.tport 0).linkUp = false ∧ ((s.modTport 0 fun t => { t with linkUp := true }).event 0x3140 0 [1]).twinOn = false) ∧
    ((twinDev {}).tport 1).linkUp = true ∧ (twinDev {}).twinOn = true ∧
    (let s : State := { dev with mir := { twinMember := 2, ports := [(0, { linkUp := true, state := .hello })] } }
     s.twinOn = true ∧ (s.tport 0).state = .hello ∧ (s.tport 0).linkUp = true ∧ (s.tport 0).state ≠ .down ∧ (s.tport 0).state ≠ .refused ∧
     (s.twinCounted twinHdr).helloCause 0 ⟨[0x0201], 0, 2, 0, false, 0, 0, []⟩ = 0 ∧
     (s.twinCounted twinHdr).helloCause 0 ⟨[0x0201], 0, 3, 0, false, 0, 0, []⟩ = 1 ∧
     (s.twinCounted twinHdr).helloCause 0 ⟨[0x0201], 0, 2, 1, false, 0, 0, []⟩ = 2 ∧
     (s.twinCounted twinHdr).helloCause 0 ⟨[0x0901], 0, 2, 0, false, 0, 0, []⟩ = 3 ∧
     (s.twinCounted twinHdr).tportUp 0 = false) ∧
    ((dev.tport 0).linkUp = false ∧ (dev.tport 0).state ≠ .hello ∧ ({ dev with mode := .train } : State).twinOn = false) ∧
    (twinDev {}).groupAccepts twinHdr 2 ∧
    ((twinDev {}).tportUp 0 = true ∧ ((twinDev {}).sendEcho 0).tportUp 1 = true ∧ (twinDev {}).tportUp 1 = true) := by
  refine ⟨by decide +kernel, by decide +kernel, by decide +kernel, rfl, rfl, by decide +kernel, by decide, takesTwin _ _ (by decide) (by decide), by decide +kernel⟩

/-- A WRITE frame sent and not covered. -/
def sentFrame : OutFrame := { seq := 1, idx := 0, off := 0, data := some [1], bytes := 128, sentAt := some 0 }

theorem witness_MirroredWritesFlow :
    (∀ h ∈ [twinHdr, { twinHdr with unit := true }], (twinDev (grpIn .standby)).groupAccepts h (if h.unit then 2 else 1)) ∧
    ((twinDev { grpIn .standby with epoch := 4 }).twinAccepts twinHdr 1 ∧
      twinHdr.epoch.toNat < (((twinDev { grpIn .standby with epoch := 4 }).twinCounted twinHdr).grp 5).epoch) ∧
    (0 < ([7] : Bytes).length ∧ ([7] : Bytes).length ≤ 4096 ∧ (1#16).toNat = ([7] : Bytes).length ∧ (2#16).toNat ≠ ([7] : Bytes).length ∧
      ([] : Bytes).length = 0 ∧ 4096 < (List.replicate 4097 (0 : Byte)).length ∧ (List.replicate 4096 (0 : Byte)).length ≤ 4096) ∧
    (let s := twinDev { grpIn .standby with mackDue := true }
     s.twinOn = true ∧ (s.grp 5).role = .standby ∧ (((s.drainHeld 5).serveWaiting).grp 5).role = .standby ∧
     (((s.drainHeld 5).serveWaiting).grp 5).mackDue = true) ∧
    (let s := twinDev { grpIn .active with frames := [sentFrame] }
     (s.grp 5).frames.find? (fun f => f.sentAt.isSome && !f.retx) = some sentFrame ∧
     (s.grp 5).frames.find? (·.sentAt.isSome) = some sentFrame ∧ (s.grp 5).role = .active) ∧
    ((twinDev { grpIn .solo with frames := [sentFrame] }).grp 5).frames.find? (·.sentAt.isSome) = some sentFrame ∧
    ((twinDev {}).grp 5).frames.find? (·.sentAt.isSome) = none ∧ ((twinDev {}).grp 5).role ≠ .standby ∧ ((twinDev {}).grp 5).held = [] ∧
    (sentFrame.fin = none ∧ sentFrame.resync = false ∧ sentFrame.unit = false) ∧
    (let s := twinDev { grpIn .standby with refused := some 4 }
     ((s.grp 5).held.any fun f => f.seq == (s.grp 5).placed + 1) = false ∧ (s.grp 5).refused ≠ none) := by
  refine ⟨?_, ⟨⟨rfl, rfl, rfl, rfl, rfl, rfl, by show 1 ≤ 0x0201 / 256; decide⟩, by decide⟩, by decide +kernel, by decide +kernel,
    by decide +kernel, by decide +kernel, by decide +kernel, by decide +kernel, by decide +kernel, by decide, by decide +kernel⟩
  intro h hh
  simp only [List.mem_cons, List.not_mem_nil, or_false] at hh
  obtain rfl | rfl := hh
  · exact ⟨⟨rfl, rfl, rfl, rfl, rfl, rfl, by show 1 ≤ 0x0201 / 256; decide⟩, by decide, by decide⟩
  · exact takesTwin _ _ (by decide) (by decide)

theorem witness_MackCovers :
    let s := twinDev { grpIn .active with issued := 2, frames := [sentFrame, { sentFrame with seq := 2 }] }
    (s.grp 5).acked ≤ (s.grp 5).issued ∧ (s.grp 5).role = .active ∧ (∀ f, f ∈ (s.grp 5).frames → (s.grp 5).acked < f.seq) ∧ s.mpv2 = true ∧
    ({ s with mir := { s.mir with mpv := 0x0107 } } : State).mpv2 = false ∧
    ((s.takeAck 0 5 1 0 0).grp 5).acked = 1 ∧ { sentFrame with seq := 2 } ∈ ((s.takeAck 0 5 1 0 0).grp 5).frames := by decide +kernel

theorem witness_TwinReads :
    ((twinDev (grpIn .standby)).groupAccepts twinHdr 2) ∧
    (let c := (twinDev (grpIn .standby)).twinCounted twinHdr
     (c.grp 5).role = .standby ∧ (c.grp 5).inSync = true ∧ c.mirrorTarget 5 0 0 64 = some 0 ∧ c.ackedSeq 5 < (1#64).toNat ∧ c.ackedSeq 5 ≤ (0#64).toNat ∧ c.unitHolds 0 0 64 = false ∧
     ([0].foldl (fun (r : State × Avail) i => r.1.accessSeg 0 i false true) (c, .ready)).2 = .ready ∧
     c.tmv.reads.find? (·.reqId == 7) = none) ∧
    (((twinDev (grpIn .active)).twinCounted twinHdr).grp 5).role ≠ .standby ∧
    (let s := twinDev (grpIn .active)
     let t : State := { s with tmv := { reads := [{ reqId := 7, idx := 0, seg := 0, line := none }] } }
     (t.twinCounted twinHdr).tmv.reads.find? (·.reqId == 7) = some { reqId := 7, idx := 0, seg := 0, line := none } ∧ twinHdr.last = false) := by
  exact ⟨takesTwin _ _ (by decide) (by decide), by decide +kernel, by decide +kernel, by decide +kernel⟩

/-- A resync at its source, with one segment of region 0 to send. -/
def resyncing : ResyncSource := { todo := [(0, 0)], started := true }

theorem witness_ResyncAndConfigExchange_ResyncExchange :
    (∀ r ∈ [Role.standby, .fenced, .solo, .active], (twinDev (grpIn r)).groupAccepts twinHdr 1 ∧
      (((twinDev (grpIn r)).twinCounted twinHdr).grp 5).role = r) ∧
    (let s := twinDev { grpIn .solo with source := some { resyncing with endSent := true } }
     ((s.twinCounted twinHdr).grp 5).source = some { resyncing with endSent := true } ∧ ((s.twinCounted twinHdr).grp 5).epoch = 3 ∧
     s.groupAccepts { twinHdr with seq := 0 } 2) ∧
    (256 < (List.replicate 257 (⟨0, 0, 1⟩ : ResyncRun)).length) ∧
    (let s := twinDev { grpIn .standby with target := some { answered := true } }
     ((s.twinCounted twinHdr).grp 5).target = some { answered := true } ∧ (List.replicate 256 (⟨0, 0, 1⟩ : ResyncRun)).length ≤ 256) ∧
    (let s := twinDev { grpIn .solo with source := some resyncing }
     s.twinOn = true ∧ (s.grp 5).role = .solo ∧ (s.grp 5).source = some resyncing ∧ (s.mir.configs.any fun c => c.group == 5 && c.op == 4) = false ∧
     (resyncing.todo.filter fun p => (s.desc p.1).state ≠ .free).find? s.sendable = some (0, 0) ∧ s.hasCredit 5 65536 = true) ∧
    (let s := twinDev { grpIn .solo with source := some resyncing }
     ({ s with mir := { s.mir with ports := [(0, { linkUp := true, state := .up, windowKib := some 63 })] } } : State).hasCredit 5 65536 = false) ∧
    (let s := twinDev { grpIn .solo with source := some { resyncing with todo := [], again := [(0, 0)] } }
     (s.grp 5).source = some { resyncing with todo := [], again := [(0, 0)] } ∧
     ((twinDev { grpIn .solo with source := some { resyncing with todo := [] } }).grp 5).source = some { resyncing with todo := [] }) ∧
    (let s := twinDev { grpIn .fenced with restarted := true, incomplete := true }
     (s.grp 5).role = .fenced ∧ (s.grp 5).mayResume = true ∧ (s.grp 5).incomplete = true ∧ (s.grp 5).paired = true) ∧
    (let g : Grp := { grpIn .standby with inSync := false, target := some {} }
     ((twinDev g).grp 5).role = .standby ∧ ((twinDev g).grp 5).inSync = false ∧ ((twinDev g).grp 5).target = some {} ∧
     ((twinDev { g with target := some { retryAt := some 0 } }).grp 5).target = some { retryAt := some 0 }) ∧
    (let s : State := { dev with mir := { helloStart := some 0 } }
     s.twinOn = true ∧ s.mir.helloStart ≠ none ∧ s.tportUp 0 = false ∧ s.tportUp 1 = false) := by
  refine ⟨fun r _ => ⟨⟨⟨rfl, rfl, rfl, rfl, rfl, rfl, ?_⟩, by decide, ?_⟩, ?_⟩, ⟨by decide +kernel, by decide +kernel, takesTwin _ _ (by decide) (by decide)⟩, by decide +kernel,
    by decide +kernel, by decide +kernel, by decide +kernel, ⟨by decide +kernel, by decide +kernel⟩, by decide +kernel, by decide +kernel,
    by decide +kernel⟩
  · show 1 ≤ 0x0201 / 256; decide
  · exact Nat.le_refl 3
  · rfl

theorem witness_ResyncAndConfigExchange_ConfigExchange :
    (twinDev (grpIn .standby)).groupAccepts { twinHdr with retx := true } 2 ∧ (twinDev (grpIn .standby)).groupAccepts twinHdr 2 ∧
    ((1#8) ≠ 0 ∧ (6#8).toNat ≤ 6 ∧ 6 < (7#8).toNat ∧ (List.replicate 64 (0 : Byte)).length = 64) ∧
    (let s := twinDev (grpIn .standby)
     let k : ConfigResult := { group := 5, op := 1, idx := 0, image := List.replicate 64 0, result := 0, at_ := 0 }
     let c := ({ s with mir := { s.mir with configResults := [k] } } : State).twinCounted twinHdr
     c.configAnswered 5 1 0 (List.replicate 64 0) = some k ∧ (s.twinCounted twinHdr).configAnswered 5 1 0 (List.replicate 64 0) = none ∧
     (s.twinCounted twinHdr).mir.configs.find? (fun c => c.group == 5 && c.op == 1 && c.idx == 0) = none) ∧
    (∀ op ∈ [1, 2, 3, 4, 5, 6], ∀ cmd ∈ [0, P.group_unpair],
      let k : PendingConfig := { group := 5, op := op, idx := 0, cmd := cmd }
      let s := twinDev (grpIn .fenced)
      (({ s with mir := { s.mir with configs := [k] } } : State).twinCounted twinHdr).mir.configs.find?
        (fun c => c.group == 5 && c.op == op && c.idx == 0) = some k) ∧
    (twinDev {}).twinOn = true ∧ ({ dev with mode := .train } : State).twinOn = false :=
  ⟨takesTwin _ _ (by decide) (by decide), takesTwin _ _ (by decide) (by decide), by decide, by decide +kernel, by decide +kernel, by decide,
    by decide⟩

/-! ### Witnesses and worked examples: leases -/

/-- The member of the worked example of R222: twin link 1.0 µs, Caller round trips 7.2 µs and 8.4 µs. -/
def farCaller (rtt : Nat) : State :=
  let s := twinDev (grpIn .active)
  { s with mir := { s.mir with rtts := [(0, 7200)], twinRtt := rtt, budgetOk := true
                               ports := [(0, { linkUp := true, state := .up, delays := [(0, 1000)] })] } }

/-- R222's worked example: 35.8 µs and 19.4 µs, within 40 µs. -/
theorem test_lease_budget_example :
    (match exec .leaseBudgetCompute (farCaller 8400) with
      | .next t => (t.mir.budgetTakeoverNs, t.mir.budgetSoloNs, t.mir.budgetOk)
      | _ => (0, 0, false)) = (35800, 19400, true) := by decide +kernel

/-- A request or an answer of member 1 about group 5, with an op. -/
def lease (op : Nat) : LeaseMsg :=
  { renewSeq := 0, mapB := 0, mapA := 0, tSend := 100, residenceNs := 0, epoch := 3, twin := 2, member := 1, unpair := false, inSync := true
    reply := false, group := 5, result := 0, op := BitVec.ofNat 8 op }

/-- The group waits for the grant of an op. -/
def awaiting (op : Nat) (r : Role) : State := twinDev { grpIn r with req := some { op := op, epoch := 3, cmd := P.group_pair } }

theorem witness_LeasesAtTheMember_LeaseMember :
    (let s := twinDev (grpIn .active)
     s.twinOn = true ∧ (s.mir.groups.any fun e => e.2.holds || e.2.won) = true ∧
     let t := s.modMir fun m => { m with renewSeq := m.renewSeq + 1 }
     ((t.sendCallers (lease opRenew)).mir.groups.any fun e => e.2.holds) = true) ∧
    (let s := twinDev { grpIn .standby with takeover := some (4, 9) }
     (s.mir.groups.any fun e => e.2.holds || e.2.won) = true ∧
     (((s.modMir fun m => { m with renewSeq := m.renewSeq + 1 }).sendCallers (lease opRenew)).mir.groups.any fun e => e.2.holds) = false) ∧
    ((twinDev {}).twinAccepts twinHdr 1 ∧ (lease opRenew).reply = false ∧ (lease opRenew).op.toNat = opRenew ∧
      (lease opProbe).op.toNat = opProbe) ∧
    (((twinDev (grpIn .active)).grp 5).holds = true ∧ ((twinDev (grpIn .standby)).grp 5).holds = false) ∧
    (let s := twinDev (grpIn .standby)
     (s.grp 5).role = .standby ∧ (s.grp 5).inSync = true ∧ (s.grp 5).takeoverSent = false ∧ (s.grp 5).takeover = none ∧ s.desig.change = none) ∧
    ((awaiting opPair .fenced).grp 5).req = some { op := opPair, epoch := 3, cmd := P.group_pair } ∧
    ((twinDev { grpIn .standby with takeover := some (4, 9) }).grp 5).takeover = some (4, 9) ∧
    (∀ k ∈ [none, some 0],
      let s := twinDev (grpIn .active)
      let t : State := { s with mir := { s.mir with lastTwinRenew := k } }
      let u := (t.modMir fun m => { m with renewSeq := m.renewSeq + 1 }).sendCallers (lease opProbe)
      u.mir.lastTwinRenew = k ∧ u.now < 0 + 1000000 ∧ t.mir.claimed = false) ∧
    (∀ r ∈ [8400, 100000], (farCaller r).twinOn = true ∧ (farCaller r).mir.budgetOk = true ∧
      let s := farCaller r
      let a := s.param P.lease_us * 1000 + 3000 + max s.pDelay (1000 + (s.callerRtt + s.mir.twinRtt) / 2)
      let b := 2 * s.pDelay + s.param P.mirror_ack_timeout_us * 1000 + 1000 + max s.callerRtt s.mir.twinRtt
      if r = 8400 then a ≤ 40000 ∧ b ≤ 40000 else 40000 < a ∧ 40000 < b) ∧
    (let s := twinDev (grpIn .active)
     let m := { lease opRenew with mapA := 0x20, reply := true }
     mapGroups m.mapA = [5] ∧ mapGroups m.mapB = [] ∧ (s.grp 5).holds = true ∧ s.firstReply m = true ∧ (s.noteReply m).firstReply m = false) ∧
    (({ dev with mode := .train } : State).twinOn = false ∧ { lease opRenew with reply := true }.reply = true ∧ ((twinDev {}).grp 5).req = none ∧
      ((awaiting 0 .fenced).grp 5).req ≠ none ∧ (twinDev {}).mir.claimed = false ∧ ((twinDev {}).grp 5).takeover = none ∧
      ((twinDev {}).grp 5).role ≠ .standby ∧
      (let u := ((twinDev (grpIn .active)).modMir fun m => { m with renewSeq := m.renewSeq + 1, lastTwinRenew := some 0 })
       0 + 1000000 ≤ ({ u with now := 1000000 } : State).now)) := by
  refine ⟨by decide +kernel, by decide +kernel, ⟨⟨rfl, rfl, rfl, rfl, rfl, rfl, ?_⟩, by decide +kernel⟩, by decide +kernel, by decide +kernel,
    by decide +kernel, by decide +kernel, by decide +kernel, by decide +kernel, by decide +kernel, by decide +kernel⟩
  show 1 ≤ 0x0201 / 256
  decide

theorem witness_LeasesAtTheMember_LeaseGrants :
    (∀ p ∈ [(opSolo, Role.active), (opTakeover, .standby), (opActive, .solo), (opHandover, .active), (opResume, .fenced), (opForce, .fenced),
        (opPair, .fenced)],
      (awaiting p.1 p.2).awaitsGrant p.1 (lease p.1) p.2 { op := p.1, epoch := 3, cmd := P.group_pair }) ∧
    (let s := awaiting opTakeover .standby
     let t := s.modGrp 5 fun x => { x with takeover := some (3, s.leaseEndOf 100), req := none }
     (t.grp 5).twinGrantEnd = none ∧ (t.grp 5).takeover = some (3, s.leaseEndOf 100)) ∧
    (let s := twinDev { grpIn .standby with twinGrantEnd := some 1, req := some { op := opTakeover, epoch := 3, cmd := P.group_pair } }
     let t := s.modGrp 5 fun x => { x with takeover := some (3, s.leaseEndOf 100), req := none }
     (t.grp 5).twinGrantEnd = some 1 ∧ t.now < 1 ∧ s.twinOn = true ∧ (s.grp 5).role = .standby) ∧
    (let s := twinDev (grpIn .standby)
     let m := { lease opHandover with twin := 1, epoch := 4, inSync := false }
     s.twinOn = true ∧ m.group.toNat ≠ 255 ∧ (s.grp 5).role = .standby ∧ m.twin.toNat = s.fab.member ∧ (s.grp 5).epoch < m.epoch.toNat ∧
     m.inSync = false) ∧
    (let s := awaiting opPair .fenced
     let m := { lease opPair with result := 6 }
     m.result.toNat ≠ 5 ∧ (s.grp 5).req = some { op := opPair, epoch := 3, cmd := P.group_pair } ∧ opPair = m.op.toNat ∧
     m.epoch.toNat ≤ (s.grp 5).epoch ∧ ((twinDev { (s.grp 5) with paired := false }).grp 5).paired = false ∧ s.firstReply m = true ∧
     (s.noteReply m).firstReply m = false) ∧
    (let s := twinDev (grpIn .standby)
     s.twinOn = true ∧ (s.grp 5).req = none ∧ (s.grp 5).paired = true ∧ s.firstReply (lease opPair) = true ∧
     (s.grp 5).epoch < ({ lease opPair with epoch := 4 } : LeaseMsg).epoch.toNat ∧ (lease opPair).epoch.toNat ≤ (s.grp 5).epoch) ∧
    (let m := { lease opPair with result := 5 }
     m.member.toNat ≠ (twinDev {}).desig.caller) := by
  refine ⟨?_, by decide +kernel, by decide +kernel, by decide +kernel, by decide +kernel, by decide +kernel, by decide +kernel⟩
  intro p hp
  simp only [List.mem_cons, List.not_mem_nil, or_false] at hp
  obtain rfl | rfl | rfl | rfl | rfl | rfl | rfl := hp
  all_goals exact ⟨rfl, by decide +kernel, by decide, rfl, rfl, rfl⟩

/-- The Caller of the pair of members 1 and 2, its record of group 5 as given. -/
def caller (r : CallerRec) : State :=
  { dev with now := 5000, callerPairs := [(pairOf 1 2, { serving := true, recs := [(5, r)] })] }

theorem witness_CallerServesPairs :
    (dev.twinOn = true ∧ (lease opSolo).reply = false ∧ dev.callerPairs.find? (leasePair (lease opSolo)) = none) ∧
    (let s : State := { dev with callerPairs := [(pairOf 1 2, { serving := true, quietUntil := some 9, recs := [(5, { epoch := 2 })] })] }
     s.callerPairs.find? (leasePair (lease opClaim)) = some { serving := true, quietUntil := some 9, recs := [(5, { epoch := 2 })] } ∧
     s.callerRec (leasePair (lease opClaim)) 5 = some { epoch := 2 } ∧ 2 < (lease opClaim).epoch.toNat ∧
     s.callerRec (leasePair (lease opClaim)) 4 = none ∧ ({ lease opClaim with epoch := 2 } : LeaseMsg).epoch.toNat ≤ 2 ∧
     (({ s with callerPairs := [(pairOf 1 2, {})] } : State).callerPairs.find? (leasePair (lease opClaim))) = some {}) ∧
    (∀ r : CallerRec, (caller r).callerServes (lease opSolo) { serving := true, recs := [(5, r)] } ∧
      (caller r).callerRec (leasePair (lease opSolo)) 5 = some r) ∧
    (caller {}).callerRec (leasePair (lease opPair)) 4 = none ∧
    (mapGroups 0x20 = [5] ∧ { lease opRelease with unpair := true }.unpair = true) ∧
    (let m := lease opSolo
     let r : CallerRec := { holder := 1, epoch := 3, grantEnd := some 5001 }
     let past : CallerRec := { r with grantEnd := some 4000 }
     r.epoch < 0xFFFFFFFE ∧ m.epoch.toNat = r.epoch ∧ r.holder = m.member.toNat ∧ r.takeover = none ∧ (caller r).grantCurrent r = true ∧
     (caller r).grantOver r = false ∧ (caller past).grantCurrent past = false ∧ (caller past).grantOver past = true ∧
     (2 : Nat) ≠ m.member.toNat ∧ m.inSync = true) ∧
    (∀ b, ∃ r h, (caller r).callerRec (pairOf 1 2) 5 = some r ∧ r.takeover = some h ∧ r.solo = b) ∧
    (dev.callerPairs.length < 64 ∧ (caller {}).callerPairs.has (pairOf 1 2) = true) := by
  refine ⟨by decide +kernel, by decide +kernel, fun r => ⟨⟨rfl, rfl, rfl, rfl, rfl⟩, rfl⟩, by decide +kernel, by decide +kernel, by decide +kernel,
    fun b => ⟨{ takeover := some { msg := lease opTakeover, since := 0 }, solo := b }, _, rfl, rfl, rfl⟩, by decide +kernel⟩

/-- The member in DEGRADED with its twin's digest known and the budgets met, its group as given. -/
def pairing (g : Grp) : State :=
  let s := twinDev g
  { s with mode := .degraded, mir := { s.mir with budgetOk := true, twinDigest := s.digestWord } }

theorem witness_GroupCommands :
    (let s := pairing {}
     let r := req P.group_pair [5]
     (∃ p, s.starts r P.group_pair p) ∧ (s.answered r).twinReachable = true ∧ (s.answered r).mir.twinDigest = (s.answered r).digestWord ∧
     (s.answered r).mir.budgetOk = true ∧ ((s.answered r).grp 5).role = .fenced ∧ ((s.answered r).grp 5).paired = false ∧
     (({ s with mir := { s.mir with twinMember := 0xFFFF } } : State).answered r).twinReachable = false ∧
     (({ s with mir := { s.mir with twinDigest := 0 } } : State).answered r).mir.twinDigest ≠
       (({ s with mir := { s.mir with twinDigest := 0 } } : State).answered r).digestWord ∧
     (({ s with mir := { s.mir with budgetOk := false } } : State).answered r).mir.budgetOk = false) ∧
    (∀ g ∈ [grpIn .active, grpIn .fenced, {}],
      (∀ n ∈ [P.group_unpair, P.group_switchover, P.group_force_solo, P.group_resync_full],
        startsNow (pairing g) (req n [5]) n false true = true ∧ ((pairing g).answered (req n [5])).grp 5 = g)) ∧
    (let u := fun s : State => (s.answered (req P.group_unpair [5])).unpairLocal 5
     (u (pairing (grpIn .active))).twinReachable = true ∧
     (u ((twinDev (grpIn .fenced)).modMir fun m => { m with ports := [] })).twinReachable = false) ∧
    ((grpIn .active).soloPending = false ∧ (grpIn .active).switchover = none ∧ (grpIn .active).req = none) := by
  refine ⟨⟨startsNow_starts (by decide +kernel), by decide +kernel, ?_, by decide +kernel, by decide +kernel, by decide +kernel, by decide +kernel,
    by decide +kernel, by decide +kernel⟩, by decide +kernel, by decide +kernel, by decide +kernel⟩
  rfl

/-! ### Witnesses: memory tiers -/

/-- The member with an EXTENDED region 0 of two segments, one tier frame, and a map entry of its segment 0. -/
def tierDev (e : MapEntry) : State :=
  { regDev with
    reg := { regDev.reg with descs := [(0, { cls := 3, group := 255, lengthSeg := 2, backing := home + 65536, state := .valid
                                             rights := { write := true, read := true } })] }
    tmv := { totalFrames := 1, maps := [(mapKey 0 0, e)], frames := [(0, { idx := 0, seg := 0 })] } }

/-- Segment 0 PROMOTING from a fetch, with a stored copy of one unit on superblock 0. -/
def fetching (f : Fetch) (st : MState := .promoting) : State :=
  let s := tierDev { home := 0x10000000, frame := 210176, mstate := st }
  { s with
    flash := { deep := [(0x10000000, { kind := .raw, storedLen := 4096 })], sbs := [(0, { channels := [0, 1, 2], blocks := [7, 8, 9] })] }
    tmv := { s.tmv with fetches := [f] } }

theorem witness_TierFetches :
    (let k := FetchKey.tier 0 0
     let s := fetching { key := k }
     let e := s.deepOf (s.fetchLsn k)
     let blks := ((List.range e.units).filter fun i => !s.unitHeld e i).map (s.unitBlk e)
     s.fetchOf k = some { key := k } ∧ ({ key := k } : Fetch).overtaken = false ∧ dev.fetchOf k = none ∧ (∃ b, blks = [b]) ∧ (s.deepOf (s.fetchLsn k)).units = 1 ∧
     [UnitOutcome.uncorrectable].getD 0 .hard = .uncorrectable ∧ [UnitOutcome.hard].getD 0 .hard ≠ .uncorrectable ∧ (∀ b ∈ blks, (s.blk b).state ≠ .erasing) ∧
     (∀ b ∈ blks, ((s.setFlag (perInst P.car_err_status (keyCarrier b)) 3).blockRead b).tmv.records.length < defaultOf P.recovery_records_max)) ∧
    (let f : Fetch := { key := .tier 0 0, rebuild := [7] }
     (fetching f).fetchOf (.tier 0 0) = some f ∧ f.rebuild ≠ []) ∧
    (let f : Fetch := { key := .tier 0 0, ready := true }
     (fetching f).fetchOf (.tier (BitVec.ofNat 20 0) 0) = some f ∧ f.ready = true ∧ ((fetching f).entry 0 0).mstate = .promoting) ∧
    (∀ limit ∈ [0, 1],
      let s0 := twinDev (grpIn .active)
      let s := withQp { s0 with
          cfg := [(pkey P.fallback_rate_limit_per_s 0, limit)]
          reg := { s0.reg with descs := [(0, { cls := 3, group := 5, lengthSeg := 2, state := .valid })] }
          xpt := qpDev.xpt
          tmv := { maps := [(mapKey 0 0, { mstate := .promoting })] } }
        fun q => { q with msgs := [{ id := 0, kind := .tread, opcode := 0xD2, firstPsn := 4, lastPsn := 4, len := 64, deadlineUs := 9 }] }
      (s.entry 0 0).mstate = .promoting ∧ ((s.qp 1).msgs.any fun m => m.firstPsn == 4 && s.hasDeadline m 0 0) = true ∧
      (s.desc 0).tiered = true ∧ s.twinSource (s.desc 0).group = true ∧
      (s.tmv.reads.any fun r => r.idx == 0 && r.seg == 0 && r.line.isNone) = false ∧
      let n := (s.tmv.fallbackLog.filter fun t => s.now < t + 1000000000).length
      if limit = 0 then s.param P.fallback_rate_limit_per_s ≤ n else n < s.param P.fallback_rate_limit_per_s) := by
  refine ⟨⟨by decide +kernel, rfl, by decide +kernel, ⟨_, rfl⟩, by decide +kernel, by decide +kernel, by decide +kernel, by decide +kernel, by decide +kernel⟩, by decide +kernel,
    by decide +kernel, by decide +kernel⟩

theorem witness_TierEvictionAndCapacity_TierEvictionAndClear :
    (let s := tierDev { mstate := .resident, frame := 210176 }
     100 * s.sharedFree < s.param P.cache_free_low_pct * s.sharedFrames) ∧
    (dev.param P.cache_free_low_pct * dev.sharedFrames ≤ 100 * dev.sharedFree) ∧
    (let s := tierDev { mstate := .evicting, frame := 210176 }
     (s.entry 0 0).mstate = .evicting ∧ s.referenced 0 0 = false ∧ s.frameOfLsn (s.entry 0 0).frame = some 0 ∧
     ({ s with xpt := busy.xpt } : State).referenced 0 0 = true) ∧
    (∀ n ∈ [P.tier_evict, P.tier_poison_clear], ∀ len ∈ [2, 3],
      let r := req n (leBytes 4 1 ++ leBytes 4 0 ++ leBytes 4 len)
      let s := tierDev { mstate := .poisoned }
      startsNow s r n false true = true ∧ (s.answered r).rangeFails (leAt r.args 0 4) (leAt r.args 4 4) (leAt r.args 8 4) =
        if len = 2 then none else some 0x0C) ∧
    (let s := tierDev {}
     (s.desc (akIndex (256 + 1))).state ≠ .valid ∧ akIndex 1 < maxRegions ∧ (s.desc (akIndex 1)).state = .valid ∧
     (s.desc (akIndex 1)).tiered = true ∧ (s.desc (akIndex 1)).gen = akGen 1 ∧ (s.desc (akIndex 2)).gen ≠ akGen 2 ∧
     (s.desc (akIndex 1)).lengthSeg < 0 + 3 ∧ 0 + 2 ≤ (s.desc (akIndex 1)).lengthSeg) := by decide +kernel

/-- Static part of an option area: one target, LUN and plane, blocks of 1,024 pages of 16 KiB. -/
def option1 : Bytes := leBytes 64 (place 488 1 + place 480 1 + place 472 1 + place 464 3 + place 448 4096 + place 432 1024 + place 416 16384)

/-- Two carriers in service, and an EXTENDED region of `n` segments. -/
def tiers (n : Nat) : State :=
  { dev with
    reg := { descs := [(0, { cls := 3, group := 255, lengthSeg := n, state := .valid })] }
    flash := { cars := (List.range 2).map fun n => (n, { state := .inService, present := true, option := option1, goodBlocks := 100000 }) } }

theorem witness_TierEvictionAndCapacity_TierCapacity :
    (∀ n ∈ [1, 2 ^ 32], (tiers n).gated 4 = false ∧ (tiers n).tierStored < (tiers n).tierCapacity ∧
      decide ((tiers n).tierCapacity * (tiers n).param P.tier_provision_pct < (tiers n).tierProvisioned * 100) = (n != 1)) ∧
    (tiers 1).tmv.overProv = false ∧
    (let s : State := { dev with flash := { deep := [(0x10000000, { kind := .raw, storedLen := 4096 })] } }
     decide (s.tierCapacity * s.param P.tier_provision_pct < s.tierProvisioned * 100) = false ∧ s.tierCapacity ≤ s.tierStored ∧
     0 < s.tierStored ∧ s.tmv.overcommit = false) := by decide +kernel

/-! ### Witnesses: the fabric -/

/-- Member 1 with host port 0 up and the neighbour in slot 0 of that port in a state, FAB as `f` changes it. -/
def fabDev (st : AdjState) (f : Fab → Fab := id) : State :=
  { qpDev with
    now := 1000
    fab := f { member := 1, bound := true, state := .joined, started := true, nonce := 77, adjs := [(0, { state := st, nonce := 5, lastSeq := 8, mac := 3 })] } }

/-- A sound datagram of member 2 through that neighbour, to a member. -/
def fabRx (dst : Nat) : FabRx := ⟨0, 0, ⟨0, 0⟩, true, true, ⟨4, 1, false, BitVec.ofNat 12 dst, 2, 0⟩, 0⟩

theorem fabDev_accepts (st : AdjState) (h : st.usable = true) (f : Fab → Fab) (d : FabRx) (hd : d ∈ [fabRx 1, fabRx 9, { fabRx 9 with frh := ⟨0, 1, false, 9, 2, 0⟩ }])
    (hf : (f { member := 1, bound := true, state := .joined, started := true, nonce := 77, adjs := [(0, { state := st, nonce := 5, lastSeq := 8, mac := 3 })] }).started =
      true ∧ ((f { member := 1, bound := true, state := .joined, started := true, nonce := 77, adjs := [(0, { state := st, nonce := 5, lastSeq := 8, mac := 3 })] }).adjs.getD 0
        {}).state = st) : (fabDev st f).fabAccepts d := by
  simp only [List.mem_cons, List.not_mem_nil, or_false] at hd
  obtain rfl | rfl | rfl := hd
  all_goals
    refine ⟨?_, rfl, rfl, rfl, rfl, ?_⟩
    · show (_ && _) = true
      rw [Bool.and_eq_true]
      exact ⟨rfl, hf.1⟩
    · show (((fabDev st f).fab.adjs.getD 0 {}).state).usable = true
      rw [show ((fabDev st f).fab.adjs.getD 0 {}).state = st from hf.2]
      exact h

/-- A HELLO body with a nonce and a number. -/
def hello (nonce seq : Nat) : FabHello := ⟨[], 0, 2, false, false, false, false, 0, 0, 0, 0, BitVec.ofNat 64 nonce, 0, BitVec.ofNat 32 seq⟩

theorem witness_FabricNeighbours :
    (∀ b, let s : State := { dev with fab := { bound := b } }; s.mode.fabric = true ∧ s.fab.started = false) ∧
    (let s := fabDev .full
     let c := s.portFrame 0 ⟨0, 0⟩
     s.fabOn = true ∧ (s.port 0).linkUp = true ∧ c.adjSlot 0 3 = some 0 ∧ c.fab.adjs.has 0 = true ∧ (c.adj 0).nonce = (hello 5 8).nonce ∧
     (hello 5 8).helloSeq.toNat ≤ (c.adj 0).lastSeq ∧ c.adjSlot 0 4 = some 1 ∧ c.fab.adjs.has 1 = false ∧ (hello 77 0).nonce = c.fab.nonce ∧
     (hello 5 8).nonce ≠ c.fab.nonce ∧ (dev.portFrame 0 ⟨0, 0⟩).fab.started = false ∧ dev.fabOn = false ∧ (dev.port 0).linkUp = false ∧ s.fab.adjs.has (16 * 0 + 0) = true ∧ (s.adj (16 * 0 + 0)).lastHello ≠ s.now ∧
     (s.adj (adjKey 0 0)).lastHello + 3 * (s.adj (adjKey 0 0)).helloMs * 1000000 ≤ ({ s with now := 10000000000 } : State).now) ∧
    (∀ st ∈ [AdjState.full, .frozen, .held], (fabDev st).fabAccepts (fabRx 1) ∧ (((fabDev st).fabCounted (fabRx 1)).adj (adjKey 0 0)).state = st) ∧
    (0 < (List.replicate 128 (⟨9, 1, false, false, 0, 0, 0⟩ : RouteEntry)).length ∧
      (List.replicate 128 (⟨9, 1, false, false, 0, 0, 0⟩ : RouteEntry)).length ≤ 128) ∧
    (let s := fabDev .full fun f => { f with routes := [(9, { metric := 14, primary := some ⟨0, 0⟩ })] }
     s.fabOn = true ∧ (s.fabRoute 9).metric < 15 ∧ s.fab.routes.has 9 = true ∧ s.fab.routes.has 8 = false ∧ ¬ (s.fabRoute 8).metric < 15 ∧
     (s.fabRoute 9).refreshed + 3 * s.param P.route_update_ms * 1000000 ≤ ({ s with now := 1000000000000 } : State).now) := by
  refine ⟨by decide +kernel, by decide +kernel, ?_, by decide, by decide +kernel⟩
  intro st hst
  refine ⟨fabDev_accepts st ?_ id _ (.head _) ⟨rfl, rfl⟩, ?_⟩
  all_goals (revert st; decide +kernel)

theorem witness_MemberIdAndTime :
    (∀ st, ({ dev with fab := { state := st } } : State).fab.state = st) ∧
    (∃ p, regDev.starts (req P.member_id_release [0]) P.member_id_release p (argsOk := leNat [0] == 0)) ∧
    (∀ st ∈ [PtpState.slave, .master, .listening],
      let s := fabDev .full fun f => { f with ptp := { state := st, parent := 0 } }
      s.ptpLink 0 0 = true ∧ s.fab.ptp.state = st ∧ s.fab.ptp.parent = adjKey 0 0 ∧
      let c := s.portFrame 0 ⟨0, 0⟩
      s.fabOn = true ∧ (s.port 0).linkUp = true ∧ c.ptpLink 0 0 = true ∧ c.ptpLink 0 1 = false ∧ c.param P.ptp_domain = (0#8).toNat ∧
      (c.fab.ptp.state = st ∧ c.fab.ptp.parent = adjKey 0 0 ∧ adjKey 0 1 ≠ adjKey 0 0)) := by
  refine ⟨fun _ => rfl, startsNow_starts (by decide +kernel), by decide +kernel⟩

/-- The device with queue pair 1 a FABRIC queue pair to member 2. -/
def fabQp (q : FabSide) (f : Fab → Fab := id) : State :=
  let s := fabDev .full f
  { s with xpt := { s.xpt with qps := [(1, { state := .ready, ctx := { kind := 1 }, fab := q })] } }

theorem fabQp_mine (q : FabSide) : (fabQp q).fabMine (fabRx 1) := ⟨⟨rfl, rfl, rfl, rfl, rfl, rfl⟩, rfl⟩

theorem witness_FabricSessions :
    (let s := fabDev .full fun f => { f with routes := [(9, { metric := 2, primary := some ⟨0, 0⟩ })] }
     s.fabAccepts (fabRx 9) ∧ (fabRx 9).frh.dst.toNat ≠ s.fab.member ∧ (s.fabCounted (fabRx 9)).hopsTo 9 = [⟨0, 0⟩] ∧ (fabRx 9).frh.hopsLeft ≠ 0) ∧
    ((fabDev .full).fabAccepts (fabRx 9) ∧ ((fabDev .full).fabCounted (fabRx 9)).hopsTo 9 = [] ∧
      (⟨0, 1, false, 9, 2, 0⟩ : Frh).hopsLeft = 0) ∧
    (∀ b, let s := fabQp { peer := 2, opening := b }
      let c := s.fabCounted (fabRx 1)
      s.fabMine (fabRx 1) ∧ c.mode.traffic = true ∧ (c.qp 1).ctx.kind = 1 ∧ (c.qp 1).fab.peer = (fabRx 1).frh.src.toNat ∧ (c.qp 1).fab.opening = b) ∧
    (let c := (fabQp { peer := 2 }).fabCounted (fabRx 1)
     c.fabQpsTo 2 (·.fab.opening) = [] ∧ ∃ n, ((c.fabQpsTo 2 fun _ => true).foldl State.endFabQp c).fabFreeQpn = some n) ∧
    (let s := fabQp { peer := 7 }
     let full : State := { s with cfg := [(pkey P.fabric_qp_slots 0, 64), (pkey P.qp_max 0, 1024)]
                                  xpt := { s.xpt with qps := (List.range 64).map fun i => (960 + i, { state := .ready, ctx := { kind := 1 }, fab := { peer := 7 } }) } }
     let c := full.fabCounted (fabRx 1)
     full.fabMine (fabRx 1) ∧ c.fabQpsTo 2 (·.fab.opening) = [] ∧ ((c.fabQpsTo 2 fun _ => true).foldl State.endFabQp c).fabFreeQpn = none) ∧
    (let s := fabQp { peer := 2 }
     (s.qp 1).ctx.kind = 1 ∧ (s.qp 1).fab.opening = false ∧ (s.qp 1).idleFab = true) := by
  refine ⟨⟨fabDev_accepts .full rfl _ _ (.tail _ (.head _)) ⟨rfl, rfl⟩, by decide, by decide +kernel, by decide⟩,
    ⟨fabDev_accepts .full rfl _ _ (.tail _ (.head _)) ⟨rfl, rfl⟩, by decide +kernel, rfl⟩,
    fun b => ⟨fabQp_mine _, rfl, rfl, rfl, rfl⟩, ⟨by decide +kernel, ⟨_, rfl⟩⟩, ⟨⟨⟨rfl, rfl, rfl, rfl, rfl, rfl⟩, rfl⟩, by decide +kernel, by decide +kernel⟩,
    by decide +kernel⟩

/-- The requests outstanding on a FABRIC queue pair: one of host queue pair 3, message 0. -/
def asking (op : ReqOp) : State :=
  let s := fabQp { peer := 2, reqs := [⟨4, 4, op, 0, 3, 0, false, false⟩] }
  { s with xpt := { s.xpt with qps := s.xpt.qps ++ [(3, { state := .ready, msgs := [{ id := 0, kind := .read, opcode := 12, firstPsn := 0, lastPsn := 0 }] })] } }

theorem witness_FabricRequester :
    (∀ op, (asking op).fabMine (fabRx 1) ∧ (asking op).sessionWith (fabRx 1) 1) ∧
    ((0x3F#8).toNat / 32 = 1) ∧
    (∀ p ∈ [(ReqOp.cswap ⟨0, 0, 0, 0⟩, Reply.atomic), (.read ⟨0, 0, 4⟩, .read), (.cas16 (hdr 16) 0 0, .gx)],
      let c := (asking p.1).fabCounted (fabRx 1)
      (c.qp 1).fab.reqs = ⟨4, 4, p.1, 0, 3, 0, false, false⟩ :: [] ∧ c.cover 1 (psnSub 4 1) = c ∧ opReply p.1 = p.2 ∧
      ∃ m, (c.qp 3).msg 0 = some m ∧ m.data = []) ∧
    (let s := asking (.read ⟨0, 0, 4⟩)
     (s.qp 1).ctx.kind = 1 ∧ (s.qp 1).fab.rnrWait = false ∧ (s.qp 1).fab.reqs.all (·.done) = false ∧
     (s.qp 1).fab.retries < s.param P.fabric_retry_count) ∧
    (let s := fabQp { peer := 2, retries := 7, reqs := [⟨4, 4, .read ⟨0, 0, 4⟩, 0, 3, 0, false, false⟩] }
     s.param P.fabric_retry_count ≤ (s.qp 1).fab.retries ∧ (s.qp 1).fab.reqs.all (·.done) = false) ∧
    ((fabQp { peer := 2, rnrWait := true }).qp 1).fab.rnrWait = true := by
  refine ⟨fun op => ⟨⟨⟨rfl, rfl, rfl, rfl, rfl, rfl⟩, rfl⟩, rfl, rfl, rfl, rfl⟩, by decide, ?_, by decide +kernel, by decide +kernel, by decide +kernel⟩
  intro p hp
  simp only [List.mem_cons, List.not_mem_nil, or_false] at hp
  obtain rfl | rfl | rfl := hp
  all_goals exact ⟨by decide +kernel, by decide +kernel, by decide +kernel, _, rfl, rfl⟩

/-- A designation message about the pair of members 1 and 2, or 8 and 9. -/
def desigBody (lo hi result : Nat) : CallerBody := ⟨BitVec.ofNat 12 lo, BitVec.ofNat 12 hi, 6, BitVec.ofNat 8 result, 0⟩

/-- The member `me` of the pair of 1 and 2, a designation run at a stage. -/
def designating (me : Nat) (run : Option Desig) (caller : Nat := 0xFFFF) : State :=
  let s := fabDev .full fun f => { f with member := me }
  { s with mir := { twinMember := 3 - me }, desig := { run := run, caller := caller } }

theorem witness_CallerDesignation :
    (let s := fabDev .full
     let tag := BitVec.ofNat 64 s.digestTag
     let t : State := { s with fab := { s.fab with routes := [(2, { metric := 1, digestTag := tag })] } }
     t.fabMine (fabRx 1) ∧ (t.fabCounted (fabRx 1)).offerResult 2 (desigBody 8 9 0) = 0) ∧
    ((fabDev .full).fabMine (fabRx 1) ∧ ((fabDev .full).fabCounted (fabRx 1)).offerResult 2 (desigBody 8 9 0) = 3) ∧
    (let s := fabDev .full
     let t : State := { s with callerPairs := [(pairOf 8 9, {})] }
     (t.fabCounted (fabRx 1)).callerPairs.has (bodyPair (desigBody 8 9 0)) = true) ∧
    (let c := (designating 2 none).fabCounted { fabRx 2 with frh := ⟨4, 1, false, 2, 1, 0⟩ }
     (1#12).toNat = c.mir.twinMember ∧ c.designator = false ∧ bodyPair (desigBody 1 2 0) = pairOf c.lowerTwin c.higherTwin) ∧
    (∀ p ∈ [(DesigStage.offering, 2), (.adopting, 7), (.releasing, 7)],
      let r : Desig := { stage := p.1, candidate := p.2 }
      let c := (designating 1 (some r) (if p.1 = .releasing then 2 else 0xFFFF)).fabCounted (fabRx 1)
      c.desig.run = some r ∧ (desigBody 1 2 0).desigSeq.toNat = r.seq ∧ bodyPair (desigBody 1 2 0) = pairOf c.lowerTwin c.higherTwin ∧
      (p.1 = .offering → (fabRx 1).frh.src.toNat = r.candidate) ∧ (p.1 = .adopting → (fabRx 1).frh.src.toNat = c.mir.twinMember ∧ c.desig.caller = 0xFFFF) ∧
      (p.1 = .releasing → (fabRx 1).frh.src.toNat = c.desig.caller)) ∧
    ((desigBody 1 2 0).result = 0 ∧ (desigBody 1 2 1).result ≠ 0) ∧
    (let r : Desig := { stage := .releasing }
     let s : State := { designating 1 (some r) 7 with now := 2000000000000 }
     s.hopsTo s.desig.caller = [] ∧ s.desig.run = some r ∧ r.since + 2 * s.param P.caller_lost_ms * 1000000 ≤ s.now ∧
     (({ s with fab := { s.fab with routes := [(7, { metric := 1, primary := some ⟨0, 0⟩ })] } } : State).hopsTo 7 ≠ [])) := by
  refine ⟨⟨⟨⟨rfl, rfl, rfl, rfl, rfl, rfl⟩, rfl⟩, by decide +kernel⟩, ⟨⟨⟨rfl, rfl, rfl, rfl, rfl, rfl⟩, rfl⟩, by decide +kernel⟩, by decide +kernel, by decide +kernel,
    by decide +kernel, by decide, by decide +kernel⟩

theorem witness_FabricHelloDrops :
    (let s := fabDev .full
     s.fabOn = true ∧ (s.port 0).linkUp = true ∧ (s.portFrame 0 ⟨0, 0⟩).adjSlot 0 3 = some 0 ∧ (s.portFrame 0 ⟨0, 0⟩).fab.adjs.has 0 = true ∧
     ((s.portFrame 0 ⟨0, 0⟩).adj 0).nonce = (hello 5 8).nonce ∧ (hello 5 8).helloSeq.toNat ≤ ((s.portFrame 0 ⟨0, 0⟩).adj 0).lastSeq) ∧
    (let s := fabDev .full fun f => { f with adjs := (List.range 16).map fun i => (i, { mac := 3 }) }
     let c := s.portFrame 0 ⟨0, 0⟩
     s.fabOn = true ∧ (∀ i, i < 16 → c.fab.adjs.has (16 * 0 + i) = true) ∧ (∀ e, e ∈ c.fab.adjs → e.1 / 16 = 0 → e.2.mac ≠ 4)) := by decide +kernel

/-! ### Witnesses: DRAM -/

/-- The device in MAINT with four channels in service. -/
def dramDev : State := { dev with mode := .maint, dram := mem4 }

/-- TRAIN in progress on one channel, with its steps done so far. -/
def trainingDev (steps : Nat) : State :=
  { dev with mode := .train, dram := { channels := 1, train := .running, mcs := [(0, { state := .training, steps := steps })] } }

theorem witness_DramTrainingAndRetirement_DramTraining :
    (let s : State := { dev with mode := .train, dram := { train := .running } }
     s.mode = .train ∧ s.dram.train = .running ∧ s.dram.channels = 0) ∧
    (((trainingDev 1).mc 0).state = .training) ∧
    (let s := trainingDev 7
     s.mode = .train ∧ s.dram.train = .running ∧ s.dram.channels ≠ 0 ∧
     let t := s.pprRepair []
     let u := t.modDram fun d => { d with mcs := d.mcs.mapVals fun ch m =>
       if m.state = .training then
         { m with state := if m.fenced || bit (t.param P.mc_fence) ch then .fenced else if 7 ≤ m.steps then .inService else .training }
       else m }
     ((List.range u.dram.channels).all fun ch => (u.mc ch).state ≠ .training) = true) ∧
    (let s : State := { dev with mode := .maint }
     (∃ p, s.starts (req P.dram_retrain [1, 0]) P.dram_retrain p) ∧ (s.answered (req P.dram_retrain [1, 0])).dram.channels = 0 ∧
     (s.answered (req P.dram_retrain [1, 0])).dram.train ≠ .failed) ∧
    ((∃ p, dramDev.starts (req P.dram_retrain [8, 0]) P.dram_retrain p) ∧
     let a := dramDev.answered (req P.dram_retrain [8, 0])
     (List.range a.dram.channels).filter (fun c => bit (leNat [8, 0]) c) = [3] ∧ a.dram.channels ≠ 0 ∧ bit (a.param P.mc_fence) 3 = false) ∧
    (let a := ({ dramDev with cfg := [(pkey P.mc_fence 0, 8)] } : State).answered (req P.dram_retrain [8, 0])
     (List.range a.dram.channels).filter (fun c => bit (leNat [8, 0]) c && !a.rst.fenced.contains (14 + c)) = [3] ∧ a.dram.train ≠ .failed ∧
     bit (a.param P.mc_fence) 3 = true ∧
     ([(3, 4)] : List (Fin 16 × Nat)).find? (fun f => f.1.val == 3) = some (3, 4) ∧
     ([] : List (Fin 16 × Nat)).find? (fun f => f.1.val == 3) = none ∧
     (List.range a.dram.channels).filter (fun c => bit (leNat [0, 0]) c && !a.rst.fenced.contains (14 + c)) = []) ∧
    ((dramDev.mc 0).state = .inService ∧ (dev.mc 0).state ≠ .inService ∧ (dev.mc 0).state ≠ .training ∧ dev.mode ≠ .train) ∧
    (((trainingDev 1).modMc 0 fun m => { m with steps := max m.steps 2 }).dram.warm = false ∧
      ({ trainingDev 1 with dram := { (trainingDev 1).dram with warm := true } } : State).dram.warm = true) := by
  refine ⟨by decide, by decide, by decide +kernel, ⟨startsNow_starts (by decide +kernel), by decide +kernel, by decide +kernel⟩,
    ⟨startsNow_starts (by decide +kernel), by decide +kernel, by decide +kernel, by decide +kernel⟩, by decide +kernel, by decide, by decide⟩

theorem witness_DramLines :
    dramDev.dramBytes ≤ (BitVec.ofNat 64 (4 * 2 ^ 36)).toNat ∧ (BitVec.ofNat 64 (4 * 2 ^ 36 - 1)).toNat < dramDev.dramBytes ∧
    (let s : State := { dramDev with dram := { dramDev.dram with poison := [64 * 2 ^ 10] } }
     (BitVec.ofNat 64 (64 * 65536)).toNat / 64 ∈ s.dram.poison ∧ (BitVec.ofNat 64 0).toNat / 64 ∉ s.dram.poison ∧
     ∃ cells, s.deepLine ((BitVec.ofNat 64 (64 * 65536)).toNat / 65536) = some cells) ∧
    (let s : State := { regDev with dram := { mem4 with poison := [(home / 65536) * 1024] } }
     home / 64 ∈ s.dram.poison ∧
     (let t : State := { s with pde := { s.pde with segs := [(home / 65536, { state := .dirty })] } }
      t.deepLine (home / 65536) = none ∧ t.ownerOf (home / 65536) = some (0, 0) ∧ t.twinSource (t.desc 0).group = false) ∧
     (let t : State := { s with pde := { s.pde with segs := [(1, { state := .dirty })] } }
      t.deepLine 1 = none ∧ t.ownerOf 1 = none)) ∧
    (let t0 := twinDev (grpIn .active)
     let t : State := { t0 with pde := { t0.pde with segs := [(home / 65536, { state := .dirty })] } }
     t.deepLine (home / 65536) = none ∧ t.ownerOf (home / 65536) = some (0, 0) ∧ t.twinSource (t.desc 0).group = true) ∧
    (let r := dramDev.rqCount 11 64
     r.poisoned 0 = false ∧ (({ dramDev with dram := { dramDev.dram with poison := [0] } } : State).rqCount 11 64).poisoned 0 = true) ∧
    (dramDev.mode ≠ .save ∧ (dramDev.mc (dramDev.channelOf (4 * 2 ^ 36 - 1))).state = .inService ∧
      ((dramDev.rqCount 11 64).dram.scrubLine + 1) * 64 < dramDev.dramBytes ∧
      let s : State := { dramDev with dram := { dramDev.dram with scrubLine := 2 ^ 32 - 1 } }
      s.dramBytes ≤ ((s.rqCount 11 64).dram.scrubLine + 1) * 64) ∧
    (∀ n ∈ [1, 2],
      let s : State := { dramDev with cfg := [(pkey P.ca_retry_limit 0, n)] }
      let u := (((s.modMc 0 fun m => { m with alerts := 1 }).bump P.ca_replays).setFlag (perInst P.mc_err_status 0) 2).fault
        (faultMsg 0x40 0 .ce Kind.caReplay 64)
      (s.mc 0).state = .inService ∧ (if n = 1 then u.param P.ca_retry_limit ≤ 1 else 1 < u.param P.ca_retry_limit)) := by
  refine ⟨by decide +kernel, by decide +kernel, ⟨by decide +kernel, by decide +kernel, ⟨_, rfl⟩⟩, by decide +kernel, by decide +kernel, by decide +kernel, by decide +kernel,
    by decide +kernel⟩

/-- Channel 3 with every spare page taken. -/
def spent : State :=
  { dramDev with mode := .service, dram := { mem4 with mcs := [(3, { state := .inService, remaps := List.replicate 16384 { page := 0, spare := 0 } })] } }

theorem witness_DramTrainingAndRetirement_PageRetirement :
    (∀ a ∈ [0, 4 * 2 ^ 36 - 1, 4 * 2 ^ 36], startsNow { dramDev with mode := .service } (req P.page_retire (leBytes 8 a)) P.page_retire false true = true) ∧
    (let t := ({ dramDev with mode := .service } : State).answered (req P.page_retire (leBytes 8 (4 * 2 ^ 36 - 1)))
     4 * 2 ^ 36 - 1 < t.dramBytes ∧ t.dramBytes ≤ 4 * 2 ^ 36 ∧ (t.mc 3).remaps.length < 16384 ∧ freeSpare (t.mc 3).remaps 1 0 = some 0) ∧
    (let r := req P.page_retire (leBytes 8 12288)
     startsNow spent r P.page_retire false true = true ∧ 12288 < (spent.answered r).dramBytes ∧ 16384 ≤ ((spent.answered r).mc 3).remaps.length) ∧
    (let s : State := { dramDev with dram := { dramDev.dram with mcs := [(0, { state := .inService, remaps := [{ page := 5, spare := 0 }] })] } }
     (s.mc 0).remaps.find? (fun r => r.page == 5 && !r.final) = some { page := 5, spare := 0 }) ∧
    dev.mode = .service ∧ (dramDev.mode ≠ .service ∧ dramDev.mode ≠ .degraded) := by
  refine ⟨by decide +kernel, by decide +kernel, ⟨by decide +kernel, by decide +kernel, ?_⟩, by decide +kernel, rfl, by decide⟩
  obtain ⟨o, d, p, c, e, h⟩ := State.answered_eq spent (req P.page_retire (leBytes 8 12288))
  rw [h]
  show 16384 ≤ (List.replicate 16384 ({ page := 0, spare := 0 } : Remap)).length
  exact Nat.le_of_eq List.length_replicate.symm

/-! ### Witnesses: flash -/

/-- The device with carrier 0 as given. -/
def carDev (c : Carrier) : State := { dev with flash := { cars := [(0, c)] } }

/-- Block 9 of LUN 0, target 0, channel 0 of carrier 0. -/
def blk9 : BlkAddr := ⟨0, 0, 0, 0, 9⟩

/-- The device with that block as given, carrier 0 in service. -/
def blkDev (b : Blk) : State :=
  { dev with flash := { cars := [(0, { state := .inService, present := true, option := option1 })], blks := [(blkKey blk9, b)] } }

theorem witness_CarrierLife :
    (let s := carDev {}
     (s.carrier 0).state = .empty ∧ s.mode = .service ∧ ((s.modCarrier 0 fun x => { x with present := true }).carrier 0).state = .empty ∧
     (s.carrier 0).state ≠ .attaching) ∧
    (((carDev { state := .inService }).modCarrier 0 fun x => { x with present := false }).carrier 0).state = .inService ∧
    (((carDev { state := .offline }).modCarrier 0 fun x => { x with present := false }).carrier 0).state = .offline ∧
    (((carDev { state := .attaching }).carrier 0).state = .attaching ∧ attachFailure ⟨false, [], true, true, 0⟩ = 1 ∧
      attachFailure ⟨true, [], true, true, 0⟩ = 2 ∧ ([] : Bytes).length ≠ 192) ∧
    (let s := carDev { state := .inService, pgood := true }
     (s.carrier 0).pgood = true ∧ (s.rail 10).state ≠ .up ∧
     (((s.modCarrier 0 fun x => { x with pgood := false }).setFlag (perInst P.car_err_status 0) 6).rail 10).state ≠ .up) ∧
    ((carDev { state := .formatting }).carrier 0).state = .formatting ∧ ((carDev { state := .evacuating }).carrier 0).state = .evacuating ∧
    (let s := fun st => ({ carDev { state := st } with mode := .maint } : State)
     (∀ st ∈ [CarState.foreign, .inService],
       startsNow (s st) (req P.carrier_format [0]) P.carrier_format false true = true ∧
       carrierOf ((s st).namedBy (req P.carrier_format [0])) = 0 ∧
       (((s st).answered (req P.carrier_format [0])).carrier 0).state = st ∧
       ((s st).answered (req P.carrier_format [0])).sec.drbgStopped = false ∧
       startsNow (s st) (req P.carrier_detach [0]) P.carrier_detach false true = true ∧
       (((s st).answered (req P.carrier_detach [0])).carrier 0).state = st)) ∧
    (∀ n, n < 8 → (dev.carrier n).state ≠ .inService ∧ (dev.carrier n).state ≠ .retiring) ∧
    (let s := carDev { state := .inService, option := List.replicate 192 0 }
     (s.carrier 0).state = .inService ∧ (∀ n, 0 < n → n < 8 → ((s.writeDynamic 0 1 false).carrier n).state = .empty)) := by
  refine ⟨by decide +kernel, by decide +kernel, by decide +kernel, by decide +kernel, by decide +kernel, by decide +kernel, by decide +kernel,
    by decide +kernel, by decide +kernel, by decide +kernel, ?_⟩
  have h : ∀ n, n < 8 → 0 < n → (((carDev { state := .inService, option := List.replicate 192 0 }).writeDynamic 0 1 false).carrier n).state = .empty := by
    decide +kernel
  exact fun n h0 h8 => h n h8 h0

/-- The block's timeouts on its channel before this one. -/
def timedOut (n : Nat) : State :=
  { blkDev {} with flash := { cars := [(0, { state := .inService, present := true, option := option1, timeouts := List.replicate n (0, 0) })] } }

theorem witness_FlashProgramsAndUpkeep_FlashPrograms :
    (((blkDev {}).carrier (keyCarrier (blkKey blk9))).state.takesErase = true) ∧
    (((blkDev { state := .open_, pointer := 4 }).blk (blkKey blk9)) = { state := .open_, pointer := 4 }) ∧
    (((blkDev { state := .full, pointer := 4 }).blk (blkKey blk9)).state = .full ∧ ((blkDev { state := .erasing }).blk (blkKey blk9)).state = .erasing) ∧
    (∀ n ∈ [1, 2],
      let s := timedOut n
      let u := ((s.emit (.lunReset blk9)).fault (faultMsg 0x50 0 .ucc Kind.timeout 0x00 (.content (blkKey blk9)) (some 0))).setFlag
        (perInst P.car_err_status 0) 3
      let l := (0, u.now) :: (u.carrier 0).timeouts.filter fun x => u.now < x.2 + 1000000000
      keyChannel (blkKey blk9) = 0 ∧ (s.carrier (keyCarrier (blkKey blk9))).state.takesErase = true ∧
      l.countP (fun x => x.1 == 0) = n + 1) ∧
    (let s := blkDev { state := .full }
     let t : State := { s with flash := { s.flash with
       deep := [(5, { kind := .raw, storedLen := 4096 })], sbs := [(0, { channels := [0, 1, 2], blocks := [blkKey blk9, blkKey blk9, blkKey blk9] })] } }
     t.blockUsed (blkKey blk9) = true ∧ (t.carrier (keyCarrier (blkKey blk9))).state.takesErase = true) := by
  refine ⟨by decide +kernel, by decide +kernel, by decide +kernel, by decide +kernel, by decide +kernel⟩

/-- One target, LUN and plane of 20 blocks of 1 GiB. -/
def option20 : Bytes := leBytes 64 (place 488 1 + place 480 1 + place 472 1 + place 464 3 + place 448 20 + place 432 32768 + place 416 32768)

/-- Carrier 0 in service with every block FULL, and superblock 0 full; with an entry on it or not. -/
def fullDev (deep : Tbl DeepEntry) : State :=
  { dev with flash := {
      cars := [(0, { state := .inService, present := true, option := option20 })]
      blks := (List.range 4).flatMap fun ch => (List.range 20).map fun b => (blkKeyOf ch 0 0 b, { state := .full })
      sbs := [(0, { channels := [0, 1, 2, 3], blocks := (List.range 4).map fun ch => blkKeyOf ch 0 0 10, full := true })], deep := deep } }

theorem witness_FlashProgramsAndUpkeep_FlashUpkeep :
    (let s : State := { dev with flash := { journal := 3145728 } }
     3145728 ≤ s.flash.journal ∧ dev.flash.journal < 3145728 ∧ dev.flash.dirtyPages.length < 2048 ∧
     dev.param P.gc_free_low_pct * dev.freeSupers.2 ≤ 100 * dev.freeSupers.1 ∧
     (dev.flash.cars.any fun e => e.2.state.takesErase) = false ∧ ((blkDev {}).flash.cars.any fun e => e.2.state.takesErase) = true) ∧
    (∀ p ∈ [([], true), ([(5, ({ kind := .raw, storedLen := 4096 } : DeepEntry))], false)],
      let s := fullDev p.1
      (s.flash.sbs.keysWhere fun _ b => b.full) = [0] ∧ 100 * s.freeSupers.1 < s.param P.gc_free_low_pct * s.freeSupers.2 ∧
      (s.relocate fun e => !e.noRead && e.superblock == 0).2.2 = p.2) ∧
    (∀ p ∈ [(0, 501, true), (0, 500, false)],
      let s0 := fullDev [(5, { kind := .raw, storedLen := 4096 })]
      let k := blkKeyOf 0 0 0 10
      let s : State := { s0 with flash := { s0.flash with blks := [(k, { state := .full, erases := p.1 }), (k + 1, { state := .full, erases := p.2.1 })]
                                                          sbs := [(0, { channels := [0, 1, 2, 3], blocks := [k, k, k, k], full := true })] } }
      let mine := s.flash.blks.filter fun e => keyCarrier e.1 == 0 && e.2.state ≠ .bad
      let top := mine.foldl (fun m e => max m e.2.erases) 0
      bestBy (fun k => -((s.blk k).erases : Int)) ((mine.map (·.1)).filter s.blockUsed) = some k ∧
      decide ((s.blk k).erases + s.param P.wear_spread_max < top) = p.2.2) ∧
    (let s := blkDev { state := .bad }
     let r := req P.raw_read (leBytes 16 (place 32 9))
     startsNow s r P.raw_read false (leAt r.args 0 1 < 8 && leAt r.args 1 1 < 4 && leAt r.args 2 1 < 8 && leAt r.args 3 1 < 4 &&
       leAt r.args 11 1 < 5) = true ∧
     ((s.answered r).blk (blkKeyOf (4 * leAt r.args 0 1 + leAt r.args 1 1) (leAt r.args 2 1) (leAt r.args 3 1) (leAt r.args 4 4))).state = .bad) ∧
    (∃ p, dev.starts (req P.deep_map_lookup (leBytes 4 7)) P.deep_map_lookup p) := by
  refine ⟨by decide +kernel, by decide +kernel, by decide +kernel, by decide +kernel, startsNow_starts (by decide +kernel)⟩

/-! ### Witnesses: security, faults and events -/

theorem leNat_leBytes : ∀ k n : Nat, n < 256 ^ k → leNat (leBytes k n) = n
  | 0, n, h => by simpa [leBytes, leNat] using (Nat.lt_one_iff.1 (by simpa using h)).symm
  | k + 1, n, h => by
    have h2 : n / 256 < 256 ^ k := by rw [Nat.pow_succ] at h; omega
    simp only [leBytes, leNat, leNat_leBytes k _ h2, BitVec.toNat_ofNat]
    omega

theorem lcConfirm_lt : lcConfirm < 2 ^ 32 := by
  have h : ∀ b : Bytes, leNat b < 256 ^ b.length := by
    intro b
    induction b with
    | nil => simp [leNat]
    | cons a t ih =>
      have := a.isLt
      simp only [leNat, List.length_cons, Nat.pow_succ]
      omega
  have h2 := h ((beBytes 16 Config.deviceUid.toNat).take 4)
  have h3 : 256 ^ ((beBytes 16 Config.deviceUid.toNat).take 4).length ≤ 256 ^ 4 :=
    Nat.pow_le_pow_right (by decide) (by rw [List.length_take]; omega)
  exact Nat.lt_of_lt_of_le h2 h3

/-- A request for a life-cycle state with the device's confirmation word. -/
def lcArgs (dest : Nat) : Bytes := leBytes 4 dest ++ leBytes 4 lcConfirm

/-- The device in a mode and a life-cycle state, its session at the level of R358's OEM operations. -/
def lcDev (m : Mode) (lc : LcState) : State :=
  { dev with mode := m, sec := { lc := lc }, dxe := { sessions := [(0, { state := .open_, level := 3, dsv := 0x0204 })] } }

theorem lcFailure_none {s : State} {level d : Nat} {dest : LcState} {row : Nat × Mode × Bool} (hd : d < 5) (h1 : lcOf d = some dest)
    (h2 : lcRow s.sec.lc dest = some row) (h3 : row.1 ≤ level) (h4 : s.serving = false) (h5 : s.mode = row.2.1) :
    s.lcFailure level (lcArgs d) = none := by
  have hc : leAt (lcArgs d) 4 4 = lcConfirm := leNat_leBytes 4 _ lcConfirm_lt
  have hz : leAt (lcArgs d) 0 1 = d := by
    show (BitVec.ofNat 8 d).toNat + 256 * 0 = d
    rw [BitVec.toNat_ofNat]
    omega
  unfold State.lcFailure
  rw [hz, h1]
  simp only [h2, hc, h4, h5]
  simp [Nat.not_lt.2 h3]

theorem witness_LifeCycleCommands_LifeCycleCommands :
    dev.rst.vddAon = true ∧
    (∃ p, (lcDev .maint .provisioned).starts (req P.lc_transition (List.replicate 8 0)) P.lc_transition p) ∧
    ((lcDev .maint .provisioned).answered (req P.lc_transition (List.replicate 8 0))).lcFailure 3 (List.replicate 8 0) = some 1 ∧
    (∀ c ∈ [(Mode.maint, LcState.provisioned, 2, LcState.deployed, true), (.sealed, .blank, 1, .provisioned, false),
        (.sealed, .returned, 4, .decommissioned, false)],
      let s := lcDev c.1 c.2.1
      let r := req P.lc_transition (lcArgs c.2.2.1)
      (∃ p, s.starts r P.lc_transition p) ∧ (s.answered r).lcFailure 3 r.args = none ∧ lcOf c.2.2.1 = some c.2.2.2.1 ∧
      (∃ row, lcRow s.sec.lc c.2.2.2.1 = some row ∧ row.2.2 = c.2.2.2.2) ∧ (c.2.2.2.1.keyed && s.sec.drbgStopped) = false) ∧
    (∀ z, let r : LcRecord := { from_ := .provisioned, dest := .deployed, slot := 0, zeroed := z }
      let s : State := { dev with mode := .maint, sec := { lcRecord := some r } }
      s.sec.lcRecord = some r ∧ s.mode = .maint ∧ r.zeroed = z) := by
  refine ⟨rfl, startsNow_starts (by decide +kernel), by decide +kernel, ?_, fun _ => ⟨rfl, rfl, rfl⟩⟩
  intro c hc
  simp only [List.mem_cons, List.not_mem_nil, or_false] at hc
  obtain rfl | rfl | rfl := hc
  all_goals
    refine ⟨startsNow_starts (by decide +kernel), ?_, rfl, ⟨_, rfl, rfl⟩, rfl⟩
    rw [(State.answered_eq _ _).choose_spec.choose_spec.choose_spec.choose_spec.choose_spec]
    exact lcFailure_none (by decide) rfl rfl (by decide) rfl rfl

theorem witness_LifeCycleCommands_CipherAndJtag :
    16 ≤ (List.replicate 16 (7 : Byte)).length ∧
    ((lcDev .service .deployed).sec.lc ≠ .blank ∧ (lcDev .service .deployed).sec.lc ≠ .returned) ∧
    (∀ lc ∈ [LcState.blank, .returned], ({ dev with sec := { lc := lc } } : State).sec.lc = lc) ∧
    xtsRefused (BitVec.ofNat 512 (2 ^ 256 + 1)) = true ∧ xtsRefused 1 = false := by decide +kernel

/-- R345, Table 13.2: unit 2 of segment 5, map page 3 and entry 7 of a save plan, and the tweak's first octets. -/
theorem test_xts_units :
    (XtsUnit.deep 5 2).number = 82 ∧ (XtsUnit.page 3).number = 68719476784 ∧ (XtsUnit.save 7).number = 112 ∧
    (XtsUnit.deep 5 2).tweak.take 2 = [82, 0] := by decide +kernel

/-- A header with the magic, the format and a sound CRC. -/
def soundHeader : Bytes :=
  let b : Bytes := List.replicate 502 0 ++ [0, 1] ++ leBytes 4 0x4E524854
  leBytes 4 (crc32c b) ++ b

/-- The slot that holds that header. -/
def soundSlot : ImageSlot := { state := .writing, written := [(0, 512)], bytes := soundHeader.zipIdx.map fun b => (b.2, b.1) }

/-- A chunk of `n` bytes at an offset. -/
def chunk (o n : Nat) : Bytes := leBytes 4 o ++ leBytes 2 n ++ List.replicate 1018 7

/-- The device in MAINT whose inactive slot B is as given. -/
def fwDev (b : ImageSlot) : State := { dev with mode := .maint, sec := { slotB := b } }

theorem soundHeader_sound : headerSound (soundSlot.header) = true := by decide +kernel

theorem witness_FirmwareUpdate :
    (∀ c ∈ [(67108864, 1), (67108860, 4), (512, 0), (512, 1017), (512, 1016), (511, 1)],
      startsNow (fwDev soundSlot) (req P.fw_update_chunk (chunk c.1 c.2)) P.fw_update_chunk false true = true ∧
      leAt (chunk c.1 c.2) 0 4 = c.1 ∧ leAt (chunk c.1 c.2) 4 2 = c.2) ∧
    (let a := (fwDev soundSlot).answered (req P.fw_update_chunk (chunk 512 1016))
     a.sec.active = false ∧ (a.imageSlot true).overlaps 512 1016 = false ∧ (a.imageSlot true).overlaps 511 1 = true) ∧
    (∃ p, (fwDev soundSlot).starts (req P.fw_update_commit [0]) P.fw_update_commit p (argsOk := leNat [0] == 0)) ∧
    (let a := (fwDev soundSlot).answered (req P.fw_update_commit [0])
     a.commitStep (a.imageSlot (!a.sec.active)).header 0 = 0 ∧ a.commitStep (a.imageSlot (!a.sec.active)).header (2#8).toNat = 2) ∧
    (∃ p, (fwDev {}).starts (req P.fw_rollback_commit [0]) P.fw_rollback_commit p (argsOk := leNat [0] == 0)) ∧
    (fwDev {}).sec.preferred = (fwDev {}).sec.active ∧
    ({ fwDev {} with sec := { preferred := true } } : State).sec.preferred ≠ ({ fwDev {} with sec := { preferred := true } } : State).sec.active := by
  refine ⟨by decide +kernel, by decide +kernel, startsNow_starts (by decide +kernel), by decide +kernel, startsNow_starts (by decide +kernel), rfl,
    by decide⟩

/-- The argument of `evt_fetch`: up to 16 records from number 0. -/
def fetchArgs : Bytes := leBytes 8 0 ++ [0, 0, 16, 0]

theorem witness_FaultsAndEvents :
    (∃ p, dev.starts (req P.evt_fetch fetchArgs) P.evt_fetch p (argsOk := 1 ≤ leAt fetchArgs 10 1 && leAt fetchArgs 10 1 ≤ 16)) ∧
    (∃ p, dev.starts (req P.fault_counters_reset [0]) P.fault_counters_reset p) ∧
    (dev.evr.droppedRes = 0 ∧ dev.evr.droppedGen = 0 ∧ 0 < ({ dev with evr := { droppedRes := 1 } } : State).evr.droppedRes ∧
      0 < ({ dev with evr := { droppedGen := 1 } } : State).evr.droppedGen) ∧
    (dev.rst.vddAon = true ∧ State.reset.rst.vddAon = false) := by
  refine ⟨startsNow_starts (by decide +kernel), startsNow_starts (by decide +kernel), by decide, by decide⟩

/-! ### A worked example: Table 14.7 -/

/-- Table 14.7 on MC3, whose status is pE.C03.0000: flags, counters of bits 1 and 3, fault_seq and merges after the first, the second and
the third MEM_UE. -/
theorem test_table_14_7 :
    let line := fun (a rq : Nat) => faultMsg 0x40 3 .ucc Kind.memUe 0 (.content a) (some (64 * a)) rq 1
    let s0 : State := { dramDev with fco := { seq := 80 } }
    let s1 := s0.fault (line 0 11)
    let s2 := s1.fault (line 1 1)
    let s3 := s2.fault (line 2 1)
    let st := 0xEC030000
    let seen := fun (s : State) => (s.flags st, s.stickyCtr.getD (32 * st + 1) 0, s.stickyCtr.getD (32 * st + 3) 0,
      (s.fco.captures.getD 0x4003 {}).seq, (s.fco.captures.getD 0x4003 {}).merges)
    blkParam P.blk_fault_status 0x4003 = st ∧ seen s0 = (0, 0, 0, 0, 0) ∧ seen s1 = (2, 1, 0, 81, 0) ∧ seen s2 = (10, 2, 1, 81, 1) ∧
    seen s3 = (10, 3, 2, 81, 2) := by
  decide +kernel

/-! ### Witnesses and worked examples: power -/

/-- PMBus entry 0 as the supply of rail 1. -/
def railEntry : Nat := place 40 1 + place 16 1

/-- The device with rail 1 in a state and its supply answering. -/
def railDev (r : Nat) (st : RailState) : State :=
  { dev with cfg := [(pkey P.pmbus_rail 0, railEntry)], store := { pmbus := [(0, { state := .ok })] }, pwr := { rails := [(r, { state := st })] } }

theorem witness_SuppliesAndCapacitance_RailsAndFeeds :
    (((railDev 1 .off).rail 1).state ≠ .up ∧ ((railDev 0 .up).rail 0).state = .up ∧ ((railDev 1 .up).rail 1).state = .up ∧
      ((railDev 1 .up).railFail 1 0).store.pmbusFenced = false) ∧
    (let s := railDev 1 .up
     let p : PmbusReading := ⟨0, false, 0, 0, 0⟩
     p.ok = false ∧ (s.sample (List.replicate 24 0)).pmbusLive 0 = true ∧
     let u := ([0x00, 0x79, 0x88, 0x8B, 0x8C, 0x8D, 0x96] : List Nat).foldl (fun s c =>
       s.emit (.pmbus 0 c (if c = 0 then PmbusField.page (s.pmbusEntry 0) else 0))) (s.sample (List.replicate 24 0))
     (u.store.pmbus.getD 0 {}).failedInRow + 1 < 3) ∧
    (dev.store.pmbusFenced = false ∧ dev.mode ≠ .off ∧ State.reset.mode = .off) ∧
    (let t := (dev.setFeed 0 48000 true).event 0x0442 0 [0, 48000]
     dev.rst.cold ≠ .held ∧ dev.feedIn 0 = false ∧ t.mode ≠ .standby) ∧
    (let s : State := { dev with mode := .standby, cfg := [(pkey P.auto_on 0, 1)] }
     let t := (s.setFeed 0 48000 true).event 0x0442 0 [0, 48000]
     s.rst.cold ≠ .held ∧ s.feedIn 0 = false ∧ t.mode = .standby ∧ t.paramOn P.auto_on = true ∧ t.pwr.autoEligible = true) ∧
    (∀ b, let s : State := { dev with store := { feedA := true, feedB := b } }
      s.feedIn 0 = true ∧ decide (((((s.setFeed 0 9 false).bump P.feed_losses).event 0x0441 0 [0, 9]).feedsPresent) = 0) = !b) := by
  decide +kernel

/-- The device in a mode with its power state as given. -/
def pwrDev (m : Mode) (p : Pwr := {}) : State := { dev with mode := m, pwr := p }

theorem witness_PowerSequence_PowerRequests :
    ((pwrDev .standby { onHeld := true }).mode = .standby ∧ (pwrDev .standby { onHeld := true }).pwr.onHeld = true ∧ dev.mode ≠ .standby ∧
      dev.mode ≠ .off ∧ dev.mode ≠ .quiesce) ∧
    (∀ b, (pwrDev .standby { lgmAccess := some 0, falling := b }).pwr.lgmAccess ≠ none ∧
      (pwrDev .standby { lgmAccess := some 0, falling := b }).pwr.falling = b) ∧
    (let a := (pwrDev .service { falling := true }).answered (req P.mode_request [6])
     startsNow (pwrDev .service { falling := true }) (req P.mode_request [6]) P.mode_request false true = true ∧ a.pwr.falling = true) ∧
    ((pwrDev .quiesce { offPending := some 0 }).mode = .quiesce ∧ (pwrDev .quiesce { offPending := some 0 }).pwr.offPending ≠ none) ∧
    ((pwrDev .save { lastOff := .fatal }).mode = .save ∧ (pwrDev .save { lastOff := .fatal }).pwr.lastOff = .fatal ∧
      (pwrDev .save { lastOff := .fatal }).pde.run = none ∧
      ∀ r, ({ pwrDev .save { lastOff := .fatal } with pde := { run := some r } } : State).pde.run = some r) ∧
    ((∃ p, (pwrDev .standby).starts (req P.power_on [0]) P.power_on p) ∧ (∃ p, dev.starts (req P.power_off [0]) P.power_off p) ∧
      (∃ p, dev.starts (req P.power_off [1]) P.power_off p)) ∧
    (∀ c ∈ [(8, Mode.service), (6, .maint), (10, .quiesce), (6, .service)],
      startsNow (pwrDev c.2) (req P.mode_request [BitVec.ofNat 8 c.1]) P.mode_request false true = true ∧
      let a := (pwrDev c.2).answered (req P.mode_request [BitVec.ofNat 8 c.1])
      leNat (req P.mode_request [BitVec.ofNat 8 c.1]).args = c.1 ∧ a.pwr.falling = false ∧ a.mode = c.2 ∧ a.workRunning = false ∧
      a.pwr.maintFromTrain = false) ∧
    (({ pwrDev .maint with flash := { cars := [(0, { state := .formatting })] } } : State).answered (req P.mode_request [6])).workRunning = true := by
  refine ⟨by decide, by decide, by decide +kernel, by decide, ⟨rfl, rfl, rfl, fun _ => rfl⟩, ⟨startsNow_starts (by decide +kernel), startsNow_starts (by decide +kernel),
    startsNow_starts (by decide +kernel)⟩, by decide +kernel, by decide +kernel⟩

/-- RAMP at step 1 with its rail bound to an entry in a state. -/
def ramping (st : PmbusState) (p : Pwr := {}) (step : Nat := 1) : State :=
  { dev with mode := .ramp, cfg := [(pkey P.pmbus_rail 0, railEntry)], store := { pmbus := [(0, { state := st })] }
             pwr := { p with step := step, rising := true } }

theorem witness_PowerSequence_RailSequence :
    (∀ b, let s := ramping .ok { rampAbort := b }
      let t := ((s.stepRails 1).foldl (fun s r => s.setRail r .up) s).modPwr fun p => { p with rising := false }
      s.mode = .ramp ∧ s.pwr.rising = true ∧ s.pwr.falling = false ∧ s.pwr.step ≠ 2 ∧
      ((s.stepRails 1).any fun r => s.railUnbound r || (s.rail r).state = .failed) = false ∧ t.pwr.rampAbort = b ∧ t.stepAfter 1 = some 2) ∧
    (let s := ramping .refused
     ((s.stepRails 1).any fun r => s.railUnbound r || (s.rail r).state = .failed) = true) ∧
    (let s := ramping .ok {} 9
     let t := ((s.stepRails 9).foldl (fun s r => s.setRail r .up) s).modPwr fun p => { p with rising := false }
     ((s.stepRails 9).any fun r => s.railUnbound r || (s.rail r).state = .failed) = false ∧ t.stepAfter 9 = none ∧ t.pwr.rampAbort = false) ∧
    (∀ b, let s := ramping .ok { rampAbort := b }
      (((s.stepRails 1).foldl (fun s r => s.setRail r (if s.railUnbound r || false then .failed else .up)) s).bump P.ramp_failures).pwr.rampAbort = b) ∧
    (∀ g, let s := pwrDev .standby { falling := true, step := 3, goal := g, rails := [(2, { state := .up }), (4, { state := .up })] }
      let t := (s.stepRails 3).foldl (fun s r => if (s.rail r).state = .failed then s else s.setRail r .off) s
      s.pwr.falling = true ∧ t.stepBelow 3 = some 2 ∧ t.pwr.goal = g) ∧
    (let s := pwrDev .standby { falling := true, step := 1 }
     ((s.stepRails 1).foldl (fun s r => if (s.rail r).state = .failed then s else s.setRail r .off) s).stepBelow 1 = none) ∧
    dev.pwr.falling = false := by
  refine ⟨by decide +kernel, by decide +kernel, by decide +kernel, by decide +kernel, ?_, by decide +kernel, rfl⟩
  intro g
  cases g <;> decide +kernel

/-- The capacitance test of the worked example: 2.000 A for 0.800 s lowers the bank of 0.80 F by 2.0 V. -/
theorem test_cap_example :
    (match exec (.capTestEnd 2000 800000 52000) { dev with store := { capPhase := .discharging, v1 := 54000 } } with
      | .next t => t.store.capMf
      | _ => 0) = 800 := by decide +kernel

theorem witness_SuppliesAndCapacitance_CapacitanceTest :
    (∃ p, dev.starts (req P.cap_test [0]) P.cap_test p) ∧
    ((dev.answered (req P.cap_test [0])).store.capPhase = .idle ∧ (dev.answered (req P.cap_test [0])).capDefers = false) ∧
    (let s : State := { bank 800 {} with pde := { reserved := 28 * 16384, budget := { permittedGib := 29 } } }
     let t : State := { s with cfg := [] }
     (∃ p, t.starts (req P.cap_test [0]) P.cap_test p) ∧ (t.answered (req P.cap_test [0])).store.capPhase = .idle ∧
     (t.answered (req P.cap_test [0])).capDefers = true) ∧
    (dev.mode.capTest = true ∧ dev.store.capPhase = .idle ∧ dev.capDefers = false) ∧
    (∀ c, ({ dev with store := { capPhase := c, v1 := 54000 } } : State).store.capPhase = c) ∧ (52000 : Nat) < 54000 ∧
    ((100 : Nat) ≤ 100 ∧ 100 * 1000000 / ((54000 - 52000) * 1000) = 50 ∧ 100 * 999999 / ((54000 - 52000) * 1000) < 50 ∧
      2000 * 100000000 / ((54000 - 52000) * 1000) = 100000 ∧ 100000 < 2000 * 100001000 / ((54000 - 52000) * 1000)) := by
  refine ⟨startsNow_starts (by decide +kernel), by decide +kernel, ⟨startsNow_starts (by decide +kernel), by decide +kernel, by decide +kernel⟩,
    by decide +kernel, fun _ => rfl, by decide, by decide⟩

/-! ### Witnesses: reset, boot, clocks, temperature -/

/-- A cold start at a phase. -/
def coldAt (c : ColdPhase) (on : Bool := true) : State := { State.reset with rst := { vddAon := on, cold := c, refclkOk := true } }

theorem witness_ColdStartAndImages :
    ((coldAt .held false).rst.vddAon = false ∧ (coldAt .held).rst.vddAon = true ∧ (coldAt .held).rst.cold = .held) ∧
    ((pwrDev .standby).rst.vddAon = true ∧ (pwrDev .standby).mode = .standby ∧ (pwrDev .sealed).mode = .sealed ∧ dev.rst.vddAon = true ∧
      dev.mode ≠ .standby ∧ dev.mode ≠ .sealed) ∧
    ((coldAt .rom).rst.cold = .rom ∧ (coldAt .rom).rst.refclkOk = true) ∧
    (let v := fun (s : State) =>
       let t := s.modRst fun r => { r with cold := .done, rootLocked := true, option := .ok, coldStartMs := s.now / 1000000 }
       let u := t.modEvr fun e => { e with cycles := min (e.cycles + 1) (2 ^ 24 - 1) }
       (u.modSec fun x => { x with kekReady := x.keySeed != 0 && !x.killFused }).setMode .standby 8
     let on := fun (n : Nat) => ({ coldAt .rom with cfg := [(pkey P.auto_on 0, n)], store := { feedA := true } } : State)
     (v { coldAt .rom with pwr := { resetHeld := true } }).pwr.resetHeld = true ∧ (v (on 1)).pwr.resetHeld = false ∧ (v (on 1)).paramOn P.auto_on = true ∧
     (v (on 1)).feedsPresent ≠ 0 ∧ (v (on 0)).paramOn P.auto_on = false) ∧
    (let s : State := { fwDev {} with rst := { dev.rst with load := some { slot := false, phase := .header } }, sec := { slotA := soundSlot } }
     s.rst.load = some { slot := false, phase := .header } ∧
     s.headerStep (s.imageSlot false).header ⟨true, true, true⟩ = 0 ∧ s.headerStep (s.imageSlot false).header ⟨true, false, true⟩ = 3) ∧
    (∀ r, ∀ ph ∈ [LoadPhase.body, .started], let l : ImageLoad := { slot := false, phase := ph, restart := r }
      ({ dev with rst := { dev.rst with load := some l } } : State).rst.load = some l ∧ l.phase = ph ∧ l.restart = r) ∧
    (dramDev.trained = true ∧ dev.trained = false) ∧
    (∃ p, (pwrDev .maint).starts (req P.core_restart [0]) P.core_restart p) ∧
    (dev.rst.coresUp = true ∧ dev.gated 3 = false ∧ State.reset.rst.coresUp = false) := by
  refine ⟨by decide, by decide, by decide, by decide +kernel, by decide +kernel, fun _ _ _ => ⟨rfl, rfl, rfl⟩, by decide, startsNow_starts (by decide +kernel),
    by decide +kernel⟩

/-- The device with a domain in reset, fenced or not, and `port_reset` of port 0 in progress or not. -/
def inReset (d : Nat) (fenced port : Bool) : State :=
  { dev with rst := { dev.rst with inReset := [d], fenced := if fenced then [d] else [] }
             dxe := { dev.dxe with results := if port then [(P.port_reset, { state := .pending, arg := [0] })] else [] } }

theorem witness_ClocksAndTemperature :
    (∀ k ∈ [0, 5], startsNow (pwrDev .maint) (req P.port_reset [BitVec.ofNat 8 k]) P.port_reset false true = true) ∧
    (∀ f, (5 : Fin 40).val ∈ (inReset 5 f false).rst.inReset ∧ (inReset 5 f false).portResetOf 5 = false ∧
      (decide ((5 : Fin 40).val ∈ (inReset 5 f false).rst.fenced) = f) ∧ (inReset 5 f true).portResetOf 5 = true ∧
      (4 : Fin 40).val ∉ (inReset 5 f false).rst.inReset) ∧
    (∀ c ∈ [(5, 53151562, false), (5, 53151563, true), (38, 1608000, false), (38, 1608001, true)],
      let t := dev.modRst fun r => { r with freqKhz := r.freqKhz.set c.1 c.2.1 }
      dev.rst.vddAon = true ∧ dev.rst.cold ≠ .held ∧ c.1 < 39 ∧ dev.gated c.1 = false ∧
      offBy (t.nominalKhz c.1) c.2.1 (if 5 ≤ c.1 ∧ c.1 ≤ 10 then 500 else 5000) = c.2.2) ∧
    (let l := fun k : Nat => (BitVec.ofNat 8 k) :: List.replicate 7 (40 : BitVec 8)
     let t := fun k => (coldAt .held).modThermal fun t => { t with sensors := l k }
     (l 120).length = 8 ∧ 120 ≤ (t 120).thermal.hottest ∧ (t 109).thermal.hottest < 110 ∧ 110 ≤ (t 110).thermal.hottest ∧
     (t 120).thermal.tripped = false) ∧
    ((dev.gated 5 && dev.gated 6 && dev.gated 7 && dev.gated 8 && dev.gated 9 && dev.gated 10) = false ∧ offBy 156250 156329 500 = true ∧
     offBy 156250 156328 500 = false ∧ dev.rst.refclkOk = true ∧ (dev.thermal.hottest < 110)) ∧
    (dev.gated 4 = false ∧ dev.gated 38 = false ∧ State.reset.gated 4 = true) := by
  refine ⟨by decide +kernel, by decide +kernel, by decide +kernel, by decide +kernel, by decide +kernel, by decide +kernel⟩

/-! ### Witnesses: the whole machine -/

theorem witness_EveryStepKeepsLifeCycle : State.reset.LifeInv ∧ step State.reset = .next State.reset := by
  refine ⟨⟨by decide, by decide, ?_⟩, rfl⟩
  intro r h
  cases h

theorem witness_LifeCycleGoesOneWay :
    let s : State := { dev with mode := .sealed, sec := { lc := .decommissioned, killFused := true } }
    s.LifeInv ∧ (∃ t, step s = .next t) ∧ s.sec.killFused = true := by
  refine ⟨⟨by decide, by decide, ?_⟩, ⟨_, rfl⟩, rfl⟩
  intro r h
  cases h

theorem witness_OnlyTransitionsChangeLifeCycle :
    (∃ t, step { dev with pending := [.rowPadTimer, .mapFlush] } = .next t ∧ t.pending = [.mapFlush]) ∧
    (∀ r, Instr.rowPadTimer ≠ .lcTransition r) ∧ Instr.rowPadTimer ≠ .lcEraseComplete ∧ (∀ r, Instr.rowPadTimer ≠ .fwRollbackCommit r) := by
  refine ⟨⟨_, rfl, rfl⟩, ?_, ?_, ?_⟩ <;> intros <;> intro h <;> cases h

/-! ### A worked example: READ and its answer -/

/-- The octets of one message sent on a slot. -/
def lastSent : Host.Outcome State Fault Refusal → Bytes
  | .next s => match s.out with
    | .dict _ m :: _ => m
    | _ => []
  | _ => []

/-- The worked example of R61: READ of `session_idle_timeout_s` under DSV 2.4 with tag 0x2A, and the octets of its answer. -/
theorem test_read_example :
    lastSent (exec (.read { req 0x10010001 with tag := 0x2A }) dev) =
      [0x01, 0x01, 0x00, 0x00, 0x04, 0x02, 0x10, 0x00, 0x2A, 0x00, 0x00, 0x00, 0x00, 0x00, 0x00, 0x00,
       0x01, 0x00, 0x01, 0x10, 0x00, 0x00, 0x00, 0x00, 0x00, 0x02, 0x02, 0x00, 0x2C, 0x01, 0x00, 0x00] ∧
    ({ req 0x10010001 with tag := 0x2A } : Req).octets .read =
      [0x01, 0x00, 0x00, 0x00, 0x04, 0x02, 0x08, 0x00, 0x2A, 0x00, 0x00, 0x00, 0x00, 0x00, 0x00, 0x00,
       0x01, 0x00, 0x01, 0x10, 0x00, 0x00, 0x00, 0x00] := by decide +kernel

/-- The worked example of R287: sixteen channels of one 256 GiB DIMM; the line at FF_EFC3_5A40 lies on MC5 at DA40. -/
theorem test_dram_address_example :
    let s : State := { dev with dram := { channels := 16, cu := 274877906944 - 68157440 } }
    s.dram.cu = 274809749504 ∧ s.setBytes = 0xFFEFC00000 ∧ s.channelOf 0xFFEFC35A40 = 5 ∧ s.chAddr 0xFFEFC35A40 = 0xDA40 ∧
    s.addrOf 5 0xDA40 = 0xFFEFC35A40 ∧ 0xFFEFC35A40 / segBytes = 0xFFEFC3 := by decide +kernel

/-- The keys of Table 3.9: the rekey of 0x0004_2A07 makes 0x0004_2A08. -/
theorem test_rekey_example :
    akIndex 0x00042A07 = 0x42A ∧ akGen 0x00042A07 = 7 ∧ nextGen 7 = 8 ∧ akOf 0x42A 8 = 0x00042A08 := by decide

/-- The worked example of R341: two carriers of 3 GiB allow 4 GiB by their area, one 1 GiB. -/
theorem test_small_appliance_example :
    let s := fun (n : Nat) => ({ bank 1250 {} with
      pde := { budget := { rateMbps := 14000 } }
      flash := { cars := (List.range n).map fun k => (k, { state := .inService, present := true, erasedSlot0 := true, usableMib := 3072 }) } } : State)
    ((s 2).saveAreaMib = 6144 ∧ (s 2).candidate = (4, .area)) ∧ ((s 1).saveAreaMib = 3072 ∧ (s 1).candidate.1 = 1) := by decide +kernel

/-- The distances of Table 4.10, and the write of its first row once placed and answered is not placed again: its PSN is behind. -/
theorem test_psn_example : psnSub 0x1201 0x1200 = 1 ∧ psnSub 0x1201 0x0DFC = 1029 := by decide

end Sys2Proof.Tests
end

/-!
The statements on UNSUBSCRIBE (R53) and `sess_close` (R66).
-/

namespace Sys2Proof.Machine

/-! ### Sessions of other slots

What a request on one slot leaves of the session of another. -/

theorem State.session_modSession_ne (s : State) {j k : Nat} (f : Session → Session) (h : j ≠ k) :
    (s.modSession k f).session j = s.session j := Tbl.getD_upd_ne _ _ _ h

@[simp] theorem State.emitMgt_session (s : State) (o : Out) (k : Nat) : (s.emitMgt o).session k = s.session k := by
  obtain ⟨_, _, e⟩ := s.emitMgt_eq o
  rw [e]
  rfl

theorem State.countRecord_session_ne (s : State) {j k : Nat} (rx : Bool) (h : j ≠ k) : (s.countRecord k rx).session j = s.session j := by
  unfold State.countRecord
  extract_lets t r w
  split <;> simp [State.session_modSession_ne _ _ h]

theorem State.takeRecord_session_ne (s : State) {j k : Nat} (h : j ≠ k) : (s.takeRecord k).session j = s.session j := by
  unfold State.takeRecord
  dsimp only
  split <;> simp [State.countRecord_session_ne _ _ h, State.session_modSession_ne _ _ h]

theorem State.arrive_session_ne (s : State) (r : Req) (ty : MsgType) {j : Nat} (h : j ≠ r.slot.val) :
    (s.arrive r ty).session j = s.session j := by
  have e := s.takeRecord_session_ne h
  unfold State.arrive
  dsimp only
  split <;> exact e

theorem State.sendDict_session_ne (s : State) (m : Bytes) {j k : Nat} (h : j ≠ k) : (s.sendDict k m).session j = s.session j := by
  have e : (if k < 16 then s.emitMgt (.dict k m) else s.emit (.dict k m)).session j = s.session j := by
    split
    · exact s.emitMgt_session _ j
    · rfl
  unfold State.sendDict
  dsimp only
  split
  · exact e
  · exact (State.countRecord_session_ne _ _ h).trans e

theorem State.respond_session_ne (s : State) (r : Req) (ty : MsgType) (st q : Nat) (g : Bool) (b : Bytes) {j : Nat} (h : j ≠ r.slot.val) :
    (s.respond r ty st q g b).session j = s.session j :=
  (State.session_modSession_ne _ _ h).trans (s.sendDict_session_ne _ h)

@[simp] theorem State.levelWrite_session (s : State) (k n i j : Nat) : (s.levelWrite k n i).session j = s.session j := by
  obtain ⟨_, _, _, _, e⟩ := s.levelWrite_eq k n i
  rw [e]
  rfl

/-- The answer of a COMMAND leaves the session of every other slot. -/
theorem State.answered_session_ne (s : State) (r : Req) {j : Nat} (h : j ≠ r.slot.val) : (s.answered r).session j = s.session j := by
  unfold State.answered
  extract_lets num t q u
  have hu : u.session j = t.session j := by
    simp only [u, State.session, State.modDxe_dxe, State.touchLgm_dxe]
  calc ((u.respond r .command Status.ok q false []).levelWrite r.slot num (itemAt r.body).2).session j
      = (u.respond r .command Status.ok q false []).session j := State.levelWrite_session _ _ _ _ _
    _ = u.session j := u.respond_session_ne r _ _ _ _ _ h
    _ = t.session j := hu
    _ = s.session j := s.arrive_session_ne r _ h

/-! ### Closing a session -/

theorem State.closeSession_of_not_live {s : State} {k : Nat} (h : (s.session k).live = false) : s.closeSession k = s := by
  simp [State.closeSession, h]

theorem State.closeSession_free {s : State} {k : Nat} (h : (s.session k).state = .free) : s.closeSession k = s :=
  State.closeSession_of_not_live (by simp [Session.live, h])

theorem State.emitMgt_dxe (s : State) (o : Out) : (s.emitMgt o).dxe = s.dxe := by
  obtain ⟨_, _, e⟩ := s.emitMgt_eq o
  rw [e]

theorem State.closeSession_subs {s : State} {k : Nat} (h : (s.session k).live = true) :
    (s.closeSession k).dxe.subs = s.dxe.subs.filter fun b => b.slot != k := by
  unfold State.closeSession
  rw [if_pos h]
  split
  · exact congrArg (fun d : Dxe => d.subs.filter fun b => b.slot != k) (s.emitMgt_dxe _)
  · rfl

/-! ### UNSUBSCRIBE (R53) -/

theorem State.takes_wellFormed {s : State} {r : Req} {ty : MsgType} (h : s.takes r ty = true) : r.wellFormed ty = true := by
  simp only [State.takes, Bool.and_eq_true] at h
  obtain ⟨⟨⟨-, hwf⟩, -⟩, -⟩ := h
  exact hwf

theorem Req.unsubscribe_length {r : Req} (h : r.wellFormed .unsubscribe = true) : r.body.length = 4 := by
  simp only [Req.wellFormed, Bool.and_eq_true, beq_iff_eq] at h
  exact h.2

/-- The subscriptions that an UNSUBSCRIBE of a session keeps: those of other sessions, and, where it does not name all, those under
another sub_id. -/
def keptSubs (slot id : Nat) (l : List Sub) : List Sub := l.filter fun b => b.slot != slot || (id != 0xFFFF && b.subId != id)

theorem keptSubs_all (slot : Nat) (l : List Sub) : keptSubs slot 0xFFFF l = l.filter fun b => b.slot != slot := by
  simp [keptSubs]

theorem keptSubs_one {id : Nat} (h : id ≠ 0xFFFF) (slot : Nat) (l : List Sub) :
    keptSubs slot id l = l.filter fun b => !(b.slot == slot && b.subId == id) := by
  simp [keptSubs, bne, beq_false_of_ne h]

theorem keptSubs_not_held {slot id : Nat} {l : List Sub} (h : id ≠ 0xFFFF) (hl : ∀ b, b ∈ l → b.slot = slot → b.subId ≠ id) :
    keptSubs slot id l = l := by
  rw [keptSubs_one h, List.filter_eq_self]
  intro b hb
  have hne := hl b hb
  simpa [← imp_iff_not_or] using hne

/-- An UNSUBSCRIBE that is taken leaves the subscriptions that it does not remove, and is answered OK. -/
theorem exec_unsubscribe {s : State} {r : Req} (h : s.takes r .unsubscribe = true) :
    exec (.unsubscribe r) s = .next (State.respond { s.arrive r .unsubscribe with dxe := { (s.arrive r .unsubscribe).dxe with
      subs := keptSubs r.slot.val (leAt r.body 0 2) s.dxe.subs } } r .unsubscribe Status.ok 0 false []) := by
  have e : exec (.unsubscribe r) s = .next (s.request r .unsubscribe fun s => s.unsubscribe r) := rfl
  rw [e, State.request_takes h, ← s.arrive_subs r .unsubscribe]
  rfl

/-- Settles O58: the filter of UNSUBSCRIBE, in its three cases, and the filter of a close. -/
theorem unsubscribeRemoves : Obligations.UnsubscribeRemoves := by
  unfold Obligations.UnsubscribeRemoves
  refine ⟨fun r s h => ?_, fun s k h => State.closeSession_subs h⟩
  intro id a left
  have e : exec (.unsubscribe r) s = .next (left (keptSubs r.slot.val id s.dxe.subs)) := exec_unsubscribe h
  refine ⟨Req.unsubscribe_length (State.takes_wellFormed h), fun hid => ?_, fun hid => ?_, fun hid hl => ?_⟩
  · rw [e, hid, keptSubs_all]
  · rw [e, keptSubs_one hid]
  · rw [e, keptSubs_not_held hid hl]

/-! ### `sess_close` (R66) -/

/-- No area above 15 has parameters. -/
theorem areaCatalogue_of_ge {a : Nat} (h : 16 ≤ a) : areaCatalogue a = [] := by
  obtain ⟨k, rfl⟩ := Nat.exists_eq_add_of_le' h
  rfl

theorem mem_catalogue_of_findParam {n : Nat} {p : Param} (h : findParam n = some p) : p ∈ catalogue := by
  have hp : p ∈ areaCatalogue (n / 2 ^ 28) := List.mem_of_find?_eq_some h
  have ha : n / 2 ^ 28 < 16 := by
    by_contra hge
    rw [areaCatalogue_of_ge (Nat.le_of_not_lt hge)] at hp
    cases hp
  exact List.mem_flatMap.2 ⟨_, List.mem_range.2 ha, hp⟩

theorem State.findParam_of_schemaParam {s : State} {slot num idx : Nat} {p : Param} (h : s.schemaParam slot num idx = some p) :
    findParam (schemaNum (s.session slot).dsv num) = some p := by
  unfold State.schemaParam at h
  dsimp only at h
  cases hq : findParam (schemaNum (s.session slot).dsv num) with
  | none => rw [hq] at h; cases h
  | some q =>
    rw [hq] at h
    (repeat' split at h) <;> simp_all

/-- What the catalogue says of `sess_close`: a COMMAND of Custodian level, without an enumeration as its argument, and not
served by firmware. -/
theorem catalogue_sessClose : ∀ p ∈ catalogue, p.num = P.sess_close → p.access = .cmd ∧ p.level = 2 ∧ p.ty = .u8 ∧ p.fw = false := by
  decide +kernel

/-- A `sess_close` that is permitted in the mode, has its argument and does not run is refused only for the level of its session. -/
theorem State.sessClose_refusal {s : State} {r : Req} {p : Param} (hn : s.names r P.sess_close p) (hmode : bit p.modes s.mode.code = true)
    (hlen : r.args.length = p.len) (harg : p.inRange (leNat r.args) = true) (hrun : s.running (s.namedBy r) = false) (own : Bool) :
    s.commandRefusal r p (s.namedBy r) own true =
      if (s.session r.slot).level < 2 ∧ own = false then some Status.accessDenied else none := by
  obtain ⟨hp, hnum, -⟩ := hn
  obtain ⟨hcmd, hlevel, hty, hfw⟩ := catalogue_sessClose p (mem_catalogue_of_findParam (State.findParam_of_schemaParam hp)) hnum
  simp [State.commandRefusal, State.fwBlocked, enumUnknown, hcmd, hlevel, hty, hfw, hmode, hlen, harg, hrun]

/-- A COMMAND of a row against which a refusal stands is answered with it. -/
theorem State.command_refused {s : State} {r : Req} {first : Nat} {p : Param} {st : Nat} (run : Nat → Bytes → State → State)
    (own : Nat → Bool) (argsOk : Bytes → Bool) (ht : s.takes r .command = true) (hn : s.names r first p)
    (h : s.commandRefusal r p (s.namedBy r) (own (s.namedBy r)) (argsOk r.args) = some st) :
    s.command r first run own argsOk = (s.arrive r .command).refuse r .command st := by
  obtain ⟨hp, hnum, hs⟩ := hn
  have hd := (s.arrive_session r .command).2.1
  have hserved := (s.arrive_served r .command (s.namedBy r)).trans hs
  unfold State.command
  rw [State.request_takes ht]
  dsimp only
  rw [State.schemaParam_arrive, hp, hd, show schemaNum (s.session r.slot).dsv (itemAt r.body).1 = s.namedBy r from rfl]
  simp only [hserved, hnum, Bool.not_true, Bool.false_eq_true, if_false, ne_eq, not_true_eq_false, State.commandRefusal_arrive, h]

section
variable {s : State} {r : Req} {p : Param}

/-- The requester's own slot, for which any level will do (R66). -/
def ownSlot (r : Req) (num : Nat) : Bool := num == perInst P.sess_close r.slot.val

theorem exec_sessClose_starts (ht : s.takes r .command = true) (hn : s.names r P.sess_close p)
    (h : s.commandRefusal r p (s.namedBy r) (ownSlot r (s.namedBy r)) true = none) :
    exec (.sessClose r) s =
      .next (((s.answered r).closeSession ((s.namedBy r - P.sess_close) / 65536)).done (s.namedBy r)) :=
  congrArg Host.Outcome.next (State.command_starts _ (ownSlot r) (fun _ => true) ⟨ht, hn, h⟩)

theorem exec_sessClose_refused {st : Nat} (ht : s.takes r .command = true) (hn : s.names r P.sess_close p)
    (h : s.commandRefusal r p (s.namedBy r) (ownSlot r (s.namedBy r)) true = some st) :
    exec (.sessClose r) s = .next ((s.arrive r .command).refuse r .command st) :=
  congrArg Host.Outcome.next (State.command_refused _ (ownSlot r) (fun _ => true) ht hn h)

end

/-- Settles O59: `sess_close` is refused only for its level, of which the own slot is exempt; closing a FREE slot is the identity. -/
theorem sessCloseLevels : Obligations.SessCloseLevels := by
  unfold Obligations.SessCloseLevels
  intro r s p ht hn hmode hlen harg hrun num k own
  have href := State.sessClose_refusal hn hmode hlen harg hrun (ownSlot r num)
  have hown : ownSlot r num = true ↔ own := beq_iff_eq
  have hstarts (h : own ∨ 2 ≤ (s.session r.slot).level) :
      exec (.sessClose r) s = .next (((s.answered r).closeSession k).done num) := by
    refine exec_sessClose_starts ht hn (href.trans (if_neg fun ⟨hlow, hother⟩ => ?_))
    rcases h with h | h
    · simp [hown.2 h] at hother
    · omega
  refine ⟨fun h => hstarts (.inl h), fun h hlow => ?_, fun _ h => hstarts (.inr h), fun _ h hfree hk => ?_⟩
  · have hother : ownSlot r num = false := Bool.eq_false_iff.2 (mt hown.1 h)
    exact exec_sessClose_refused ht hn (href.trans (if_pos ⟨hlow, hother⟩))
  · have hfree' : ((s.answered r).session k).state = .free := by rw [s.answered_session_ne r hk, hfree]
    rw [hstarts (.inr h), State.closeSession_free hfree']

end Sys2Proof.Machine

/-!
The statement on HELLO datagrams that are dropped (R262).
-/

namespace Sys2Proof.Machine

/-! ### The adjacency of a source -/

theorem Tbl.mem_keysWhere {α : Type} {t : Tbl α} {q : Nat → α → Bool} {k : Nat} :
    k ∈ t.keysWhere q ↔ ∃ a, (k, a) ∈ t ∧ q k a = true := by
  simp [Tbl.keysWhere]

/-- A source finds only slots of its own port. -/
theorem State.adjSlot_port {s : State} {port : Nat} {mac : BitVec 48} {k : Nat} (h : s.adjSlot port mac = some k) : k / portSlots = port := by
  unfold State.adjSlot at h
  split at h
  next j hj =>
    obtain rfl : j = k := Option.some.inj h
    obtain ⟨a, -, ha⟩ := Tbl.mem_keysWhere.1 (List.mem_of_head? hj)
    simp only [Bool.and_eq_true, beq_iff_eq] at ha
    exact ha.1
  next =>
    obtain ⟨i, hi, rfl⟩ := List.mem_map.1 (List.mem_of_find?_eq_some h)
    have := List.mem_range.1 hi
    simp only [adjKey, portSlots] at this ⊢
    omega

/-- A further source at a port with every slot taken finds none. -/
theorem State.adjSlot_full {s : State} {port : Nat} {mac : BitVec 48} (hfull : ∀ i, i < portSlots → s.fab.adjs.has (adjKey port i) = true)
    (hnew : ∀ e, e ∈ s.fab.adjs → e.1 / portSlots = port → e.2.mac ≠ mac) : s.adjSlot port mac = none := by
  have hunknown : (s.fab.adjs.keysWhere fun k a => k / portSlots == port && a.mac == mac) = [] := by
    refine List.eq_nil_iff_forall_not_mem.2 fun k hk => ?_
    obtain ⟨a, hmem, ha⟩ := Tbl.mem_keysWhere.1 hk
    simp only [Bool.and_eq_true, beq_iff_eq] at ha
    exact hnew (k, a) hmem ha.1 ha.2
  have htaken : (((List.range portSlots).map (adjKey port)).find? fun k => !s.fab.adjs.has k) = none := by
    simpa using hfull
  unfold State.adjSlot
  rw [hunknown, htaken]
  rfl

/-! ### HELLO datagrams that are dropped -/

theorem State.portFrame_fab (s : State) (n : Nat) (f : Fec) : (s.portFrame n f).fab = s.fab := by
  obtain ⟨c, hc⟩ := s.portFrame_counts n f
  rw [hc]

/-- A HELLO heard earlier from the adjacency at `k`: its number is not above the last one under the same nonce. -/
def State.heardBefore (s : State) (k : Nat) (b : FabHello) : Prop :=
  s.fab.adjs.has k = true ∧ (s.adj k).nonce = b.nonce ∧ b.helloSeq.toNat ≤ (s.adj k).lastSeq

/-- A HELLO without fault in its frame is dropped unless its tag verifies, its source has a slot and it was not heard before. -/
theorem exec_fabricHello_dropped {port : Fin 4} {mac : BitVec 48} {fec : Fec} {b : FabHello} {s : State} {slot : Option (Fin 2)}
    (hon : s.fabOn = true) (hup : (s.port port.val).linkUp = true) (hfec : fec.uncorrectable = 0)
    (hdrop : ∀ key k, slot = some key → (s.portFrame port.val fec).adjSlot port.val mac = some k →
      (s.portFrame port.val fec).heardBefore k b) :
    exec (.fabricHello port mac fec b slot) s = .next ((s.portFrame port.val fec).bump P.fabric_rx_dropped).settle := by
  have hexec : exec (.fabricHello port mac fec b slot) s =
      .next (s.fabricHello port.val fec mac b (slot.map (·.val))).settle := rfl
  rw [hexec]
  congr 2
  unfold State.fabricHello
  rw [if_neg (by simp [hon, hup]), if_neg (by simp [hfec])]
  split
  next key k hkey hk =>
    obtain ⟨i, hi, -⟩ := Option.map_eq_some_iff.1 hkey
    obtain ⟨hhas, hnonce, hseq⟩ := hdrop i k hi hk
    exact if_pos (by simp [hhas, hnonce, hseq])
  next => rfl

/-- Settles O60: a failed tag, an old number and a source without a slot are the three ways to meet the condition of a drop, and
counters are all that a drop writes. -/
theorem fabricHelloDrops : Obligations.FabricHelloDrops := by
  unfold Obligations.FabricHelloDrops
  intro port mac fec b s hon hup hfec c dropped
  refine ⟨exec_fabricHello_dropped hon hup hfec nofun, s.portFrame_fab port.val fec, fun key k hk => ?_, fun hfull hnew key => ?_⟩
  · have hport : k / 16 = port.val := State.adjSlot_port hk
    refine ⟨by omega, by omega, fun hhas hnonce hseq => exec_fabricHello_dropped hon hup hfec fun _ j _ hj => ?_⟩
    obtain rfl : k = j := Option.some.inj (hk.symm.trans hj)
    exact ⟨hhas, hnonce, hseq⟩
  · have hnone : c.adjSlot port.val mac = none := State.adjSlot_full hfull hnew
    refine exec_fabricHello_dropped hon hup hfec fun _ j _ hj => ?_
    cases hnone.symm.trans hj

end Sys2Proof.Machine

/-!
The statements on the queue and the life cycle (R356 to R359, Table 13.6).
-/

namespace Sys2Proof.Machine

set_option maxRecDepth 4000

/-! ### What a command does to the life cycle -/

/-- The moves of the life cycle: none, the begin of a transition that wipes, the entry into a target state, that of an
outstanding transition included, and a raise of the minimum security version. -/
inductive LifeMove : LcState × Bool × Nat × Option LcState → LcState × Bool × Nat × Option LcState → Prop
  | none (x) : LifeMove x x
  | begins (lc k m o d) : (lcRow lc d).isSome = true → LifeMove (lc, k, m, o) (lc, k, m, some d)
  | enters (lc k m o d) : (lcRow lc d).isSome = true → LifeMove (lc, k, m, o) (d, k || d == .decommissioned, m, Option.none)
  | finishes (lc k m d) : LifeMove (lc, k, m, some d) (d, k || d == .decommissioned, m, Option.none)
  | raises (lc k m o n) : n ≤ 64 → LifeMove (lc, k, m, o) (lc, k, max m n, o)

/-- `State.LifeInv` as a property of what `Sec.lifeOf` shows. -/
def LifeSound (x : LcState × Bool × Nat × Option LcState) : Prop :=
  x.2.2.1 ≤ 64 ∧ (x.2.1 = true ↔ x.1 = .decommissioned) ∧ ∀ d, x.2.2.2 = some d → (lcRow x.1 d).isSome = true

theorem State.lifeInv_iff (s : State) : s.LifeInv ↔ LifeSound s.sec.lifeOf := by
  simp [State.LifeInv, LifeSound, Sec.lifeOf, -Sec.lifeOf_eta]

/-- DECOMMISSIONED has no row. -/
theorem lcRow_source_ne {lc d : LcState} (h : (lcRow lc d).isSome = true) : lc ≠ .decommissioned := by
  rintro rfl
  cases h

theorem LifeMove.keeps_sound {x y : LcState × Bool × Nat × Option LcState} (h : LifeMove x y) (hx : LifeSound x) : LifeSound y := by
  obtain ⟨hmin, hkill, hrow⟩ := hx
  have enters {lc k d} (hd : (lcRow lc d).isSome = true) (hkill : k = true ↔ lc = .decommissioned) :
      (k || d == .decommissioned) = true ↔ d = .decommissioned := by
    have hk : k = false := Bool.eq_false_iff.2 fun hk => lcRow_source_ne hd (hkill.1 hk)
    simp [hk]
  cases h with
  | none => exact ⟨hmin, hkill, hrow⟩
  | begins lc k m o d hd =>
    refine ⟨hmin, hkill, fun e he => ?_⟩
    obtain rfl : d = e := Option.some.inj he
    exact hd
  | enters lc k m o d hd => exact ⟨hmin, enters hd hkill, nofun⟩
  | finishes lc k m d => exact ⟨hmin, enters (hrow d rfl) hkill, nofun⟩
  | raises lc k m o n hn => exact ⟨Nat.max_le.2 ⟨hmin, hn⟩, hkill, hrow⟩

/-- A move raises the minimum security version or leaves it, changes the state along a row of Table 13.6, and leaves a device whose kill
fuse is burnt as it is. -/
theorem LifeMove.one_way {x y : LcState × Bool × Nat × Option LcState} (h : LifeMove x y) (hx : LifeSound x) :
    x.2.2.1 ≤ y.2.2.1 ∧ (y.1 = x.1 ∨ (lcRow x.1 y.1).isSome = true) ∧ (x.2.1 = true → y.2.1 = true ∧ y.1 = x.1) := by
  obtain ⟨-, hkill, hrow⟩ := hx
  cases h with
  | none => exact ⟨le_rfl, .inl rfl, fun hk => ⟨hk, rfl⟩⟩
  | begins => exact ⟨le_rfl, .inl rfl, fun hk => ⟨hk, rfl⟩⟩
  | enters lc k m o d hd => exact ⟨le_rfl, .inr hd, fun hk => absurd (hkill.1 hk) (lcRow_source_ne hd)⟩
  | finishes lc k m d => exact ⟨le_rfl, .inr (hrow d rfl), fun hk => absurd (hkill.1 hk) (lcRow_source_ne (hrow d rfl))⟩
  | raises => exact ⟨le_max_left _ _, .inl rfl, fun hk => ⟨hk, rfl⟩⟩

/-- From `s` to `t` the queue stays and the life cycle makes one move. -/
def State.MovesLife (s t : State) : Prop := t.pending = s.pending ∧ LifeMove s.sec.lifeOf t.sec.lifeOf

theorem State.KeepsLife.moves {s t : State} (h : s.KeepsLife t) : s.MovesLife t := ⟨h.1, h.2 ▸ .none _⟩

/-- A move between two stretches that leave the life cycle. -/
theorem State.MovesLife.between {s t u v : State} (h : t.MovesLife u) (hs : s.KeepsLife t) (hu : u.KeepsLife v) : s.MovesLife v := by
  obtain ⟨hpending, hmove⟩ := h
  refine ⟨hu.1.trans (hpending.trans hs.1), ?_⟩
  rw [hu.2, ← hs.2]
  exact hmove

/-- The outcome of a command is no state, or one that leaves the queue and the life cycle. -/
def LeavesLife (s : State) (o : Host.Outcome State Fault Refusal) : Prop := ∀ t, o = .next t → s.KeepsLife t

theorem LeavesLife.next {s t : State} (h : t.pending = s.pending ∧ t.sec.lifeOf = s.sec.lifeOf) : LeavesLife s (.next t) := by
  rintro u ⟨⟩
  exact h

theorem LeavesLife.fault {s : State} {f : Fault} : LeavesLife s (.fault f) := by
  rintro t ⟨⟩

theorem LeavesLife.ite {s : State} {c : Prop} [Decidable c] {a b : Host.Outcome State Fault Refusal} (ha : LeavesLife s a)
    (hb : LeavesLife s b) : LeavesLife s (if c then a else b) := by
  split
  · exact ha
  · exact hb

/-- Every command but `lc_transition`, the end of its erase and `fw_rollback_commit` leaves the queue and the life cycle: its meaning is
made of operations that do, each by its lemma. -/
theorem exec_leavesLife {c : Instr} (s : State) (hlc : ∀ r, c ≠ .lcTransition r) (herase : c ≠ .lcEraseComplete)
    (hroll : ∀ r, c ≠ .fwRollbackCommit r) : LeavesLife s (exec c s) := by
  cases c with
  | lcTransition r => exact absurd rfl (hlc r)
  | lcEraseComplete => exact absurd rfl herase
  | fwRollbackCommit r => exact absurd rfl (hroll r)
  | dramUncorrectedRead | lineRepair | scrubRead => exact .ite .fault (.next (by simp))
  | mgtFrameReceived | clientHello | handshakeComplete | periodicNotify | refillNext | saveRecordWriting | saveDirectoryPlanned
  | saveComplete | leaseRequestRepeat | callerOfferTimeout | callerReleaseRepeat | changeReplyTimeout | fatalPlanTimeout
  | bootHeaderChecked | imageCopyComplete | callerReplyTimeout =>
    refine .next ?_
    (repeat' split) <;> simp
  | optionAreaUpdate =>
    refine .next (State.foldl_keeps _ _ (fun t n => ?_) s)
    split <;> simp
  | _ => exact .next (by simp)
/-! ### The three commands of the life cycle -/

/-- A request is answered by the shared operations, or goes to its own meaning on the state in which it has arrived. -/
theorem State.request_movesLife {s : State} {r : Req} {ty : MsgType} {f : State → State} (hf : s.MovesLife (f (s.arrive r ty))) :
    s.MovesLife (s.request r ty f) := by
  have hkeeps {t : State} (h : t.pending = s.pending ∧ t.sec.lifeOf = s.sec.lifeOf) : s.MovesLife t := State.KeepsLife.moves h
  unfold State.request
  dsimp only
  split
  · exact hkeeps (by simp)
  split
  · exact hkeeps (by simp)
  split
  · (repeat' split) <;> exact hkeeps (by simp)
  split
  · exact hkeeps (by simp)
  split
  · exact hkeeps (by simp)
  · exact hf

/-- A COMMAND is answered by the shared operations, or runs its operation on a state with the same queue and life cycle. -/
theorem State.command_movesLife {s : State} {r : Req} {first : Nat} {run : Nat → Bytes → State → State} {own : Nat → Bool}
    {argsOk : Bytes → Bool} (hrun : ∀ n a t, s.KeepsLife t → s.MovesLife (run n a t)) :
    s.MovesLife (s.command r first run own argsOk) := by
  have hkeeps {t : State} (h : t.pending = s.pending ∧ t.sec.lifeOf = s.sec.lifeOf) : s.MovesLife t := State.KeepsLife.moves h
  refine State.request_movesLife ?_
  dsimp only
  split
  · exact hkeeps (by simp)
  split
  · exact hkeeps (by simp)
  split
  · split <;> exact hkeeps (by simp)
  split
  · exact hkeeps (by simp)
  · exact hrun _ _ _ (by simp [State.KeepsLife])

theorem State.MovesLife.settle {s t : State} (h : s.MovesLife t) : s.MovesLife t.settle := h.between (.refl s) t.settle_life

/-- `lc_transition` names a row of Table 13.6 wherever it does not fail. -/
theorem State.lcRow_of_lcFailure {s : State} {level : Nat} {a : Bytes} {dest : LcState} (h : s.lcFailure level a = none)
    (hd : lcOf (leAt a 0 1) = some dest) : (lcRow s.sec.lc dest).isSome = true := by
  unfold State.lcFailure at h
  rw [hd] at h
  cases hrow : lcRow s.sec.lc dest with
  | none => simp [hrow] at h
  | some row => rfl

theorem State.enterLc_life (s : State) (dest : LcState) :
    (s.enterLc dest).pending = s.pending ∧
      (s.enterLc dest).sec.lifeOf = (dest, s.sec.killFused || dest == .decommissioned, s.sec.minSecurity, none) := by
  unfold State.enterLc
  by_cases hd : dest = .decommissioned <;> simp [hd, State.killFuse]

theorem State.enterLc_moves {s : State} {dest : LcState} (h : (lcRow s.sec.lc dest).isSome = true) : s.MovesLife (s.enterLc dest) := by
  obtain ⟨hpending, hlife⟩ := s.enterLc_life dest
  exact ⟨hpending, hlife ▸ .enters _ _ _ _ _ h⟩

theorem State.lcOverwrite_moves {s : State} {r : LcRecord} (h : (lcRow s.sec.lc r.dest).isSome = true) : s.MovesLife (s.lcOverwrite r) := by
  obtain ⟨hpending, hlife⟩ := s.lcOverwrite_life r
  exact ⟨hpending, hlife ▸ .begins _ _ _ _ _ h⟩

theorem State.KeepsLife.lc_eq {s t : State} (h : s.KeepsLife t) : t.sec.lc = s.sec.lc := congrArg Prod.fst h.2

theorem State.lcTransition_moves (s : State) (num slot : Nat) (a : Bytes) : s.MovesLife (s.lcTransition num slot a) := by
  unfold State.lcTransition
  split
  next => exact State.KeepsLife.moves (s.failed_life _ _)
  next dest hfail hdest =>
    have hrow := State.lcRow_of_lcFailure hfail hdest
    extract_lets wipes t
    have ht : s.KeepsLife t := by simp [State.KeepsLife, t]
    have htrow : (lcRow t.sec.lc dest).isSome = true := ht.lc_eq ▸ hrow
    have hu : t.KeepsLife (t.reseed true) := by simp [State.KeepsLife]
    split
    · exact State.KeepsLife.moves (by simp [State.KeepsLife])
    split
    · exact (State.lcOverwrite_moves htrow).between ht (.refl _)
    split
    · exact (State.enterLc_moves htrow).between ht (State.done_life _ _ _)
    · exact (State.enterLc_moves (hu.lc_eq ▸ htrow)).between (ht.trans hu) (by simp [State.KeepsLife])
  next => exact State.KeepsLife.moves (.refl _)

theorem State.enterLc_finishes {s : State} {dest : LcState} (h : s.sec.lcRecord.map (·.dest) = some dest) : s.MovesLife (s.enterLc dest) := by
  obtain ⟨hpending, hlife⟩ := s.enterLc_life dest
  refine ⟨hpending, hlife ▸ ?_⟩
  unfold Sec.lifeOf
  rw [h]
  exact .finishes _ _ _ _

/-- The erase of a recorded transition enters its target; with none outstanding it leaves the life cycle. -/
theorem State.wiped_moves (s : State) : s.MovesLife s.wiped := by
  unfold State.wiped
  split
  next => exact State.KeepsLife.moves (.refl s)
  next r hr =>
    split
    next => exact State.KeepsLife.moves (.refl s)
    next =>
      extract_lets t u v w x
      have hu : s.KeepsLife u := by simp [State.KeepsLife, u, t]
      have hx : v.KeepsLife (if r.dest.keyed then x else x.toSealed) := by simp [State.KeepsLife, x, w]
      clear_value u
      have hdest : (u.modSec fun x => { x with wipeErase := 100 }).sec.lcRecord.map (·.dest) = some r.dest :=
        (congrArg (·.2.2.2) hu.2).trans (congrArg (Option.map (·.dest)) hr)
      exact (State.enterLc_finishes hdest).between hu hx

theorem State.rollbackCommit_moves (s : State) (num : Nat) : s.MovesLife (s.rollbackCommit num) := by
  unfold State.rollbackCommit
  split
  · exact State.KeepsLife.moves (s.failed_life _ _)
  · extract_lets t
    have ht : s.KeepsLife t := by simp [State.KeepsLife, t]
    have hraise : t.MovesLife (t.modSec fun x => { x with minSecurity := max x.minSecurity (min x.runningSecurity 64) }) :=
      ⟨rfl, .raises _ _ _ _ _ (Nat.min_le_right _ _)⟩
    exact hraise.between ht (State.done_life _ _ _)

/-- Every command makes one move of the life cycle and leaves the queue. -/
theorem exec_movesLife {c : Instr} {s t : State} (he : exec c s = .next t) : s.MovesLife t := by
  by_cases hlc : ∃ r, c = .lcTransition r
  · obtain ⟨r, rfl⟩ := hlc
    obtain rfl : State.settle _ = t := Host.Outcome.next.inj he
    exact (State.command_movesLife fun n a u hu => (u.lcTransition_moves n r.slot.val a).between hu (.refl _)).settle
  by_cases herase : c = .lcEraseComplete
  · obtain rfl := herase
    obtain rfl : State.settle _ = t := Host.Outcome.next.inj he
    exact s.wiped_moves.settle
  by_cases hroll : ∃ r, c = .fwRollbackCommit r
  · obtain ⟨r, rfl⟩ := hroll
    obtain rfl : s.command r P.fw_rollback_commit _ _ _ = t := Host.Outcome.next.inj he
    exact State.command_movesLife fun n _ u hu => (u.rollbackCommit_moves n).between hu (.refl _)
  · exact (exec_leavesLife s (not_exists.1 hlc) herase (not_exists.1 hroll) t he).moves

/-- A step, with a command or without, makes one move of the life cycle. -/
theorem step_lifeMove {s t : State} (hstep : step s = .next t) : LifeMove s.sec.lifeOf t.sec.lifeOf := by
  unfold step at hstep
  split at hstep
  next =>
    obtain rfl : idleTick s = t := Host.Outcome.next.inj hstep
    exact (State.KeepsLife.moves (idleTick_life s)).2
  next c rest _ => exact (exec_movesLife (s := { s with pending := rest }) hstep).2

/-- Settles O53: every step makes one of the moves of `LifeMove`, and each of them keeps the life cycle sound. -/
theorem everyStepKeepsLifeCycle : Obligations.EveryStepKeepsLifeCycle := by
  intro s t h hstep
  exact t.lifeInv_iff.2 ((step_lifeMove hstep).keeps_sound (s.lifeInv_iff.1 h))

/-- Settles O55: no move of `LifeMove` goes back. -/
theorem lifeCycleGoesOneWay : Obligations.LifeCycleGoesOneWay := by
  intro s t h hstep
  exact (step_lifeMove hstep).one_way (s.lifeInv_iff.1 h)

/-- Settles O56: the commands of `exec_leavesLife`, and the queue through the other three. -/
theorem onlyTransitionsChangeLifeCycle : Obligations.OnlyTransitionsChangeLifeCycle := by
  intro c rest s t hstep
  exact ⟨(exec_movesLife (s := { s with pending := rest }) hstep).1, fun hlc herase hroll =>
    (exec_leavesLife { s with pending := rest } hlc herase hroll t hstep).2⟩

/-- Settles O54: the fuses and the record are empty. -/
theorem lifeCycleSoundAtReset : Obligations.LifeCycleSoundAtReset := by
  refine ⟨by decide, by decide, fun r hr => ?_⟩
  cases hr

/-- Settles O1. -/
theorem stepRunsFrontCommand : Obligations.StepRunsFrontCommand := fun _ _ _ => rfl

end Sys2Proof.Machine

/-!
The statements on the idle queue, on frames at MGT and on sessions (R30 to R36, R60, R62, R65).
-/

namespace Sys2Proof.Machine

/-- Settles O2. -/
theorem emptyQueueLetsTimePass : Obligations.EmptyQueueLetsTimePass := by
  intro s h
  have hstep : step s = .next (idleTick s) := by
    unfold step
    rw [h]
  exact ⟨fun hv => by rw [hstep, idleTick, if_pos hv], fun hv => by rw [hstep, idleTick, if_neg (by simp [hv])]⟩

/-! ### Frames at MGT -/

/-- Settles O3: each kind of frame by its arm, while the MAC runs. -/
theorem mgtFramesAnsweredOrDiscarded : Obligations.MgtFramesAnsweredOrDiscarded := by
  intro s hmode hup discarded
  have hrun : ¬(s.mode = .off ∨ (!s.mgtUp) = true) := by simp [hmode, hup]
  refine ⟨fun a => ?_, fun a dad => ?_, fun a fragment => ?_, fun a dport fragment => ?_, ?_⟩ <;>
    refine congrArg Host.Outcome.next ((if_neg hrun).trans ?_)
  · rfl
  · rfl
  · rfl
  · by_cases h : fragment = false ∧ s.mgtAddress a.toNat = true ∧ dport.toNat = s.param P.mgt_udp_port
    · rw [if_pos h]
      simp [h, State.bumpIf]
    · rw [if_neg h]
      have hdrop : (fragment || !s.mgtAddress a.toNat || dport.toNat != s.param P.mgt_udp_port) = true := by
        by_contra hpass
        simp only [Bool.not_eq_true, Bool.or_eq_false_iff, Bool.not_eq_false', bne_eq_false_iff_eq] at hpass
        exact h ⟨hpass.1.1, hpass.1.2, hpass.2⟩
      exact if_pos hdrop
  · rfl

/-! ### Handshakes -/

theorem exec_clientHello {a : BitVec 128} {p : BitVec 16} {s : State} (hmode : s.mode ≠ .off) (hup : s.mgtUp = true) :
    exec (.clientHello a p false) s = .next (s.emitMgt (.helloRetry a p)) ∧
    (∀ k : Nat, (List.range 16).find? (fun j => (s.session j).state = .free) = some k →
      exec (.clientHello a p true) s = .next
        (if s.param P.session_max ≤ s.mgtInUse ∨ s.rateExceeded = true then s.bump P.handshakes_refused
        else (s.emitMgt (.flight k)).modDxe fun d => { d with
          sessions := d.sessions.set k
            { state := .handshake, peerAddr := a, peerPort := p, since := s.now, lastRecord := s.now } })) ∧
    ((List.range 16).find? (fun j => (s.session j).state = .free) = none →
      exec (.clientHello a p true) s = .next (s.bump P.handshakes_refused)) := by
  have hrun : ¬(s.mode = .off ∨ (!s.mgtUp) = true) := by simp [hmode, hup]
  refine ⟨congrArg Host.Outcome.next (if_neg hrun), fun k hk => ?_, fun hk => ?_⟩ <;>
  · refine congrArg Host.Outcome.next ((if_neg hrun).trans ?_)
    rw [hk]
    rfl

theorem State.failHandshake_handshake {s : State} {k : Nat} (h : (s.session k).state = .handshake) :
    s.failHandshake k = ((s.emitMgt (.alert k)).bump P.handshakes_refused).freeSession k := if_pos h

/-- The session that a completed handshake with an admitted chain makes. -/
def Session.established (t : Session) (l now : Nat) (c : ClientChain) : Session :=
  { t with state := .established, level := l, chain := some c, certDigest := c.digests.headD [], since := now, lastRecord := now }

section
variable {k : Fin 16} {c : ClientChain} {s : State} (h : (s.session k).state = .handshake)
  (hrate : s.recentHandshakes.length < s.param P.handshake_rate_per_s)
include h hrate

theorem exec_handshakeComplete_admitted {l : Nat} (hl : s.admission c = some l) :
    exec (.handshakeComplete k c) s = .next
      ((s.modDxe fun d => { d with handshakes := s.now :: s.recentHandshakes }).modSession k.val fun t => t.established l s.now c) := by
  refine congrArg Host.Outcome.next ((if_neg (by simp [h, hrate])).trans ?_)
  rw [hl]
  rfl

theorem exec_handshakeComplete_refused (hl : s.admission c = none) :
    exec (.handshakeComplete k c) s = .next (((s.emitMgt (.alert k)).bump P.handshakes_refused).freeSession k) := by
  refine congrArg Host.Outcome.next ((if_neg (by simp [h, hrate])).trans ?_)
  rw [hl]
  exact State.failHandshake_handshake h

end

/-! ### Closing and opening -/

theorem State.closeSession_mgt {s : State} {k : Nat} (hk : k < 16) (h : (s.session k).live = true) :
    s.closeSession k = (s.emitMgt (.closeNotify k)).freeSession k := by
  rw [State.closeSession, if_pos h, if_pos hk]

theorem State.closeSession_window {s : State} {k : Nat} (hk : ¬k < 16) (h : (s.session k).live = true) :
    s.closeSession k = s.freeSession k := by
  rw [State.closeSession, if_pos h, if_neg hk]

/-- HELLO in a record that is heard, well formed and not a repeat, of a session that has no version yet. -/
theorem exec_dictHello {r : Req} {s : State} (h : (s.session r.slot).state = .established) (hheard : s.unheard r = false)
    (hroom : r.unanswered < 8) (hnew : (s.session r.slot).kept.find? (·.tag == r.tag) = none) (hform : r.wellFormed .hello = true)
    (hmajor : r.dsvMajor = 0) (hminor : r.dsvMinor = 0) : exec (.dictHello r) s = .next ((s.arrive r .hello).helloOpens r) := by
  refine congrArg Host.Outcome.next ?_
  have hlive : (!(s.session r.slot).live || s.unheard r) = false := by simp [Session.live, h, hheard]
  have hsound : helloMalformed r (s.session r.slot).state = false := by simp [helloMalformed, h, hform, hmajor, hminor]
  unfold State.hello
  simp only [hlive, hnew, hsound, Nat.not_le.2 hroom, if_false, Bool.false_eq_true]

/-- Settles O4. -/
theorem sessionsOpenAndClose : Obligations.SessionsOpenAndClose := by
  refine ⟨⟨fun a p s hmode hup => ?_, fun k c s h hrate => ?_, fun k s h => ?_⟩,
    ⟨fun k s h => ?_, fun w s h => ?_, fun w c s hup hheld hwin hfree => ?_⟩, fun r s h hheard hroom hnew hform hmajor hminor => ?_⟩
  · obtain ⟨hretry, hslot, hfull⟩ := exec_clientHello (a := a) (p := p) hmode hup
    refine ⟨hretry, fun k hk => ⟨fun hmax hrate => ?_, fun hbusy => ?_⟩, fun hall => hfull ?_⟩
    · rw [hslot k hk, if_neg (by simp [hrate, hmax])]
    · rw [hslot k hk, if_pos hbusy]
    · simpa using hall
  · refine ⟨fun l hl => ⟨_, exec_handshakeComplete_admitted h hrate hl, ?_, ?_, fun j hj => State.session_modSession_ne _ _ hj, rfl⟩,
      exec_handshakeComplete_refused h hrate⟩ <;>
    · rw [State.session_modSession]
      rfl
  · exact ⟨congrArg Host.Outcome.next (if_pos h), congrArg Host.Outcome.next (State.failHandshake_handshake h),
      congrArg Host.Outcome.next (State.failHandshake_handshake h)⟩
  · exact ⟨congrArg Host.Outcome.next (State.closeSession_mgt k.isLt h), congrArg Host.Outcome.next (State.closeSession_mgt k.isLt h)⟩
  · exact congrArg Host.Outcome.next (State.closeSession_window (by omega) h)
  · exact congrArg Host.Outcome.next (if_pos ⟨hup, hheld, by simpa [State.paramOn] using hwin, hfree⟩)
  · have hexec := exec_dictHello h hheard hroom hnew hform hmajor hminor
    intro v a reply
    refine ⟨fun hv => ?_, fun hv => ?_⟩
    · exact hexec.trans (congrArg Host.Outcome.next (if_neg hv))
    · exact hexec.trans (congrArg Host.Outcome.next (if_pos hv))

/-- Settles O12: each row runs its operation on the answered state. -/
theorem sessionCommands : Obligations.SessionCommands := by
  refine ⟨fun r s p h => ?_, fun r s p h => ?_, fun r s p h => ?_, fun r s p h => ?_⟩
  · exact congrArg Host.Outcome.next (State.command_plain _ h)
  · exact congrArg Host.Outcome.next (State.command_plain _ h)
  · exact congrArg Host.Outcome.next (State.command_plain _ h)
  · exact congrArg Host.Outcome.next (State.command_starts _ (fun n => n == perInst P.sess_close r.slot.val) (fun _ => true) h)

end Sys2Proof.Machine

/-!
The statements on READ, MULTI_READ, DESCRIBE, DIGEST, subscriptions, WRITE and COMMAND (R42 to R58, R446).
-/

namespace Sys2Proof.Machine

/-! ### Shown values -/

section
variable {s : State} {slot num idx : Nat} {staged : Bool} {p : Param} (hp : s.schemaParam slot num idx = some p)
  (hs : s.served (schemaNum (s.session slot).dsv num) = true)
include hp hs

theorem State.show_key (hwo : p.access = .wo) (hkey : p.ty = .key) :
    s.show slot num idx staged = { code := p.ty.code, value := List.replicate p.len 0 } := by
  simp [State.show, hp, hs, hwo, hkey]

theorem State.show_unpowered (hwo : p.access ≠ .wo)
    (h : (s.unavailable p (schemaNum (s.session slot).dsv num) || s.fwBlocked p) = true) :
    s.show slot num idx staged = { status := Status.unavailable, code := if p.access = .cmd then 10 else p.ty.code } := by
  simp only [State.show, hp, hs, hwo, h, Bool.not_true, Bool.false_eq_true, if_true, if_false]

theorem State.show_value (hwo : p.access ≠ .wo) (hcmd : p.access ≠ .cmd)
    (h : s.unavailable p (schemaNum (s.session slot).dsv num) = false) (hfw : s.fwBlocked p = false) :
    s.show slot num idx staged =
      match (if staged && p.access == .rwr then s.stagedParam (schemaNum (s.session slot).dsv num) idx else none) with
      | some v => { code := p.ty.code, value := leBytes p.len v, staged := true }
      | none => { code := p.ty.code, value := leBytes p.len (s.value p (schemaNum (s.session slot).dsv num) idx) } := by
  simp only [State.show, hp, hs, hwo, hcmd, h, hfw, Bool.or_false, Bool.not_true, Bool.false_eq_true, if_false] <;> rfl

end

/-- Settles O6: the branches of `State.show`. -/
theorem shownValue : Obligations.ShownValue := by
  intro s slot num idx staged p hp hs n
  refine ⟨fun hwo hkey => State.show_key hp hs hwo hkey, fun hwo h => ?_, fun hwo hcmd hpow hfw => ⟨fun v hst hrwr hv => ?_, fun h => ?_⟩⟩
  · rw [State.show_unpowered hp hs hwo h]
    exact ⟨rfl, rfl⟩
  · rw [State.show_value hp hs hwo hcmd hpow hfw, if_pos (by simp [hst, hrwr]), hv]
  · have hnone : (if staged && p.access == .rwr then s.stagedParam n idx else none) = none := by
      rcases h with h | h | h <;> simp [h]
    rw [State.show_value hp hs hwo hcmd hpow hfw, hnone]

/-! ### Requests that change no parameter -/

section
variable {s : State} {r : Req} {p : Param}

theorem exec_read (h : s.takes r .read = true) : exec (.read r) s = .next ((s.arrive r .read).readItem r) :=
  congrArg Host.Outcome.next (State.request_takes h _)

/-- The parameter that a request names is the same once the request has arrived. -/
theorem State.schemaParam_arrived {ty : MsgType} (hp : s.schemaParam r.slot (itemAt r.body).1 (itemAt r.body).2 = some p) :
    (s.arrive r ty).schemaParam r.slot (itemAt r.body).1 (itemAt r.body).2 = some p := (s.schemaParam_arrive r ty _ _).trans hp

theorem State.namedBy_arrive (s : State) (r : Req) (ty : MsgType) :
    schemaNum ((s.arrive r ty).session r.slot).dsv (itemAt r.body).1 = s.namedBy r := by
  rw [(s.arrive_session r ty).2.1]
  rfl

theorem State.readItem_plain {a : State} (hp : a.schemaParam r.slot (itemAt r.body).1 (itemAt r.body).2 = some p) (hcmd : p.access ≠ .cmd) :
    let v := a.show r.slot (itemAt r.body).1 (itemAt r.body).2 r.staged
    a.readItem r = (a.respond r .read v.status 0 v.staged (v.record (itemAt r.body).1 (itemAt r.body).2)).readMarks r.slot
      (itemAt r.body).1 (itemAt r.body).2 := by
  simp [State.readItem, hp, hcmd]

theorem State.readItem_result {a : State} (hp : a.schemaParam r.slot (itemAt r.body).1 (itemAt r.body).2 = some p) (hcmd : p.access = .cmd)
    (hok : (a.show r.slot (itemAt r.body).1 (itemAt r.body).2 r.staged).status = Status.ok) (hseq : r.opSeq = 0) :
    let o := a.result (schemaNum (a.session r.slot).dsv (itemAt r.body).1)
    a.readItem r = a.respond r .read (if o.state = .pending then Status.pending else Status.ok) o.opSeq false o.octets := by
  simp [State.readItem, State.readResult, hp, hcmd, hok, hseq]

/-- DESCRIBE of the parameter itself. -/
theorem State.describe_own {a : State} (hstaged : r.staged = false)
    (hn : schemaNum (a.session r.slot).dsv (itemAt r.body).1 ≠ P.sticky_counts)
    (hp : a.schemaParam r.slot (itemAt r.body).1 (itemAt r.body).2 = some p)
    (hs : a.served (schemaNum (a.session r.slot).dsv (itemAt r.body).1) = true) :
    a.describe r = a.respond r .describe Status.ok 0 false
      (p.descriptor (schemaNum (a.session r.slot).dsv (itemAt r.body).1) (itemAt r.body).1) := by
  simp [State.describe, hstaged, hn, hp, hs]

end

/-- Settles O5. -/
theorem queriesAnswered : Obligations.QueriesAnswered := by
  refine ⟨fun r s p h hp => ?_, ⟨fun r s h => ?_, fun r s p h hstaged hn hp hs => ?_⟩, fun r s h => ?_⟩
  · intro a i v
    refine ⟨fun hcmd => ?_, fun hcmd hok hseq => ?_⟩
    · rw [exec_read h, State.readItem_plain (State.schemaParam_arrived hp) hcmd]
    · rw [exec_read h, State.readItem_result (State.schemaParam_arrived hp) hcmd hok hseq, State.namedBy_arrive]
  · exact congrArg Host.Outcome.next (State.request_takes h _)
  · refine congrArg Host.Outcome.next ((State.request_takes h _).trans ?_)
    have hnum := s.namedBy_arrive r .describe
    rw [State.describe_own hstaged (hnum ▸ hn) (State.schemaParam_arrived hp) ((s.arrive_served r .describe _).trans (hnum ▸ hs)), hnum]
  · intro a
    have hexec : exec (.digest r) s = .next (a.digestReply r) := congrArg Host.Outcome.next (State.request_takes h _)
    refine ⟨fun hscope => ?_, fun hscope => ?_⟩
    · rw [hexec, State.digestReply, if_pos hscope]
    · rw [hexec, State.digestReply, if_neg (by simp [hscope]), hscope]
      rfl

/-! ### Subscriptions -/

/-- SUBSCRIBE that no check refuses. -/
theorem State.subscribe_added {a : State} {r : Req} {p : Param} (hp : a.schemaParam r.slot (itemAt r.body).1 (itemAt r.body).2 = some p)
    (hs : a.served (schemaNum (a.session r.slot).dsv (itemAt r.body).1) = true) (hwo : p.access ≠ .wo) (hkey : p.ty ≠ .key)
    (hperiod : (leAt r.body 8 1 == 2) = true → 10 ≤ leAt r.body 12 4 ∧ leAt r.body 12 4 ≤ 3600000)
    (hown : (a.dxe.subs.countP fun b => b.slot == r.slot.val) < a.param P.subs_per_session_max) (hall : a.dxe.subs.length < 256) :
    a.subscribe r = State.respond
      { a with dxe := { a.dxe with
          nextSub := a.freshSub + 1
          subs := a.dxe.subs ++
            [{ slot := r.slot, subId := a.freshSub, param := (itemAt r.body).1, index := (itemAt r.body).2
               periodic := leAt r.body 8 1 == 2, intervalMs := leAt r.body 10 2, periodMs := leAt r.body 12 4
               lastValue := (a.show r.slot (itemAt r.body).1 (itemAt r.body).2 false).record (itemAt r.body).1 (itemAt r.body).2 }] } }
      r .subscribe Status.ok 0 false
      (leBytes 2 a.freshSub ++ leBytes 2 (max (leAt r.body 10 2) (a.param P.notify_min_interval_ms))) := by
  have hrange : ¬((leAt r.body 8 1 == 2) = true ∧ (leAt r.body 12 4 < 10 ∨ 3600000 < leAt r.body 12 4)) := by
    rintro ⟨hmode, hout⟩
    have := hperiod hmode
    omega
  have hroom : ¬((a.dxe.subs.countP fun b => b.slot == r.slot.val) ≥ a.param P.subs_per_session_max ∨ a.dxe.subs.length ≥ 256) := by omega
  unfold State.subscribe
  simp only [hp, hs, hwo, hkey, if_neg hrange, if_neg hroom, or_self, Bool.not_true, Bool.false_eq_true, if_false]
  rfl

theorem foldl_eq_self {α β : Type} {f : β → α → β} {s : β} {l : List α} (h : ∀ a, a ∈ l → f s a = s) : l.foldl f s = s := by
  induction l with
  | nil => rfl
  | cons a l ih =>
    rw [List.foldl_cons, h a List.mem_cons_self]
    exact ih fun b hb => h b (List.mem_cons_of_mem a hb)

/-- Settles O7. -/
theorem subscriptionsAndNotifications : Obligations.SubscriptionsAndNotifications := by
  refine ⟨⟨fun r s p h => ?_, fun r s h => ?_⟩, fun s b hb hchanged => ?_, fun s hsame => ?_, fun k id s b hb => ?_⟩
  · intro i a periodic hp hs hwo hkey hperiod hown hall
    refine congrArg Host.Outcome.next ((State.request_takes h _).trans ?_)
    have hnum := s.namedBy_arrive r .subscribe
    have hsubs := s.arrive_subs r .subscribe
    refine State.subscribe_added (State.schemaParam_arrived hp) ?_ hwo hkey hperiod ?_ ?_
    · rw [hnum, State.arrive_served, hs]
    · rwa [hsubs, State.arrive_param]
    · rwa [hsubs]
  · exact congrArg Host.Outcome.next (State.request_takes h _)
  · refine congrArg Host.Outcome.next ?_
    rw [hb]
    exact if_pos hchanged
  · exact congrArg Host.Outcome.next (foldl_eq_self fun b hb => if_neg (by simp [hsame b hb]))
  · refine congrArg Host.Outcome.next ?_
    rw [hb]

/-! ### WRITE -/

section
variable {r : Req} {s : State} {p : Param} (h : s.takes r .write = true)
  (hp : s.schemaParam r.slot (itemAt r.body).1 (itemAt r.body).2 = some p) (hs : s.served (s.namedBy r) = true)
  (hok : (s.arrive r .write).writeRefusal r p (s.namedBy r) (itemAt r.body).2 = none)
include h hp hs hok

/-- A WRITE that is taken and not refused is applied. -/
theorem State.writeRequest_applies : s.writeRequest r = (s.arrive r .write).applyWrite r p (s.namedBy r) (itemAt r.body).2 := by
  have hs' := (s.arrive_served r .write (s.namedBy r)).trans hs
  unfold State.writeRequest
  rw [State.request_takes h]
  simp only [State.schemaParam_arrived hp, State.namedBy_arrive, hs', hok, Bool.not_true, Bool.false_eq_true, if_false]

end

theorem State.applyWrite_plain {a : State} {r : Req} {p : Param} {num idx : Nat} (h : bit p.flags 3 = false) :
    a.applyWrite r p num idx = ((a.storeValue p num idx (leNat r.args)).respond r .write
      (if p.access = .rwr then Status.acceptedStaged else Status.ok) 0 false []).levelWrite r.slot num idx := by
  simp [State.applyWrite, h]

theorem State.applyWrite_sticky {a : State} {r : Req} {p : Param} {num idx : Nat} (h : bit p.flags 3 = true) (hrw : p.access = .rw) :
    a.applyWrite r p num idx = ((a.clearSticky p num (leNat r.args)).respond r .write Status.ok 0 false []).levelWrite r.slot num idx := by
  simp [State.applyWrite, h, hrw]

/-- Settles O8: the effect of a write is that of its parameter, where the value is not staged. -/
theorem writeStores : Obligations.WriteStores := by
  intro r s p h hp hs hok hplain num idx v a old held status t u w
  have hstore : a.storeValue p num idx v = u := by
    have hmode : a.mode = s.mode := s.arrive_mode r .write
    simp only [State.storeValue, hmode, u, t, State.writeEffect, Bool.or_eq_true, beq_iff_eq]
    by_cases hheld : held
    · simp only [if_pos (show s.mode = .standby ∨ a.standby.has (pkey num idx) = true from hheld), hheld, not_true_eq_false,
        false_and, if_false]
      rfl
    · simp only [if_neg (show ¬(s.mode = .standby ∨ a.standby.has (pkey num idx) = true) from hheld), hheld, not_false_eq_true,
        true_and]
      split <;> rfl
  have hwrite : s.writeRequest r = w := by
    rw [State.writeRequest_applies h hp hs hok, State.applyWrite_plain hplain]
    exact congrArg (fun u : State => (u.respond r .write status 0 false []).levelWrite r.slot num idx) hstore
  have hsettled : Host.Outcome.next (s.writeRequest r).settle = (.next w.settle : Host.Outcome State Fault Refusal) := by rw [hwrite]
  have hnext : Host.Outcome.next (s.writeRequest r) = (.next w : Host.Outcome State Fault Refusal) := by rw [hwrite]
  exact ⟨hsettled, hsettled, hsettled, hnext, hnext⟩

/-! ### Clearing flags (R372) -/

theorem testBit_sub_and (f v b : Nat) : (f - (f &&& v)).testBit b = (f.testBit b && !v.testBit b) := by
  induction b generalizing f v with
  | zero =>
    have hle : f &&& v ≤ f := Nat.and_le_left
    have hmod : (f &&& v) % 2 = f % 2 &&& v % 2 := Nat.and_mod_two_pow (n := 1)
    have hodd : (f - (f &&& v)) % 2 = (f % 2 + (f % 2 &&& v % 2)) % 2 := by omega
    simp only [Nat.testBit_zero, hodd]
    rcases Nat.mod_two_eq_zero_or_one f with hf | hf <;> rcases Nat.mod_two_eq_zero_or_one v with hv | hv <;> simp [hf, hv]
  | succ b ih =>
    have hdiv : (f &&& v) / 2 = f / 2 &&& v / 2 := Nat.and_div_two
    have hmod : (f &&& v) % 2 = f % 2 &&& v % 2 := Nat.and_mod_two_pow (n := 1)
    have hle : f % 2 &&& v % 2 ≤ f % 2 := Nat.and_le_left
    have hhalf : (f - (f &&& v)) / 2 = f / 2 - (f / 2 &&& v / 2) := by omega
    rw [Nat.testBit_succ, hhalf, ih, Nat.testBit_succ, Nat.testBit_succ]

/-- A parameter without condition bits has only the bits written as 1 cleared. -/
theorem State.clearSticky_unconditional {s : State} {p : Param} (hblk : p.num ≠ P.blk_fault_status) (hclk : p.num ≠ P.clk_status)
    (hcar : p.num ≠ P.car_err_status) (num v : Nat) : s.clearSticky p num v = s.clearFlags num v := by
  have hheld : s.conditions p num = 0 := by simp [State.conditions, hblk, hclk, hcar]
  unfold State.clearSticky
  rw [if_neg hblk, hheld, Nat.zero_and]
  exact foldl_eq_self fun b _ => by simp [State.setFlagIf, bit]

theorem State.flags_clearFlags_self (s : State) (num v : Nat) : (s.clearFlags num v).flags num = s.flags num - (s.flags num &&& v) := by
  simp [State.clearFlags, State.flags]

theorem State.flags_clearFlags_ne (s : State) {n num : Nat} (v : Nat) (h : n ≠ num) : (s.clearFlags num v).flags n = s.flags n := by
  simp [State.clearFlags, State.flags, Tbl.getD_upd_ne _ _ _ h]

/-- Settles O9. -/
theorem stickyWriteClears : Obligations.StickyWriteClears := by
  intro r s p h hp hs hok hsticky hrw num a w
  have hwrite : s.writeRequest r = w := by
    rw [State.writeRequest_applies h hp hs hok, State.applyWrite_sticky hsticky hrw]
  refine ⟨by rw [← hwrite]; rfl, by rw [← hwrite]; rfl, by rw [← hwrite]; rfl, fun hblk hclk hcar => ?_⟩
  rw [State.clearSticky_unconditional hblk hclk hcar]
  refine ⟨fun b _ => ?_, fun n hn => ?_⟩
  · rw [State.flags_clearFlags_self, State.arrive_flags]
    exact testBit_sub_and _ _ b
  · rw [State.flags_clearFlags_ne _ _ hn, State.arrive_flags]

/-! ### The answer of a COMMAND (R54, R55) -/

/-- Everything sent before is still in the outbox. -/
def State.OutGrows (s t : State) : Prop := ∀ o, o ∈ s.out → o ∈ t.out

theorem State.OutGrows.refl (s : State) : s.OutGrows s := fun _ h => h

theorem State.OutGrows.trans {s t u : State} (h : s.OutGrows t) (k : t.OutGrows u) : s.OutGrows u := fun o ho => k o (h o ho)

theorem State.outGrows_foldl {α : Type} (l : List α) (f : State → α → State) (h : ∀ (s : State) a, s.OutGrows (f s a)) (s : State) :
    s.OutGrows (l.foldl f s) := by
  induction l generalizing s with
  | nil => exact .refl s
  | cons a l ih => exact (h s a).trans (ih _)

theorem State.operation_outGrows (s : State) (i v : Nat) : s.OutGrows (s.operation i v) := by
  unfold State.operation
  dsimp only
  split
  · exact .refl s
  · exact fun _ h => List.mem_cons_of_mem _ (List.mem_cons_of_mem _ h)

theorem State.raiseStep_outGrows (s : State) (n : Nat) : s.OutGrows (s.raiseStep n) := by
  unfold State.raiseStep
  dsimp only
  refine State.OutGrows.trans (State.outGrows_foldl _ _ (fun t r => ?_) s) (.refl _)
  have hrail : t.OutGrows ((t.entriesOf r).foldl (fun s i => s.operation i 0x80) t) :=
    State.outGrows_foldl _ _ (fun u i => u.operation_outGrows i 0x80) t
  split
  · exact hrail
  · exact hrail

theorem State.touchLgm_outGrows (s : State) : s.OutGrows s.touchLgm := by
  unfold State.touchLgm
  split
  · have hraise := (s.raiseStep_outGrows 1).trans ((s.raiseStep 1).raiseStep_outGrows 2)
    dsimp only
    split
    · exact fun o h => (State.modPwr_out _ _).symm ▸ hraise o h
    · exact fun o h => (State.modPwr_out _ _).symm ▸ h
  · exact .refl s

theorem State.placeEvent_outGrows (s : State) (e : EvtRec) : s.OutGrows (s.placeEvent e) := by
  have h := s.touchLgm_outGrows
  unfold State.placeEvent
  dsimp only
  (repeat' split) <;> exact h

theorem State.event_outGrows (s : State) (code inst : Nat) (args : List Nat) : s.OutGrows (s.event code inst args) := by
  unfold State.event State.recordWith
  dsimp only
  (repeat' split) <;> first
    | exact .refl s
    | exact s.placeEvent_outGrows _
    | exact (State.modEvr s _).placeEvent_outGrows _

theorem State.levelWrite_outGrows (s : State) (k n i : Nat) : s.OutGrows (s.levelWrite k n i) := by
  unfold State.levelWrite
  dsimp only
  split
  · exact s.event_outGrows _ _ _
  · exact .refl s

theorem State.emitMgt_outGrows (s : State) (o : Out) : s.OutGrows (s.emitMgt o) := fun _ h =>
  List.mem_cons_of_mem _ (s.touchLgm_outGrows _ h)

theorem State.countRecord_outGrows (s : State) (k : Nat) (rx : Bool) : s.OutGrows (s.countRecord k rx) := by
  unfold State.countRecord
  extract_lets t r w
  split
  · exact s.emitMgt_outGrows _
  · exact .refl s

theorem State.mem_out_sendDict (s : State) (k : Nat) (m : Bytes) : Out.dict k m ∈ (s.sendDict k m).out := by
  unfold State.sendDict
  dsimp only
  have hsent : Out.dict k m ∈ (if k < 16 then s.emitMgt (.dict k m) else s.emit (.dict k m)).out := by
    split <;> exact List.mem_cons_self
  split
  · exact hsent
  · exact State.countRecord_outGrows _ _ _ _ hsent

/-- What sending leaves of the sender's session: state, version, level and kept responses. -/
theorem State.sendDict_session (s : State) (k : Nat) (m : Bytes) :
    ((s.sendDict k m).session k).state = (s.session k).state ∧ ((s.sendDict k m).session k).dsv = (s.session k).dsv := by
  have hemit : (if k < 16 then s.emitMgt (.dict k m) else s.emit (.dict k m)).session k = s.session k := by
    split
    · exact s.emitMgt_session _ k
    · rfl
  unfold State.sendDict
  dsimp only
  split
  · exact ⟨congrArg (·.state) hemit, congrArg (·.dsv) hemit⟩
  · obtain ⟨hstate, hdsv, -⟩ := State.countRecord_session (if k < 16 then s.emitMgt (.dict k m) else s.emit (.dict k m)) k false
    exact ⟨hstate.trans (congrArg (·.state) hemit), hdsv.trans (congrArg (·.dsv) hemit)⟩

theorem State.sendDict_results (s : State) (k : Nat) (m : Bytes) :
    (s.sendDict k m).dxe.results = s.dxe.results ∧ (s.sendDict k m).dxe.opSeqs = s.dxe.opSeqs := by
  have hemit : (if k < 16 then s.emitMgt (.dict k m) else s.emit (.dict k m)).dxe = s.dxe := by
    split
    · exact s.emitMgt_dxe _
    · rfl
  unfold State.sendDict
  dsimp only
  split
  · exact ⟨congrArg (·.results) hemit, congrArg (·.opSeqs) hemit⟩
  · obtain ⟨hres, hseq, -⟩ := State.countRecord_dxe (if k < 16 then s.emitMgt (.dict k m) else s.emit (.dict k m)) k false
    exact ⟨hres.trans (congrArg (·.results) hemit), hseq.trans (congrArg (·.opSeqs) hemit)⟩

section
variable (s : State) (r : Req) (ty : MsgType) (st q : Nat) (g : Bool) (b : Bytes)

theorem State.respond_session : ((s.respond r ty st q g b).session r.slot).state = (s.session r.slot).state ∧
    ((s.respond r ty st q g b).session r.slot).dsv = (s.session r.slot).dsv := by
  unfold State.respond
  dsimp only
  rw [State.session_modSession]
  exact s.sendDict_session _ _

theorem State.respond_results : (s.respond r ty st q g b).dxe.results = s.dxe.results ∧ (s.respond r ty st q g b).dxe.opSeqs = s.dxe.opSeqs :=
  s.sendDict_results _ _

theorem State.mem_out_respond (h : ty ≠ .hello) :
    Out.dict r.slot (message ty.code st ((s.session r.slot).dsv / 256) ((s.session r.slot).dsv % 256) r.tag.toNat q g true b.length b) ∈
      (s.respond r ty st q g b).out := by
  unfold State.respond
  simp only [h, if_false]
  exact s.mem_out_sendDict _ _

end

theorem State.arrive_results (s : State) (r : Req) (ty : MsgType) :
    (s.arrive r ty).dxe.results = s.dxe.results ∧ (s.arrive r ty).dxe.opSeqs = s.dxe.opSeqs := by
  obtain ⟨o, d, p, h, hres, hseq, -⟩ := s.arrive_eq r ty
  rw [h]
  exact ⟨hres, hseq⟩

/-- The state in which a COMMAND is answered: its result object is PENDING under the new op_seq. -/
def State.pendingResult (a : State) (r : Req) (num : Nat) : State :=
  let q := nextOpSeq (a.dxe.opSeqs.getD num 0)
  a.touchLgm.modDxe fun d =>
    { d with
      opSeqs := d.opSeqs.set num q
      results := d.results.set num { state := .pending, opSeq := q, slot := r.slot, arg := r.args } }

theorem State.answered_def (s : State) (r : Req) :
    s.answered r = (((s.arrive r .command).pendingResult r (s.namedBy r)).respond r .command Status.ok
      (nextOpSeq (s.dxe.opSeqs.getD (s.namedBy r) 0)) false []).levelWrite r.slot (s.namedBy r) (itemAt r.body).2 := by
  rw [← (s.arrive_results r .command).2]
  rfl

/-- The results and op_seqs of an answered COMMAND. -/
theorem State.answered_results (s : State) (r : Req) :
    (s.answered r).dxe.opSeqs = s.dxe.opSeqs.set (s.namedBy r) (nextOpSeq (s.dxe.opSeqs.getD (s.namedBy r) 0)) ∧
    (s.answered r).dxe.results = s.dxe.results.set (s.namedBy r)
      { state := .pending, opSeq := nextOpSeq (s.dxe.opSeqs.getD (s.namedBy r) 0), slot := r.slot, arg := r.args } := by
  obtain ⟨hres, hseq⟩ := s.arrive_results r .command
  rw [State.answered_def, State.levelWrite_dxe, (State.respond_results _ _ _ _ _ _ _).1, (State.respond_results _ _ _ _ _ _ _).2]
  simp only [State.pendingResult, State.modDxe_dxe, State.touchLgm_dxe, hres, hseq, and_self]

theorem nextOpSeq_ne_zero (n : Nat) : nextOpSeq n ≠ 0 := by
  unfold nextOpSeq
  split <;> omega

/-- Settles O10. -/
theorem commandAnswered : Obligations.CommandAnswered := by
  rintro r s first p ⟨htakes, -, -⟩
  intro num a q
  obtain ⟨hseqs, hresults⟩ := s.answered_results r
  have hpending : ∀ k, ((s.arrive r .command).pendingResult r num).session k = (s.arrive r .command).session k := fun k => by
    simp only [State.pendingResult, State.session, State.modDxe_dxe, State.touchLgm_dxe]
  have hopen : (s.session r.slot).state = .open_ := by
    simp only [State.takes, Bool.and_eq_true, beq_iff_eq] at htakes
    exact htakes.1.1.1.1.1.1
  have hsession := ((s.arrive r .command).pendingResult r num).respond_session r .command Status.ok q false []
  refine ⟨?_, nextOpSeq_ne_zero _, ?_, fun n hn => ?_, ?_, ?_, s.answered_reg r, s.answered_xpt r, s.answered_pde r, s.answered_tmv r,
    s.answered_mir r, s.answered_fab r, s.answered_dram r, s.answered_flash r, s.answered_sec r, s.answered_mode r, s.answered_cfg r,
    s.answered_pending r⟩
  · simp only [a, hseqs]
    exact Tbl.getD_set_self _ _ _ _
  · simp only [State.result, a, hresults]
    exact Tbl.getD_set_self _ _ _ _
  · simp only [State.result, a, hresults]
    exact Tbl.getD_set_ne _ _ _ hn
  · simp only [a, State.answered_def, State.levelWrite_session]
    rw [hsession.1, hpending, (s.arrive_session r .command).1, hopen]
  · intro v
    have hsent := ((s.arrive r .command).pendingResult r num).mem_out_respond r .command Status.ok q false [] nofun
    rw [hpending, (s.arrive_session r .command).2.1] at hsent
    rw [show a = _ from s.answered_def r]
    exact State.levelWrite_outGrows _ _ _ _ _ hsent

/-! ### The refusals of a COMMAND (R446) -/

/-- Settles O11: each test of `State.commandRefusal` with those before it passed. -/
theorem commandRefusalsInOrder : Obligations.CommandRefusalsInOrder := by
  refine ⟨fun s r p num own argsOk => ⟨fun hkind => if_pos hkind, fun hcmd hlow hown => ?_, fun hcmd hlevel hmode => ?_,
    fun hcmd hlevel hmode hlen => ?_, fun hcmd hlevel hmode hlen hrange => ?_, fun hcmd hlevel hmode hlen hargs hrange henum hfw hcores => ?_,
    fun hcmd hlevel hmode hlen hargs hrange henum hfw hrun => ?_⟩, fun r s p st htakes hn href => ?_⟩
  · simp [State.commandRefusal, hcmd, hlow, hown]
  · simp [State.commandRefusal, hcmd, Nat.not_lt.2 hlevel, hmode]
  · simp [State.commandRefusal, hcmd, Nat.not_lt.2 hlevel, hmode, hlen]
  · rcases hrange with h | h | h <;> simp [State.commandRefusal, hcmd, Nat.not_lt.2 hlevel, hmode, hlen, h]
  · simp [State.commandRefusal, State.fwBlocked, hcmd, Nat.not_lt.2 hlevel, hmode, hlen, hargs, hrange, henum, hfw, hcores]
  · have hserved : s.fwBlocked p = false := by
      cases h : p.fw <;> simp [State.fwBlocked, h, hfw]
    simp [State.commandRefusal, hcmd, Nat.not_lt.2 hlevel, hmode, hlen, hargs, hrange, henum, hserved, hrun]
  · exact congrArg Host.Outcome.next (State.command_refused _ (fun _ => false) (fun _ => true) htakes hn href)

end Sys2Proof.Machine

/-!
The statements on a placement's bytes (R76, R138) and on MACK (R209, R210).
-/

namespace Sys2Proof.Machine

/-! ### What leaves the DRAM -/

@[simp] theorem State.dirtySeg_dram (s : State) (lsn : Nat) : (s.dirtySeg lsn).dram = s.dram := by
  unfold State.dirtySeg
  split <;> rfl

@[simp] theorem State.dirtySeg_reg (s : State) (lsn : Nat) : (s.dirtySeg lsn).reg = s.reg := by
  unfold State.dirtySeg
  split <;> rfl

@[simp] theorem State.wroteSeg_dram (s : State) (lsn : Nat) (b : Bool) : (s.wroteSeg lsn b).dram = s.dram := by
  unfold State.wroteSeg
  (repeat' split) <;> simp

@[simp] theorem State.wroteSeg_reg (s : State) (lsn : Nat) (b : Bool) : (s.wroteSeg lsn b).reg = s.reg := by
  unfold State.wroteSeg
  (repeat' split) <;> simp

@[simp] theorem State.qccModify_dram (s : State) (n : Nat) : (s.qccModify n).dram = s.dram := by
  unfold State.qccModify
  (repeat' split) <;> simp [State.rqCount, State.bump, apply_ite State.dram]

@[simp] theorem State.modQp_dram (s : State) (n : Nat) (f : Qp → Qp) : (s.modQp n f).dram = s.dram := by
  unfold State.modQp
  dsimp only
  split <;> simp

@[simp] theorem State.modMsg_dram (s : State) (n id : Nat) (f : OpenMsg → OpenMsg) : (s.modMsg n id f).dram = s.dram := s.modQp_dram n _

@[simp] theorem State.transmit_dram (s : State) (g : Nat) (f : OutFrame) (retx : Bool) : (s.transmit g f retx).dram = s.dram := by
  unfold State.transmit
  dsimp only
  split <;> rfl

@[simp] theorem State.pumpFrames_dram (s : State) (g : Nat) : (s.pumpFrames g).dram = s.dram := by
  have hfold (l : List OutFrame) (r : State × Bool) : (l.foldl (fun (r : State × Bool) f =>
      if r.2 && (f.bytes == 0 || r.1.sendRoom g f.bytes) then (r.1.transmit g f false, true) else (r.1, false)) r).1.dram = r.1.dram := by
    induction l generalizing r with
    | nil => rfl
    | cons f l ih =>
      rw [List.foldl_cons, ih]
      split <;> simp
  exact hfold _ _

@[simp] theorem State.frameData_dram (s : State) (g seq : Nat) (d : Bytes) : (s.frameData g seq d).dram = s.dram := State.pumpFrames_dram _ _

/-- A divergence bit of an untiered region stands in the bitmap, not in a map entry. -/
theorem State.setDivergent_dram {s : State} {idx : Nat} (h : (s.desc idx).tiered = false) (seg : Nat) :
    (s.setDivergent idx seg).dram = s.dram := by
  unfold State.setDivergent
  simp only [h, Bool.false_eq_true, if_false]
  split
  · rfl
  · exact State.dirtySeg_dram _ _

/-! ### The bytes of a placement -/

theorem Memory.foldl_writeByte_range (b : Bytes) : ∀ (m : List Host.Cell) (a : Nat),
    (List.range b.length).foldl (fun t k => Memory.writeByte t (a + k) (b.getD k 0)) m = Memory.write m a b := by
  induction b with
  | nil => intro m a; rfl
  | cons v b ih =>
    intro m a
    rw [List.length_cons, List.range_succ_eq_map, List.foldl_cons, List.foldl_map, Memory.write, ← ih]
    simp only [Nat.add_zero, List.getD_cons_zero, List.getD_cons_succ, Nat.add_assoc, Nat.add_comm 1, Nat.succ_eq_add_one]

theorem State.frameForWhole_untiered {s : State} {idx : Nat} (h : (s.desc idx).tiered = false) (seg : Nat) : s.frameForWhole idx seg = s := by
  simp [State.frameForWhole, State.wholeDue, h]

/-- The DRAM after a write's placement with no bad and no poisoned line. -/
theorem State.placeJob_mem {s : State} {j : Job} {d : Bytes} {lsn : Nat} (hop : j.op = .write d) (hflat : (s.desc j.idx).tiered = false)
    (hlsn : s.lsnOf j.idx (j.off / segBytes) = some lsn) (hpoison : s.dram.poison = []) :
    (s.placeJob j []).1.dram.mem = Memory.write s.dram.mem (lsn * segBytes + j.off % segBytes) d := by
  unfold State.placeJob
  extract_lets seg fresh a old res data n isOp desc m before
  have ha : a = s := State.frameForWhole_untiered hflat seg
  have hdata : data = some d := by
    simp only [data, res, hop, JobOp.run]
  have hn : n = d.length := by simp only [n, hdata]
  rw [ha, show s.lsnOf j.idx seg = some lsn from hlsn]
  clear_value data n m
  subst hdata hn
  dsimp -zeta only
  extract_lets base first lines was fails new charged keep b changed c e f g
  have hfails : fails = [] := by simp [fails, was, hpoison]
  have hkeep : keep = List.range d.length := by simp [keep, hfails]
  have hb : b.dram.mem = Memory.write s.dram.mem base d := by
    simp only [b, hkeep]
    exact Memory.foldl_writeByte_range d _ _
  have hc : c.dram = b.dram ∧ c.reg = s.reg := by
    simp only [c]
    split
    · exact ⟨rfl, rfl⟩
    · exact ⟨State.wroteSeg_dram _ _ _, State.wroteSeg_reg _ _ _⟩
  have hflat' : (c.desc j.idx).tiered = false := by
    simpa only [State.desc, hc.2] using hflat
  have he : e.dram = c.dram := by
    simp only [e]
    split
    · exact State.setDivergent_dram hflat' _
    · rfl
  have hf : f.dram = e.dram := by
    simp only [f]
    split
    · exact State.modMsg_dram _ _ _ _
    · rfl
  have hg : g.dram = f.dram := by
    simp only [g]
    split
    · exact State.frameData_dram _ _ _ _
    · rfl
  show g.dram.mem = _
  rw [hg, hf, he, hc.1, hb]

/-- Settles O21: the placement is `Memory.write` of the payload. -/
theorem placementWritesExactlyItsBytes : Obligations.PlacementWritesExactlyItsBytes := by
  intro s j d lsn hop _ hwf hflat hlsn hpoison base t
  have hmem : t.dram.mem = Memory.write s.dram.mem base d := State.placeJob_mem hop hflat hlsn hpoison
  rw [hmem]
  exact ⟨fun i hi => Memory.readByte_write_in d _ _ i hwf hi, fun x hx => Memory.readByte_write_out d _ _ x hx, Memory.write_wf d _ _ hwf⟩

/-! ### MACK -/

theorem State.grp_modGrp_self (s : State) (g : Nat) (f : Grp → Grp) : (s.modGrp g f).grp g = f (s.grp g) := Tbl.getD_upd_self _ _ _ _

/-- The window of the port and the twin's free budget, as a MACK reports them. -/
def State.ackSeen (s : State) (p free window : Nat) : State :=
  let t := s.modTport p fun t => { t with windowKib := some window }
  if s.mpv2 then t.modMir fun m => { m with twinFree := some free } else t

@[simp] theorem State.ackSeen_grp (s : State) (p free window g : Nat) : (s.ackSeen p free window).grp g = s.grp g := by
  unfold State.ackSeen
  dsimp only
  split <;> rfl

theorem State.ackSeen_tport (s : State) (p free window : Nat) : ((s.ackSeen p free window).tport p).windowKib = some window := by
  have h : ((s.modTport p fun t => { t with windowKib := some window }).tport p).windowKib = some window := by
    simp [State.tport, State.modTport]
  unfold State.ackSeen
  dsimp only
  split <;> exact h

theorem State.ackSeen_twinFree (s : State) (p free window : Nat) :
    (s.ackSeen p free window).mir.twinFree = if s.mpv2 then some free else s.mir.twinFree := by
  unfold State.ackSeen
  dsimp only
  split <;> rfl

/-- What a MACK up to `a` leaves of a group at the holder. -/
def Grp.ackedTo (x : Grp) (a : Nat) : Grp := { x with acked := a, frames := x.frames.filter fun f => a < f.seq }

/-- A MACK covers frames at a group that sends, where it acknowledges more than before; else it only brings the credit. -/
theorem State.takeAck_cases (s : State) (p g acked free window : Nat) :
    (s.grp g).acked < min acked (s.grp g).issued ∧
      s.takeAck p g acked free window = (s.ackSeen p free window).modGrp g (·.ackedTo (min acked (s.grp g).issued)) ∨
    ((s.grp g).role = .active → min acked (s.grp g).issued ≤ (s.grp g).acked) ∧ s.takeAck p g acked free window = s.ackSeen p free window := by
  have hgrp := s.ackSeen_grp p free window g
  have heq : s.takeAck p g acked free window =
      if ((s.grp g).role = .active ∨ ((s.grp g).role = .solo ∧ (s.grp g).source.isSome)) ∧ (s.grp g).acked < min acked (s.grp g).issued then
        (s.ackSeen p free window).modGrp g (·.ackedTo (min acked (s.grp g).issued))
      else s.ackSeen p free window := by
    rw [← hgrp]
    rfl
  rw [heq]
  split
  next h => exact .inl ⟨h.2, rfl⟩
  next h => exact .inr ⟨fun hrole => Nat.le_of_not_lt fun hlt => h ⟨.inl hrole, hlt⟩, rfl⟩

/-- Settles O29: a MACK moves `acked` up to a number that was issued and drops the frames up to it, or leaves the group. -/
theorem mackCovers : Obligations.MackCovers := by
  intro s p g acked free window t
  have hport : ((s.ackSeen p free window).tport p).windowKib = some window := s.ackSeen_tport p free window
  have hfree := s.ackSeen_twinFree p free window
  obtain ⟨hmore, ht⟩ | ⟨hold, ht⟩ := s.takeAck_cases p g acked free window
  · have hgrp : t.grp g = (s.grp g).ackedTo (min acked (s.grp g).issued) := by
      rw [show t = _ from ht, State.grp_modGrp_self, State.ackSeen_grp]
    have hmem : ∀ f, f ∈ (t.grp g).frames ↔ f ∈ (s.grp g).frames ∧ min acked (s.grp g).issued < f.seq := fun f => by
      rw [hgrp]
      simp [Grp.ackedTo]
    have hacked : (t.grp g).acked = min acked (s.grp g).issued := by rw [hgrp]; rfl
    refine ⟨hacked ▸ hmore.le, fun _ => ?_, by rw [hgrp]; rfl, by rw [hgrp]; rfl, by rw [hgrp]; rfl, fun f hf => ((hmem f).1 hf).1,
      fun f hf hlt => (hmem f).2 ⟨hf, hacked ▸ hlt⟩, fun _ _ f hf => hacked ▸ ((hmem f).1 hf).2, by rw [show t = _ from ht]; exact hport,
      fun h => ?_, fun h => ?_⟩
    · rw [hacked, hgrp]
      exact Nat.min_le_right _ _
    · rw [show t = _ from ht]
      exact hfree.trans (if_pos h)
    · rw [show t = _ from ht]
      exact hfree.trans (if_neg (by simp [h]))
  · have hgrp : t.grp g = s.grp g := by rw [show t = _ from ht, State.ackSeen_grp]
    rw [hgrp]
    refine ⟨le_rfl, id, rfl, rfl, rfl, fun _ hf => hf, fun _ hf _ => hf, fun _ hall => hall, by rw [show t = _ from ht]; exact hport,
      fun h => ?_, fun h => ?_⟩
    · rw [show t = _ from ht]
      exact hfree.trans (if_pos h)
    · rw [show t = _ from ht]
      exact hfree.trans (if_neg (by simp [h]))

end Sys2Proof.Machine

/-!
The statement on the region and buffer commands (R76, R82 to R91, R447).
-/

namespace Sys2Proof.Machine

/-! ### Registration (R82, R447) -/

/-- The registration that the checks let through: the backing is prepared, and what it still waits for is noted. -/
def State.registered (a : State) (w backing : Nat) : State × PendingReg :=
  let idx := a.freeIndex
  let d := { regDesc w with gen := (a.desc idx).gen, backing := backing }
  let wait : PendingReg := { idx := idx, desc := d, waitTwin := d.group != 255, waitZero := d.cls == clsScratch }
  ((a.prepare idx d).modReg fun g => { g with pendingReg := some wait }, wait)

theorem State.registerRun_failed {a : State} {num w e : Nat} {backing : Option Nat} (h : a.regFails w backing = some e) :
    a.registerRun num w backing = a.failed num e := by
  rw [State.registerRun, h]

theorem State.registerRun_ok {a : State} {num w backing : Nat} (h : a.regFails w (some backing) = none) :
    a.registerRun num w (some backing) =
      (if (regDesc w).group != 255 then
        (a.registered w backing).1.sendConfig (regDesc w).group cfgRegister a.freeIndex
          (leBytes 64 (a.registered w backing).2.desc.word) num
      else (a.registered w backing).1).checkRegister := by
  rw [State.registerRun, h]
  rfl

/-- The region that waited is VALID, and its AK is reported. -/
def State.regionValid (s : State) (p : PendingReg) : State :=
  ((s.setDesc p.idx { p.desc with state := .valid }).modReg fun g => { g with pendingReg := none }).done P.region_register
    (leBytes 4 (akOf p.idx p.desc.gen))

theorem State.checkRegister_ends {s : State} {p : PendingReg} (h : s.reg.pendingReg = some p) (htwin : p.waitTwin = false)
    (hzero : p.waitZero = false) : s.checkRegister = s.regionValid p := by
  simp [State.checkRegister, State.endRegister, State.regionValid, h, htwin, hzero]

theorem State.checkRegister_waits {s : State} {p : PendingReg} (h : s.reg.pendingReg = some p) (hzero : p.waitZero = true) :
    s.checkRegister = s := by
  simp [State.checkRegister, h, hzero]

theorem State.scratchZeroed_ends {s : State} {p : PendingReg} (h : s.reg.pendingReg = some p) (htwin : p.waitTwin = false)
    (hzero : p.waitZero = true) :
    s.scratchZeroed p.idx =
      (((s.dramZero p.desc.backing (segBytes * p.desc.lengthSeg)).rqCount 11 (segBytes * p.desc.lengthSeg)).modReg fun g =>
        { g with pendingReg := some { p with waitZero := false } }).regionValid p := by
  rw [State.scratchZeroed, h]
  exact (if_pos ⟨rfl, hzero⟩).trans (State.checkRegister_ends (p := { p with waitZero := false }) rfl htwin rfl)

/-! ### Revocation (R83 to R86) -/

section
variable {a : State} {num ak : Nat} {dereg : Bool}

theorem State.revokeRun_invalid (h : 1048576 ≤ akIndex ak ∨ (a.desc (akIndex ak)).state ≠ .valid) :
    a.revokeRun num ak dereg = a.failed num 0x0A := if_pos h

theorem State.revokeRun_stale (hidx : akIndex ak < 1048576) (h : (a.desc (akIndex ak)).state = .valid)
    (hgen : (a.desc (akIndex ak)).gen ≠ akGen ak) : a.revokeRun num ak dereg = a.failed num 0x0B :=
  (if_neg (by simp [h, maxRegions, hidx])).trans (if_pos hgen)

theorem State.revokeRun_current (hidx : akIndex ak < 1048576) (h : (a.desc (akIndex ak)).state = .valid)
    (hgen : (a.desc (akIndex ak)).gen = akGen ak) : a.revokeRun num ak dereg = a.revoke num (akIndex ak) dereg :=
  (if_neg (by simp [h, maxRegions, hidx])).trans (if_neg (by simp [hgen]))

end

theorem State.drainTimeout_some {s : State} {i : Nat} {dr : Drain} (h : s.reg.drains.find? i = some dr) :
    s.drainTimeout i = if s.openUnder i dr.oldGen = 0 then s.checkDrain i else
      let t := s.modReg fun g => { g with drains := g.drains.set i { dr with aborted := dr.aborted + s.openUnder i dr.oldGen } }
      ((t.xpt.qps.keysWhere fun _ q => q.msgs.any fun m => m.keys.contains (i, dr.oldGen)).foldl (fun s q =>
        if (s.qp q).state = .closing then
          let mine := leNat (s.cmdArg P.qp_destroy) == q && s.running P.qp_destroy
          let k := (s.qp q).msgs.length
          let s := s.freeQp q
          if mine then s.done P.qp_destroy (leBytes 4 k) else s
        else s.enterError q Cause.revokeAbort) t).checkDrain i := by
  rw [State.drainTimeout, h]

theorem State.descFill_sound {s : State} {i : Nat} (hwait : (s.waitsFor i).isEmpty = false)
    (hsound : (s.rqCount 2 64).dram.poison.contains (s.descAddr i / 64) = false) :
    s.descFill i false = ((s.waitsFor i).map (·.qpn)).eraseDups.foldl State.resumeQp ((s.rqCount 2 64).descTouch i) := by
  unfold State.descFill
  simp only [hwait, hsound, Bool.false_and, Bool.false_or, Bool.false_eq_true, if_false]

/-! ### A buffer freed by its agent (R90, R91) -/

section
variable {s : State} {g : Fin 8} {x : Nat} {u p k : Nat} (hpool : s.poolOf x = some (p, k))
include hpool

theorem State.bufferFree_inside (h : (x - s.poolBase p k) % poolSize p ≠ 0) : s.bufferFree g x u = s.badFree p 1 g.val x u := by
  simp only [State.bufferFree, hpool, h, ne_eq, not_false_eq_true, if_true]

theorem State.bufferFree_free (h : (x - s.poolBase p k) % poolSize p = 0)
    (hheld : (s.pool p).held.find? (s.bufAt p k (x - s.poolBase p k)) = none) : s.bufferFree g x u = s.badFree p 2 g.val x u := by
  simp only [State.bufferFree, hpool, h, hheld, ne_eq, not_true_eq_false, if_false]

theorem State.bufferFree_foreign {o : Fin 8} (h : (x - s.poolBase p k) % poolSize p = 0)
    (hheld : (s.pool p).held.find? (s.bufAt p k (x - s.poolBase p k)) = some o) (ho : o ≠ g) :
    s.bufferFree g x u = s.badFree p 3 g.val x u := by
  simp only [State.bufferFree, hpool, h, hheld, ho, ne_eq, not_true_eq_false, not_false_eq_true, if_true, if_false]

theorem State.bufferFree_own (h : (x - s.poolBase p k) % poolSize p = 0)
    (hheld : (s.pool p).held.find? (s.bufAt p k (x - s.poolBase p k)) = some g)
    (hreads : s.bufReads (p, s.bufAt p k (x - s.poolBase p k)) = false) :
    let b := s.bufAt p k (x - s.poolBase p k)
    s.bufferFree g x u = ((s.freeBuf (p, b)).modReg fun y =>
      { y with holds := y.holds.filter fun h => !(h.pool == p && h.buf == b) }).modXpt fun y =>
      { y with qps := y.qps.mapVals fun _ q => { q with msgs := q.msgs.map fun m => { m with bufs := m.bufs.filter (· != (p, b)) } } } := by
  simp only [State.bufferFree, hpool, h, hheld, hreads, ne_eq, not_true_eq_false, if_false, Bool.false_eq_true]

end

/-! ### The statement -/

theorem exec_regionRegister {r : Req} {s : State} {p : Param} (backing : Option Nat) (h : s.starts r P.region_register p) :
    exec (.regionRegister r backing) s = .next ((s.answered r).registerRun (s.namedBy r) (leNat r.args) backing) :=
  congrArg Host.Outcome.next (State.command_plain _ h)

theorem exec_regionRekey {r : Req} {s : State} {p : Param} (h : s.starts r P.region_rekey p) :
    exec (.regionRekey r) s = .next ((s.answered r).revokeRun (s.namedBy r) (leNat r.args) false) :=
  congrArg Host.Outcome.next (State.command_plain _ h)

theorem exec_regionDeregister {r : Req} {s : State} {p : Param} (h : s.starts r P.region_deregister p) :
    exec (.regionDeregister r) s = .next ((s.answered r).revokeRun (s.namedBy r) (leNat r.args) true).settle :=
  congrArg (fun t : State => Host.Outcome.next t.settle) (State.command_plain _ h)

/-- Settles O13. -/
theorem regionCommands : Obligations.RegionCommands := by
  refine ⟨fun r s p backing h => ?_, ⟨fun r s p _ => ?_, fun i s dr hdr => ?_⟩, fun i s hwait hsound => ?_, fun g x u s => ⟨fun hpool => ?_, fun p k hpool => ?_⟩⟩
  · intro a w idx d wait b ended
    refine ⟨fun hok => ⟨fun hgroup hcls => ?_, fun hgroup hcls => ⟨?_, fun t ht hidx => ?_⟩, fun hgroup => ?_⟩, fun place e hfail => ?_⟩
    · have hgroup' : ((regDesc w).group != 255) = false := bne_eq_false_iff_eq.2 hgroup
      rw [exec_regionRegister _ h, State.registerRun_ok hok, if_neg (by simp [hgroup'])]
      have hend : b.checkRegister = b.regionValid wait := State.checkRegister_ends (s := b) (p := wait) rfl hgroup' (beq_false_of_ne hcls)
      show Host.Outcome.next b.checkRegister = _
      rw [hend, State.regionValid]
    · have hgroup' : ((regDesc w).group != 255) = false := bne_eq_false_iff_eq.2 hgroup
      rw [exec_regionRegister _ h, State.registerRun_ok hok, if_neg (by simp [hgroup'])]
      exact congrArg Host.Outcome.next (State.checkRegister_waits (s := b) (p := wait) rfl (beq_iff_eq.2 hcls))
    · intro z
      have hmod : (BitVec.ofNat 20 idx).toNat = idx := by
        rw [BitVec.toNat_ofNat, Nat.mod_eq_of_lt hidx]
      have htwin : wait.waitTwin = false := bne_eq_false_iff_eq.2 hgroup
      have hzero : wait.waitZero = true := beq_iff_eq.2 hcls
      have hend := State.scratchZeroed_ends ht htwin hzero
      show Host.Outcome.next (t.scratchZeroed (BitVec.ofNat 20 idx).toNat) = _
      rw [hmod, hend, State.regionValid]
    · have hgroup' : ((regDesc w).group != 255) = true := bne_iff_ne.2 hgroup
      rw [exec_regionRegister _ h, State.registerRun_ok hok, if_pos hgroup']
      rfl
    · rw [exec_regionRegister _ h, State.registerRun_failed hfail]
  · intro a num i d twin
    refine ⟨fun hidx hvalid hgen => ⟨fun h => ?_, fun h => ?_⟩, fun hinv => ⟨fun h => ?_, fun h => ?_⟩,
      fun hidx hvalid hgen => ⟨fun h => ?_, fun h => ?_⟩⟩
    · intro d' t
      rw [exec_regionRekey h, State.revokeRun_current hidx hvalid hgen, State.revoke]
      simp only [Bool.not_false, Bool.and_true]
      rfl
    · intro t
      rw [exec_regionDeregister h, State.revokeRun_current hidx hvalid hgen, State.revoke]
      simp only [Bool.not_true, Bool.and_false, Bool.false_eq_true, if_false]
      rfl
    · rw [exec_regionRekey h, State.revokeRun_invalid hinv]
    · rw [exec_regionDeregister h, State.revokeRun_invalid hinv]
    · rw [exec_regionRekey h, State.revokeRun_stale hidx hvalid hgen]
    · rw [exec_regionDeregister h, State.revokeRun_stale hidx hvalid hgen]
  · intro n
    have hexec : exec (.revokeDrainTimeout i) s = .next (s.drainTimeout i.toNat).settle := rfl
    refine ⟨fun hn => ?_, fun hn => ?_⟩
    · rw [hexec, State.drainTimeout_some hdr, if_pos hn]
    · intro t holders close
      rw [hexec, State.drainTimeout_some hdr, if_neg hn]
  · exact congrArg (fun t : State => Host.Outcome.next t.settle) (State.descFill_sound hwait hsound)
  · refine congrArg (fun t : State => Host.Outcome.next t.settle) ?_
    unfold State.bufferFree
    rw [hpool]
  · intro off b
    refine ⟨fun hoff => ?_, fun hoff hheld => ?_, fun o hoff hheld ho => ?_, fun hoff hheld hreads => ?_⟩ <;>
      refine congrArg (fun t : State => Host.Outcome.next t.settle) ?_
    · exact State.bufferFree_inside hpool hoff
    · exact State.bufferFree_free hpool hoff hheld
    · exact State.bufferFree_foreign hpool hoff hheld ho
    · exact State.bufferFree_own hpool hoff hheld hreads

end Sys2Proof.Machine

/-!
The statements on ports and flow control (R96, R170 to R172), queue pairs and completion queues (R104 to R108, R117 to R121).
-/

namespace Sys2Proof.Machine

/-- A command whose meaning is one operation ends in what that operation leaves. -/
theorem next_eq {s t : State} (h : s = t) : (Host.Outcome.next s : Host.Outcome State Fault Refusal) = .next t := congrArg _ h

/-- The same for a command that settles what its change makes due. -/
theorem next_settle_eq {s t : State} (h : s = t) : (Host.Outcome.next s.settle : Host.Outcome State Fault Refusal) = .next t.settle :=
  congrArg (fun u : State => Host.Outcome.next u.settle) h

/-! ### Ports and flow control -/

theorem State.hostLinkUp_rises {s : State} {k : Nat} (hheld : s.portHeld k = false) (hdown : (s.port k).linkUp = false) :
    s.hostLinkUp k = (s.modPort k fun h => { h with linkUp := true }).event 0x3040 k [1] :=
  if_neg (by simp [hheld, hdown])

section
variable {s : State} {k prio quanta : Nat}

theorem State.pfcReceived_ignored (h : prio ≠ s.param P.pfc_priority ∨ (s.port k).ignoring = true) : s.pfcReceived k prio quanta = s :=
  if_pos (by rcases h with h | h <;> simp [h])

theorem State.pfcReceived_taken (hup : (s.port k).linkUp = true) (hon : s.paramOn P.pfc_enable = true) (hprio : prio = s.param P.pfc_priority)
    (hig : (s.port k).ignoring = false) :
    s.pfcReceived k prio quanta = if quanta = 0 then s.resumePort k else s.modPort k fun h =>
      { h with pausedSince := some (h.pausedSince.getD s.now), pausedUntil := some (s.now + ceilDiv (64 * quanta) 100) } :=
  if_neg (by simp [hup, hon, hprio, hig])

end

/-- Settles O14. -/
theorem portsAndFlowControl : Obligations.PortsAndFlowControl := by
  refine ⟨⟨fun k s hheld hdown => next_eq (State.hostLinkUp_rises hheld hdown), fun k s hup => ?_⟩,
    fun k s hup hon => ⟨fun hxoff hlevel => ?_, fun level hxoff hlevel => ?_, fun prio quanta hprio hig => ?_, fun prio quanta h => ?_⟩,
    fun k s => ⟨rfl, fun hnone => ?_, fun t ht => ?_, rfl⟩⟩
  · exact next_eq (if_pos hup)
  · exact next_eq (if_pos (by simp [hup, hon, hxoff, hlevel]))
  · refine next_eq ((if_pos (by simp [hup, hlevel])).trans (if_pos (by rw [hxoff]; exact hon)))
  · have htaken := State.pfcReceived_taken (quanta := quanta.toNat) hup hon hprio hig
    refine ⟨fun hq => next_settle_eq (htaken.trans (if_pos (by simp [hq]))), fun hq => next_settle_eq (htaken.trans (if_neg ?_))⟩
    exact fun h => hq (BitVec.eq_of_toNat_eq h)
  · exact next_settle_eq (State.pfcReceived_ignored h)
  · refine next_settle_eq ?_
    rw [State.pfcTrip, hnone]
  · refine next_settle_eq ?_
    rw [State.pfcTrip, ht]

/-! ### Queue pairs and completion queues -/

section
variable {s : State} {num w : Nat}

theorem State.cqCreateRun_ok {idx off : Nat} (hok : (s.descUse (akIndex (cqOf w).ringAk.toNat)).cqCreateFails w = none)
    (hring : (s.descUse (akIndex (cqOf w).ringAk.toNat)).ringAt (cqOf w).ringGga.toNat (cqOf w).ringAk.toNat (32 * 2 ^ (cqOf w).log2 + 64) =
      some (idx, off)) :
    s.cqCreateRun num w = ((((s.descUse (akIndex (cqOf w).ringAk.toNat)).regionZero idx off (32 * 2 ^ (cqOf w).log2 + 64)).modCq
      (bits w 17 0) fun _ => { cqOf w with state := .ready }).done num (leBytes 4 (bits w 17 0))) := by
  simp only [State.cqCreateRun, Cq.size, hok, hring]

theorem State.cqCreateRun_failed {e : Nat} (h : (s.descUse (akIndex (cqOf w).ringAk.toNat)).cqCreateFails w = some e) :
    s.cqCreateRun num w = (s.descUse (akIndex (cqOf w).ringAk.toNat)).failed num e := by
  simp only [State.cqCreateRun, h]

end

/-- Settles O15. -/
theorem queuePairsAndCompletionQueues : Obligations.QueuePairsAndCompletionQueues := by
  refine ⟨⟨fun r s p saOk h => ?_, fun r s p h => ?_, fun r s p h => ?_⟩, ⟨fun r s p h => ?_, fun r s p h => ?_, fun n s hpend hready => ?_⟩,
    fun n s hclosing => ⟨fun hmine hrun => ?_, fun hother => ?_⟩, fun n s hinh => ?_, fun n s hwait => next_settle_eq (if_pos hwait),
    fun n s bad hmiss hwait hroom => ?_⟩
  · intro a w key c n
    have hexec : exec (.qpCreate r saOk) s = .next (a.qpCreateRun (s.namedBy r) w saOk) := next_eq (State.command_plain _ h)
    refine ⟨fun hok => ?_, fun e he => ?_⟩
    · intro t1 t2 t3
      rw [hexec, State.qpCreateRun, hok]
    · rw [hexec, State.qpCreateRun, he]
  · intro a n
    have hexec : exec (.qpDestroy r) s = .next (a.qpDestroyRun (s.namedBy r) n) := next_eq (State.command_plain _ h)
    refine ⟨fun hst => ?_, fun hst => ?_, fun hst => ?_, fun hst => ?_, fun hst => ?_⟩ <;> rw [hexec, State.qpDestroyRun, hst]
  · intro a st
    have hexec : exec (.qpForceError r) s = .next (a.qpForceErrorRun (s.namedBy r) (leNat r.args)) := next_eq (State.command_plain _ h)
    refine ⟨fun hst => ?_, fun hst => ?_, fun hnr hnf => ?_⟩
    · rw [hexec, State.qpForceErrorRun, show (a.qp (leNat r.args)).state = _ from hst]
    · rw [hexec, State.qpForceErrorRun, show (a.qp (leNat r.args)).state = _ from hst]
    · rw [hexec, State.qpForceErrorRun]
      split
      next hfree => exact absurd hfree hnf
      next hready => exact absurd hready hnr
      next => rfl
  · intro w c n a
    have hexec : exec (.cqCreate r) s = .next ((s.answered r).cqCreateRun (s.namedBy r) w) := next_eq (State.command_plain _ h)
    refine ⟨fun idx off hok hring => ?_, fun e he => ?_⟩
    · rw [hexec, State.cqCreateRun_ok hok hring]
    · rw [hexec, State.cqCreateRun_failed he]
  · intro a n
    have hexec : exec (.cqDestroy r) s = .next (a.cqDestroyRun (s.namedBy r) n) := next_eq (State.command_plain _ h)
    refine ⟨fun hst hbound => ?_, fun hst => ?_, fun hst hbound => ?_⟩
    · rw [hexec, State.cqDestroyRun, if_neg hst, if_neg (by omega)]
    · rw [hexec, State.cqDestroyRun, if_pos hst]
    · rw [hexec, State.cqDestroyRun, if_neg hst, if_pos hbound]
  · exact next_eq (if_neg (by simp [hpend, hready]))
  · exact next_eq ((if_pos hclosing).trans (if_pos (by simp [hmine, hrun])))
  · refine next_eq ((if_pos hclosing).trans (if_neg ?_))
    rcases hother with h | h <;> simp [h]
  · exact next_eq (if_neg (by simp [hinh]))
  · intro old back t poisoned
    have hfirst : ¬(s.qccHas n.toNat ∨ (!(s.xpt.waiting.any fun w => w.qpn == n.toNat && w.idx.isNone)) = true) := by
      rw [hmiss, hwait]
      decide
    have hsecond : ¬(s.xpt.qcc.length ≥ qccSlots ∧ s.qccVictim.isNone) := by
      rintro ⟨hfull, hnone⟩
      rcases hroom with h | h
      · exact absurd hfull (Nat.not_le.2 h)
      · rw [Option.isNone_iff_eq_none.1 hnone] at h
        cases h
    have hfill : s.qccFill n.toNat bad = (if bad ∨ poisoned then
        (((if poisoned then t else t.lineFault 3 (t.ctxAddr n.toNat)).modQp n.toNat fun q => { q with logDead := true })).enterError n.toNat
          Cause.channelHalt
      else t).resumeQp n.toNat := (if_neg hfirst).trans (if_neg hsecond)
    refine ⟨fun hgood hsound => next_settle_eq ?_, fun hbad => next_settle_eq ?_⟩
    · rw [hfill, if_neg (by simp [hgood, hsound])]
    · rw [hfill, if_pos hbad]

end Sys2Proof.Machine

/-!
The statements on request packets and their placements and reads (chapter 5).
-/

namespace Sys2Proof.Machine

/-! ### First packets -/

/-- An operation on the storage that its own headers name. -/
def opAccess : ReqOp → Bool
  | .write .. | .read _ | .cswap _ | .fadd _ | .dwrite .. | .cas16 .. | .tread _ => true
  | _ => false

@[simp] theorem openMsg_kind (q : Qp) (psn : Nat) (fwd : Option Fwd) (op : ReqOp) : (openMsg q psn fwd op).kind = opKind op := by
  unfold openMsg
  dsimp only
  split <;> rfl

@[simp] theorem openMsg_ended (q : Qp) (psn : Nat) (fwd : Option Fwd) (op : ReqOp) : (openMsg q psn fwd op).ended = (opPos op).ends := by
  unfold openMsg
  dsimp only
  split <;> rfl

section
variable {u : State} {n : Nat} {m : OpenMsg}

/-- Storage of this member is no other member's, for a message that no other member forwarded. -/
theorem State.isAway_own (hown : m.forwarded = false) (hhere : u.foreign m.gga m.ak = false) : u.isAway m = false := by
  simp [State.isAway, hhere, State.redirects_own, hown]

/-- An access to storage of this member goes on to its admission here. -/
theorem State.firstByKind_access {op : ReqOp} (hop : opAccess op = true) (hkind : m.kind ≠ .writeImm) (haway : u.isAway m = false) :
    u.firstByKind n m op = u.firstAccess n m op := by
  have hroute : u.firstByKind n m op =
      if m.kind = .writeImm && !m.forwarded then u.firstImm n m op
      else
        let m := { m with cqe := if m.kind = .writeImm then none else m.cqe }
        u.firstRouted n m (u.isAway m) op := by
    unfold State.firstByKind
    cases op <;> simp only [opAccess, Bool.false_eq_true] at hop <;> rfl
  have hm : { m with cqe := if m.kind = .writeImm then none else m.cqe } = m := by rw [if_neg hkind]
  rw [hroute, if_neg (by simp [hkind])]
  dsimp only
  rw [hm, haway]
  exact if_neg (by decide)

end

section
variable {s : State} {p : Pkt} {op : ReqOp} {n : Nat}

/-- A write with room, to storage of this member that it may write, is taken. -/
theorem State.hostRequest_writes (h : s.opens p op n) (hop : opAccess op = true) (hkind : opKind op = .write ∨ opKind op = .dwrite) :
    let u := s.presented p n op
    let m := openMsg (u.qp n) p.psn.toNat none op
    let lm := u.located m m.gga m.ak
    let segs := (segsOf lm.off m.len).map fun g => (lm.idx, g)
    u.foreign m.gga m.ak = false →
    u.placementCheck { pd := m.pd, ak := m.ak, gga := m.gga, len := m.len, need := m.rights } = none → lm.idx ∉ u.reg.lost →
    u.roomFor n lm segs 0 (opData op).length true →
    let c := u.charged n lm segs (opData op).length
    s.hostRequest p op = (c.1.takeMsg n c.2 op).ackRequested n p.ackReq op := by
  intro u m lm segs hhere hcheck hlost hroom c
  have hk : m.kind = opKind op := openMsg_kind ..
  have haway : u.isAway m = false := State.isAway_own (openMsg_forwarded ..) hhere
  have hnow : (m.kind.isRead || m.kind.isAtomic) = false := by rcases hkind with e | e <;> rw [hk, e] <;> rfl
  rw [State.firstPacket_opens h, State.firstByKind_access hop (by rcases hkind with e | e <;> rw [hk, e] <;> decide) haway,
    State.firstAccess_writes hnow hcheck hlost, State.letIn_roomFor hroom]

/-- A read or an atomic with room, on storage of this member, is taken. -/
theorem State.hostRequest_defers (h : s.opens p op n) (hop : opAccess op = true) (hkind : ((opKind op).isRead || (opKind op).isAtomic) = true)
    (hends : (opPos op).ends = true) :
    let u := s.presented p n op
    let m := openMsg (u.qp n) p.psn.toNat none op
    let lm := { u.located m m.gga m.ak with keys := [] }
    let segs := if m.kind.isAtomic then (segsOf lm.off m.len).map fun g => (lm.idx, g) else []
    u.foreign m.gga m.ak = false → u.roomFor n lm segs 0 0 true →
    let c := u.charged n lm segs 0
    s.hostRequest p op = c.1.takeMsg n c.2 op := by
  intro u m lm segs hhere hroom c
  have hk : m.kind = opKind op := openMsg_kind ..
  have haway : u.isAway m = false := State.isAway_own (openMsg_forwarded ..) hhere
  have himm : m.kind ≠ .writeImm := fun e => by
    rw [← hk, e] at hkind
    exact absurd hkind (by decide)
  rw [State.firstPacket_opens h, State.firstByKind_access hop himm haway, State.firstAccess_defers (by rw [hk]; exact hkind),
    State.letIn_roomFor hroom, State.ackRequested_ends _ _ _ hends]

end

/-! ### Later packets -/

section
variable {s : State} {p : Pkt} {op : ReqOp} {n : Nat} {m : OpenMsg}

/-- A later packet of a message in progress is examined as the next of it. -/
theorem State.hostRequest_continues (h : s.continues p op n m) :
    s.hostRequest p op = ((s.continued p n op).nextPacket n p.psn.toNat m op).ackRequested n p.ackReq op := by
  obtain ⟨hacc, hwait, hqcc, hready, hepsn, hdisc, hprog, hmsg, -⟩ := h
  have hj : s.hostRequest p op = (s.judged p n op).process n p.psn.toNat p.ackReq none op := by
    unfold State.hostRequest
    rw [State.hostPacket_accepts hacc]
    rfl
  rw [hj]
  unfold State.process
  dsimp only
  rw [hwait, hqcc]
  simp only [Bool.false_eq_true, if_false, if_true]
  change (s.continued p n op).classify n p.psn.toNat p.ackReq true none op = _
  unfold State.classify
  dsimp only
  rw [hepsn, if_neg (by rw [hready]; decide), if_pos rfl]
  unfold State.expected
  dsimp only
  rw [hdisc, hprog]
  simp only [Bool.false_eq_true, if_false]
  rw [hmsg]

/-- A later packet that finds its receive entry and its buffers joins its message. -/
theorem State.hostRequest_joins (h : s.continues p op n m) :
    let q := (s.continued p n op).qp n
    let data := opData op
    let total := m.rcvd + data.length
    let last := (opPos op).ends
    let imm := opImm op
    let late : Bool := m.kind = .write && imm.isSome
    let r := if late then (s.continued p n op).nextRecv n else (s.continued p n op, .entry ⟨0, 0, 0, 2 ^ 30⟩)
    ∀ e, r.2 = .entry e → (late = true → m.len ≤ e.len) →
    let c := if late && q.ctx.cqBound then r.1.cqRoom q.ctx.cq.toNat else (r.1, true)
    let b := c.1.stage m data.length
    c.2 = true → (0 < data.length → b.2.isSome = true) →
    let s1 := if late && q.ctx.cqBound then b.1.modCq q.ctx.cq.toNat fun k => { k with reserved := k.reserved + 1 } else b.1
    let s2 := if late then s1.consumeRecv n else s1
    let s3 := (s2.acceptPsn n 1).modMsg n m.id fun x =>
      let x := { x with lastPsn := p.psn.toNat, bufs := x.bufs ++ b.2.toList, ended := last }
      let x := if x.kind = .send then
          { x with len := total, cqe := x.cqe.map fun c => match imm with | some i => { c with imm := i.toNat } | none => c }
        else x
      let x := if late then { x with kind := .writeImm, cqe := some { tag := e.wrId, gga := x.gga, imm := (imm.getD 0).toNat } } else x
      if x.via.isSome then { x with rcvd := total }
      else if x.kind = .awg then { x with data := x.data ++ data, rcvd := total }
      else x.addData n data
    let s4 := s3.modQp n fun y => { y with inProgress := if last then none else y.inProgress }
    s.hostRequest p op = (s4.advance n).ackRequested n p.ackReq op := by
  intro q data total last imm late r e hr hlen c b hc hb s1 s2 s3 s4
  rw [State.hostRequest_continues h]
  obtain ⟨-, -, -, -, -, -, -, -, hvia, hfwd, hstarts, hpay, hsame, hknown, hsend⟩ := h
  have hjoin : (s.continued p n op).nextPacket n p.psn.toNat m op = s4.advance n := by
    unfold State.nextPacket
    extract_lets n' total' same want known imm' late' r' c' b' u1 u2 u3 u4
    have himm : imm' = imm := rfl
    have hlate : late' = late := by simp only [late', late, himm, hfwd, Bool.not_false, Bool.and_true]
    have hr' : r' = r := by simp only [r', r, hlate]
    have hc' : c' = c := by simp only [c', c, hlate, hr', q]
    have hb' : b' = b := by simp only [b', b, hc', n', data]
    have hu1 : u1 = s1 := by simp only [u1, s1, hlate, hb', q]
    have hu2 : u2 = s2 := by simp only [u2, s2, hlate, hu1]
    have hu4 : u4 = s2.acceptPsn n 1 := by simp only [u4, u3, hvia, Option.isSome_none, Bool.false_eq_true, if_false, hu2]
    have hsame' : same = true := hsame
    rw [if_neg (by simp [hsame', hstarts, hpay, q]), if_neg ?inLength, if_neg ?inLimit, if_neg ?inBuffer, hr', hr]
    case inLength =>
      by_cases hk : m.kind = .send
      · simp [known, hk]
      · have hl := hknown hk
        by_cases he : last = true
        · rw [if_pos he] at hl
          simp [he, total', n', want, hl]
        · rw [if_neg he] at hl
          simp [he, total', n', want, hl]
    case inLimit =>
      by_cases hk : m.kind = .send
      · simpa [total', n'] using fun _ => (hsend hk).1
      · simp [known, hk]
    case inBuffer =>
      by_cases hk : m.kind = .send
      · simp [total', n', (hsend hk).2]
      · simp [known, hk]
    have hfits : (late' && decide (m.len > e.len)) = false := by
      rw [hlate]
      cases hl : late with
      | false => rfl
      | true => simp [hlen hl]
    have hstaged : (decide (n' > 0) && b.2.isNone) = false := by
      by_cases h0 : 0 < n'
      · simp [Option.isNone_eq_false_iff, hb h0]
      · simp [h0]
    dsimp only
    rw [if_neg (by simp [hfits]), hc', if_neg (by simp [hc]), hb', if_neg (by simp [hstaged]), hu4, hvia, hlate]
    rfl
  rw [hjoin]

end

/-- Settles O16. -/
theorem writesReadsAndAtomicsAdmitted : Obligations.WritesReadsAndAtomicsAdmitted := by
  refine ⟨?_, ?_, ?_⟩
  · intro p pos data s n op hop h u m lm segs hhere hcheck hlost hroom c t
    have haccess : opAccess op = true := by rcases hop with ⟨_, rfl⟩ | ⟨_, rfl⟩ <;> rfl
    have hkind : opKind op = .write ∨ opKind op = .dwrite := by
      rcases hop with ⟨_, rfl⟩ | ⟨_, rfl⟩
      · exact .inl rfl
      · exact .inr rfl
    have hdata : opData op = data := by rcases hop with ⟨_, rfl⟩ | ⟨_, rfl⟩ <;> rfl
    have ht : s.hostRequest p op = t := by
      rw [State.hostRequest_writes h haccess hkind hhere hcheck hlost (by rw [hdata]; exact hroom), hdata]
    exact ⟨fun reth e => next_eq (e ▸ ht), fun g e => next_eq (e ▸ ht)⟩
  · intro p op s n m h q data total last imm late r e hr hlen c b hc hb s1 s2 s3 s4 t
    have ht : s.hostRequest p op = t := State.hostRequest_joins h e hr hlen hc hb
    exact ⟨fun pos reth d e => next_eq (e ▸ ht), fun reth i d e => next_eq (e ▸ ht), fun pos g d e => next_eq (e ▸ ht),
      fun pos i d e => next_eq (e ▸ ht), fun pos g d e => next_eq (e ▸ ht)⟩
  · intro p s n op hop h u m lm segs hhere hroom c t
    have hdefers : opAccess op = true ∧ ((opKind op).isRead || (opKind op).isAtomic) = true ∧ (opPos op).ends = true := by
      rcases hop with ⟨_, rfl⟩ | ⟨_, rfl⟩ | ⟨_, rfl⟩ | ⟨_, _, _, rfl⟩ | ⟨_, rfl⟩ <;> exact ⟨rfl, rfl, rfl⟩
    have ht : s.hostRequest p op = t := State.hostRequest_defers h hdefers.1 hdefers.2.1 hdefers.2.2 hhere hroom
    exact ⟨fun _ e => next_eq (e ▸ ht), fun _ e => next_eq (e ▸ ht), fun _ e => next_eq (e ▸ ht), fun _ _ _ e => next_eq (e ▸ ht),
      fun _ e => next_eq (e ▸ ht)⟩

/-! ### Receive entries, targetless operations and groups -/

/-- A write with immediate data of the requester takes a receive entry with its admission. -/
theorem State.firstByKind_imm {u : State} {n : Nat} {m : OpenMsg} {pos : Pos} {reth : Option Reth} {i : Option (BitVec 32)} {data : Bytes}
    (hkind : m.kind = .writeImm) (hown : m.forwarded = false) :
    u.firstByKind n m (.write pos reth i data) = u.firstImm n m (.write pos reth i data) :=
  if_pos (by simp [hkind, hown])

theorem State.firstWait_takes {u : State} {n : Nat} {m : OpenMsg} {cqn threshold : Nat} (hready : (u.cq cqn).state = .ready) :
    u.firstWait n m cqn threshold =
      (((if (u.cq cqn).count < threshold then u.modQp n fun q =>
          { q with wait := { active := true, cq := cqn, threshold := threshold, deadline := u.now + u.param P.wait_timeout_ms * msNs } }
        else u).acceptPsn n 1).pushMsg n m).advance n :=
  if_neg (not_not.2 hready)

/-- Settles O17. -/
theorem sendsTakeReceiveEntries : Obligations.SendsTakeReceiveEntries := by
  refine ⟨?_, ?_⟩
  · intro p pos imm data s n e op h u w he hlen m span hcheck lm segs hlost hroom c
    refine next_eq ?_
    have hended : (openMsg (u.qp n) p.psn.toNat none op).ended = pos.ends := openMsg_ended ..
    rw [State.firstPacket_opens h]
    have hkind : u.firstByKind n (openMsg (u.qp n) p.psn.toNat none op) op =
        (u.nextRecv n).1.firstSend n (openMsg (u.qp n) p.psn.toNat none op) e op imm := by
      clear_value u
      unfold State.firstByKind
      dsimp only [op]
      rw [he]
    rw [hkind]
    clear_value u
    rw [State.firstSend_fits (op := op) hlen (by rw [hended]; exact hcheck) hlost, hended]
    exact congrArg (State.ackRequested · n p.ackReq op) (State.letIn_roomFor hroom _)
  · intro p h imm data s n e op hopens u w he m0 m lm segs hlen hhere hcheck hlost hroom c t hid hmsg
    refine next_eq (t := t.consumeRecv n) ?_
    change s.hostRequest p op = _
    have hown : m0.forwarded = false := openMsg_forwarded ..
    have haway : u.isAway m0 = false := State.isAway_own hown hhere
    have himm : u.firstByKind n m0 op = u.firstImm n m0 op := State.firstByKind_imm (openMsg_kind ..) hown
    have ht : w.firstAccess n m op = t := by
      rw [State.firstAccess_writes (by rfl) hcheck hlost]
      exact State.letIn_roomFor hroom _
    have htaken : (w.firstAccess n m op).taken n m0.id (w.qp n).nextId = true := by
      obtain ⟨x, hx, hv⟩ := hmsg
      rw [ht]
      unfold State.taken
      rw [show (t.qp n).msg m0.id = some x from hx]
      simp [hid, hv]
    rw [State.firstPacket_opens hopens, himm, State.firstImm_taken (m := m0) he hlen haway htaken, ht, State.ackRequested_ends _ _ _ rfl]

/-- Settles O18. -/
theorem targetlessOperations : Obligations.TargetlessOperations := by
  refine ⟨?_, ?_, ?_, ?_⟩
  · intro p o0 o1 o2 o3 s n op h u m hset hchoice t
    refine next_eq ?_
    rw [State.firstPacket_opens h, State.ackRequested_ends _ _ _ rfl]
    change u.firstHxv n m [o0, o1, o2, o3] = _
    unfold State.firstHxv
    dsimp only
    rw [hset, if_neg (by decide), if_pos hchoice]
  · intro p g s n op h u m hroom
    refine next_eq ?_
    rw [State.firstPacket_opens h, State.ackRequested_ends _ _ _ rfl]
    change u.letIn n m [] 0 0 false (fun s m => s.takeMsg n m op) = _
    rw [State.letIn_roomFor hroom]
  · intro p th cqn s n op h u m hready t
    refine next_eq ?_
    rw [State.firstPacket_opens h, State.ackRequested_ends _ _ _ rfl]
    change u.firstWait n m cqn.toNat th.toNat = _
    rw [State.firstWait_takes hready]
  · intro p o s n h
    refine next_eq ?_
    rw [State.hostRequest_presents h, State.ackRequested_ends _ _ _ rfl]
    have hready := h.2.2.2.2.2.2.2.2.2
    have hdefined (q : Qp) : headerOk q (.invalid o) = false := by simp [headerOk, opDefined]
    unfold State.firstPacket
    dsimp only
    rw [if_neg (by rw [hready]; decide), hdefined, if_pos (by decide)]
    rfl

/-- Settles O19. -/
theorem atomicWriteGroupAdmitted : Obligations.AtomicWriteGroupAdmitted := by
  intro p pos g data s n op h u x m0 m ext hhere hstruct haccess descs group hone hcls hlost places segs redo lm hroom c t
  refine next_eq ?_
  rw [State.firstPacket_opens h]
  have hown0 : m0.forwarded = false := openMsg_forwarded ..
  have hown : m.forwarded = false := by
    simp only [m]
    split <;> exact hown0
  have haway : (decide (x > 0) && (!m.forwarded && u.foreign (beAt data 0 8) (beAt data 8 4) || u.redirects m (beAt data 8 4))) = false := by
    rw [State.redirects_own _ _ hown, Bool.or_false]
    by_cases h0 : x > 0
    · simp [hhere h0]
    · simp [h0]
  have hkind : u.firstByKind n m0 op = u.firstAwg n m op x := if_neg (ne_true_of_eq_false haway)
  have hadmit : u.firstAwg n m op x = t.takeMsg n c.2 op := by
    unfold State.firstAwg
    dsimp only [op]
    rw [show awgStructure _ x m.len (u.ownExtents (awgExtents x (opData (.awg pos (some g) data)))) = none from hstruct]
    dsimp only
    rw [show u.awgAccess m (awgExtents x (opData (.awg pos (some g) data))) = none from haccess]
    dsimp only
    exact (if_neg (ne_true_of_eq_false hone)).trans ((if_neg (ne_true_of_eq_false hcls)).trans
      ((if_neg (ne_true_of_eq_false hlost)).trans (State.letIn_roomFor hroom _)))
  exact (congrArg (State.ackRequested · n p.ackReq op) (hkind.trans hadmit))

/-! ### Placements and reads that complete -/

@[simp] theorem State.rqCount_xpt (s : State) (q n : Nat) : (s.rqCount q n).xpt = s.xpt := rfl

/-- The oldest placement, of no group, is carried out. -/
theorem State.placementComplete_heads {s : State} {j : Job} {rest : List Job} (bad : List Nat) (hq : s.xpt.rq0 = j :: rest)
    (hawg : ∀ k, j.op ≠ .awg k) :
    let r := ((s.rqCount 0 j.op.len).modXpt fun x => { x with rq0 := rest }).placeJob j bad
    s.placementComplete bad = r.1.advanceAll.lineFaults 0 3 r.2 := by
  intro r
  have hnot : ¬ (j.op matches .awg _) = true := by
    cases hop : j.op with
    | awg k => exact absurd hop (hawg k)
    | _ => exact Bool.false_ne_true
  have hdone : (s.rqCount 0 j.op.len).placementDone bad = (r.1.advanceAll, r.2) := by
    unfold State.placementDone
    rw [State.rqCount_xpt, hq]
    exact if_neg hnot
  unfold State.placementComplete
  rw [hq]
  refine (if_neg hnot).trans ?_
  rw [hdone]

/-- The oldest read, of lines that are all good, gives its data to its message. -/
theorem State.readReturned_good {s : State} {j : ReadJob} {rest : List ReadJob} {m : OpenMsg} (hq : s.xpt.rq1 = j :: rest) :
    let t := (s.rqCount 1 j.len).modXpt fun x => { x with rq1 := rest }
    (∀ i, t.dram.poison.contains i = false) → (t.qp j.qpn).msg j.msg = some m →
    let t1 := (t.modMsg j.qpn j.msg fun x => { x with data := x.data ++ t.regionRead j.idx j.off j.len }).modMsg j.qpn j.msg fun x =>
      { x with outstanding := x.outstanding - 1 }
    s.readReturned [] [] = (t1.reserveLater j.qpn j.msg).advanceAll := by
  intro t hgood hmsg t1
  have hdone : (s.rqCount 1 j.len).readDone [] = ((t1.reserveLater j.qpn j.msg).advanceAll, []) := by
    unfold State.readDone
    rw [State.rqCount_xpt, hq]
    dsimp -zeta only
    have hgood' (i : Nat) : i ∉ t.dram.poison := by simpa using hgood i
    have hfails (f : Nat → Nat) (n : Nat) :
        (List.range n).filter (fun i => t.dram.poison.contains (f i) || ([] : List Nat).contains i) = [] := by
      simp [hgood']
    extract_lets lines lineAt was fails new u1 data
    have hf : fails = [] := hfails lineAt lines
    have hnew : new = [] := by simp only [new, hf, List.filter_nil, List.map_nil]
    have hu : u1 = t := by
      simp only [u1, hnew, List.foldl_nil]
      rfl
    rw [hu, hmsg]
    dsimp only
    rw [hf, hnew]
    simp only [data, hu]
    rfl
  unfold State.readReturned
  rw [hq]
  simp only [List.filter_nil, List.map_nil, List.foldl_nil]
  rw [hdone]
  simp only [State.lineFaults, List.foldl_nil]

/-- Settles O20. -/
theorem placementsAndReadsComplete : Obligations.PlacementsAndReadsComplete :=
  ⟨fun bad _ _ _ hq hawg => next_settle_eq (State.placementComplete_heads bad hq hawg),
    fun _ _ _ _ hq hgood hmsg => next_settle_eq (State.readReturned_good hq hgood hmsg)⟩

end Sys2Proof.Machine

/-!
The statements on congestion control (R162 to R168), atomic write groups (R198), the permitted budget and the drain (R182 to R186, R197).
-/

namespace Sys2Proof.Machine

/-! ### Congestion control -/

/-- What a governor becomes depends on its present value alone. -/
theorem State.modGov_congr (s : State) (n : Nat) {f g : Governor → Governor} (h : f (s.qp n).gov = g (s.qp n).gov) :
    s.modGov n f = s.modGov n g := by
  have hq : ({ s.qp n with gov := f (s.qp n).gov } : Qp) = { s.qp n with gov := g (s.qp n).gov } := by rw [h]
  unfold State.modGov State.modXpt Tbl.upd
  exact congrArg (fun q => ({ s with xpt := { s.xpt with qps := s.xpt.qps.set n q } } : State)) hq

section
variable {g : Governor} {ai now : Nat}

/-- Half of the gap to R_T is closed while at least the increment is left. -/
theorem Governor.step_half (hgap : g.rc < g.rt) (hleft : ai ≤ g.rt - (g.rc + (g.rt - g.rc) / 2)) :
    (g.fill now).step ai = { g.fill now with rc := g.rc + (g.rt - g.rc) / 2, rt := g.rt } := by
  simp [Governor.step, Governor.fill, hgap, Nat.not_lt.2 hleft]

theorem Governor.step_whole (hgap : g.rc < g.rt) (hleft : g.rt - (g.rc + (g.rt - g.rc) / 2) < ai) :
    (g.fill now).step ai = { g.fill now with rc := g.rt, rt := g.rt } := by
  simp [Governor.step, Governor.fill, hgap, hleft]

theorem Governor.step_raise (hgap : g.rt ≤ g.rc) :
    (g.fill now).step ai = { g.fill now with rc := min 800000 (g.rc + ai), rt := min 800000 (g.rc + ai) } := by
  simp [Governor.step, Governor.fill, Nat.not_lt.2 hgap]

end

section
variable {s : State} {n : Nat}

/-- A CNP within `gov_cut_hold_us` of the last cut cuts nothing; any other cuts the rate. -/
theorem State.governorCnp_eq :
    let c := (s.bump P.cnp_received).modGov n fun g => g.fill s.now
    let g := (c.qp n).gov
    let rc := max (c.param P.gov_rate_min_mbps) (g.rc * c.param P.gov_cut_pct / 100)
    let cut := (c.modGov n fun x => { x with rt := g.rc, rc := rc, lastCut := some c.now }).bump P.gov_cuts
    (g.lastCut = none → s.governorCnp n = cut) ∧
    (∀ t, g.lastCut = some t → t + c.param P.gov_cut_hold_us * 1000 ≤ c.now → s.governorCnp n = cut) ∧
    (∀ t, g.lastCut = some t → c.now < t + c.param P.gov_cut_hold_us * 1000 → s.governorCnp n = c) := by
  intro c g rc cut
  have hc : s.governorCnp n = if (match g.lastCut with
      | some t => decide (c.now < t + c.param P.gov_cut_hold_us * usNs)
      | none => false) = true then c else cut := rfl
  refine ⟨fun h => ?_, fun t h hpast => ?_, fun t h hwithin => ?_⟩
  · rw [hc, h]
    exact if_neg Bool.false_ne_true
  · rw [hc, h]
    exact if_neg (by simpa [usNs] using hpast)
  · rw [hc, h]
    exact if_pos (by simpa [usNs] using hwithin)

/-- A CNP that is accepted goes to the governor of its queue pair, or is counted as for an unknown one. -/
theorem exec_cnpReceived {p : Pkt} (h : s.accepts p 0x81 n) : exec (.cnpReceived p) s =
    .next (if ((s.counted p n).qp n).state = .ready then ((s.counted p n).ceMark n p.ce).governorCnp n
      else (s.counted p n).bump P.rx_unknown_qp) :=
  next_eq (State.hostPacket_accepts h _)

end

/-- Settles O22. -/
theorem congestionControl : Obligations.CongestionControl := by
  refine ⟨⟨?_, fun k s hclk hk => ?_⟩, fun p s n hacc => ⟨fun hready => ?_, fun hnot => ?_⟩, ?_⟩
  · intro s hclk n p low high ramp
    have htick : exec .budgetOccupancyTick s = .next (s.modXpt fun x =>
        { x with fNum := (budgetFraction n p low high ramp).1, fDen := (budgetFraction n p low high ramp).2
                 occupancyPct := if p = 0 then (if n = 0 then 0 else 65535) else min (100 * n / p) 65535 }) :=
      next_eq (if_neg (by simp [hclk]))
    rw [htick]
    unfold budgetFraction
    refine ⟨fun hp hn => ?_, fun hp hn => ?_, fun hp hlow => ?_, fun hp hlow hhigh => ?_, fun hp hlow hhigh => ?_⟩
    · rw [if_pos hp, if_pos hp, if_pos hn, if_pos hn]
      rfl
    · rw [if_pos hp, if_pos hp, if_neg hn.ne', if_neg hn.ne']
      rfl
    · rw [if_neg hp.ne', if_neg hp.ne', if_pos hlow]
      rfl
    · rw [if_neg hp.ne', if_neg hp.ne', if_neg (Nat.not_lt.2 hlow), if_pos hhigh]
      rfl
    · rw [if_neg hp.ne', if_neg hp.ne', if_neg (Nat.not_lt.2 hlow), if_neg (Nat.not_lt.2 hhigh)]
      rfl
  · have hmin : min k 100 = k := Nat.min_eq_left hk
    refine next_eq ((if_neg (by simp [hclk])).trans ?_)
    dsimp only
    rw [hmin]
    rfl
  · rw [exec_cnpReceived hacc, if_pos hready]
    obtain ⟨hfirst, hpast, hwithin⟩ := State.governorCnp_eq (s := (s.counted p n).ceMark n p.ce) (n := n)
    exact ⟨fun h => next_eq (hfirst h), fun t h hl => next_eq (hpast t h hl), fun t h hl => next_eq (hwithin t h hl)⟩
  · rw [exec_cnpReceived hacc, if_neg hnot]
  · intro n s ai g half put
    refine ⟨fun hready hgap hleft => ?_, fun hready hgap hleft => ?_, fun hready hgap => ?_, fun hnot => ?_⟩
    · exact next_eq ((if_pos hready).trans (s.modGov_congr _ (Governor.step_half hgap hleft)))
    · exact next_eq ((if_pos hready).trans (s.modGov_congr _ (Governor.step_whole hgap hleft)))
    · exact next_eq ((if_pos hready).trans (s.modGov_congr _ (Governor.step_raise hgap)))
    · exact next_eq (if_neg hnot)

/-! ### Atomic write groups -/

/-- Settles O23. -/
theorem atomicWriteGroupLife : Obligations.AtomicWriteGroupLife := by
  refine ⟨fun s hnone => ?_, ?_, ?_, ?_, fun n s hq => ?_⟩
  · refine next_eq ?_
    rw [State.awgStage, hnone]
  · intro s a hfind b ext t
    refine next_eq ?_
    rw [State.awgStage, hfind]
  · intro s n commit
    refine ⟨fun hnone => ?_, fun a hfind htwin => ?_, fun a hfind htwin hmir => ?_, fun a hfind htwin hmir => ?_⟩
    · refine next_eq ?_
      rw [State.awgCommit, hnone]
    · refine next_eq (congrArg State.advanceAll ?_)
      rw [State.awgCommit, hfind]
      dsimp only
      simp only [htwin, Bool.not_true, Bool.false_and, Bool.false_eq_true, if_false, if_true]
      rfl
    · refine next_eq (congrArg State.advanceAll ?_)
      have hmsg : (fun m : OpenMsg => { m with lastSeq := m.lastSeq, mirrored := m.mirrored || false }) = id :=
        funext fun m => by rw [Bool.or_false]; rfl
      rw [State.awgCommit, hfind]
      dsimp only
      simp only [htwin, hmir, Bool.not_false, Bool.true_and, Bool.false_eq_true, if_false]
      exact congrArg _ hmsg
    · intro r
      refine next_eq (congrArg State.advanceAll ?_)
      have hmsg : (fun m : OpenMsg => { m with lastSeq := r.2.2, mirrored := m.mirrored || true }) =
          fun m => { m with lastSeq := r.2.2, mirrored := true } := funext fun m => by rw [Bool.or_true]
      rw [State.awgCommit, hfind]
      dsimp only
      simp only [htwin, hmir, Bool.not_false, Bool.true_and, Bool.false_eq_true, if_false, if_true]
      exact congrArg _ hmsg
  · intro n s j t a hq hfind
    refine ⟨fun hother => ?_, ?_⟩
    · refine next_settle_eq ?_
      rw [State.awgApply, hq, hfind]
      exact if_pos hother
    · intro hop u v
      have happly : s.awgApply n.toNat = (if a.twin then v else v.modMsg a.qpn a.msg fun m => { m with awgDone := true }).advanceAll := by
        rw [State.awgApply, hq, hfind]
        exact if_neg (not_not.2 hop)
      refine ⟨fun htwin => next_settle_eq ?_, fun htwin => next_settle_eq ?_⟩
      · rw [happly, if_pos htwin]
      · rw [happly, if_neg (by simp [htwin])]
  · refine next_settle_eq ?_
    rw [State.awgApply, hq]

/-! ### The permitted budget -/

/-- Settles O24. -/
theorem budgetFollowsCandidate : Obligations.BudgetFollowsCandidate := by
  refine ⟨?_, fun s hocc hclk => next_eq (if_pos (by simp [hocc, hclk])), fun s h => next_eq (if_neg ?_),
    fun codes s hgated => next_eq (if_pos hgated)⟩
  · intro codes s hclk t c e u b now
    have hrun : exec (.budgetCompute codes) s = .next (
        if c < b.permittedGib then
          (now.bump P.budget_decreases).event 0x2540 0 [b.permittedGib, c, match t.candidate.2 with
            | .configured => 0 | .energy => 1 | .area => 2 | .noMeasurement => 3]
        else if !b.firstSet then (if c > 0 then now else u)
        else if c ≥ b.permittedGib + 1 then
          if b.raiseSince.getD u.now + u.param P.budget_raise_hold_s * secNs ≤ u.now then now
          else u.modPde fun p => { p with budget := { p.budget with raiseSince := some (b.raiseSince.getD u.now) } }
        else u.modPde fun p => { p with budget := { p.budget with raiseSince := none } }) :=
      next_eq (if_neg (by simp [hclk]))
    rw [hrun]
    clear hrun
    refine ⟨fun hfall => ?_, fun hle hunset hpos => ?_, fun hle hunset hzero => ?_, fun hset hup hheld => ?_, fun hset hup hholds => ?_,
      fun hset heq => ?_⟩
    · exact next_eq (if_pos hfall)
    · rw [if_neg (Nat.not_lt.2 hle), if_pos (by simp [hunset]), if_pos hpos]
    · rw [if_neg (Nat.not_lt.2 hle), if_pos (by simp [hunset]), if_neg (by omega)]
    · rw [if_neg (by omega), if_neg (by simp [hset]), if_pos hup, if_pos hheld]
    · rw [if_neg (by omega), if_neg (by simp [hset]), if_pos hup, if_neg (Nat.not_le.2 hholds)]
    · rw [if_neg (by omega), if_neg (by simp [hset]), if_neg (by omega)]
  · rcases h with h | h <;> simp [h]

/-! ### Drain and refill -/

section
variable {s : State} {lsn : Nat}

/-- The segment that Promenade takes: its newly bad lines are faults, else it is drained once it has its buffer. -/
theorem State.promenade_takes (frameLen : Nat) (bad : List Nat) (hlive : s.live = true) (hnext : s.nextDrain = some lsn)
    (hnew : (s.pde.drains.any fun d => d.lsn == lsn) = false) :
    let lines := (bad.filter (· < 1024)).map fun i => lsn * segBytes + 64 * i
    let b := s.holdFor 2 segBytes (.drain lsn)
    s.promenade frameLen bad =
      if !lines.isEmpty then s.lineFaults 5 1 lines else if b.2 then b.1.drainSeg lsn frameLen else b.1 := by
  intro lines b
  have hfilter : ((s.nextDrain).filter fun n => !s.pde.drains.any fun d => d.lsn == n) = some lsn := by
    rw [hnext]
    simp [Option.filter, hnew]
  unfold State.promenade
  rw [if_neg (by simp [hlive]), hfilter]

theorem State.promenade_idle (frameLen : Nat) (bad : List Nat) (h : s.live = false ∨ s.nextDrain = none) : s.promenade frameLen bad = s := by
  unfold State.promenade
  rcases h with h | h
  · exact if_pos (by simp [h])
  · rw [h]
    exact ite_self _

section
variable {d : DrainJob} {key : Nat}

theorem State.drainDone_full (hfind : s.pde.drains.find? (·.lsn == lsn) = some d) :
    let t := s.modPde fun p => { p with drains := p.drains.filter fun x => x.lsn != lsn }
    t.copyKey lsn = some key → d.copy = none → (s.segState lsn = .draining ∨ s.segState lsn = .redirty) →
    s.drainDone lsn = t.setSegState lsn .dirty := by
  intro t hkey hcopy hst
  unfold State.drainDone
  rw [hfind]
  dsimp only
  rw [show (s.modPde _).copyKey lsn = some key from hkey]
  dsimp only
  rw [if_neg (by rcases hst with h | h <;> simp [h]), hcopy]
  dsimp only
  rw [if_pos hst]

/-- A completed drain maps its copy, is counted, and leaves the segment CLEAN or, written meanwhile, DIRTY. -/
theorem State.drainDone_mapped {e : DeepEntry} (hfind : s.pde.drains.find? (·.lsn == lsn) = some d) :
    let t := s.modPde fun p => { p with drains := p.drains.filter fun x => x.lsn != lsn }
    t.copyKey lsn = some key → d.copy = some e →
    let u := (((t.setDeep key e).bump P.drain_segments).bump P.drain_bytes_in 0 65536).bump P.drain_bytes_stored 0 d.len
    let v := u.bumpIf (d.kind = .raw) P.drain_raw_segments
    let done := fun (w : State) (x : Drained) => (w.modPde fun q =>
      { q with
        drainLog := (w.now, d.len) :: q.drainLog.filter fun e => w.now < e.1 + 60 * secNs
        segs := q.segs.upd lsn {} fun g => { g with exposed := false, state := x } }).noteUnits 0 e.units
    (s.segState lsn = .draining → s.drainDone lsn = done v .clean) ∧
    (s.segState lsn = .redirty → s.drainDone lsn = done (v.bump P.drain_redirty) .dirty) := by
  intro t hkey hcopy u v done
  refine ⟨fun hst => ?_, fun hst => ?_⟩ <;>
  · unfold State.drainDone
    rw [hfind]
    dsimp only
    rw [show (s.modPde _).copyKey lsn = some key from hkey]
    dsimp only
    rw [if_neg (by simp [hst]), hcopy, hst]
    rfl

end

/-- The lowest ABSENT segment that no refill has taken. -/
theorem exec_refillNext (hmode : s.mode.refills = true) (hfirst : s.firstAbsent (s.dramBytes / 65536) 0 = some lsn) :
    exec .refillNext s = .next (if (s.deepOf lsn).noRead then (s.fillAbsent lsn []).advanceAll
      else if (s.fetchDram lsn).fetching (.dram lsn) then (s.fetchDram lsn).modPde fun p => { p with refills := p.refills ++ [lsn] }
      else s.fetchDram lsn) := by
  refine next_eq ((if_neg (by simp [hmode])).trans ?_)
  rw [show s.firstAbsent (s.dramBytes / segBytes) 0 = some lsn from hfirst]

theorem State.refillDone_ready {f : Fetch} (hfetch : s.fetchOf (.dram lsn) = some f) (hready : f.ready = true) :
    let t := (s.dropFetch (.dram lsn)).modPde fun p => { p with refills := p.refills.filter (· != lsn) }
    s.refillDone lsn = (if t.segState lsn = .absent then t.fillAbsent lsn f.content else t).advanceAll := by
  intro t
  unfold State.refillDone
  rw [hfetch]
  exact if_neg (by simp [hready])

end

/-- Settles O25. -/
theorem drainAndRefill : Obligations.DrainAndRefill := by
  refine ⟨⟨?_, fun frameLen bad s h => next_settle_eq (State.promenade_idle frameLen bad h), ?_⟩, ?_, fun s h => next_eq ?_, ?_,
    fun lsn s hnone => next_eq ?_⟩
  · intro frameLen s lsn hlive hnext hnew b
    have htakes (bad : List Nat) := State.promenade_takes frameLen bad hlive hnext hnew
    refine ⟨fun hbuf => next_settle_eq ((htakes []).trans ?_), fun hbuf => next_settle_eq ((htakes []).trans ?_),
      fun bad i rest hbad => next_settle_eq ((htakes bad).trans ?_)⟩
    · exact (if_neg (by simp)).trans (if_pos hbuf)
    · exact (if_neg (by simp)).trans (if_neg (ne_true_of_eq_false hbuf))
    · rw [hbad]
      exact if_pos rfl
  · intro lsn s d key hfind t hkey
    refine ⟨fun hcopy hst => next_settle_eq (State.drainDone_full hfind hkey hcopy hst), ?_⟩
    intro e hcopy u v done
    obtain ⟨hclean, hdirty⟩ := State.drainDone_mapped hfind hkey hcopy
    exact ⟨fun hst => next_settle_eq (hclean hst), fun hst => next_settle_eq (hdirty hst)⟩
  · intro s lsn hmode hfirst
    rw [exec_refillNext hmode hfirst]
    refine ⟨fun hzero => next_eq (if_pos hzero), fun hread hbuf => next_eq ?_, fun hread hbuf => next_eq ?_⟩
    · exact (if_neg (ne_true_of_eq_false hread)).trans (if_pos hbuf)
    · exact (if_neg (ne_true_of_eq_false hread)).trans (if_neg (ne_true_of_eq_false hbuf))
  · rcases h with h | h
    · exact if_pos (by simp [h])
    · rw [show s.firstAbsent (s.dramBytes / segBytes) 0 = none from h]
      exact ite_self _
  · intro lsn s f hfetch t
    refine ⟨fun hready habsent => next_eq ?_, fun hready hpresent => next_eq ?_, fun hunready => next_eq ?_⟩
    · exact (State.refillDone_ready hfetch hready).trans (congrArg State.advanceAll (if_pos habsent))
    · exact (State.refillDone_ready hfetch hready).trans (congrArg State.advanceAll (if_neg hpresent))
    · unfold State.refillDone
      rw [hfetch]
      exact if_pos (by simp [hunready])
  · rw [State.refillDone, hnone]

end Sys2Proof.Machine

/-!
The statement on save and restore (R188 to R196).
-/

namespace Sys2Proof.Machine

/-! ### The save -/

section
variable {s : State} {r : SaveRun}

/-- With no save running the commands of a save change nothing. -/
theorem exec_save_idle (n : BitVec 32) (frameLen : Nat) (bad : List Nat) (mw : BitVec 32) (hrun : s.pde.run = none) :
    exec .saveShed s = .next s ∧ exec .saveRecordWriting s = .next s ∧ exec .saveDirectoryPlanned s = .next s ∧
    exec (.saveSegmentProgrammed n frameLen bad) s = .next s ∧ exec (.saveComplete mw) s = .next s := by
  refine ⟨next_eq ?_, next_eq ?_, next_eq ?_, next_eq ?_, next_eq ?_⟩
  · rw [State.saveShed, hrun]
  · rw [hrun]
  · rw [hrun]
  · rw [State.saveProgrammed, hrun]
  · rw [hrun]

theorem exec_saveRecordWriting (hrun : s.pde.run = some r) : exec .saveRecordWriting s = .next
    (if r.frozen || !s.xpt.rq0.isEmpty then s else if r.stopped then s.freezeSave.refuseParts.closeSave else s.freezeSave.refuseParts) := by
  refine next_eq ?_
  rw [hrun]

theorem exec_saveDirectoryPlanned (hrun : s.pde.run = some r) :
    exec .saveDirectoryPlanned s = .next (if r.frozen && !r.planned then s.planSave else s) := by
  refine next_eq ?_
  rw [hrun]

theorem exec_saveComplete (mw : BitVec 32) (hrun : s.pde.run = some r) : exec (.saveComplete mw) s = .next
    (if r.planned then (s.modPde fun p => { p with budget := { p.budget with powerW := mw.toNat / 1000 } }).closeSave else s) := by
  refine next_eq ?_
  rw [hrun]

/-- The record that the freeze of a save writes, with a key drawn for it. -/
theorem State.freezeSave_record (hrun : s.pde.run = some r) (hkeyed : s.sec.drbgStopped = false) :
    let rec_ := s.freezeSave.saveRecord r.slot
    rec_.state = .writing ∧ rec_.slot = r.slot ∧ rec_.trigger = r.trigger ∧ rec_.partsFailed = r.failed ∧
    rec_.partsPlanned = BitVec.ofNat 8 ((r.t0.parts.map fun k => 2 ^ k).sum) ∧ rec_.budgetGib = r.t0.budgetGib ∧
    rec_.t0Cycle = r.t0.cycle ∧ rec_.t0Ms = r.t0.ms ∧ rec_.t0Hours = r.t0.hours ∧ rec_.keyId = r.slot ∧ rec_.partsClosed = 0 ∧
    rec_.durationMs = 0 ∧ rec_.doneEntries = 0 := by
  intro rec_
  have hkey : s.qccWriteBack.sec.drbgStopped = false := hkeyed
  obtain ⟨seq, bytes, plan, hrec⟩ : ∃ seq bytes plan, s.freezeSave.saveRecord r.slot =
      { state := .writing, slot := r.slot, trigger := r.trigger
        partsPlanned := BitVec.ofNat 8 ((r.t0.parts.map fun k => 2 ^ k).sum), partsFailed := r.failed, budgetGib := r.t0.budgetGib
        saveSeq := seq, dramBytes := bytes, t0Cycle := r.t0.cycle, t0Ms := r.t0.ms, t0Hours := r.t0.hours, planEntries := plan
        keyId := r.slot } := by
    unfold State.saveRecord State.freezeSave State.setRec
    rw [hrun]
    simp only [State.event_pde, State.modFlash_pde, State.modPde_pde, State.modPde_sec, Tbl.getD_set_self, hkey, Bool.not_false, if_true]
    exact ⟨_, _, _, rfl⟩
  rw [show rec_ = _ from hrec]
  exact ⟨rfl, rfl, rfl, rfl, rfl, rfl, rfl, rfl, rfl, rfl, rfl, rfl, rfl⟩

/-- A segment whose lines are newly bad is left in the directory as it was planned. -/
theorem State.saveEntry_bad (s : State) (n frameLen : Nat) : s.saveEntry n frameLen true = s := by
  unfold State.saveEntry
  split
  · rfl
  · split
    · rfl
    · exact if_pos (.inr (.inl rfl))

theorem State.saveProgrammed_planned (hrun : s.pde.run = some r) (hplanned : r.planned = true) (n frameLen : Nat) (bad : List Nat) :
    s.saveProgrammed n frameLen bad =
      let lsn := match (s.dir r.slot)[n]? with
        | some e => e.lsn
        | none => 0
      let lines := (bad.filter (· < 1024)).map fun i => lsn * segBytes + 64 * i
      ((s.rqCount 5 segBytes).saveEntry n frameLen (!lines.isEmpty)).lineFaults 5 1 lines := by
  unfold State.saveProgrammed
  rw [hrun]
  exact if_neg (by simp [hplanned])

end

/-! ### The restore -/

section
variable {s : State} {r : RestoreRun} {slot : Nat} {e : DirEntry} {n : Nat}

/-- What is done with an entry of the selected record's directory. -/
theorem State.restoreEntry_eq (hrun : s.pde.restore = some r) (hslot : r.slot = some slot) (he : (s.dir slot)[n]? = some e) (o : RestoreOutcome) :
    let rec_ := s.saveRecord slot
    let named : Bool := o ≠ .unnamed && e.seqLo == rec_.saveSeq % 64
    let good : Bool := o = .restored && named && e.kind ≠ .planned && (e.kind = .zero || (s.carrier e.part).state.readable) &&
      s.sec.saveKeys.has rec_.keyId && !s.pwr.unsavedPending && !s.setFenced (s.setOf e.lsn) && e.lsn * segBytes < s.dramBytes && n < rec_.planEntries
    s.restoreEntry n o =
      if n ≥ rec_.planEntries ∨ !s.rst.copied then s
      else if good then
        (((s.fillSegment e.lsn e.content).setSeg e.lsn { state := .dirty, lastMs := s.now / msNs }).rqCount 6 segBytes).modPde fun p =>
          { p with restore := some { r with restored := insertNat e.lsn r.restored } }
      else if named then s.modPde fun p => { p with restore := some { r with incomplete := insertNat e.lsn r.incomplete } }
      else s.modPde fun p => { p with restore := some { r with unnamed := true } } := by
  intro rec_ named good
  unfold State.restoreEntry
  rw [hrun]
  dsimp only
  rw [hslot]
  dsimp only
  rw [he]

end

theorem State.lostClear_eq (s : State) (num ak : Nat) : s.lostClear num ak =
    if (s.desc (akIndex ak)).gen ≠ akGen ak then s.failed num 0x0B
    else if akIndex ak ∈ s.reg.lost then (s.modReg fun g => { g with lost := g.lost.filter (· != akIndex ak) }).done num
    else s.failed num 0x0A := by
  unfold State.lostClear
  by_cases h : akIndex ak ∈ s.reg.lost <;> simp [h]

/-- Settles O26. -/
theorem saveAndRestore : Obligations.SaveAndRestore := by
  refine ⟨⟨fun s r hrun => ?_, fun s n frameLen bad mw hrun => exec_save_idle n frameLen bad mw hrun⟩, ?_, ?_, ?_, ?_, ?_, ?_, ?_⟩
  · refine ⟨fun hshed => next_eq ?_, fun hshed => next_eq ?_, fun hfrozen hrq hstopped => ?_, fun hfrozen hrq hstopped => ?_,
      State.freezeSave_record hrun, fun hnot => ?_, ?_, fun hnot => ?_, fun n frameLen hplanned => next_eq ?_, ?_,
      fun mw hplanned => ?_, fun n frameLen bad mw hplanned => ⟨next_eq ?_, ?_⟩⟩
    · rw [State.saveShed, hrun]
      exact if_neg (ne_true_of_eq_false hshed)
    · rw [State.saveShed, hrun]
      exact if_pos hshed
    · rw [exec_saveRecordWriting hrun]
      exact next_eq ((if_neg (by simp [hfrozen, hrq])).trans (if_neg (ne_true_of_eq_false hstopped)))
    · rw [exec_saveRecordWriting hrun]
      exact next_eq ((if_neg (by simp [hfrozen, hrq])).trans (if_pos hstopped))
    · rw [exec_saveRecordWriting hrun]
      exact next_eq (if_pos (by rcases hnot with h | h <;> simp [h]))
    · intro hfrozen hplanned l rec_ t
      rw [exec_saveDirectoryPlanned hrun]
      refine next_eq ((if_pos (by simp [hfrozen, hplanned])).trans ?_)
      rw [State.planSave, hrun]
    · rw [exec_saveDirectoryPlanned hrun]
      exact next_eq (if_neg (by rcases hnot with h | h <;> simp [h]))
    · rw [State.saveProgrammed_planned hrun hplanned]
      rfl
    · intro n frameLen e bad i rest hplanned he hbad
      refine next_eq ?_
      rw [State.saveProgrammed_planned hrun hplanned, he, hbad]
      exact congrArg (State.lineFaults · 5 1 _) (State.saveEntry_bad _ _ _)
    · rw [exec_saveComplete mw hrun]
      exact next_eq (if_pos hplanned)
    · rw [State.saveProgrammed, hrun]
      exact if_pos (by simp [hplanned])
    · rw [exec_saveComplete mw hrun]
      exact next_eq (if_neg (ne_true_of_eq_false hplanned))
  · intro n s r slot e hrun hslot he
    have hentry := State.restoreEntry_eq hrun hslot he
    refine ⟨?_, fun o hnot => next_eq ((hentry o).trans (if_pos (by simpa using hnot)))⟩
    intro hin hcopied can bad none_
    have hturn : ¬ (n.toNat ≥ (s.saveRecord slot).planEntries ∨ (!s.rst.copied) = true) := by simp [hin, hcopied]
    refine ⟨fun hname hcan => ?_, fun hname hcannot => next_eq ?_, fun hname => next_eq ?_, fun o hname => next_eq ?_, next_eq ?_⟩
    · intro t
      refine next_eq ((hentry .restored).trans ((if_neg hturn).trans (if_pos ?_)))
      simp only [can] at hcan
      simpa [hname, hin, and_assoc] using hcan
    · refine (hentry .restored).trans ((if_neg hturn).trans ((if_neg ?_).trans (if_pos ?_)))
      · intro hgood
        refine absurd (?_ : can = true) (ne_true_of_eq_false hcannot)
        simp only [can]
        simpa [hname, hin, and_assoc] using hgood
      · simp [hname]
    · exact (hentry .failed).trans ((if_neg hturn).trans ((if_neg (by simp)).trans (if_pos (by simp [hname]))))
    · exact (hentry o).trans ((if_neg hturn).trans ((if_neg (by simp [hname])).trans (if_neg (by simp [hname]))))
    · exact (hentry .unnamed).trans ((if_neg hturn).trans ((if_neg (by simp)).trans (if_neg (by simp))))
  · intro r s p h a ak i
    have hrun : exec (.regionLostClear r) s = .next (a.lostClear (s.namedBy r) ak).settle :=
      next_settle_eq (State.command_plain (fun num x s => s.lostClear num (leNat x)) h)
    rw [hrun, State.lostClear_eq]
    refine ⟨fun hgen hlost => next_settle_eq ?_, fun hgen => next_settle_eq (if_pos hgen), fun hgen hlost => next_settle_eq ?_⟩
    · exact (if_neg (not_not.2 hgen)).trans (if_pos hlost)
    · exact (if_neg (not_not.2 hgen)).trans (if_neg hlost)
  · exact fun r s p h => next_eq (State.command_plain (fun _ _ s => s.rateTestStart) h)
  · intro rate mw s htest w t
    exact next_eq (if_neg (by simp [htest]))
  · exact fun rate mw s htest => next_eq (if_pos (by simp [htest]))
  · exact fun s hmode hup => next_eq (if_pos (by simp [hmode, hup]))
  · exact fun s h => next_eq (if_neg (by rcases h with h | h <;> simp [h]))

end Sys2Proof.Machine

/-!
The statements on the twin link (R203 to R216, R233).
-/

namespace Sys2Proof.Machine

/-! ### Link and HELLO -/

section
variable {s : State} {k : Nat}

theorem State.twinLinkUp_rises (hclk : s.gated (9 + k) = false) (hfence : 9 + k ∉ s.rst.fenced) (hreset : 9 + k ∉ s.rst.inReset)
    (hdown : (s.tport k).linkUp = false) :
    let t := (s.modTport k fun t => { t with linkUp := true }).event 0x3140 k [1]
    s.twinLinkUp k = if t.twinOn then t.helloStarts k else t := by
  intro t
  exact if_neg (by simp [hclk, hfence, hreset, hdown])

variable {h : TwinHdr} {b : HelloBody}

/-- A sound HELLO at a port that is up and not refused is judged by its cause. -/
theorem State.twinHello_judged (hon : s.twinOn = true) (hup : (s.tport h.port).linkUp = true) (hfec : h.fec.uncorrectable = 0)
    (hmac : h.macsecOk = true) (hlen : h.bodyLenOk = true) (hdown : (s.tport h.port).state ≠ .down)
    (hrefused : (s.tport h.port).state ≠ .refused) :
    let c := s.twinCounted h
    let n := c.helloCause h.port b
    let v := ((c.modTport h.port fun t => { t with state := .refused }).bumpIf (n == 3) P.mpv_refusals).event 0x2640 0
      [h.port.val, n, b.member.toNat]
    s.twinHello h b = if n = 0 then c.helloAgree h.port b else if c.tportUp h.port then v.twinPortLost h.port else v := by
  intro c n v
  refine (if_neg (by simp [hon, hup])).trans ((if_neg (by simp [hfec])).trans ((if_neg (by simp [hmac])).trans ((if_neg (by simp [hlen])).trans
    ((if_neg (by simp [hdown, hrefused])).trans ?_))))
  rfl

end

/-- Settles O27. -/
theorem twinPortsAndHello : Obligations.TwinPortsAndHello := by
  refine ⟨?_, ?_, fun k s hdown => next_settle_eq ?_, fun k s => ⟨fun hon hst => next_eq ?_, fun hst => next_eq ?_⟩, ?_, fun h s hacc => ?_,
    fun s => ⟨fun hon => next_eq (if_pos hon), fun hoff => next_eq (if_neg (ne_true_of_eq_false hoff))⟩⟩
  · intro k s hclk hfence hreset hdown t
    have hrises := State.twinLinkUp_rises hclk hfence hreset hdown
    exact ⟨fun hon => next_eq (hrises.trans (if_pos hon)), fun hoff => next_eq (hrises.trans (if_neg (ne_true_of_eq_false hoff)))⟩
  · intro k s hup t t' u
    exact next_settle_eq (if_pos hup)
  · exact if_neg (ne_true_of_eq_false hdown)
  · exact if_pos (by simp [hon, hst])
  · exact if_neg (by simp [hst])
  · intro h b s hon hup hfec hmac hlen hdown hrefused c
    have hjudged := State.twinHello_judged (b := b) hon hup hfec hmac hlen hdown hrefused
    refine ⟨fun hzero => next_settle_eq (hjudged.trans (if_pos hzero)), ?_⟩
    rintro n rfl hn u v
    exact ⟨fun hlost => next_settle_eq (hjudged.trans ((if_neg hn).trans (if_neg (ne_true_of_eq_false hlost)))),
      fun hport => next_settle_eq (hjudged.trans ((if_neg hn).trans (if_pos hport)))⟩
  · exact ⟨fun t1 id => next_eq (State.twinFrame_accepts hacc _), fun t1 t2 t3 id => next_eq (State.twinFrame_accepts hacc _)⟩

/-! ### WRITE frames and their acknowledgement -/

/-- A frame of a lower epoch is refused with STALE_EPOCH. -/
theorem State.groupFrame_stale {s : State} {h : TwinHdr} {n : Nat} (hacc : s.twinAccepts h n) (hgroup : h.group.toNat ≠ 255)
    (hold : h.epoch.toNat < ((s.twinCounted h).grp h.group.toNat).epoch) (f : Nat → State → State) :
    s.groupFrame h n f = (s.twinCounted h).sendMnak h.group.toNat 1 h.seq.toNat := by
  unfold State.groupFrame
  dsimp only
  rw [State.twinFrame_accepts hacc, if_neg hgroup, if_pos (by simp [hold])]

/-- Settles O28. -/
theorem mirroredWritesFlow : Obligations.MirroredWritesFlow := by
  refine ⟨?_, fun h b d bad s hacc hgroup hold => next_settle_eq (State.groupFrame_stale hacc hgroup hold _), fun g s => ⟨?_, fun hidle => ?_⟩,
    ?_, fun g s => ⟨fun f hon hfind => next_eq ?_, fun hidle => next_eq ?_⟩,
    fun g s => ⟨fun f hfind => ⟨fun hrole => next_settle_eq ?_, fun hrole => next_settle_eq ?_⟩, fun hnone => next_settle_eq ?_, ?_⟩,
    fun g s => ⟨fun hon hrole hgap hheld => next_settle_eq (if_pos ?_), fun hheld hrefused => next_settle_eq (if_neg ?_)⟩⟩
  · intro h b d bad s hacc c
    have hframe (f : Nat → State → State) := State.groupFrame_accepts hacc f
    refine ⟨?_, fun hbad => next_settle_eq ((hframe _).trans (if_pos ?_))⟩
    · intro hdata hlen hbody f
      refine next_settle_eq ((hframe _).trans (if_neg ?_))
      rcases hdata with hd | hd <;> simp [hd, hlen, hbody]
    · rcases hbad with ⟨hd, hu⟩ | hl | hb
      · simp [hd, hu]
      · simp [hl]
      · simp [hb]
  · intro hon hrole t due
    have htick : s.mackTick g = if (t.grp g).role = .standby && ((t.grp g).mackDue || ((t.grp g).windowZero && t.mackWindow > 0)) then t.sendMack g
        else t := if_neg (by simp [hon, hrole])
    exact ⟨fun hdue => next_settle_eq (htick.trans (if_pos (by simpa [due] using hdue))),
      fun hnot => next_settle_eq (htick.trans (if_neg (by simpa [due] using hnot)))⟩
  · exact next_settle_eq (if_pos (by rcases hidle with h | h <;> simp [h]))
  · intro h acked free window s hacc c g
    exact ⟨next_settle_eq (State.groupFrame_accepts hacc _), fun reason seq => next_settle_eq (State.groupFrame_accepts hacc _ _)⟩
  · unfold State.retxOldest
    rw [if_neg (by simp [hon]), hfind]
  · unfold State.retxOldest
    rcases hidle with h | h
    · exact if_pos (by simp [h])
    · rw [h]
      exact ite_self _
  · rw [State.ackMissing, hfind]
    dsimp only
    rw [hrole]
  · rw [State.ackMissing, hfind]
    dsimp only
    rw [hrole]
  · rw [State.ackMissing, hnone]
  · intro x hfin hresync hunit
    exact (if_neg (by simp [hfin])).trans ((if_neg (by simp [hresync])).trans (if_neg (by simp [hunit])))
  · rcases hheld with hh | hr
    · simp only [hon, hrole, hgap]
      simp [hh]
    · simp only [hon, hrole, hgap]
      simp [Option.isSome_iff_ne_none, hr]
  · simp [hheld, hrefused]

/-! ### Reads from the twin -/

section
variable {s : State} {p g : Nat} {b : ReadBody} {bad : List Nat}

/-- A group that is no standby in sync, or has no such range, answers with status 1. -/
theorem State.readReq_refused
    (h : (s.grp g).role ≠ .standby ∨ (s.grp g).inSync = false ∨ s.mirrorTarget g b.index.toNat b.offset.toNat b.length.toNat = none) :
    s.readReq p g b bad = s.readStatus p g b 1 := by
  have hserve : s.serveRead p g b bad = (s.readStatus p g b 1, true) := by
    unfold State.serveRead
    dsimp only
    by_cases hsync : (s.grp g).role ≠ .standby ∨ (!(s.grp g).inSync) = true
    · exact if_pos hsync
    · rw [if_neg hsync]
      obtain h | h | h := h
      · exact absurd (.inl h) hsync
      · exact absurd (.inr (by simp [h])) hsync
      · rw [h]
  unfold State.readReq
  rw [hserve]
  exact if_pos rfl

variable {off : Nat} (hrole : (s.grp g).role = .standby) (hsync : (s.grp g).inSync = true)
  (htarget : s.mirrorTarget g b.index.toNat b.offset.toNat b.length.toNat = some off)

include hrole hsync htarget

theorem State.readReq_waits (h : s.ackedSeq g < b.afterSeq.toNat ∨ s.unitHolds b.index.toNat off b.length.toNat = true) :
    s.readReq p g b bad = s.modMir fun m => { m with waitReads := m.waitReads ++ [(p, g, b, bad)] } := by
  have hserve : s.serveRead p g b bad = (s, false) := by
    unfold State.serveRead
    dsimp only
    rw [if_neg (by simp [hrole, hsync]), htarget]
    exact if_pos (by simpa using h)
  unfold State.readReq
  rw [hserve]
  exact if_neg Bool.false_ne_true

/-- A range whose segments and lines are all good is answered with its data. -/
theorem State.readReq_answers (hacked : b.afterSeq.toNat ≤ s.ackedSeq g) (hunit : s.unitHolds b.index.toNat off b.length.toNat = false) :
    let idx := b.index.toNat
    let n := b.length.toNat
    let r := (segsOf off n).foldl (fun (r : State × Avail) i =>
      let x := r.1.accessSeg idx i false true
      (x.1, if r.2 = .poison ∨ x.2 = .poison then .poison else if r.2 = .wait then .wait else x.2)) (s, .ready)
    let t := r.1.rqCount 4 n
    let lineAt := fun (i : Nat) => (t.addrIn idx ((off / 64 + i) * 64)).getD 0 / 64
    let k := ceilDiv n 4096
    r.2 = .ready →
    ((List.range ((off + n - 1) / 64 - off / 64 + 1)).filter fun i => t.dram.poison.contains (lineAt i) || bad.contains i) = [] →
    let u := t.lineFaults 4 1 []
    s.readReq p g b bad = (List.range k).foldl (fun s i =>
      let d := slice (u.regionRead idx off n) (4096 * i) 4096
      s.emitTwin p g (s.grp g).epoch 0 (.readResp
        { b with offset := b.offset + BitVec.ofNat 64 (4096 * i), length := BitVec.ofNat 32 d.length } 0 d (i + 1 == k))) u := by
  intro idx n r t lineAt k hready hgood u
  have hserve : s.serveRead p g b bad = ((List.range k).foldl (fun s i =>
      let d := slice (u.regionRead idx off n) (4096 * i) 4096
      s.emitTwin p g (s.grp g).epoch 0 (.readResp
        { b with offset := b.offset + BitVec.ofNat 64 (4096 * i), length := BitVec.ofNat 32 d.length } 0 d (i + 1 == k))) u, true) := by
    unfold State.serveRead
    dsimp only
    rw [if_neg (by simp [hrole, hsync]), htarget]
    dsimp only
    rw [if_neg (by simpa [hunit] using hacked), show (List.foldl _ (s, Avail.ready) _).2 = Avail.ready from hready]
    dsimp only
    rw [show List.filter _ (List.range ((off + b.length.toNat - 1) / 64 - off / 64 + 1)) = [] from hgood]
    rfl
  unfold State.readReq
  rw [hserve]
  exact if_pos rfl

end

theorem State.readResp_eq {s : State} {b : ReadBody} {r : TwinRead} (hfind : s.tmv.reads.find? (·.reqId == b.reqId.toNat) = some r)
    (status : Nat) (d : Bytes) (last : Bool) :
    let u := s.modTmv fun t => { t with reads := t.reads.filter (·.reqId != r.reqId) }
    let ends := if r.line.isSome then u else u.twinNoCopy r.idx r.seg
    let got := (b.offset.toNat - (s.desc r.idx).base - r.seg * segBytes, d) :: r.got
    let all := (got.mergeSort fun x y => x.1 ≤ y.1).flatMap (·.2)
    s.readResp b status d last =
      if status ≠ 0 then ends
      else if !last then
        s.modTmv fun t => { t with reads := t.reads.map fun x => if x.reqId = r.reqId then { x with got := got } else x }
      else if (got.map (·.2.length)).sum < segBytes then ends
      else if r.line.isSome then u.repairSegment r.idx r.seg all else u.twinCopy r.idx r.seg (cellsOf all) := by
  intro u ends got all
  unfold State.readResp
  rw [hfind]

/-- Settles O30. -/
theorem twinReads : Obligations.TwinReads := by
  refine ⟨?_, ?_⟩
  · intro h b bad s hacc c g idx n
    have hreq : exec (.readReq h b bad) s = .next (c.readReq h.port g b bad) := next_eq (State.groupFrame_accepts hacc _)
    rw [hreq]
    refine ⟨fun hno => next_eq (State.readReq_refused ?_), fun _ _ hno => next_eq (State.readReq_refused (.inr (.inr hno))), ?_⟩
    · exact hno.imp_right .inl
    · intro off hrole hsync htarget
      refine ⟨fun hwait => next_eq (State.readReq_waits hrole hsync htarget hwait), ?_⟩
      intro hacked hunit r t lineAt k hready hgood u
      exact next_eq (State.readReq_answers hrole hsync htarget hacked hunit hready hgood)
  · intro h b st d s hacc c
    have hresp : exec (.readResp h b st d) s = .next (c.readResp b st.toNat d h.last).settle :=
      next_settle_eq (State.groupFrame_accepts hacc _)
    rw [hresp]
    refine ⟨fun hnone => next_settle_eq ?_, ?_⟩
    · rw [State.readResp, hnone]
    · intro r hfind u ends got all
      have heq := State.readResp_eq hfind st.toNat d h.last
      have hzero (hst : st = 0) : ¬ st.toNat ≠ 0 := by simp [hst]
      refine ⟨fun hst => next_settle_eq (heq.trans (if_pos ?_)), fun hst hlast => next_settle_eq (heq.trans ((if_neg (hzero hst)).trans (if_pos ?_))),
        fun hst hlast hshort => next_settle_eq (heq.trans ((if_neg (hzero hst)).trans ((if_neg ?_).trans (if_pos hshort)))),
        fun hst hlast hall hline => next_settle_eq (heq.trans ((if_neg (hzero hst)).trans ((if_neg ?_).trans
          ((if_neg (Nat.not_lt.2 hall)).trans (if_pos ?_))))),
        fun hst hlast hall hline => next_settle_eq (heq.trans ((if_neg (hzero hst)).trans ((if_neg ?_).trans
          ((if_neg (Nat.not_lt.2 hall)).trans (if_neg ?_)))))⟩
      · exact fun e => hst (BitVec.eq_of_toNat_eq e)
      · simp [hlast]
      · simp [hlast]
      · simp [hlast]
      · exact Option.isSome_iff_ne_none.2 hline
      · simp [hlast]
      · simp [hline]

end Sys2Proof.Machine

/-!
The statement on resync and the CONFIG exchange (R216, R227, R231, R232).
-/

namespace Sys2Proof.Machine

/-! ### Resync -/

/-- What opens a resync reaches a holder under any epoch. -/
theorem State.groupFrame_serves {s : State} {h : TwinHdr} {n : Nat} (hacc : s.twinAccepts h n) (hgroup : h.group.toNat ≠ 255)
    (hserves : ((s.twinCounted h).grp h.group.toNat).role.serves = true) (f : Nat → State → State) :
    s.groupFrame h n f Role.serves = f h.group.toNat (s.twinCounted h) := by
  unfold State.groupFrame
  dsimp only
  rw [State.twinFrame_accepts hacc, if_neg hgroup, if_neg (by simp [hserves])]

section
variable {s : State} {g : Nat}

theorem State.begin_solo (epoch : Nat) (b : ResyncBody) (h : (s.grp g).role = .solo) :
    s.begin_ g epoch b = ((s.resyncBreak g).modGrp g fun x =>
      { x with source := some { baseEpoch := b.baseEpoch.toNat, runsExpected := b.runs.toNat } }).tryDecide g := by
  unfold State.begin_
  dsimp only
  rw [h]

theorem State.begin_active (epoch : Nat) (b : ResyncBody) (h : (s.grp g).role = .active) :
    s.begin_ g epoch b = (s.declareSolo g).modGrp g fun x =>
      { x with source := some { baseEpoch := b.baseEpoch.toNat, runsExpected := b.runs.toNat } } := by
  unfold State.begin_
  dsimp only
  rw [h]

theorem State.begin_standby (epoch : Nat) (b : ResyncBody) (h : (s.grp g).role = .standby) :
    let t := ((s.dropUnits g).setRole g .standby epoch).modMir fun m =>
      { m with configResults := m.configResults.filter fun c => !(c.group == g && c.op == cfgSync) }
    s.begin_ g epoch b =
      (t.setTarget g (some { answered := true, full := b.full, runsExpected := b.runs.toNat
                             awaiting := if b.full then t.groupSegs g else [] })).modGrp g fun x =>
        { x with placed := b.nextSeq.toNat - 1, held := [], refused := none, inSync := false } := by
  unfold State.begin_
  dsimp only
  rw [h]

theorem State.begin_fenced (epoch : Nat) (b : ResyncBody) (h : (s.grp g).role = .fenced) : s.begin_ g epoch b = s := by
  unfold State.begin_
  dsimp only
  rw [h]

theorem State.endAnswered_asked {r : ResyncSource} (b : ResyncBody) (hrole : (s.grp g).role = .solo) (hsource : (s.grp g).source = some r)
    (hend : r.endSent = true) :
    s.endAnswered g (s.grp g).epoch b =
      if b.done then (s.modGrp g fun x => { x with syncEpoch := x.epoch }).openRequest opActive g (s.grp g).epoch false 0 0 else s := by
  unfold State.endAnswered
  dsimp only
  rw [hsource]
  exact if_neg (by simp [hrole, hend])

theorem State.endAnswered_unasked {epoch : Nat} (b : ResyncBody)
    (h : (s.grp g).role ≠ .solo ∨ (s.grp g).source = none ∨ epoch ≠ (s.grp g).epoch) : s.endAnswered g epoch b = s := by
  unfold State.endAnswered
  dsimp only
  split
  · rename_i hsource
    refine if_pos ?_
    obtain h | h | h := h
    · exact .inl h
    · rw [h] at hsource
      cases hsource
    · exact .inr (.inr h)
  · rfl

section
variable {l : List ResyncRun}

theorem State.takeMap_target {t : ResyncTarget} (hrole : (s.grp g).role = .standby) (htarget : (s.grp g).target = some t)
    (hans : t.answered = true) :
    s.takeMap g l = s.setTarget g (some { t with awaiting := addNew t.awaiting (segsOfRuns l), runsGot := t.runsGot + l.length }) := by
  unfold State.takeMap
  dsimp only
  rw [hrole]
  dsimp only
  rw [htarget]
  exact if_neg (by simp [hans])

theorem State.takeMap_source {r : ResyncSource} (hrole : (s.grp g).role = .solo ∨ (s.grp g).role = .active)
    (hsource : (s.grp g).source = some r) (hopen : r.started = false) :
    s.takeMap g l = (s.modGrp g fun x =>
      { x with source := some { r with runs := addNew r.runs (segsOfRuns l), runsGot := r.runsGot + l.length } }).tryDecide g := by
  unfold State.takeMap
  dsimp only
  rw [hsource]
  rcases hrole with h | h <;>
  · rw [h]
    exact if_neg (by simp [hopen])

theorem State.takeMap_fenced (hrole : (s.grp g).role = .fenced) : s.takeMap g l = s := by
  unfold State.takeMap
  dsimp only
  rw [hrole]

end

/-- The next act of a source that has started and has not sent RESYNC_END, with its descriptors acknowledged. -/
theorem State.resyncNext_acts {r : ResyncSource} (hon : s.twinOn = true) (hrole : (s.grp g).role = .solo) (hsource : (s.grp g).source = some r)
    (hstarted : r.started = true) (hend : r.endSent = false) (hconfigs : (s.mir.configs.any fun c => c.group == g && c.op == cfgSync) = false) :
    let todo := r.todo.filter fun p => (s.desc p.1).state ≠ .free
    (∀ p, todo.find? s.sendable = some p →
      s.resyncNext g = if s.hasCredit g segBytes then s.sendSegment g { r with todo := todo } p else s) ∧
    (todo.find? s.sendable = none →
      s.resyncNext g = if !todo.isEmpty then s
        else if !r.again.isEmpty && !r.resentOnce then
          s.modGrp g fun x => { x with source := some { r with todo := r.again, again := [], resentOnce := true } }
        else
          ((s.modGrp g fun x => { x with source := some { r with endSeq := r.lastData, endSent := true } }).issueFrame g
            { seq := 0, idx := 0, off := 0, data := some []
              fin := some { baseEpoch := 0, newEpoch := 0, endSeq := BitVec.ofNat 64 r.lastData, runs := 0, nextSeq := 0, done := false
                            active := false, full := r.full } }).1) := by
  intro todo
  have hgo : ¬ (!s.twinOn || decide ((s.grp g).role ≠ .solo) || !r.started || r.endSent ||
      s.mir.configs.any fun c => c.group == g && c.op == cfgSync) = true := by
    rw [hconfigs]
    simp [hon, hrole, hstarted, hend]
  refine ⟨fun p hfind => ?_, fun hfind => ?_⟩ <;>
  · unfold State.resyncNext
    dsimp only
    rw [hsource]
    refine (if_neg hgo).trans ?_
    rw [show List.find? s.sendable (r.todo.filter _) = _ from hfind]

end

/-! ### The CONFIG exchange -/

section
variable {s : State} {g op idx : Nat} {image : Bytes} {backing : Option Nat}

/-- A CONFIG whose answer is not kept, or that is no repeat, is applied and answered. -/
theorem State.config_applies {retx : Bool} (h : retx = true → s.configAnswered g op idx image = none) :
    let r := s.applyConfig g op idx image backing
    let k : ConfigResult := { group := g, op := op, idx := idx, image := image, result := r.2, at_ := s.now }
    let t := r.1.modMir fun m => { m with configResults := (m.configResults.filter fun c => !(c.group == g && c.idx == idx)) ++ [k] }
    s.config g retx op idx image backing = t.twinSend g (t.grp g).epoch 0 (.configAck op idx r.2) := by
  intro r k t
  have hnone : (if retx = true then s.configAnswered g op idx image else none) = none := by
    cases retx with
    | false => rfl
    | true => exact h rfl
  unfold State.config
  dsimp only
  rw [hnone]

theorem State.config_repeats {k : ConfigResult} (h : s.configAnswered g op idx image = some k) :
    s.config g true op idx image backing = s.twinSend g (s.grp g).epoch 0 (.configAck op idx k.result) := by
  unfold State.config
  dsimp only
  rw [if_pos rfl, h]

variable {k : PendingConfig} {result : Nat}

theorem State.configAck_register (h : s.mir.configs.find? (fun c => c.group == g && c.op == 1 && c.idx == idx) = some k) :
    s.configAck g 1 idx result = (s.dropConfig g 1 idx).regAnswered idx (result == 0) := by
  unfold State.configAck
  rw [h]
  rfl

theorem State.configAck_drain (hop : op = 2 ∨ op = 3) (h : s.mir.configs.find? (fun c => c.group == g && c.op == op && c.idx == idx) = some k) :
    s.configAck g op idx result = (s.dropConfig g op idx).drainAnswered idx (result == 0) := by
  unfold State.configAck
  rw [h]
  rcases hop with rfl | rfl <;> rfl

theorem State.configAck_sync (h : s.mir.configs.find? (fun c => c.group == g && c.op == 4 && c.idx == idx) = some k) :
    s.configAck g 4 idx result = if result == 0 then s.dropConfig g 4 idx else (s.dropConfig g 4 idx).resyncBreak g := by
  unfold State.configAck
  rw [h]
  rfl

theorem State.configAck_pair (h : s.mir.configs.find? (fun c => c.group == g && c.op == 5 && c.idx == idx) = some k) :
    s.configAck g 5 idx result =
      if result == 0 then (s.dropConfig g 5 idx).openRequest opPair g 0 false 0 k.cmd else (s.dropConfig g 5 idx).failCmd k.cmd 0x04 := by
  unfold State.configAck
  rw [h]
  rfl

theorem State.configAck_unpair (h : s.mir.configs.find? (fun c => c.group == g && c.op == 6 && c.idx == idx) = some k) :
    s.configAck g 6 idx result = if k.cmd = 0 then s.dropConfig g 6 idx else (s.dropConfig g 6 idx).done k.cmd := by
  unfold State.configAck
  rw [h]
  rfl

end

/-- Settles O31. -/
theorem resyncAndConfigExchange : Obligations.ResyncAndConfigExchange := by
  refine ⟨⟨?_, ?_, ?_, ?_, ?_, ?_⟩, ?_, ?_, ?_, ?_⟩
  · intro h b s hacc hgroup c g start
    refine ⟨fun hrole => next_settle_eq ?_, fun hrole => next_settle_eq ?_⟩
    · exact (State.groupFrame_serves hacc hgroup (by rw [show _ = Role.solo from hrole]; rfl) _).trans (State.begin_solo _ _ hrole)
    · exact (State.groupFrame_serves hacc hgroup (by rw [show _ = Role.active from hrole]; rfl) _).trans (State.begin_active _ _ hrole)
  · intro h b s hacc c g
    have hframe (f : Nat → State → State) (old : Role → Bool) : s.groupFrame h 1 f old = f g c := State.groupFrame_accepts hacc f old
    refine ⟨?_, fun hrole => next_settle_eq ((hframe _ _).trans (State.begin_fenced _ _ hrole)), fun hseq => next_settle_eq ((hframe _ _).trans (if_neg hseq)), ?_,
      fun hseq hno => next_settle_eq ((hframe _ _).trans ((if_pos hseq).trans (State.endAnswered_unasked b (hno.imp_right (Or.imp_right id)))))⟩
    · intro hrole t u
      exact next_settle_eq ((hframe _ _).trans (State.begin_standby _ _ hrole))
    · intro r hrole hsource hend hseq hepoch
      have hans : exec (.resyncEnd h b) s = .next (if b.done then (c.modGrp g fun x => { x with syncEpoch := x.epoch }).openRequest opActive g
          (c.grp g).epoch false 0 0 else c).settle := by
        refine next_settle_eq ((hframe _ _).trans ((if_pos hseq).trans ?_))
        rw [hepoch]
        exact State.endAnswered_asked b hrole hsource hend
      exact ⟨fun hdone => hans.trans (next_settle_eq (if_pos hdone)), fun hdone => hans.trans (next_settle_eq (if_neg (ne_true_of_eq_false hdone)))⟩
  · intro h runs s hacc c g
    have hframe (f : Nat → State → State) (old : Role → Bool) : s.groupFrame h 1 f old = f g c := State.groupFrame_accepts hacc f old
    refine ⟨fun hbad => next_settle_eq ((hframe _ _).trans (if_pos ?_)), fun hsome hmax => ?_⟩
    · rcases hbad with hb | hb <;> simp [hb]
    · have hmap : exec (.resyncMap h runs) s = .next (c.takeMap g runs).settle :=
        next_settle_eq ((hframe _ _).trans (if_neg (by simp [hsome, hmax])))
      rw [hmap]
      exact ⟨fun t hrole htarget hans => next_settle_eq (State.takeMap_target hrole htarget hans),
        fun r hrole hsource hopen => next_settle_eq (State.takeMap_source hrole hsource hopen),
        fun hrole => next_settle_eq (State.takeMap_fenced hrole)⟩
  · intro g s r hon hrole hsource hstarted hend hconfigs todo
    obtain ⟨hsend, hlast⟩ := State.resyncNext_acts hon hrole hsource hstarted hend hconfigs
    refine ⟨fun p hfind => ⟨fun hcredit => next_settle_eq ?_, fun hcredit => next_settle_eq ?_⟩, fun hmore hnone => next_settle_eq ?_,
      fun hall hagain honce => next_settle_eq ?_, fun hall hdone => next_settle_eq ?_⟩
    · exact (hsend p hfind).trans (if_pos hcredit)
    · exact (hsend p hfind).trans (if_neg (ne_true_of_eq_false hcredit))
    · have hsome : todo.isEmpty = false := List.isEmpty_eq_false_iff.2 hmore
      exact (hlast hnone).trans (if_pos (congrArg (!·) hsome))
    · have hempty : todo.isEmpty = true := List.isEmpty_iff.2 hall
      have hnone : todo.find? s.sendable = none := by rw [hall, List.find?_nil]
      exact (hlast hnone).trans ((if_neg (ne_true_of_eq_false (congrArg (!·) hempty))).trans (if_pos (by simp [hagain, honce])))
    · have hempty : todo.isEmpty = true := List.isEmpty_iff.2 hall
      have hnone : todo.find? s.sendable = none := by rw [hall, List.find?_nil]
      exact (hlast hnone).trans ((if_neg (ne_true_of_eq_false (congrArg (!·) hempty))).trans (if_neg (by rcases hdone with h | h <;> simp [h])))
  · intro g s hon
    refine ⟨fun t hrole hsync htarget => ⟨fun hans hretry => next_eq (if_pos ?_), fun hans => next_eq (if_neg ?_), fun hretry => next_eq ?_⟩, ?_,
      fun hrole hpaired => next_settle_eq (if_pos ?_), fun hrole => next_settle_eq (if_neg ?_)⟩
    · rw [htarget]
      simp [hon, hrole, hsync, hans, hretry]
    · rw [htarget]
      simp [hans]
    · unfold State.rejoinExpiry
      dsimp only
      rw [htarget]
      exact (if_neg (by simp [hon])).trans (if_pos (by simp [hrole, hsync, Option.isSome_iff_ne_none, hretry]))
    · intro hrole hmay hinc t
      exact next_eq ((if_neg (by simp [hon])).trans ((if_neg (by simp [hrole])).trans (if_pos (by simp [hmay, hinc]))))
    · simp [hrole, hpaired]
    · simp [hrole]
  · intro s
    refine ⟨?_, fun hup => next_eq (if_pos ?_)⟩
    · intro hon hstart h0 h1 t
      exact next_eq (if_neg (by simp [hon, h0, h1, hstart]))
    · rcases hup with h | h <;> simp [h]
  · intro h op idx image backing s hacc c g
    have hframe (f : Nat → State → State) (old : Role → Bool) : s.groupFrame h 1 f old = f g c := State.groupFrame_accepts hacc f old
    refine ⟨fun hbad => next_settle_eq ((hframe _ _).trans (if_pos ?_)), ?_⟩
    · rcases hbad with hb | hb | hb <;> simp [hb]
    · intro h0 h6 himage apply
      have hrun : exec (.config h op idx image backing) s = .next (c.config g h.retx op.toNat idx.toNat image backing).settle :=
        next_settle_eq ((hframe _ _).trans (if_neg (by simp [show ¬ op = 0#8 from h0, himage, Nat.not_lt.2 h6])))
      rw [hrun]
      refine ⟨fun hfirst => next_settle_eq (State.config_applies (by simp [hfirst])), fun _ hnone => next_settle_eq (State.config_applies fun _ => hnone),
        fun k hretx hkept => next_settle_eq ?_⟩
      rw [hretx]
      exact State.config_repeats hkept
  · intro h op idx result s hacc c g waits
    have hrun : exec (.configAck h op idx result) s = .next (c.configAck g op.toNat idx.toNat result.toNat).settle :=
      next_settle_eq (State.groupFrame_accepts hacc _)
    have hzero (hr : result ≠ 0) : ¬ (result.toNat == 0) = true := by simpa using fun e => hr (BitVec.eq_of_toNat_eq e)
    rw [hrun]
    refine ⟨fun hnone => next_settle_eq ?_, ?_⟩
    · unfold State.configAck
      rw [show List.find? _ c.mir.configs = none from hnone]
    · intro k hwaits t
      refine ⟨?_, ?_, ?_, ?_, ?_, ?_, ?_, ?_⟩
      · rintro rfl
        exact next_settle_eq (State.configAck_register hwaits)
      · intro hop
        exact next_settle_eq (State.configAck_drain (by rcases hop with rfl | rfl <;> simp) hwaits)
      · rintro rfl rfl
        exact next_settle_eq ((State.configAck_sync hwaits).trans (if_pos rfl))
      · rintro rfl hr
        exact next_settle_eq ((State.configAck_sync hwaits).trans (if_neg (hzero hr)))
      · rintro rfl rfl
        exact next_settle_eq ((State.configAck_pair hwaits).trans (if_pos rfl))
      · rintro rfl hr
        exact next_settle_eq ((State.configAck_pair hwaits).trans (if_neg (hzero hr)))
      · rintro rfl hcmd
        exact next_settle_eq ((State.configAck_unpair hwaits).trans (if_pos hcmd))
      · rintro rfl hcmd
        exact next_settle_eq ((State.configAck_unpair hwaits).trans (if_neg hcmd))
  · exact fun g s => ⟨fun hon => next_eq (if_pos hon), fun hoff => next_eq (if_neg (ne_true_of_eq_false hoff)), rfl⟩
  · intro s k t
    refine ⟨fun hop => ?_, fun hop => ?_, fun hop => ?_, fun hop hcmd => ?_, fun hop hcmd => ?_⟩
    · simp only [State.configTimeout, hop, t]
    · rcases hop with h | h <;> simp only [State.configTimeout, h]
    · simp only [State.configTimeout, hop, t]
    · simp only [State.configTimeout, hop, t, if_neg hcmd]
    · simp only [State.configTimeout, hop, t, if_pos hcmd]

end Sys2Proof.Machine

/-!
The statement on leases at the member (R217 to R229).
-/

namespace Sys2Proof.Machine

/-! ### Renewal, repeats and probes -/

section
variable {s : State} {m : LeaseMsg}

theorem State.onceReply_first (h : s.firstReply m = true) (f : State → State) : s.onceReply m f = f (s.noteReply m) := if_pos h

theorem State.onceReply_repeat (h : s.firstReply m = false) (f : State → State) : s.onceReply m f = s := if_neg (ne_true_of_eq_false h)

theorem exec_renewReply_twin (hon : s.twinOn = true) : exec (.renewReply m true) s = .next (s.renewReply m true).settle :=
  next_settle_eq (if_neg (by simp [hon]))

theorem exec_renewReply_caller (hon : s.twinOn = true) :
    exec (.renewReply m false) s = .next (s.onceReply m fun s => s.renewReply m false).settle :=
  next_settle_eq ((if_neg (by simp [hon])).trans (if_neg (by decide)))

theorem exec_probeReply_caller (hon : s.twinOn = true) : exec (.probeReply m false) s = .next (s.onceReply m fun s => s.sampleRtt m) :=
  next_eq ((if_neg (by simp [hon])).trans (if_neg (by decide)))

section
variable {g : Nat} (hgroups : mapGroups m.mapA = [g]) (hother : mapGroups m.mapB = []) (hholds : (s.grp g).holds = true)

include hgroups hother hholds

/-- A renewal reply that names one held group advances its lease end. -/
theorem State.renewReply_twin :
    s.renewReply m true = (s.modMir fun x => { x with twinRtt := m.residenceNs.toNat }).advanceLease g (s.leaseEndOf m.tSend.toNat) := by
  unfold State.renewReply
  dsimp only
  rw [hgroups, hother, if_pos rfl]
  exact if_pos hholds

theorem State.renewReply_caller :
    s.renewReply m false = ((s.sampleRtt m).modMir fun x => { x with claimed := false }).advanceLease g (s.leaseEndOf m.tSend.toNat) := by
  have hmap : m.mapA ≠ 0 := by
    intro h
    have hnone : mapGroups (0 : BitVec 256) = [] := by simp [mapGroups]
    rw [h, hnone] at hgroups
    cases hgroups
  unfold State.renewReply
  dsimp only
  rw [hgroups, hother, if_neg (by decide), if_pos hmap]
  exact if_pos hholds

end

end

/-! ### Grants -/

section
variable {s : State} {m : LeaseMsg} {op : Nat} {f : Nat → State → State}

/-- A grant that the group waits for takes effect. -/
theorem State.grant_awaited {role : Role → Bool} {own : Role} {r : LeaseReq} (h : s.awaitsGrant op m own r) (hrole : role own = true) :
    s.grant op m role f = f m.group.toNat (s.noteReply m) := by
  obtain ⟨hon, hfirst, hgroup, hreq, hop, hown⟩ := h
  unfold State.grant
  dsimp only
  rw [if_neg (by simp [hon, hgroup]), State.onceReply_first hfirst, hreq]
  exact if_pos (by simp [hop, hown, hrole])

theorem State.grant_repeat (role : Role → Bool) (h : s.firstReply m = false) : s.grant op m role f = s := by
  unfold State.grant
  dsimp only
  rw [State.onceReply_repeat h]
  exact ite_self _

/-- A grant that no request waits for fences a paired group of a lower epoch. -/
theorem State.grant_unasked (role : Role → Bool) (hon : s.twinOn = true) (hgroup : m.group.toNat ≠ 255) (hfirst : s.firstReply m = true)
    (hreq : (s.grp m.group.toNat).req = none) :
    s.grant op m role f =
      if (s.grp m.group.toNat).paired && (s.grp m.group.toNat).epoch < m.epoch.toNat then (s.noteReply m).fenceGroup m.group.toNat
      else s.noteReply m := by
  unfold State.grant
  dsimp only
  rw [if_neg (by simp [hon, hgroup]), State.onceReply_first hfirst, hreq]
  exact if_neg Bool.false_ne_true

/-- The grant that a command brings a group other than HANDOVER. -/
theorem exec_grant {c : Instr} (h : c ∈ [Instr.soloGranted m, .takeoverGranted m, .activeGranted m, .resumeGranted m, .forceGranted m, .pairGranted m]) :
    ∃ op role f, exec c s = .next (s.grant op m role f).settle := by
  simp only [List.mem_cons, List.not_mem_nil, or_false] at h
  rcases h with rfl | rfl | rfl | rfl | rfl | rfl <;> exact ⟨_, _, _, rfl⟩

theorem exec_handoverGranted (hrole : (s.grp m.group.toNat).role ≠ .standby) :
    exec (.handoverGranted m) s =
      .next (s.grant opHandover m (fun r => r = .active) fun g s => s.handedOver g m.epoch.toNat m.inSync).settle :=
  next_settle_eq (if_neg (by simp [hrole]))

end

/-! ### The parts of the statement -/

section
variable {s : State} {g : Nat}

theorem State.renewLapse_asks (hon : s.twinOn = true) (hrole : (s.grp g).role = .standby) (hsync : (s.grp g).inSync = true)
    (hsent : (s.grp g).takeoverSent = false) (hnone : (s.grp g).takeover = none) (hchange : s.desig.change = none) :
    s.renewLapse g = (s.openRequest opTakeover g (s.grp g).epoch true 0 0).modGrp g fun x => { x with takeoverSent := true } :=
  if_neg (by simp [hon, hrole, hsync, hsent, hnone, hchange])

theorem State.takeOver_won {w : Nat × Nat} (h : (s.grp g).takeover = some w) : s.takeOver g = s.becomeHolder g .solo w.1 w.2 := by
  rw [State.takeOver, h]

theorem State.takeOver_none (h : (s.grp g).takeover = none) : s.takeOver g = s := by
  rw [State.takeOver, h]

end

/-- A TAKEOVER that is granted is applied once the member's own twin grant has ended. -/
theorem exec_takeoverGranted {s : State} {m : LeaseMsg} {r : LeaseReq} (h : s.awaitsGrant opTakeover m .standby r) :
    let g := m.group.toNat
    let e := m.epoch.toNat
    let stop := s.leaseEndOf m.tSend.toNat
    let t := (s.noteReply m).modGrp g fun x => { x with takeover := some (e, stop), req := none }
    (∀ k, (t.grp g).twinGrantEnd = some k → t.now < k → exec (.takeoverGranted m) s = .next t.settle) ∧
    (∀ k, (t.grp g).twinGrantEnd = some k → k ≤ t.now → exec (.takeoverGranted m) s = .next (t.becomeHolder g .solo e stop).settle) ∧
    ((t.grp g).twinGrantEnd = none → exec (.takeoverGranted m) s = .next (t.becomeHolder g .solo e stop).settle) := by
  intro g e stop t
  have hwon : t.takeOver g = t.becomeHolder g .solo e stop := by
    have htakeover : (t.grp g).takeover = some (e, stop) := by rw [State.grp_modGrp_self]
    rw [State.takeOver_won htakeover]
  have hrun : exec (.takeoverGranted m) s = .next (if (match (t.grp g).twinGrantEnd with
      | some k => decide (k ≤ t.now)
      | none => true) = true then t.takeOver g else t).settle := next_settle_eq (State.grant_awaited h (by decide))
  rw [hrun, hwon]
  refine ⟨fun k hk hlater => next_settle_eq (if_neg ?_), fun k hk hpast => next_settle_eq (if_pos ?_), fun hnone => next_settle_eq (if_pos ?_)⟩
  · rw [hk]
    simpa using hlater
  · rw [hk]
    simpa using hpast
  · rw [hnone]

theorem State.takesOver_solo {s : State} {g : Nat} {m : LeaseMsg} (h : m.inSync = false) :
    s.takesOver g m = s.becomeHolder g .solo m.epoch.toNat (s.leaseEndOf m.tSend.toNat) := by
  simp only [State.takesOver, h, Bool.false_eq_true, if_false]

theorem State.takesOver_active {s : State} {g : Nat} {m : LeaseMsg} (h : m.inSync = true) :
    s.takesOver g m =
      (s.becomeHolder g .active m.epoch.toNat (s.leaseEndOf m.tSend.toNat)).modGrp g fun x => { x with syncEpoch := m.epoch.toNat } := by
  simp only [State.takesOver, h, if_true]

/-- A refusal of the group's request has the effect of its op, and fences a paired group of a lower epoch. -/
theorem State.leaseRefused_own {s : State} {m : LeaseMsg} {r : LeaseReq} (hon : s.twinOn = true) (hgroup : m.group.toNat ≠ 255)
    (hres : m.result.toNat ≠ 5) (hreq : (s.grp m.group.toNat).req = some r) (hop : r.op = m.op.toNat) :
    let t := s.refused m.group.toNat m.result.toNat r
    s.leaseRefused m =
      if (s.grp m.group.toNat).paired && (s.grp m.group.toNat).epoch < m.epoch.toNat then t.fenceGroup m.group.toNat else t := by
  intro t
  have haway : (m.result.toNat == 5) = false := by simpa using hres
  unfold State.leaseRefused
  dsimp only
  rw [haway]
  simp only [Bool.and_false, Bool.false_and, Bool.false_eq_true, if_false]
  rw [if_neg (by simp [hon, hgroup]), hreq]
  dsimp only
  rw [if_pos hop]

/-- During CHANGE, NOT_CALLER from a member that is not the Caller is no reply. -/
theorem State.leaseRefused_stranger {s : State} {m : LeaseMsg} (hres : m.result.toNat = 5) (hother : m.member.toNat ≠ s.desig.caller)
    (hchange : s.desig.change ≠ none) : s.leaseRefused m = s := by
  have hstays : (if s.twinOn && m.result.toNat == 5 && m.member.toNat == s.desig.caller then s.designate else s) = s :=
    if_neg (by simp [hother])
  unfold State.leaseRefused
  dsimp only
  rw [hstays]
  exact if_pos (by simp [hres, Option.isSome_iff_ne_none, hchange])

/-- Settles O32. -/
theorem leasesAtTheMember : Obligations.LeasesAtTheMember := by
  refine ⟨⟨fun s => ⟨?_, fun hidle => next_eq (if_pos ?_)⟩, ?_, ?_, ?_, ?_, ?_⟩, ?_, ?_⟩
  · intro hon hany t held solo won m u
    have hrun : exec .renewTimer s = .next (if (u.mir.groups.any fun e => e.2.holds) = true then
        (u.twinLease { m with mapA := groupMap held, mapB := groupMap solo }).modMir fun m => { m with lastTwinRenew := some u.now } else u) :=
      next_eq (if_neg (by rw [hany]; simp [hon]))
    exact ⟨fun hholds => hrun.trans (next_eq (if_pos hholds)), fun hholds => hrun.trans (next_eq (if_neg (ne_true_of_eq_false hholds)))⟩
  · rcases hidle with h | h
    · simp [h]
    · rw [h]
      simp
  · intro h m s hacc c t
    have hrun : exec (.twinRenew h m) s = .next (if m.reply then c else c.twinRequest m).settle := next_settle_eq (State.twinFrame_accepts hacc _)
    rw [hrun]
    refine ⟨fun hreply => next_settle_eq (if_pos hreply), ?_, fun hreply hop => next_settle_eq ?_⟩
    · intro hreply hop u granted
      exact next_settle_eq ((if_neg (ne_true_of_eq_false hreply)).trans (if_pos hop))
    · refine (if_neg (ne_true_of_eq_false hreply)).trans ((if_neg ?_).trans (if_pos hop))
      rw [hop]
      decide
  · intro m s hon t stop
    refine ⟨fun g hgroups hother hholds => ⟨?_, fun hfirst => ?_⟩, next_eq (if_neg (by simp [hon])), fun hfirst => ?_, fun hrepeat => ⟨?_, ?_⟩⟩
    · rw [exec_renewReply_twin hon, State.renewReply_twin hgroups hother hholds]
    · rw [exec_renewReply_caller hon, State.onceReply_first hfirst, State.renewReply_caller (s := s.noteReply m) hgroups hother hholds]
      rfl
    · rw [exec_probeReply_caller hon, State.onceReply_first hfirst]
      rfl
    · rw [exec_renewReply_caller hon, State.onceReply_repeat hrepeat]
    · rw [exec_probeReply_caller hon, State.onceReply_repeat hrepeat]
  · intro g s
    refine ⟨fun hholds => next_settle_eq (if_pos hholds), fun hholds => next_settle_eq (if_neg (ne_true_of_eq_false hholds)),
      fun hon hrole hsync hsent hnone hchange => next_eq (State.renewLapse_asks hon hrole hsync hsent hnone hchange),
      fun hidle => next_eq (if_pos ?_), fun r hreq => ⟨fun hon hop => next_eq ?_, fun hop hchange => next_eq ?_, fun hcmd => next_settle_eq ?_,
        fun hcmd => next_settle_eq ?_⟩, fun hreq => ⟨next_eq ?_, next_settle_eq ?_⟩, fun w hon hrole hwon => next_settle_eq ?_,
      fun hnone => next_settle_eq ?_⟩
    · rcases hidle with h | h | h
      · simp [h]
      · simp [h]
      · simp [Option.isSome_iff_ne_none.2 h]
    · rw [hreq]
      exact if_pos (by rcases hop with h | h <;> simp [hon, h])
    · rw [hreq]
      exact if_neg (by simp [hop, Option.isSome_iff_ne_none.2 hchange])
    · rw [hreq]
      exact if_neg hcmd
    · rw [hreq]
      exact if_pos hcmd
    · rw [hreq]
    · rw [hreq]
    · exact (if_pos (by simp [hon, hrole])).trans (State.takeOver_won hwon)
    · rw [State.takeOver_none hnone, ite_self]
  · intro s hon t m u
    have hrun : exec .leaseProbeTimer s = .next (if (match u.mir.lastTwinRenew with
        | some k => decide (k + msNs ≤ u.now)
        | none => true) = true then u.twinLease m else u) := next_eq (if_neg (by simp [hon]))
    refine ⟨fun k hk hrecent => hrun.trans (next_eq (if_neg ?_)), fun k hk hold => hrun.trans (next_eq (if_pos ?_)),
      fun hnone => hrun.trans (next_eq (if_pos ?_)), fun hclaimed m => next_eq (if_neg (by simp [hon, hclaimed])),
      fun hclaimed m => next_eq (if_pos (by simp [hclaimed]))⟩
    · rw [hk]
      simpa [msNs] using hrecent
    · rw [hk]
      simpa [msNs] using hold
    · rw [hnone]
  · intro s hon a b keep
    have hrun : exec .leaseBudgetCompute s = .next (if s.mir.budgetOk && !decide (a ≤ 40 * usNs ∧ b ≤ 40 * usNs) then
        (keep (decide (a ≤ 40 * usNs ∧ b ≤ 40 * usNs))).event 0x2641 0 [a, b] else keep (decide (a ≤ 40 * usNs ∧ b ≤ 40 * usNs))) :=
      next_eq (if_pos hon)
    have hover (h : 40000 < a ∨ 40000 < b) : decide (a ≤ 40 * usNs ∧ b ≤ 40 * usNs) = false := by
      refine decide_eq_false fun hle => ?_
      unfold usNs at hle
      omega
    rw [hrun]
    refine ⟨fun ha hb => ?_, fun hexcess hok => ?_, fun hexcess hok => ?_⟩
    · rw [decide_eq_true (show a ≤ 40 * usNs ∧ b ≤ 40 * usNs from ⟨ha, hb⟩)]
      exact next_eq (if_neg (by simp))
    · rw [hover hexcess]
      exact next_eq (if_pos (by simp [hok]))
    · rw [hover hexcess]
      exact next_eq (if_neg (by simp [hok]))
  · intro m s r g e stop n
    refine ⟨fun h => next_settle_eq (State.grant_awaited h (by decide)), fun h => exec_takeoverGranted h,
      fun h => next_settle_eq (State.grant_awaited h (by decide)), fun h => ?_, fun h => next_settle_eq (State.grant_awaited h (by decide)),
      fun h => next_settle_eq ((State.grant_awaited h (by decide)).trans ?_), fun h => next_settle_eq ((State.grant_awaited h (by decide)).trans ?_)⟩
    · obtain ⟨-, -, -, -, -, hrole⟩ := id h
      rw [exec_handoverGranted (by rw [hrole]; decide)]
      exact next_settle_eq (State.grant_awaited h (by decide))
    · have hcmd : n.reqCmd g = r.cmd := by
        obtain ⟨-, -, -, hreq, -⟩ := h
        rw [State.reqCmd, show (n.grp g).req = some r from hreq]
      dsimp only
      rw [show (s.noteReply m).reqCmd m.group.toNat = r.cmd from hcmd]
      rfl
    · have hcmd : n.reqCmd g = r.cmd := by
        obtain ⟨-, -, -, hreq, -⟩ := h
        rw [State.reqCmd, show (n.grp g).req = some r from hreq]
      dsimp only
      rw [show (s.noteReply m).reqCmd m.group.toNat = r.cmd from hcmd]
      rfl
  · intro m s hon hgroup g e stop n grants
    refine ⟨fun hrole htwin hnewer => ?_, fun c hc hrepeat => ?_, fun c hc hfirst hreq => ?_, fun hrepeat => ?_, ?_, fun hfirst hres hother hchange => ?_⟩
    · have hrun : exec (.handoverGranted m) s = .next (s.takesOver g m).settle :=
        next_settle_eq (if_pos (by simp [hon, hgroup, show (s.grp m.group.toNat).role = .standby from hrole, htwin,
          show (s.grp m.group.toNat).epoch < m.epoch.toNat from hnewer]))
      rw [hrun]
      refine ⟨fun hsync => next_settle_eq ?_, fun hsync => next_settle_eq ?_⟩
      · exact State.takesOver_solo hsync
      · exact State.takesOver_active hsync
    · obtain ⟨op, role, f, hrun⟩ := exec_grant hc
      rw [hrun, State.grant_repeat role hrepeat]
    · obtain ⟨op, role, f, hrun⟩ := exec_grant hc
      rw [hrun, State.grant_unasked role hon hgroup hfirst hreq]
      refine ⟨fun hpaired hnewer => next_settle_eq (if_pos ?_), fun hold => next_settle_eq (if_neg ?_)⟩
      · simp only [Bool.and_eq_true, decide_eq_true_eq]
        exact ⟨hpaired, hnewer⟩
      · simp only [Bool.and_eq_true, decide_eq_true_eq, not_and, Nat.not_lt]
        exact fun _ => hold
    · exact next_settle_eq (State.onceReply_repeat hrepeat _)
    · intro r hfirst hres hreq hop t
      have hown : exec (.leaseRefused m) s = .next (if (s.grp g).paired && (s.grp g).epoch < e then t.fenceGroup g else t).settle :=
        next_settle_eq ((State.onceReply_first hfirst _).trans (State.leaseRefused_own (s := n) hon hgroup hres hreq hop))
      refine ⟨fun hkeeps => hown.trans (next_settle_eq (if_neg ?_)), fun hpaired hnewer => hown.trans (next_settle_eq (if_pos ?_))⟩
      · rcases hkeeps with h | h
        · rw [h]
          simp
        · simpa using fun _ => h
      · rw [hpaired]
        simpa using hnewer
    · exact next_settle_eq ((State.onceReply_first hfirst _).trans (State.leaseRefused_stranger (s := n) hres hother hchange))

end Sys2Proof.Machine

/-!
The statements on the Caller (R220 to R222, R224, R229) and on the group commands (R227 to R229, R235).
-/

namespace Sys2Proof.Machine

/-! ### Requests to a Caller -/

section
variable {s : State} {m : LeaseMsg} {p : CallerPairState} {f : Nat → State → State}

/-- A request, other than CLAIM, for a pair that the device serves outside its quiet period is handled. -/
theorem State.asCaller_serves (h : s.callerServes m p) : s.asCaller m f = f (leasePair m) s := by
  obtain ⟨hon, hreply, hpair, hserving, hquiet⟩ := h
  unfold State.asCaller
  dsimp only
  rw [if_neg (by simp [hon, hreply]), hpair]
  dsimp only
  rw [if_neg (by simp [hserving]), if_neg (by simp [hquiet])]

section
variable (hon : s.twinOn = true) (hreply : m.reply = false)
include hon hreply

theorem State.asCaller_unknown (hpair : s.callerPairs.find? (leasePair m) = none) : s.asCaller m f = s.answer m 5 0 := by
  unfold State.asCaller
  dsimp only
  rw [if_neg (by simp [hon, hreply]), hpair]

theorem State.asCaller_unserved (hpair : s.callerPairs.find? (leasePair m) = some p) (hserving : p.serving = false) :
    s.asCaller m f = s.answer m 5 0 := by
  unfold State.asCaller
  dsimp only
  rw [if_neg (by simp [hon, hreply]), hpair]
  exact if_pos (by simp [hserving])

theorem State.asCaller_quiet (hpair : s.callerPairs.find? (leasePair m) = some p) (hserving : p.serving = true) (hquiet : p.quietUntil ≠ none) :
    s.asCaller m f = s.answer m 4 0 := by
  unfold State.asCaller
  dsimp only
  rw [if_neg (by simp [hon, hreply]), hpair]
  exact (if_neg (by simp [hserving])).trans (if_pos (Option.isSome_iff_ne_none.2 hquiet))

/-- In the quiet period a CLAIM becomes the record where its epoch is newer, or where there is none; it is answered QUIET. -/
theorem State.callerClaim_quiet (hpair : s.callerPairs.find? (leasePair m) = some p) (hserving : p.serving = true)
    (hquiet : p.quietUntil ≠ none) :
    let claim : CallerRec := { holder := m.member.toNat, epoch := m.epoch.toNat, solo := m.mapB.getLsbD m.group.toNat }
    (s.callerRec (leasePair m) m.group.toNat = none →
      s.callerClaim m = (s.writeRec (leasePair m) m.group.toNat claim).answer m 4 0) ∧
    (∀ r, s.callerRec (leasePair m) m.group.toNat = some r →
      (r.epoch < m.epoch.toNat → s.callerClaim m = (s.writeRec (leasePair m) m.group.toNat claim).answer m 4 0) ∧
      (m.epoch.toNat ≤ r.epoch → s.callerClaim m = s.answer m 4 0)) := by
  intro claim
  have hrun : s.callerClaim m = (if (match s.callerRec (leasePair m) m.group.toNat with
      | some r => decide (r.epoch < m.epoch.toNat)
      | none => true) = true then s.writeRec (leasePair m) m.group.toNat claim else s).answer m 4 0 := by
    unfold State.callerClaim
    dsimp only
    rw [hpair]
    exact (if_neg (by simp [hon, hreply])).trans (if_neg (by simp [hserving, hquiet]))
  rw [hrun]
  refine ⟨fun hrec => ?_, fun r hrec => ⟨fun hnew => ?_, fun hold => ?_⟩⟩
  · rw [hrec]
    exact congrArg (State.answer · m 4 0) (if_pos rfl)
  · rw [hrec]
    exact congrArg (State.answer · m 4 0) (if_pos (decide_eq_true hnew))
  · rw [hrec]
    exact congrArg (State.answer · m 4 0) (if_neg (by simpa using hold))

end

theorem exec_holderOp {c : Instr} (h : c ∈ [Instr.callerSolo m, .callerActive m, .callerHandover m]) : ∃ f, exec c s = .next (s.holderOp m f) := by
  simp only [List.mem_cons, List.not_mem_nil, or_false] at h
  rcases h with rfl | rfl | rfl
  · exact ⟨_, next_eq (by unfold State.callerSolo; rfl)⟩
  · exact ⟨_, next_eq (by unfold State.callerActive; rfl)⟩
  · exact ⟨_, next_eq (by unfold State.callerHandover; rfl)⟩

theorem exec_asCaller {c : Instr} (h : c ∈ [Instr.callerRenew m, .callerSolo m, .callerTakeover m, .callerActive m, .callerHandover m,
    .callerResume m, .callerRelease m, .callerProbe m, .callerForce m, .callerPair m]) : ∃ f, exec c s = .next (s.asCaller m f) := by
  simp only [List.mem_cons, List.not_mem_nil, or_false] at h
  have hholder (c : Instr) (hc : c ∈ [Instr.callerSolo m, .callerActive m, .callerHandover m]) : ∃ f, exec c s = .next (s.asCaller m f) := by
    obtain ⟨f, hrun⟩ := exec_holderOp (s := s) hc
    exact ⟨_, hrun⟩
  rcases h with rfl | rfl | rfl | rfl | rfl | rfl | rfl | rfl | rfl | rfl
  · exact ⟨_, rfl⟩
  · exact hholder _ (by simp)
  · exact ⟨_, rfl⟩
  · exact hholder _ (by simp)
  · exact hholder _ (by simp)
  · exact ⟨_, rfl⟩
  · exact ⟨_, rfl⟩
  · exact ⟨_, rfl⟩
  · exact ⟨_, rfl⟩
  · exact ⟨_, rfl⟩

end

/-! ### The record of a group -/

/-- The op of the holder at the recorded epoch, while the Caller still grants, is not refused for its epoch. -/
theorem epochRefusal_none {n : Nat} (h : n < 0xFFFFFFFE) : epochRefusal n n = none := by
  unfold epochRefusal
  rw [if_neg (Nat.lt_irrefl n), if_neg (by unfold lastEpoch; omega)]

section
variable {s : State} {m : LeaseMsg} {p : CallerPairState} {r : CallerRec} {f : Nat → CallerRec → State → State}
variable (hserves : s.callerServes m p)
include hserves

/-- With no record the ops that need one are refused. -/
theorem exec_caller_unrecorded (hrec : s.callerRec (leasePair m) m.group.toNat = none) {c : Instr}
    (hc : c ∈ [Instr.callerSolo m, .callerActive m, .callerHandover m, .callerTakeover m, .callerResume m, .callerForce m]) :
    exec c s = .next (s.answer m 6 0) := by
  have hholder (f : Nat → CallerRec → State → State) : s.holderOp m f = s.answer m 6 0 := by
    unfold State.holderOp
    rw [State.asCaller_serves hserves, hrec]
  have hnone (f : Nat → State → State) : s.asCaller m f = f (leasePair m) s := State.asCaller_serves hserves
  simp only [List.mem_cons, List.not_mem_nil, or_false] at hc
  rcases hc with rfl | rfl | rfl | rfl | rfl | rfl
  · exact next_eq (hholder _)
  · exact next_eq (hholder _)
  · exact next_eq (hholder _)
  · refine next_eq ((hnone _).trans ?_)
    rw [hrec]
  · refine next_eq ((hnone _).trans ?_)
    dsimp only
    rw [hrec]
  · refine next_eq ((hnone _).trans ?_)
    dsimp only
    rw [hrec]

variable (hrec : s.callerRec (leasePair m) m.group.toNat = some r)
include hrec

theorem State.holderOp_other (hother : r.holder ≠ m.member.toNat) : s.holderOp m f = s.answer m 1 r.epoch := by
  unfold State.holderOp
  rw [State.asCaller_serves hserves, hrec]
  exact if_pos hother

theorem State.holderOp_refused {n : Nat} (hholder : r.holder = m.member.toNat) (hepoch : epochRefusal m.epoch.toNat r.epoch = some n) :
    s.holderOp m f = s.answer m n r.epoch := by
  unfold State.holderOp
  rw [State.asCaller_serves hserves, hrec]
  dsimp only
  rw [if_neg (not_not.2 hholder), hepoch]

/-- At the recorded epoch the op of the holder is granted while its grant is current. -/
theorem State.holderOp_holder (hholder : r.holder = m.member.toNat) (hlast : r.epoch < 0xFFFFFFFE) (hepoch : m.epoch.toNat = r.epoch) :
    s.holderOp m f = if s.grantCurrent r then f (leasePair m) r s else s.answer m 6 r.epoch := by
  unfold State.holderOp
  rw [State.asCaller_serves hserves, hrec]
  dsimp only
  rw [if_neg (not_not.2 hholder), hepoch, epochRefusal_none hlast]

theorem State.callerTakeover_refused (h : m.inSync = false ∨ r.holder = m.member.toNat) : s.callerTakeover m = s.answer m 6 r.epoch := by
  unfold State.callerTakeover
  rw [State.asCaller_serves hserves, hrec]
  exact if_pos (by simpa using h)

theorem State.callerTakeover_held (hother : r.holder ≠ m.member.toNat) (hsync : m.inSync = true) (hlast : r.epoch < 0xFFFFFFFE)
    (hepoch : m.epoch.toNat = r.epoch) :
    s.callerTakeover m = s.setCallerRec (leasePair m) m.group.toNat { r with takeover := some { msg := m, since := s.now } } := by
  unfold State.callerTakeover
  rw [State.asCaller_serves hserves, hrec]
  dsimp only
  rw [if_neg (by simp [hsync, hother]), hepoch, epochRefusal_none hlast]

/-- RESUME of the holder is granted once its grant is over, and noted before; of the other member it is refused for a SOLO record. -/
theorem State.callerResume_recorded (hlast : r.epoch < 0xFFFFFFFE) (hepoch : m.epoch.toNat = r.epoch) :
    (r.holder = m.member.toNat →
      s.callerResume m = if s.grantOver r then (s.writeRec (leasePair m) m.group.toNat { r with
          holderResume := some s.now, epoch := r.epoch + 1, solo := true, otherResume := none }).answer m 0 (r.epoch + 1)
        else s.setCallerRec (leasePair m) m.group.toNat { r with holderResume := some s.now }) ∧
    (r.holder ≠ m.member.toNat → r.solo = true → s.callerResume m = s.answer m 3 r.epoch) := by
  refine ⟨fun hholder => ?_, fun hother hsolo => ?_⟩
  · unfold State.callerResume
    rw [State.asCaller_serves hserves]
    dsimp only
    rw [hrec]
    dsimp only
    rw [hepoch, epochRefusal_none hlast]
    exact if_pos hholder
  · unfold State.callerResume
    rw [State.asCaller_serves hserves]
    dsimp only
    rw [hrec]
    dsimp only
    rw [hepoch, epochRefusal_none hlast]
    exact (if_neg hother).trans (if_pos hsolo)

theorem State.callerForce_recorded : s.callerForce m =
    if 0xFFFFFFFE ≤ r.epoch then s.answer m 6 r.epoch
    else if s.grantOver r then (s.writeRec (leasePair m) m.group.toNat { holder := m.member.toNat, epoch := r.epoch + 1, solo := true
                                                                         grantEnd := some s.grantEndNow }).answer m 0 (r.epoch + 1)
    else s := by
  unfold State.callerForce
  rw [State.asCaller_serves hserves]
  dsimp only
  rw [hrec]

end

/-- A record without a TAKEOVER held has its grant extended, and nothing more. -/
theorem State.renewRec_free {s : State} {k n : Nat} {r : CallerRec} (hrec : s.callerRec k n = some r) (hfree : r.takeover = none) :
    s.renewRec k n = s.setCallerRec k n { r with grantEnd := some s.grantEndNow } := by
  have hkeep : s.refuseHeld k n = s := by
    unfold State.refuseHeld
    rw [hrec]
    dsimp only
    rw [hfree]
  unfold State.renewRec
  dsimp only
  rw [hkeep, hrec]

theorem State.takeoverDue_held {s : State} {k g : Nat} {r : CallerRec} {h : HeldReq} (hrec : s.callerRec k g = some r) (hheld : r.takeover = some h) :
    s.takeoverDue k g =
      if r.solo then (s.setCallerRec k g { r with takeover := none }).callerReply h.msg.member.toNat h.msg 3 r.epoch h.since
      else ((s.writeRec k g { r with
          takeover := none, holder := h.msg.member.toNat, epoch := r.epoch + 1, solo := true
          grantEnd := some s.grantEndNow }).bump P.caller_takeovers).callerReply h.msg.member.toNat h.msg 0 (r.epoch + 1) h.since := by
  unfold State.takeoverDue
  rw [hrec]
  dsimp only
  rw [hheld]

/-- Settles O33. -/
theorem callerServesPairs : Obligations.CallerServesPairs := by
  refine ⟨?_, ?_, ?_⟩
  · intro m s hon hreply ops
    refine ⟨fun hpair => ⟨fun c hc => ?_, next_eq ?_⟩, fun p hpair hserving c hc => ?_, fun p hpair hserving hquiet => ⟨fun c hc => ?_, ?_⟩⟩
    · obtain ⟨f, hrun⟩ := exec_asCaller hc
      rw [hrun, State.asCaller_unknown hon hreply hpair]
    · unfold State.callerClaim
      dsimp only
      rw [hpair]
      exact State.asCaller_unknown hon hreply hpair
    · obtain ⟨f, hrun⟩ := exec_asCaller hc
      rw [hrun, State.asCaller_unserved hon hreply hpair hserving]
    · obtain ⟨f, hrun⟩ := exec_asCaller hc
      rw [hrun, State.asCaller_quiet hon hreply hpair hserving hquiet]
    · intro claim
      obtain ⟨hnone, hsome⟩ := State.callerClaim_quiet hon hreply hpair hserving hquiet
      exact ⟨fun hrec => next_eq (hnone hrec), fun r hrec => ⟨fun hnew => next_eq ((hsome r hrec).1 hnew), fun hold => next_eq ((hsome r hrec).2 hold)⟩⟩
  · intro m s p h k g stop new yes no renewed
    refine ⟨next_eq (State.asCaller_serves h), fun n r hrec hfree => State.renewRec_free hrec hfree, next_eq (State.asCaller_serves h),
      fun hrec => ⟨next_eq ?_, next_eq ?_, fun c hc => exec_caller_unrecorded h hrec hc⟩, ?_⟩
    · refine (State.asCaller_serves h).trans ?_
      rw [hrec]
      rfl
    · refine (State.asCaller_serves h).trans ?_
      dsimp only
      rw [hrec]
    · intro r hrec next
      refine ⟨next_eq ?_, fun hunpair => next_eq ?_, fun held hunpair hheld hmember => next_eq ?_, fun hother c hc => ?_,
        fun n hholder hepoch c hc => ?_, fun hlast => next_eq ((State.callerForce_recorded h hrec).trans (if_pos hlast)),
        fun hlast => ⟨fun hover => next_eq ?_, fun hover => next_eq ?_⟩, fun hno => next_eq (State.callerTakeover_refused h hrec hno), ?_⟩
      · refine (State.asCaller_serves h).trans ?_
        rw [hrec]
      · refine (State.asCaller_serves h).trans ?_
        dsimp only
        rw [hrec]
        dsimp only
        rw [if_pos hunpair]
      · refine (State.asCaller_serves h).trans ?_
        dsimp only
        rw [hrec]
        dsimp only
        rw [if_neg (ne_true_of_eq_false hunpair), hheld]
        dsimp only
        rw [if_pos hmember]
      · obtain ⟨f, hrun⟩ := exec_holderOp hc
        rw [hrun, State.holderOp_other h hrec hother]
      · obtain ⟨f, hrun⟩ := exec_holderOp hc
        rw [hrun, State.holderOp_refused h hrec hholder hepoch]
      · exact (State.callerForce_recorded h hrec).trans ((if_neg (Nat.not_le.2 hlast)).trans (if_pos hover))
      · exact (State.callerForce_recorded h hrec).trans ((if_neg (Nat.not_le.2 hlast)).trans (if_neg (ne_true_of_eq_false hover)))
      · intro hlast hepoch
        have hholder (hm : r.holder = m.member.toNat) (f : Nat → CallerRec → State → State) :
            s.holderOp m f = if s.grantCurrent r then f k r s else s.answer m 6 r.epoch := State.holderOp_holder h hrec hm hlast hepoch
        obtain ⟨hresume, hsolo⟩ := State.callerResume_recorded h hrec hlast hepoch
        refine ⟨fun hm hcur => ⟨next_eq ((hholder hm _).trans (if_pos hcur)), next_eq ((hholder hm _).trans (if_pos hcur)), ?_⟩,
          fun hm hcur c hc => ?_, fun hm hsync => next_eq (State.callerTakeover_held h hrec hm hsync hlast hepoch),
          fun hm hover => next_eq ((hresume hm).trans (if_pos hover)),
          fun hm hover => next_eq ((hresume hm).trans (if_neg (ne_true_of_eq_false hover))), fun hm hs => next_eq (hsolo hm hs)⟩
        · intro t u
          exact next_eq ((hholder hm _).trans (if_pos hcur))
        · obtain ⟨f, hrun⟩ := exec_holderOp hc
          rw [hrun, hholder hm, if_neg (ne_true_of_eq_false hcur)]
  · intro lower higher g s hon k
    refine ⟨fun r h hrec hheld => ⟨fun hsolo => ?_, ?_⟩, fun hrec => ?_, fun hroom => ?_, fun hnew hfull => ?_, fun hhas => next_eq (if_pos hhas),
      fun hhas => next_eq (if_neg (ne_true_of_eq_false hhas))⟩
    · exact next_eq ((if_pos hon).trans ((State.takeoverDue_held hrec hheld).trans (if_pos hsolo)))
    · intro hsolo t
      exact next_eq ((if_pos hon).trans ((State.takeoverDue_held hrec hheld).trans (if_neg (ne_true_of_eq_false hsolo))))
    · refine next_eq ((if_pos hon).trans ?_)
      unfold State.takeoverDue
      rw [hrec]
    · exact next_eq ((if_pos hon).trans (if_pos (by simpa using hroom)))
    · exact next_eq ((if_pos hon).trans (if_neg (by rw [hnew]; simpa using hfull)))

/-! ### The group commands -/

/-- Settles O34. -/
theorem groupCommands : Obligations.GroupCommands := by
  refine ⟨?_, ?_, ?_, ?_, ?_⟩
  · intro r s p h a g
    have hrun : exec (.groupPair r) s = .next (a.groupPair (s.namedBy r) g).settle :=
      next_settle_eq (State.command_plain (fun num x s => s.groupPair num (leNat x)) h)
    have hrefused {n : Nat} (hn : a.pairRefusal g = some n) : a.groupPair (s.namedBy r) g = a.failed (s.namedBy r) n := by
      rw [State.groupPair, hn]
    rw [hrun]
    refine ⟨fun hreach => next_settle_eq (hrefused ?_), fun hreach hdigest => next_settle_eq (hrefused ?_),
      fun hreach hdigest hbudget => next_settle_eq (hrefused ?_), fun hreach hdigest hbudget hrole => next_settle_eq (hrefused ?_),
      fun hreach hdigest hbudget hrole hpaired => next_settle_eq ?_⟩
    · exact if_pos (by simp [hreach])
    · exact (if_neg (by simp [hreach])).trans (if_pos hdigest)
    · exact (if_neg (by simp [hreach])).trans ((if_neg (not_not.2 hdigest)).trans (if_pos (by simp [hbudget])))
    · exact (if_neg (by simp [hreach])).trans ((if_neg (not_not.2 hdigest)).trans ((if_neg (by simp [hbudget])).trans (if_pos hrole)))
    · have hnone : a.pairRefusal g = none := (if_neg (by simp [hreach])).trans ((if_neg (not_not.2 hdigest)).trans
        ((if_neg (by simp [hbudget])).trans (if_neg (by simp [hrole, hpaired]))))
      rw [State.groupPair, hnone]
  · intro r s p h a g u
    have hrun : exec (.groupUnpair r) s = .next (a.groupUnpair (s.namedBy r) g).settle :=
      next_settle_eq (State.command_plain (fun num x s => s.groupUnpair num (leNat x)) h)
    rw [hrun]
    refine ⟨fun hpaired => next_settle_eq (if_pos ?_), fun hpaired hreach => next_settle_eq ((if_neg ?_).trans (if_pos hreach)),
      fun hpaired hreach => next_settle_eq ((if_neg ?_).trans (if_neg (ne_true_of_eq_false hreach)))⟩
    · simp [hpaired]
    · simp [hpaired]
    · simp [hpaired]
  · intro r s p h a g
    have hrun : exec (.groupSwitchover r) s = .next (a.groupSwitchover (s.namedBy r) g).settle :=
      next_settle_eq (State.command_plain (fun num x s => s.groupSwitchover num (leNat x)) h)
    rw [hrun]
    refine ⟨fun hbusy => next_settle_eq (if_pos ?_), fun hrole hpending hsw hreq => next_settle_eq (if_neg ?_)⟩
    · simpa only [Option.isSome_iff_ne_none] using hbusy
    · simp [hrole, hpending, hsw, hreq]
  · intro r s p h a g
    have hrun : exec (.groupForceSolo r) s = .next (a.groupForce (s.namedBy r) g).settle :=
      next_settle_eq (State.command_plain (fun num x s => s.groupForce num (leNat x)) h)
    rw [hrun]
    refine ⟨fun hrole hpaired => next_settle_eq (if_neg ?_), fun hno => next_settle_eq (if_pos ?_)⟩
    · simp [hrole, hpaired]
    · simpa using hno
  · intro r s p h a g
    have hrun : exec (.groupResyncFull r) s = .next (a.groupFull (s.namedBy r) g) :=
      next_eq (State.command_plain (fun num x s => s.groupFull num (leNat x)) h)
    rw [hrun]
    refine ⟨fun hpaired => next_eq (if_neg ?_), fun hpaired => next_eq (if_pos ?_)⟩
    · simp [hpaired]
    · simp [hpaired]

end Sys2Proof.Machine

/-!
The statements on the memory tiers (R236 to R256).
-/

namespace Sys2Proof.Machine

/-! ### Fetches -/

section
variable {s : State} {k : FetchKey} {f : Fetch}

/-- What the read of a fetch's units does where the twin did not overtake it. -/
theorem State.flashRead_decodes (units : List UnitOutcome) (hfetch : s.fetchOf k = some f) (hready : f.ready = false)
    (hfailed : f.failed = false) (hrebuild : f.rebuild = []) (hown : f.overtaken = false) :
    let e := s.deepOf (s.fetchLsn k)
    let read := (List.range e.units).filter fun i => !s.unitHeld e i
    let blks := read.map (s.unitBlk e)
    let corrupt := blks.filter fun b => (s.blk b).state = .erasing
    let bad := (read.filter fun i =>
      units.getD i .hard == .uncorrectable || corrupt.contains (s.unitBlk e i)).map (s.unitBlk e)
    let t := corrupt.foldl State.mapCorrupt s
    let u := bad.foldl (fun s b => s.setFlag (perInst P.car_err_status (keyCarrier b)) 3) t
    let v := (blks.filter fun b => !corrupt.contains b).foldl State.blockRead u
    (bad = [] → s.flashRead k units = v.modFetch k fun f => { f with ready := true }) ∧
    (∀ lsn, bad ≠ [] → k = .dram lsn → s.flashRead k units = v.modFetch k fun f => { f with rebuild := bad }) ∧
    (∀ i seg, bad ≠ [] → k = .tier i seg → s.flashRead k units =
      if v.tmv.records.length ≥ defaultOf P.recovery_records_max then v
      else
        (((v.bump P.recoveries).modEntry i.toNat seg fun x => { x with mstate := .recovering }).modTmv fun x =>
          { x with records := x.records ++ [{ idx := i.toNat, seg := seg }] }).modFetch k fun f => { f with rebuild := bad }) := by
  intro e read blks corrupt bad t u v
  have hgo : ¬ (f.ready || f.failed || !f.rebuild.isEmpty) = true := by simp [hready, hfailed, hrebuild]
  have hnot : ¬ f.overtaken = true := ne_true_of_eq_false hown
  refine ⟨fun hbad => ?_, ?_, ?_⟩
  · unfold State.flashRead
    rw [hfetch]
    exact (if_neg hgo).trans ((if_neg hnot).trans (if_pos (List.isEmpty_iff.2 hbad)))
  · rintro lsn hbad rfl
    unfold State.flashRead
    rw [hfetch]
    exact (if_neg hgo).trans ((if_neg hnot).trans (if_neg (by rw [List.isEmpty_iff]; exact hbad)))
  · rintro i seg hbad rfl
    unfold State.flashRead
    rw [hfetch]
    exact (if_neg hgo).trans ((if_neg hnot).trans (if_neg (by rw [List.isEmpty_iff]; exact hbad)))

theorem State.flashRead_done (units : List UnitOutcome) (hfetch : s.fetchOf k = some f)
    (h : f.ready = true ∨ f.failed = true ∨ f.rebuild ≠ []) : s.flashRead k units = s := by
  unfold State.flashRead
  rw [hfetch]
  refine if_pos ?_
  rcases h with h | h | h <;> simp [h]

/-- The rebuild of a fetch's failed units ends: the region's segment is placed, the DRAM segment's fetch is ready. -/
theorem State.rebuilt_ok (hfetch : s.fetchOf k = some f) (hrebuild : f.rebuild ≠ []) :
    let t := f.rebuild.foldl (fun s b => (s.bump P.units_rebuilt).suspectBlock b) s
    (∀ i seg, k = .tier i seg →
      let u := (t.endFetch i.toNat seg).placeCopy i.toNat seg f.content
      s.rebuilt k true = (((u.residentNow i.toNat seg true).bump P.recovered_parity).rqCount 7 segBytes).advanceAll) ∧
    (∀ lsn, k = .dram lsn → s.rebuilt k true = t.modFetch k fun f => { f with rebuild := [], ready := true }) := by
  intro t
  have hgo : ¬ f.rebuild.isEmpty = true := by rwa [List.isEmpty_iff]
  refine ⟨?_, ?_⟩
  · rintro i seg rfl
    unfold State.rebuilt
    rw [hfetch]
    exact (if_neg hgo).trans (if_neg (by decide))
  · rintro lsn rfl
    unfold State.rebuilt
    rw [hfetch]
    exact (if_neg hgo).trans (if_neg (by decide))

theorem State.rebuilt_fails (hfetch : s.fetchOf k = some f) (hrebuild : f.rebuild ≠ []) :
    s.rebuilt k false = (s.bump P.units_unrecovered).afterParity k := by
  unfold State.rebuilt
  rw [hfetch]
  exact (if_neg (by rwa [List.isEmpty_iff])).trans (if_pos rfl)

end

theorem State.promoted_eq {s : State} {idx seg : Nat} {f : Fetch} (hfetch : s.fetchOf (.tier (BitVec.ofNat 20 idx) seg) = some f) :
    let t := ((s.endFetch idx seg).placeCopy idx seg f.content).bump P.promote_bytes_flash 0 f.bytes
    s.promoted idx seg = if !f.ready || (s.entry idx seg).mstate ≠ .promoting then s
      else ((t.residentNow idx seg false).rqCount 7 segBytes).advanceAll := by
  intro t
  unfold State.promoted
  rw [hfetch]

/-- Settles O35. -/
theorem tierFetches : Obligations.TierFetches := by
  refine ⟨?_, ?_, ?_, ?_, ?_⟩
  · intro k units s f hfetch
    refine ⟨fun hdone => next_settle_eq (State.flashRead_done units hfetch hdone), ?_⟩
    intro hready hfailed hrebuild hown e read blks corrupt bad t u v
    obtain ⟨hgood, hdram, htier⟩ := State.flashRead_decodes units hfetch hready hfailed hrebuild hown
    refine ⟨fun hbad => next_settle_eq (hgood hbad), fun lsn hbad hk => next_settle_eq (hdram lsn hbad hk), fun i seg hbad hk => ⟨?_, fun hfull => ?_⟩⟩
    · intro hroom w
      exact next_settle_eq ((htier i seg hbad hk).trans (if_neg (Nat.not_le.2 hroom)))
    · exact next_settle_eq ((htier i seg hbad hk).trans (if_pos hfull))
  · intro k units ok s hnone
    refine ⟨next_settle_eq ?_, next_settle_eq ?_⟩
    · rw [State.flashRead, hnone]
    · rw [State.rebuilt, hnone]
  · intro k s f hfetch hrebuild
    refine ⟨next_settle_eq (State.rebuilt_fails hfetch hrebuild), ?_⟩
    intro t
    obtain ⟨htier, hdram⟩ := State.rebuilt_ok hfetch hrebuild
    refine ⟨?_, fun lsn hk => next_settle_eq (hdram lsn hk)⟩
    intro i seg hk u
    exact next_settle_eq (htier i seg hk)
  · intro idx seg s f hfetch
    have hpromoted := State.promoted_eq hfetch
    refine ⟨?_, fun hnot => next_settle_eq (hpromoted.trans (if_pos ?_))⟩
    · intro hready hstate t
      exact next_settle_eq (hpromoted.trans (if_neg (by simp [hready, hstate])))
    · rcases hnot with h | h <;> simp [h]
  · intro idx seg qpn psn s waits
    refine ⟨?_, fun hnot => next_eq (if_pos ?_)⟩
    · intro hwaits hmine htiered htwin hnone log
      have hgo : ¬ (!(decide ((s.entry idx.toNat seg.toNat).mstate = .promoting) || decide ((s.entry idx.toNat seg.toNat).mstate = .recovering)) ||
          !((s.qp qpn.toNat).msgs.any fun m => m.firstPsn == psn.toNat && s.hasDeadline m idx.toNat seg.toNat) ||
          !(s.desc idx.toNat).tiered || !s.twinSource (s.desc idx.toNat).group ||
          s.tmv.reads.any (fun r => r.idx == idx.toNat && r.seg == seg.toNat && r.line.isNone)) = true := by
        rw [hmine, htiered, htwin, hnone]
        rcases (show _ ∨ _ from hwaits) with hstate | hstate <;> simp [hstate]
      exact ⟨fun hlimit => next_eq ((if_neg hgo).trans (if_pos hlimit)),
        fun hroom => next_eq ((if_neg hgo).trans (if_neg (Nat.not_le.2 hroom)))⟩
    · rcases hnot with h | h
      · have hno : (decide ((s.entry idx.toNat seg.toNat).mstate = .promoting) || decide ((s.entry idx.toNat seg.toNat).mstate = .recovering)) =
            false := by simpa [waits] using h
        rw [hno]
        simp
      · rw [h]
        simp

/-! ### Eviction, range commands and capacity -/

theorem State.endEvict_framed {s : State} {idx seg n : Nat} (h : s.frameOfLsn (s.entry idx seg).frame = some n) :
    s.endEvict idx seg =
      ((s.setEntry idx seg { s.entry idx seg with mstate := .absent, frame := 0 }).freeFrame n).bump P.evictions := by
  unfold State.endEvict
  dsimp only
  rw [h]

/-- Settles O36. -/
theorem tierEvictionAndCapacity : Obligations.TierEvictionAndCapacity := by
  refine ⟨⟨?_, ?_, ?_, ?_, ?_, ?_⟩, ?_, fun s hgated => next_eq (if_pos hgated)⟩
  · exact fun s => ⟨fun hlow => next_eq (if_pos hlow), fun hlow => next_eq (if_neg (Nat.not_lt.2 hlow))⟩
  · intro idx seg s hstate
    refine ⟨fun href => next_eq ((if_neg (not_not.2 hstate)).trans (if_pos href)), ?_⟩
    intro n href hframe t
    exact next_eq ((if_neg (not_not.2 hstate)).trans ((if_neg (ne_true_of_eq_false href)).trans
      (congrArg State.advanceAll (State.endEvict_framed hframe))))
  · exact fun idx seg s hstate => next_eq (if_pos hstate)
  · intro r s p h a ak first n
    have hrun : exec (.tierEvict r) s = .next (a.tierEvict (s.namedBy r) r.args) :=
      next_eq (State.command_plain (fun num x s => s.tierEvict num x) h)
    rw [hrun]
    refine ⟨?_, fun why hwhy => next_eq ?_⟩
    · intro hok e
      refine next_eq ?_
      unfold State.tierEvict rangeArgs
      dsimp only
      rw [show State.rangeFails a (leAt r.args 0 4) (leAt r.args 4 4) (leAt r.args 8 4) = none from hok]
    · unfold State.tierEvict rangeArgs
      dsimp only
      rw [show State.rangeFails a (leAt r.args 0 4) (leAt r.args 4 4) (leAt r.args 8 4) = some why from hwhy]
  · intro r s p h a ak first n
    have hrun : exec (.tierPoisonClear r) s = .next (a.poisonClear (s.namedBy r) r.args) :=
      next_eq (State.command_plain (fun num x s => s.poisonClear num x) h)
    rw [hrun]
    refine ⟨?_, fun why hwhy => next_eq ?_⟩
    · intro hok due
      refine next_eq ?_
      unfold State.poisonClear rangeArgs
      dsimp only
      rw [show State.rangeFails a (leAt r.args 0 4) (leAt r.args 4 4) (leAt r.args 8 4) = none from hok]
    · unfold State.poisonClear rangeArgs
      dsimp only
      rw [show State.rangeFails a (leAt r.args 0 4) (leAt r.args 4 4) (leAt r.args 8 4) = some why from hwhy]
  · intro s ak first n
    refine ⟨fun hnot => if_pos (by rcases hnot with h | h <;> simp [h]), fun hidx hvalid htiered => ?_⟩
    have hregion : ¬ (akIndex ak ≥ maxRegions ∨ (s.desc (akIndex ak)).state ≠ .valid ∨ (!(s.desc (akIndex ak)).tiered) = true) := by
      simp [hidx, hvalid, htiered]
    exact ⟨fun hgen => (if_neg hregion).trans (if_pos hgen),
      fun hgen hrange => (if_neg hregion).trans ((if_neg (not_not.2 hgen)).trans (if_pos hrange)),
      fun hgen hsome hend => (if_neg hregion).trans ((if_neg (not_not.2 hgen)).trans (if_neg (by omega)))⟩
  · intro s hclk cap prov stored exceeds full t u
    exact next_eq (if_neg (ne_true_of_eq_false hclk))

end Sys2Proof.Machine

/-!
The statements on the fabric's neighbours and on fabric time (R258 to R268, R281).
-/

namespace Sys2Proof.Machine

/-! ### Neighbours -/

section
variable {s : State} {port : Nat} {mac : BitVec 48} {fec : Fec} {b : FabHello}

theorem State.fabricHello_off (slot : Option Nat) (h : s.fabOn = false ∨ (s.port port).linkUp = false) : s.fabricHello port fec mac b slot = s :=
  if_pos (by rcases h with h | h <;> simp [h])

section
variable (hon : s.fabOn = true) (hup : (s.port port).linkUp = true)
include hon hup

theorem State.fabricHello_corrupt (slot : Option Nat) (hfec : fec.uncorrectable ≠ 0) : s.fabricHello port fec mac b slot = s.portFrame port fec :=
  (if_neg (by simp [hon, hup])).trans (if_pos (by simpa using hfec))

variable (hfec : fec.uncorrectable = 0)
include hfec

theorem State.fabricHello_unverified : s.fabricHello port fec mac b none = (s.portFrame port fec).bump P.fabric_rx_dropped :=
  (if_neg (by simp [hon, hup])).trans (if_neg (by simp [hfec]))

theorem State.fabricHello_noSlot (key : Nat) (hslot : (s.portFrame port fec).adjSlot port mac = none) :
    s.fabricHello port fec mac b (some key) = (s.portFrame port fec).bump P.fabric_rx_dropped := by
  unfold State.fabricHello
  dsimp only
  rw [if_neg (by simp [hon, hup]), if_neg (by simp [hfec]), hslot]

/-- A HELLO that verifies, with a slot for its source, is heard unless its number is not new. -/
theorem State.fabricHello_slot (key : Nat) {k : Nat} (hslot : (s.portFrame port fec).adjSlot port mac = some k) :
    let c := s.portFrame port fec
    s.fabricHello port fec mac b (some key) =
      if c.fab.adjs.has k && (c.adj k).nonce == b.nonce && decide (b.helloSeq.toNat ≤ (c.adj k).lastSeq) then c.bump P.fabric_rx_dropped
      else if b.nonce = c.fab.nonce then c.newNonce else c.hearHello k mac b key := by
  intro c
  unfold State.fabricHello
  dsimp only
  rw [if_neg (by simp [hon, hup]), if_neg (by simp [hfec]), hslot]

end

end

/-- What a ROUTE datagram of a neighbour does. -/
theorem exec_route {s : State} {d : FabRx} (hacc : s.fabAccepts d) (seq : BitVec 32) (full : Bool) (l : List RouteEntry) :
    let c := s.fabCounted d
    let k := adjKey d.port.val d.slot.val
    exec (.route d seq full l) s = .next (
      if (c.adj k).state.routed && decide (1 ≤ l.length ∧ l.length ≤ 128) then
        (l.foldl (fun s e => s.takeEntry k ((c.adj k).state = .frozen) e) c).checkCaller
      else c) :=
  next_eq (State.fabRx_accepts hacc _)

/-- Settles O37. -/
theorem fabricNeighbours : Obligations.FabricNeighbours := by
  refine ⟨fun s => ⟨?_, fun hidle => next_eq (if_pos ?_)⟩, fun s => ⟨fun hon => next_eq (if_pos hon), fun hoff => next_eq (if_neg (ne_true_of_eq_false hoff))⟩,
    fun port mac fec b s => ⟨fun hoff t => next_settle_eq (State.fabricHello_off _ hoff), ?_⟩, ?_, ?_,
    fun s => ⟨fun hon => ⟨next_eq (if_pos hon), next_eq (if_pos hon)⟩,
      fun hoff => ⟨next_eq (if_neg (ne_true_of_eq_false hoff)), next_eq (if_neg (ne_true_of_eq_false hoff))⟩, ?_,
      fun m => ⟨fun hhas => next_eq (if_pos hhas), fun hhas => next_eq (if_neg (ne_true_of_eq_false hhas))⟩⟩⟩
  · intro hmode hstopped m
    exact next_eq (if_neg (by simp [hmode, hstopped]))
  · rcases hidle with h | h <;> simp [h]
  · intro hon hup c
    refine ⟨fun hfec t => next_settle_eq (State.fabricHello_corrupt hon hup _ hfec), fun hfec =>
      ⟨next_settle_eq (State.fabricHello_unverified hon hup hfec), fun key hslot => next_settle_eq (State.fabricHello_noSlot hon hup hfec _ hslot), ?_⟩⟩
    intro key k hslot old
    have hheard := State.fabricHello_slot (b := b) hon hup hfec key.val hslot
    have hold : old ↔ (c.fab.adjs.has k && (c.adj k).nonce == b.nonce && decide (b.helloSeq.toNat ≤ (c.adj k).lastSeq)) = true := by
      simp [old, and_assoc]
    refine ⟨fun ho => next_settle_eq (hheard.trans (if_pos (hold.1 ho))),
      fun hn heq => next_settle_eq (hheard.trans ((if_neg (mt hold.2 hn)).trans (if_pos heq))),
      fun hn hne => next_settle_eq (hheard.trans ((if_neg (mt hold.2 hn)).trans (if_neg hne)))⟩
  · intro port slot s k dead
    have hdead : dead ↔ (s.fabOn && s.fab.adjs.has k && (s.adj k).lastHello != s.now &&
        decide ((s.adj k).lastHello + 3 * (s.adj k).helloMs * msNs ≤ s.now)) = true := by
      simp [dead, msNs, and_assoc]
    exact ⟨fun h => next_eq (if_pos (hdead.1 h)), fun h => next_eq (if_neg (mt hdead.2 h))⟩
  · intro d seq full l s hacc c k
    have hrun := exec_route hacc seq full l
    refine ⟨fun hsome hmax hstate => hrun.trans (next_eq ?_), fun hsome hmax hstate => hrun.trans (next_eq ?_), fun hnot => hrun.trans (next_eq (if_neg ?_))⟩
    · rw [hstate]
      exact if_pos (by rw [decide_eq_true (show 1 ≤ l.length ∧ l.length ≤ 128 from ⟨hsome, hmax⟩)]; rfl)
    · rw [hstate]
      exact if_pos (by rw [decide_eq_true (show 1 ≤ l.length ∧ l.length ≤ 128 from ⟨hsome, hmax⟩)]; rfl)
    · rcases hnot with h | h | h
      · simp [h]
      · simp [Nat.not_le.2 h]
      · rw [h]
        simp [AdjState.routed]
  · intro m r stale
    have hstale : stale ↔ (s.fabOn && decide (r.metric < 15 ∧ r.refreshed + 3 * s.param P.route_update_ms * msNs ≤ s.now)) = true := by
      simp [stale, msNs]
    exact ⟨fun h => next_eq (if_pos (hstale.1 h)), fun h => next_eq (if_neg (mt hstale.2 h))⟩

/-! ### The member identifier and fabric time -/

/-- A host port is read back from the key of an adjacency on it. -/
theorem hopOf_adjKey_port (port : Nat) (slot : Fin 16) : (hopOf (adjKey port slot.val)).port = port := by
  unfold hopOf adjKey portSlots
  dsimp only
  omega

section
variable {s : State} {port : Fin 4} {slot : Fin 16} {fec : Fec} {msg : PtpRx}

/-- A PTP message that comes in whole over a usable neighbour, of the own domain, is the ordinary clock's. -/
theorem exec_ptpMessage (hon : s.fabOn = true) (hup : (s.port port.val).linkUp = true) (hfec : fec.uncorrectable = 0) :
    let c := s.portFrame port.val fec
    exec (.ptpMessage port slot fec msg) s = .next (
      if c.ptpLink port.val slot.val && msg.domain.toNat != c.param P.ptp_domain then c
      else if c.ptpLink port.val slot.val then c.ptpTake (adjKey port.val slot.val) msg.body
      else c.bump P.fabric_rx_dropped) :=
  next_eq ((if_neg (by simp [hon, hup])).trans (if_neg (by simp [hfec])))

end

section
variable {s : State} {k : Nat}

/-- The messages of its master set the time base and the path delay of a slave. -/
theorem State.ptpTake_master (hstate : s.fab.ptp.state = .slave) (hparent : s.fab.ptp.parent = k) :
    (∀ rx, s.ptpTake k (.sync rx) = s.modPtp fun p => { p with syncRx := rx.toNat }) ∧
    (∀ o, s.ptpTake k (.followUp o) = s.modPtp fun p =>
      let d : Int := (p.syncRx : Int) + p.baseNs - o.toNat - p.pathNs
      { p with origin := o.toNat, offsetNs := d, baseNs := p.baseNs - d }) ∧
    (∀ rx, s.ptpTake k (.delayResp rx) = s.modPtp fun p =>
      { p with pathNs := (((p.syncRx : Int) + p.baseNs - p.origin) + ((rx.toNat : Int) - ((p.delayTx : Int) + p.baseNs))) / 2 }) := by
  have hmine : (decide (s.fab.ptp.state = .slave) && s.fab.ptp.parent == k) = true := by simp [hstate, hparent]
  exact ⟨fun _ => if_pos hmine, fun _ => if_pos hmine, fun _ => if_pos hmine⟩

theorem State.ptpTake_stranger {body : PtpMsg} {x : BitVec 64} (h : s.fab.ptp.state ≠ .slave ∨ s.fab.ptp.parent ≠ k)
    (hbody : body = .sync x ∨ body = .followUp x ∨ body = .delayResp x) : s.ptpTake k body = s := by
  have hmine : ¬ (decide (s.fab.ptp.state = .slave) && s.fab.ptp.parent == k) = true := by rcases h with h | h <;> simp [h]
  rcases hbody with rfl | rfl | rfl <;> exact if_neg hmine

theorem State.ptpTake_delayReq (x : BitVec 64) :
    s.ptpTake k (.delayReq x) = if s.fab.ptp.state = .master then s.sendPtp (hopOf k).port 9 else s := rfl

end

/-- A PTP interval of a usable neighbour expires. -/
theorem exec_ptpAnnounceReceiptTimeout {s : State} {port : Fin 4} {slot : Fin 16} (t : PtpTimer) (hlink : s.ptpLink port.val slot.val = true) :
    exec (.ptpAnnounceReceiptTimeout port slot t) s = .next (s.ptpTimer (adjKey port.val slot.val) t) := next_eq (if_pos hlink)

/-- Settles O38. -/
theorem memberIdAndTime : Obligations.MemberIdAndTime := by
  refine ⟨fun s => ⟨fun h => next_eq (if_pos h), fun h => next_eq (if_neg h), fun h => next_eq (if_pos h), fun h => next_eq (if_neg h)⟩,
    ?_, ?_, ?_⟩
  · intro r s p h a t
    exact next_settle_eq (State.command_args (fun n _ s => s.releaseId.done n) (fun a => leNat a == 0) h)
  · intro port slot fec msg s k c
    refine ⟨fun hoff => next_eq (if_pos ?_), fun hon hup => ?_⟩
    · rcases hoff with h | h <;> simp [h]
    · refine ⟨fun hfec => next_eq ((if_neg (by simp [hon, hup])).trans (if_pos (by simpa using hfec))), fun hfec hlink => ?_,
        fun hfec hlink hdomain => ?_, ?_⟩
      · exact (exec_ptpMessage hon hup hfec).trans (next_eq ((if_neg (by rw [hlink]; simp)).trans (if_neg (ne_true_of_eq_false hlink))))
      · exact (exec_ptpMessage hon hup hfec).trans (next_eq (if_pos (by rw [hlink]; simpa using hdomain)))
      · intro hfec hlink hdomain p
        have htake : exec (.ptpMessage port slot fec msg) s = .next (c.ptpTake k msg.body) :=
          (exec_ptpMessage hon hup hfec).trans (next_eq ((if_neg (by rw [hlink]; simpa using hdomain)).trans (if_pos hlink)))
        rw [htake]
        refine ⟨fun hstate hparent => ?_, fun hstranger x hbody => next_eq (State.ptpTake_stranger hstranger hbody), fun x hbody => ?_⟩
        · obtain ⟨hsync, hfollow, hresp⟩ := State.ptpTake_master hstate hparent
          refine ⟨fun rx hbody => ?_, fun o hbody => ?_, fun rx hbody => ?_⟩
          · rw [hbody]
            exact next_eq (hsync rx)
          · rw [hbody]
            exact next_eq (hfollow o)
          · rw [hbody]
            exact next_eq (hresp rx)
        · rw [hbody, State.ptpTake_delayReq, show (hopOf k).port = port.val from hopOf_adjKey_port _ _]
          exact ⟨fun hmaster => next_eq (if_pos hmaster), fun hmaster => next_eq (if_neg hmaster)⟩
  · intro port slot s k p run
    refine ⟨fun hlink t => next_eq (if_neg (ne_true_of_eq_false hlink)), fun hlink => ?_⟩
    have hrun (t : PtpTimer) : run t = .next (s.ptpTimer k t) := exec_ptpAnnounceReceiptTimeout t hlink
    have hport : (hopOf k).port = port.val := hopOf_adjKey_port _ _
    refine ⟨fun hmaster => ⟨?_, ?_⟩, fun hmaster => ⟨?_, ?_⟩, fun hslave hparent => ?_, fun hother => ?_, fun hstate => ?_, fun hlisten hother => ?_⟩
    · rw [hrun, ← hport]
      exact next_eq (if_pos hmaster)
    · rw [hrun, ← hport]
      exact next_eq (if_pos hmaster)
    · exact (hrun _).trans (next_eq (if_neg hmaster))
    · exact (hrun _).trans (next_eq (if_neg hmaster))
    · rw [hrun, ← hport]
      exact next_eq (if_pos (by simpa using And.intro hslave hparent))
    · exact (hrun _).trans (next_eq (if_neg (by simpa [or_iff_not_imp_left] using hother)))
    · exact (hrun _).trans (next_eq (if_pos (by simpa using hstate)))
    · refine (hrun _).trans (next_eq (if_neg ?_))
      simp only [Bool.or_eq_true, Bool.and_eq_true, decide_eq_true_eq, beq_iff_eq, not_or, not_and]
      exact ⟨hlisten, fun hslave => hother.resolve_left (not_not.2 hslave)⟩

end Sys2Proof.Machine

/-!
The statements on relaying, fabric sessions, the requester of a FABRIC queue pair and the designation of a Caller (R269 to R280).
-/

namespace Sys2Proof.Machine

/-! ### Relaying and sessions -/

section
variable {s r : State} {d : FabRx}

/-- An admitted datagram for another member is relayed, whatever it carries. -/
theorem State.fabFor_other (a : s.fabAccepts d) (hdst : d.frh.dst.toNat ≠ s.fab.member) (f : State → State) :
    s.fabFor d f = (s.fabCounted d).relay d := by
  unfold State.fabFor
  rw [State.fabRx_accepts a, State.fabCounted_fab, if_neg hdst]

theorem State.relay_hop {h : Hop} {rest : List Hop} (hh : s.hopsTo d.frh.dst.toNat = h :: rest) (hl : d.frh.hopsLeft ≠ 0) :
    s.relay d = (s.sendFab h.port (some h.slot) (s.classDscp d.frh.cls.toNat) d.ecn.toNat { d.frh with hopsLeft := d.frh.hopsLeft - 1 }
      .relayed).bump P.relay_packets := by
  unfold State.relay
  rw [hh]
  exact if_neg hl

theorem State.relay_dropped (h : s.hopsTo d.frh.dst.toNat = [] ∨ d.frh.hopsLeft = 0) : s.relay d = s.bump P.relay_dropped_hops := by
  unfold State.relay
  split
  · rename_i hop rest hh
    exact if_pos (h.resolve_left (by simp [hh]))
  · rfl

/-- Every command that carries a datagram does with one for another member what relaying does. -/
theorem exec_relayed (h : ∀ f, s.fabFor d f = r) :
    exec (.fabricLeaseRelay d) s = .next r ∧
    (∀ b, exec (.sessionAccept d b) s = .next r ∧ exec (.sessionRefuse d b) s = .next r ∧ exec (.sessionOpen d b) s = .next r.settle ∧
      exec (.sessionClose d b) s = .next r.settle) ∧
    (∀ b, exec (.callerOffer d b) s = .next r ∧ exec (.callerAnswer d b) s = .next r ∧ exec (.noteStart d b) s = .next r ∧
      exec (.noteRelease d b) s = .next r ∧ exec (.noteAdopt d b) s = .next r ∧ exec (.noteReply d b) s = .next r ∧
      exec (.noteReleased d b) s = .next r ∧ exec (.noteDone d b) s = .next r) ∧
    (∀ b op ok, exec (.fabricData d b op ok) s = .next r.settle) ∧
    (∀ n psn, exec (.fabricAckReceived d n psn) s = .next r.settle ∧ (∀ y, exec (.fabricNakReceived d n psn y) s = .next r.settle) ∧
      (∀ last data, exec (.fabricReadResponse d n psn last data) s = .next r.settle) ∧
      (∀ o, exec (.fabricAtomicAck d n psn o) s = .next r.settle) ∧ (∀ g, exec (.fabricGxResponse d n psn g) s = .next r.settle)) :=
  ⟨next_eq (h _),
    fun _ => ⟨next_eq (h _), next_eq (h _), next_settle_eq (h _), next_settle_eq (h _)⟩,
    fun _ => ⟨next_eq (h _), next_eq (h _), next_eq (h _), next_eq (h _), next_eq (h _), next_eq (h _), next_eq (h _), next_eq (h _)⟩,
    fun _ _ _ => next_settle_eq (h _),
    fun _ _ => ⟨next_settle_eq (h _), fun _ => next_settle_eq (h _), fun _ _ => next_settle_eq (h _), fun _ => next_settle_eq (h _),
      fun _ => next_settle_eq (h _)⟩⟩

end

section
variable {s : State} {d : FabRx} {b : InnerBth} {op : ReqOp}

/-- With a session, a DATA datagram is one of the queue pair it names, in use from now. -/
theorem State.ownerRequest_session {icrcOk : Bool}
    (h : s.mode.traffic = true ∧ (s.qp b.destQp.toNat).ctx.kind = 1 ∧ (s.qp b.destQp.toNat).fab.peer = d.frh.src.toNat ∧
      (s.qp b.destQp.toNat).fab.opening = false) (hok : icrcOk = true) :
    let t := s.modXpt fun x => { x with qps := x.qps.upd b.destQp.toNat {} fun q => { q with fab := { q.fab with lastUse := s.now } } }
    s.ownerRequest d b op icrcOk = match op with
      | .invalid 0x81 => if (s.qp b.destQp.toNat).state = .ready then (t.ceMark b.destQp.toNat (d.ecn == 3)).governorCnp b.destQp.toNat else t
      | _ => t.receive b.destQp.toNat b.psn.toNat b.ackReq (d.ecn == 3) (some { pd := d.frh.pd, redirected := d.frh.redirected }) op := by
  obtain ⟨hmode, hkind, hpeer, hopen⟩ := h
  exact if_neg (by simp [hok, hmode, hkind, hpeer, hopen])

theorem State.ownerRequest_ignored {icrcOk : Bool}
    (h : icrcOk = false ∨ ¬ (s.mode.traffic = true ∧ (s.qp b.destQp.toNat).ctx.kind = 1 ∧
      (s.qp b.destQp.toNat).fab.peer = d.frh.src.toNat ∧ (s.qp b.destQp.toNat).fab.opening = false)) :
    s.ownerRequest d b op icrcOk = s :=
  if_pos (by
    rcases h with h | h
    · simp [h]
    · by_contra hc
      exact h (by simpa [and_assoc] using hc : icrcOk = true ∧ _).2)

end

section
variable {s : State} {src : Nat} {b : SessionBody}

theorem State.sessionOpen_fresh (h : s.fabQpsTo src (·.fab.opening) = []) :
    let t := (s.fabQpsTo src fun _ => true).foldl State.endFabQp s
    s.sessionOpen src b = match t.fabFreeQpn with
      | some n => (t.tick.modXpt fun x => { x with qps := x.qps.set n (fabricQp src (t.draw.toNat % 2 ^ 24) false t.tick.now) }).acceptSession n src b
      | none => t.closeIdlest.sendSession src 4 0 0 0 b.senderQpn.toNat := by
  unfold State.sessionOpen
  rw [h]
  rfl

theorem State.sessionOpen_crossed {n : Nat} {l : List Nat} (h : s.fabQpsTo src (·.fab.opening) = n :: l) :
    s.sessionOpen src b = if s.fab.member < src then s else s.acceptSession n src b := by
  unfold State.sessionOpen
  rw [h]
  rfl

end

/-- Settles O39. -/
theorem fabricSessions : Obligations.FabricSessions := by
  unfold Obligations.FabricSessions
  refine ⟨?other, ?mine, fun _ _ _ _ => rfl, ?idle⟩
  case other =>
    intro d s hacc hdst c r hr
    refine exec_relayed fun f => (State.fabFor_other hacc hdst f).trans ?_
    obtain ⟨h, rest, hh, hl, rfl⟩ | ⟨h, rfl⟩ := hr
    · exact State.relay_hop hh hl
    · exact State.relay_dropped h
  case mine =>
    intro d s hmine c src
    have hfor (f : State → State) : s.fabFor d f = f c := State.fabFor_mine hmine f
    refine ⟨next_eq (hfor _), fun b op => ?data, fun b => ⟨fun hnone => ?fresh, fun n l hcross => ?crossed⟩, fun b => ?named⟩
    case data =>
      intro n session t
      have hrun (op ok) : exec (.fabricData d b op ok) s = .next (c.ownerRequest d b op ok).settle := next_settle_eq (hfor _)
      refine ⟨fun h hop => (hrun op true).trans (next_settle_eq ((State.ownerRequest_session h rfl).trans ?_)),
        fun h hready => (hrun _ true).trans (next_settle_eq ((State.ownerRequest_session h rfl).trans (if_pos hready))),
        fun h hready => (hrun _ true).trans (next_settle_eq ((State.ownerRequest_session h rfl).trans (if_neg hready))),
        fun h ok => (hrun op ok).trans (next_settle_eq (State.ownerRequest_ignored (.inr h))),
        (hrun op false).trans (next_settle_eq (State.ownerRequest_ignored (.inl rfl)))⟩
      cases op with
      | invalid x => exact absurd rfl (hop x)
      | _ => rfl
    case fresh =>
      intro t
      have hrun : exec (.sessionOpen d b) s = .next (c.sessionOpen src b).settle := next_settle_eq (hfor _)
      refine ⟨fun n hn => hrun.trans (next_settle_eq ((State.sessionOpen_fresh hnone).trans ?_)),
        fun hn => hrun.trans (next_settle_eq ((State.sessionOpen_fresh hnone).trans ?_))⟩
      · rw [show ((c.fabQpsTo src fun _ => true).foldl State.endFabQp c).fabFreeQpn = some n from hn]
      · rw [show ((c.fabQpsTo src fun _ => true).foldl State.endFabQp c).fabFreeQpn = none from hn]
    case crossed =>
      have hrun : exec (.sessionOpen d b) s = .next (c.sessionOpen src b).settle := next_settle_eq (hfor _)
      exact ⟨fun h => hrun.trans (next_settle_eq ((State.sessionOpen_crossed hcross).trans (if_pos h))),
        fun h => hrun.trans (next_settle_eq ((State.sessionOpen_crossed hcross).trans (if_neg (by omega))))⟩
    case named =>
      intro n mine
      have hno {o : Bool} (hn : ¬ mine ∨ (c.qp n).fab.opening = o) : ¬ ((mine ∧ (c.qp n).fab.opening = !o)) := by
        rintro ⟨hm, ho⟩
        rcases hn with hn | hn
        · exact hn hm
        · simp [hn] at ho
      refine ⟨fun hm hopen => ⟨next_eq ((hfor _).trans (if_pos ?_)), next_eq ((hfor _).trans (if_pos ?_))⟩,
        fun hn => ⟨next_eq ((hfor _).trans (if_neg (mt ?_ (hno hn)))), next_eq ((hfor _).trans (if_neg (mt ?_ (hno hn))))⟩,
        fun hm hopen => next_settle_eq ((hfor _).trans (if_pos ?_)),
        fun hn => next_settle_eq ((hfor _).trans (if_neg (mt ?_ (hno hn))))⟩ <;>
      simp only [Bool.and_eq_true, beq_iff_eq, Bool.not_eq_true', Bool.not_false, Bool.not_true] <;> tauto
  case idle =>
    intro n s q idle
    have hidle : idle ↔ (q.ctx.kind == 1 && !q.fab.opening && q.idleFab) = true := by simp [idle, and_assoc]
    exact ⟨fun h => next_eq (if_pos (hidle.1 h)), fun h => next_eq (if_neg (mt hidle.2 h))⟩


/-! ### The requester -/

section
variable {s : State} {d : FabRx} {n : Nat}

theorem State.fabAnswer_session (hmine : s.fabMine d) (h : (s.fabCounted d).sessionWith d n) (f : State → State) :
    s.fabAnswer d n f = f (s.fabCounted d) := by
  obtain ⟨hkind, hready, hopen, hpeer⟩ := h
  exact (State.fabFor_mine hmine _).trans (if_pos (by simp [hkind, hready, hopen, hpeer]))

theorem State.fabAnswer_noSession (hmine : s.fabMine d) (h : ¬ (s.fabCounted d).sessionWith d n) (f : State → State) :
    s.fabAnswer d n f = s.fabCounted d := by
  refine (State.fabFor_mine hmine _).trans (if_neg fun hc => h ?_)
  simpa [State.sessionWith, and_assoc] using hc

end

section
variable {s : State} {n psn : Nat} {r : FabReq} {rest : List FabReq}

/-- An answer at the oldest request, before which nothing is left to cover. -/
theorem State.fabReply_oldest (hreqs : (s.qp n).fab.reqs = r :: rest) (hdone : r.done = false)
    (hpsn : psnSub psn r.firstPsn ≤ psnSub r.lastPsn r.firstPsn) (hcover : s.cover n (psnSub r.firstPsn 1) = s) (f : FabReq → State → State) :
    s.fabReply n psn (opReply r.op) f = f r s := by
  unfold State.fabReply
  simp [hreqs, hdone, hpsn, hcover]

/-- What a read response at the oldest request does, which is a read whose message has `len` octets so far. -/
def State.readResponseAt (s : State) (n psn : Nat) (r : FabReq) (len : Nat) (last : Bool) (data : Bytes) : State :=
  if len ≠ 4096 * psnSub psn r.firstPsn then s
  else if last then s.endReq n r fun m => { m with data := m.data ++ data }
  else (s.modMsg r.hostQpn r.hostMsg fun m => { m with data := m.data ++ data }).modFabSide n fun x => { x with retries := 0 }

theorem State.readResponseAt_last {len : Nat} {data : Bytes} (h : len = 4096 * psnSub psn r.firstPsn) :
    s.readResponseAt n psn r len true data = s.endReq n r fun m => { m with data := m.data ++ data } :=
  (if_neg (not_not.2 h)).trans (if_pos rfl)

theorem State.readResponseAt_more {len : Nat} {data : Bytes} (h : len = 4096 * psnSub psn r.firstPsn) :
    s.readResponseAt n psn r len false data =
      (s.modMsg r.hostQpn r.hostMsg fun m => { m with data := m.data ++ data }).modFabSide n fun x => { x with retries := 0 } :=
  (if_neg (not_not.2 h)).trans (if_neg Bool.false_ne_true)

theorem State.fabReadResponse_oldest (hreqs : (s.qp n).fab.reqs = r :: rest) (hdone : r.done = false)
    (hpsn : psnSub psn r.firstPsn ≤ psnSub r.lastPsn r.firstPsn) (hcover : s.cover n (psnSub r.firstPsn 1) = s) (hop : opReply r.op = .read)
    {m : OpenMsg} (hm : (s.qp r.hostQpn).msg r.hostMsg = some m) (last : Bool) (data : Bytes) :
    s.fabReadResponse n psn last data = s.readResponseAt n psn r m.data.length last data := by
  unfold State.fabReadResponse State.readResponseAt
  rw [← hop, State.fabReply_oldest hreqs hdone hpsn hcover]
  dsimp only
  rw [hm]

theorem State.fabGx_oldest (hreqs : (s.qp n).fab.reqs = r :: rest) (hdone : r.done = false)
    (hpsn : psnSub psn r.firstPsn ≤ psnSub r.lastPsn r.firstPsn) (hcover : s.cover n (psnSub r.firstPsn 1) = s)
    (hop : opReply r.op = .gx ∨ ∃ x, r.op = .tread x) (g : Grb) :
    s.fabGx n psn g = s.endReq n r fun m =>
      { m with grb := some (hostGrb (s.qp r.hostQpn).hxv g), verdict := some (.gx g.status.toNat g.durability.toNat g.result.toNat) } := by
  have hfind : (s.qp n).fab.reqs.find? (fun r => !r.done && decide (psnSub psn r.firstPsn ≤ psnSub r.lastPsn r.firstPsn)) = some r := by
    simp [hreqs, hdone, hpsn]
  unfold State.fabGx
  dsimp only
  rw [hfind]
  refine (if_pos ?_).trans (State.fabReply_oldest hreqs hdone hpsn hcover _)
  obtain hop | ⟨x, hx⟩ := hop
  · simp [hop]
  · simp [hx]

end

/-- A sequence NAK sends again from its PSN. -/
theorem State.fabNak_sequence (s : State) (n psn : Nat) : s.fabNak n psn 0x60 = (s.cover n (psnSub psn 1)).resendFab n psn := by
  simp [State.fabNak]

/-- What a NAK that neither waits nor sends again does: it answers the message of the request it names. -/
theorem State.fabNak_outcome {s : State} {n psn syn : Nat} (hrnr : syn / 32 ≠ 1) (hseq : syn ≠ 0x60) :
    let t := s.cover n (psnSub psn 1)
    s.fabNak n psn syn = match (t.qp n).fab.reqs.find? fun r => !r.done && psnSub psn r.firstPsn ≤ psnSub r.lastPsn r.firstPsn with
      | none => t
      | some r =>
        ((if syn = 0x62 then t.remoteViolation r else t).modFabSide n fun f =>
          { f with reqs := f.reqs.map fun x => if x.hostQpn = r.hostQpn ∧ x.hostMsg = r.hostMsg then { x with done := true } else x
                   retries := 0 }).hostAnswered r fun m => { m with verdict := some (.nak syn) } :=
  (if_neg hrnr).trans (if_neg hseq)

/-- Settles O40. -/
theorem fabricRequester : Obligations.FabricRequester := by
  unfold Obligations.FabricRequester
  refine ⟨fun d n psn s hmine => ?answer, fun n s => ?timers⟩
  case answer =>
    intro c
    refine ⟨fun h => ?none, fun h => ?session⟩
    case none =>
      have hrun (f) : s.fabAnswer d n.toNat f = c := State.fabAnswer_noSession hmine h f
      exact ⟨next_settle_eq (hrun _), fun _ => next_settle_eq (hrun _), fun _ _ => next_settle_eq (hrun _), fun _ => next_settle_eq (hrun _),
        fun _ => next_settle_eq (hrun _)⟩
    case session =>
      have hrun (f) : s.fabAnswer d n.toNat f = f c := State.fabAnswer_session hmine h f
      refine ⟨next_settle_eq (hrun _), fun syn => ?nak, fun r rest hreqs hdone hpsn hcover => ?oldest⟩
      case nak =>
        intro t hit
        refine ⟨fun hs => next_settle_eq ((hrun _).trans (if_pos hs)), fun hs => ?_, fun hrnr hseq => ?_⟩
        · subst hs
          exact next_settle_eq ((hrun _).trans (State.fabNak_sequence _ _ _))
        · have hseq' : syn.toNat ≠ 0x60 := fun hs => hseq (BitVec.eq_of_toNat_eq hs)
          have hviolation : (syn.toNat = 0x62) = (syn = 0x62) :=
            propext ⟨fun hs => BitVec.eq_of_toNat_eq hs, fun hs => by rw [hs]; rfl⟩
          refine ⟨fun hf => next_settle_eq ((hrun _).trans ((State.fabNak_outcome hrnr hseq').trans ?_)), fun r hf => ?_⟩
          · rw [show (_ : List FabReq).find? _ = none from hf]
          · refine next_settle_eq ((hrun _).trans ((State.fabNak_outcome hrnr hseq').trans ?_))
            rw [show (_ : List FabReq).find? _ = some r from hf]
            simp only [hviolation]
            rfl
      case oldest =>
        refine ⟨fun orig hop => next_settle_eq ((hrun _).trans ?_), fun data m hop hm => ?_,
          fun g hop => next_settle_eq ((hrun _).trans (State.fabGx_oldest hreqs hdone hpsn hcover hop g))⟩
        · rw [← hop, State.fabReply_oldest hreqs hdone hpsn hcover]
        · have hread (last) :
              exec (.fabricReadResponse d n psn last data) s = .next (c.readResponseAt n.toNat psn.toNat r m.data.length last data).settle :=
            next_settle_eq ((hrun _).trans (State.fabReadResponse_oldest hreqs hdone hpsn hcover hop hm last data))
          exact ⟨fun hl => ⟨(hread true).trans (next_settle_eq (State.readResponseAt_last hl)), (hread false).trans (next_settle_eq (State.readResponseAt_more hl))⟩,
            fun hl last => (hread last).trans (next_settle_eq (if_pos hl))⟩
  case timers =>
    intro q waits t
    have hwaits : ¬ waits ↔ (q.ctx.kind != 1 || decide (q.state ≠ .ready) || q.fab.rnrWait || (!q.fab.opening && q.fab.reqs.all (·.done))) = true := by
      simp only [waits, Bool.or_eq_true, Bool.and_eq_true, bne_iff_ne, decide_eq_true_eq, Bool.not_eq_true', ne_eq,
        ← Bool.not_eq_true q.fab.rnrWait, ← Bool.not_eq_true q.fab.opening, ← Bool.not_eq_true (q.fab.reqs.all _)]
      tauto
    have hrnr : (q.ctx.kind == 1 && q.fab.rnrWait) = true ↔ q.ctx.kind = 1 ∧ q.fab.rnrWait = true := by simp
    have hrun (h : waits) : exec (.fabricAckTimeout n) s = .next (if q.fab.retries ≥ s.param P.fabric_retry_count then
        if q.fab.opening then s.freeQp n.toNat else (s.enterError n.toNat Cause.retryExceeded).failUsers n.toNat
        else if q.fab.opening then t.sendSession q.fab.peer 1 (defaultOf P.hxv_current) n.toNat q.ctx.psnOut 0
        else t.resendAll n.toNat).settle := next_settle_eq (if_neg (mt hwaits.2 (not_not.2 h)))
    refine ⟨fun h => next_settle_eq (if_pos (hwaits.1 h)), fun h hlt => ?_, fun h hle => ?_, fun hk hw => next_eq (if_pos (hrnr.2 ⟨hk, hw⟩)),
      fun hw => next_eq (if_neg (mt hrnr.1 fun h => hw.elim (· h.1) fun hf => Bool.false_ne_true (hf.symm.trans h.2)))⟩
    · have hlt' : ¬ q.fab.retries ≥ s.param P.fabric_retry_count := by omega
      exact ⟨fun ho => (hrun h).trans (next_settle_eq ((if_neg hlt').trans (if_neg (by simp [ho])))),
        fun ho => (hrun h).trans (next_settle_eq ((if_neg hlt').trans (if_pos ho)))⟩
    · exact ⟨fun ho => (hrun h).trans (next_settle_eq ((if_pos hle).trans (if_neg (by simp [ho])))),
        fun ho => (hrun h).trans (next_settle_eq ((if_pos hle).trans (if_pos ho)))⟩


/-! ### Designation of a Caller -/

section
variable {s : State} {b : CallerBody} {stage : DesigStage} {f : Desig → State → State}

theorem State.inRun_noRun (h : s.desig.run = none) : s.inRun stage b f = s := by
  rw [State.inRun, h]

theorem State.inRun_present {r : Desig} (hrun : s.desig.run = some r) (hstage : r.stage = stage)
    (hnow : b.desigSeq.toNat = r.seq ∧ bodyPair b = pairOf s.lowerTwin s.higherTwin) : s.inRun stage b f = f r s := by
  rw [State.inRun, hrun]
  exact if_pos ⟨hstage, hnow⟩

theorem State.inRun_past {r : Desig} (hrun : s.desig.run = some r)
    (h : ¬ (b.desigSeq.toNat = r.seq ∧ bodyPair b = pairOf s.lowerTwin s.higherTwin) ∨ r.stage ≠ stage) : s.inRun stage b f = s := by
  rw [State.inRun, hrun]
  exact if_neg fun hc => h.elim (· hc.2) (· hc.1)

/-- A message of a run that is not present, or not of this stage, or one that the stage ignores, changes nothing. -/
theorem State.inRun_ignored {r : Desig} (hrun : s.desig.run = some r) {P : Prop}
    (h : ¬ (b.desigSeq.toNat = r.seq ∧ bodyPair b = pairOf s.lowerTwin s.higherTwin) ∨ r.stage ≠ stage ∨ P) (hf : P → f r s = s) :
    s.inRun stage b f = s := by
  by_cases hpast : ¬ (b.desigSeq.toNat = r.seq ∧ bodyPair b = pairOf s.lowerTwin s.higherTwin) ∨ r.stage ≠ stage
  · exact State.inRun_past hrun hpast
  · obtain ⟨hnow, hstage⟩ := not_or.1 hpast
    exact (State.inRun_present hrun (not_not.1 hstage) (not_not.1 hnow)).trans (hf ((h.resolve_left hnow).resolve_left hstage))

end

/-- Settles O41. -/
theorem callerDesignation : Obligations.CallerDesignation := by
  unfold Obligations.CallerDesignation
  refine ⟨fun d b s hmine => ?messages, fun s => ⟨fun h => next_eq (if_pos (by simp [h])), fun h => next_eq (if_neg (by simpa using h)),
    fun h => ?noRun, fun r h => ?timers⟩⟩
  case messages =>
    intro c src ours
    have hfor (f : State → State) : s.fabFor d f = f c := State.fabFor_mine hmine f
    refine ⟨fun n hres hn => ?refused, fun hres => ?accepted, fun hserved => ⟨?_, ?_⟩, fun hserved => ⟨?_, ?_⟩, fun hsrc hdes hours => ⟨?_, ?_⟩,
      fun hno => ⟨?_, ?_⟩, fun hrun => ?idle, fun r hrun => ?run⟩
    case refused =>
      subst hres
      refine next_eq ((hfor _).trans ?_)
      unfold State.takeOffer
      dsimp only
      rw [if_neg hn]
    case accepted =>
      intro t
      refine next_eq ((hfor _).trans ?_)
      unfold State.takeOffer
      dsimp only
      rw [if_pos hres, hres]
    · exact next_eq ((hfor _).trans (if_pos hserved))
    · refine next_eq ((hfor _).trans ?_)
      unfold State.takeRelease
      dsimp only
      rw [if_pos hserved]
    · exact next_eq ((hfor _).trans (if_neg (by simp [hserved])))
    · refine next_eq ((hfor _).trans ?_)
      unfold State.takeRelease
      dsimp only
      rw [if_neg (by simp [hserved])]
    · exact next_eq ((hfor _).trans (if_neg (not_or.2 ⟨not_not.2 hsrc, not_or.2 ⟨by simp [hdes], not_not.2 hours⟩⟩)))
    · exact next_eq ((hfor _).trans (if_neg (not_or.2 ⟨not_not.2 hsrc, not_or.2 ⟨by simp [hdes], not_not.2 hours⟩⟩)))
    · exact next_eq ((hfor _).trans (if_pos hno))
    · exact next_eq ((hfor _).trans (if_pos hno))
    case idle =>
      exact ⟨next_eq ((hfor _).trans (State.inRun_noRun hrun)), next_eq ((hfor _).trans (State.inRun_noRun hrun)),
        next_eq ((hfor _).trans (State.inRun_noRun hrun))⟩
    case run =>
      intro now
      refine ⟨fun h => next_eq ((hfor _).trans (State.inRun_ignored hrun h fun hs => if_pos hs)),
        fun h => next_eq ((hfor _).trans (State.inRun_ignored hrun h fun hs => if_pos hs)),
        fun h => next_eq ((hfor _).trans (State.inRun_ignored hrun h fun hs => if_neg hs)), fun hnow hstage hsrc => ?answer, fun hnow hstage hsrc => ?reply,
        fun hnow hstage hsrc => next_eq ((hfor _).trans ((State.inRun_present hrun hstage hnow).trans (if_pos hsrc)))⟩
      case answer =>
        have htake {t : State} (h : _ = t) : exec (.callerAnswer d b) s = .next t :=
          next_eq ((hfor _).trans ((State.inRun_present hrun hstage hnow).trans ((if_neg (not_not.2 hsrc)).trans h)))
        exact ⟨fun h => htake (if_pos h), fun h => htake (if_neg h)⟩
      case reply =>
        intro t
        have htake {u : State} (h : _ = u) : exec (.noteReply d b) s = .next u :=
          next_eq ((hfor _).trans ((State.inRun_present hrun hstage hnow).trans ((if_neg (not_not.2 hsrc)).trans h)))
        exact ⟨fun h => htake (if_pos h), fun hnone hother => htake (if_neg (not_or.2 ⟨hnone, hother⟩))⟩
  case noRun =>
    refine ⟨next_eq ?_, next_eq ?_, next_eq ?_⟩ <;> rw [h]
  case timers =>
    intro due
    have hdue : due ↔ (s.hopsTo s.desig.caller).isEmpty ∧ r.since + 2 * s.param P.caller_lost_ms * msNs ≤ s.now := by simp [due, msNs]
    have hoffer : exec .callerOfferTimeout s = .next (if r.stage = .offering then s.offerNext r.candidates else s) := next_eq (by rw [h])
    have hrelease : exec .callerReleaseRepeat s = .next (if r.stage ≠ .releasing then s
        else if (s.hopsTo s.desig.caller).isEmpty ∧ r.since + 2 * s.param P.caller_lost_ms * msNs ≤ s.now then s.desigDone r
        else s.sendControl s.desig.caller (.callerNote 3 (s.desigBody s.desig.caller))) := next_eq (by rw [h])
    have hchange : exec .changeReplyTimeout s = .next (if r.stage = .adopting then
        (s.sendControl r.candidate (.callerNote 3 (s.desigBody r.candidate))).modDesig fun d => { d with change := none, run := none }
        else s) := next_eq (by rw [h])
    exact ⟨fun hs => hoffer.trans (next_eq (if_pos hs)), fun hs => hoffer.trans (next_eq (if_neg hs)),
      fun hs hd => hrelease.trans (next_eq ((if_neg (not_not.2 hs)).trans (if_pos (hdue.1 hd)))),
      fun hs hd => hrelease.trans (next_eq ((if_neg (not_not.2 hs)).trans (if_neg (mt hdue.2 hd)))),
      fun hs => hrelease.trans (next_eq (if_pos hs)), fun hs => hchange.trans (next_eq (if_pos hs)),
      fun hs => hchange.trans (next_eq (if_neg hs))⟩

end Sys2Proof.Machine

/-!
The statements on the DRAM (R285 to R310).
-/

namespace Sys2Proof.Machine

/-! ### Training -/

/-- Reporting the channels that are still in training does nothing when none is. -/
theorem State.trainingFaults_none {u : State} {l : List Nat} (h : (l.all fun ch => (u.mc ch).state ≠ .training) = true) :
    l.foldl (fun s ch => if (s.mc ch).state = .training then s.fault (faultMsg 0x40 ch .ucc Kind.training ((s.mc ch).steps + 1)) else s) u = u :=
  foldl_eq_self fun ch hch => if_neg (by simpa using List.all_eq_true.1 h ch hch)

/-- What `dram_retrain` does to one channel of its mask, which fails at the step of `f` or passes. -/
def State.retrainChannel (s : State) (ch : Nat) (f : Option (Fin 16 × Nat)) : State :=
  match f with
  | some f => (s.modMc ch fun m => { m with state := .training }).fault (faultMsg 0x40 ch .ucc Kind.training f.2)
  | none =>
    if bit (s.param P.mc_fence) ch then s.modMc ch fun m => { m with steps := 7, fenced := false, state := .fenced }
    else (s.liftChannel ch).modMc ch fun m => { m with steps := 7 }

section
variable {s : State} {mask : Nat} {slots : List SpdSlot} {failed : List (Fin 16 × Nat)}

theorem State.retrain_unpopulated :
    let b := if s.dram.train = .failed then s.spdRead slots else s
    b.dram.channels = 0 → s.retrain mask slots failed = b.done P.dram_retrain (leBytes 2 0) :=
  fun h => if_pos h

/-- Every channel of the mask that is not under a fault is trained, and those that passed are reported. -/
theorem State.retrain_channels {b : State} {chs : List Nat} (hb : (if s.dram.train = .failed then s.spdRead slots else s) = b)
    (hchs : ((List.range b.dram.channels).filter fun ch => bit mask ch && !b.rst.fenced.contains (14 + ch)) = chs)
    (h : b.dram.channels ≠ 0) :
    s.retrain mask slots failed =
      ((chs.foldl (fun s ch => s.retrainChannel ch (failed.find? fun f => f.1.val == ch)) b).trainResult).done P.dram_retrain
        (leBytes 2 ((chs.filter fun ch => (failed.find? fun f => f.1.val == ch).isNone).map (2 ^ ·)).sum) := by
  subst hb hchs
  exact if_neg h

/-- With one channel in the mask, what it does is that channel's outcome. -/
theorem State.retrain_one {b : State} {ch : Nat} (hb : (if s.dram.train = .failed then s.spdRead slots else s) = b)
    (hch : ((List.range b.dram.channels).filter fun ch => bit mask ch && !b.rst.fenced.contains (14 + ch)) = [ch])
    (h : b.dram.channels ≠ 0) :
    s.retrain mask slots failed =
      ((b.retrainChannel ch (failed.find? fun f => f.1.val == ch)).trainResult).done P.dram_retrain
        (leBytes 2 (if (failed.find? fun f => f.1.val == ch).isNone then 2 ^ ch else 0)) := by
  rw [State.retrain_channels hb hch h]
  cases hf : failed.find? fun f => f.1.val == ch <;> simp [hf]

end

/-! ### Page retirement -/

section
variable {s : State} {a : Nat}

theorem State.pageRetire_noSpare (ha : a < s.dramBytes)
    (h : 16384 ≤ (s.mc (s.channelOf a)).remaps.length ∨
      freeSpare (s.mc (s.channelOf a)).remaps ((s.mc (s.channelOf a)).remaps.length + 1) 0 = none) :
    s.pageRetire a = ((s.bump P.retire_impossible).event 0x4043 (s.channelOf a) [a]).failed P.page_retire 0x01 := by
  have hfree : (if remapEntries ≤ (s.mc (s.channelOf a)).remaps.length then none
      else freeSpare (s.mc (s.channelOf a)).remaps ((s.mc (s.channelOf a)).remaps.length + 1) 0) = none := by
    rcases h with h | h
    · exact if_pos h
    · rw [h, ite_self]
  have hstart : s.retireStart a = ((s.bump P.retire_impossible).event 0x4043 (s.channelOf a) [a], false) := by
    unfold State.retireStart
    dsimp only
    rw [hfree]
  unfold State.pageRetire
  rw [if_neg (by omega), hstart]
  exact if_neg Bool.false_ne_true

theorem State.pageRetire_spare (ha : a < s.dramBytes) (hroom : (s.mc (s.channelOf a)).remaps.length < 16384) {n : Nat}
    (hfree : freeSpare (s.mc (s.channelOf a)).remaps ((s.mc (s.channelOf a)).remaps.length + 1) 0 = some n) :
    s.pageRetire a = s.modMc (s.channelOf a) fun m =>
      { m with remaps := m.remaps.filter (·.page != s.chAddr a / 4096) ++ [{ page := s.chAddr a / 4096, spare := n }] } := by
  have hstart : s.retireStart a = (s.modMc (s.channelOf a) fun m =>
      { m with remaps := m.remaps.filter (·.page != s.chAddr a / 4096) ++ [{ page := s.chAddr a / 4096, spare := n }] }, true) := by
    unfold State.retireStart
    dsimp only
    rw [if_neg (Nat.not_le.2 hroom), hfree]
  unfold State.pageRetire
  rw [if_neg (by omega), hstart]
  exact if_pos rfl

end

theorem State.pageCopied_none {s : State} {ch page : Nat} (h : (s.mc ch).remaps.find? (fun r => r.page == page && !r.final) = none) :
    s.pageCopied ch page = s := by
  rw [State.pageCopied, h]

theorem State.pageCopied_entry {s : State} {ch page : Nat} {r : Remap}
    (h : (s.mc ch).remaps.find? (fun r => r.page == page && !r.final) = some r) :
    let u := s.modMc ch fun m => { m with remaps := m.remaps.map fun x => if x.page = page then { x with final := true } else x }
    let a := 4 * u.dram.cu * (ch / 4) + (4 * page + ch % 4) * 4096
    let v := (u.bump P.pages_retired).event 0x4042 ch [a, r.spare]
    s.pageCopied ch page = if leNat (v.cmdArg P.page_retire) / 4096 = a / 4096 then v.done P.page_retire else v := by
  rw [State.pageCopied, h]

/-- Settles O42. -/
theorem dramTrainingAndRetirement : Obligations.DramTrainingAndRetirement := by
  unfold Obligations.DramTrainingAndRetirement
  refine ⟨⟨fun l s => ⟨fun h => next_settle_eq (if_pos h), fun h => next_settle_eq (if_neg h)⟩,
    fun ch step margin s => ⟨fun h ok => next_settle_eq (if_pos h), fun h => ?step⟩,
    fun rows s => ⟨fun h => next_settle_eq (if_pos h), fun hmode hrun hch => ?trained⟩,
    fun r slots failed s p hp => ?retrain, fun ch slot temp s => ⟨fun h => next_eq (if_pos h), fun h => ?poll⟩⟩,
    fun r s p hp => ?retire, fun ch page s => ⟨fun h => next_eq (State.pageCopied_none h), fun r h => ?copied, fun h => next_eq (if_pos h),
      fun h1 h2 => next_eq (if_neg (not_or.2 ⟨h1, h2⟩))⟩⟩
  case step =>
    intro t
    have hrun {u : State} (hu : (if step = 2 ∧ !t.dram.warm then
          t.modDram fun d => { d with poison := d.poison.filter fun l => t.channelOf (l * 64) != ch } else t) = u) :
        exec (.trainingStepComplete ch step true margin) s = .next u.settle :=
      next_settle_eq ((if_neg (not_not.2 h)).trans ((if_neg (by simp)).trans hu))
    refine ⟨next_settle_eq ((if_neg (not_not.2 h)).trans (if_pos rfl)), fun hn => hrun (if_neg ?_), fun h2 hw => hrun (if_pos ⟨h2, by simp [hw]⟩)⟩
    rintro ⟨h2, hw⟩
    rcases hn with hn | hn
    · exact hn h2
    · simp [hn] at hw
  case trained =>
    intro t u v
    have hdone : exec (.dramTrainComplete rows) s = .next v.trainResult.settle := by
      have hrunning : s.trainDone rows = v.trainResult := by
        unfold State.trainDone
        rw [if_neg (by simp [hmode, hrun, hch])]
      change Host.Outcome.next (s.trainDone rows).settle = _
      rw [hrunning]
    exact ⟨hdone, fun hall => hdone.trans (next_settle_eq (congrArg State.trainResult (State.trainingFaults_none hall)))⟩
  case retrain =>
    intro a b chs
    have hstart {t : State} (ht : a.retrain (leNat r.args) slots failed = t) : exec (.dramRetrain r slots failed) s = .next t.settle :=
      next_settle_eq ((State.command_plain (fun _ x s => s.retrain (leNat x) slots failed) hp).trans ht)
    refine ⟨fun hch => hstart (State.retrain_unpopulated hch), fun hch hnone => hstart (State.retrain_channels rfl hnone hch),
      fun ch hch hone => ⟨fun f hf => hstart ((State.retrain_one rfl hone hch).trans ?_), fun hf hb => hstart ((State.retrain_one rfl hone hch).trans ?_),
        fun hf hb => hstart ((State.retrain_one rfl hone hch).trans ?_)⟩,
      fun hch => ⟨_, hstart (State.retrain_channels rfl rfl hch)⟩⟩
    · rw [hf]
      rfl
    · rw [hf, State.retrainChannel, if_pos hb]
      rfl
    · rw [hf, State.retrainChannel, if_neg (ne_true_of_eq_false hb)]
      rfl
  case poll =>
    intro t u
    exact ⟨fun ht => next_eq ((if_neg (not_not.2 h)).trans (if_neg (Nat.not_le.2 ht))),
      fun ht => next_eq ((if_neg (not_not.2 h)).trans (if_pos ht))⟩
  case retire =>
    intro t a ch page l
    have hstart {u : State} (hu : t.pageRetire a = u) : exec (.pageRetire r) s = .next u :=
      next_eq ((State.command_plain (fun _ x s => s.pageRetire (leNat x)) hp).trans hu)
    exact ⟨fun h => hstart (if_pos h), fun h hl => hstart (State.pageRetire_noSpare h hl), fun n h hl hf => hstart (State.pageRetire_spare h hl hf)⟩
  case copied =>
    intro u a v
    exact ⟨fun ha => next_eq ((State.pageCopied_entry h).trans (if_pos ha)), fun ha => next_eq ((State.pageCopied_entry h).trans (if_neg ha))⟩


/-! ### Lines -/

theorem State.poisoned_iff {s : State} {a : Nat} : s.poisoned a = true ↔ a / 64 ∈ s.dram.poison := by
  simp [State.poisoned]

section
variable {s : State} {a : Nat} (h : a / 64 ∈ s.dram.poison)
include h

theorem State.lineRepair_deep {cells : List Host.Cell} (hdeep : s.deepLine (a / 65536) = some cells) :
    s.lineRepair a = (s.rqCount 6 64).repairLine (a / 64) (Memory.read (Memory.extract cells (a / 64 % 1024 * 64) 64) 0 64) := by
  unfold State.lineRepair
  dsimp only
  rw [if_neg (by simp [State.poisoned_iff.2 h]), hdeep]

theorem State.lineRepair_owner {o : Nat × Nat} (hdeep : s.deepLine (a / 65536) = none) (howner : s.ownerOf (a / 65536) = some o) :
    s.lineRepair a = if s.twinSource (s.desc o.1).group then s.twinRead o.1 o.2 (some (a / 64)) else s := by
  unfold State.lineRepair
  dsimp only
  rw [if_neg (by simp [State.poisoned_iff.2 h]), hdeep, howner]

theorem State.lineRepair_noSource (hdeep : s.deepLine (a / 65536) = none) (howner : s.ownerOf (a / 65536) = none) : s.lineRepair a = s := by
  unfold State.lineRepair
  dsimp only
  rw [if_neg (by simp [State.poisoned_iff.2 h]), hdeep, howner]

end

theorem State.uncorrectedRead_poisoned {s : State} {a : Nat} (rq unit : Nat) (h : a / 64 ∈ s.dram.poison) :
    s.uncorrectedRead rq a unit = s.agentActs rq a unit := by
  unfold State.uncorrectedRead
  rw [if_pos (State.poisoned_iff.2 h)]

theorem State.uncorrectedRead_new {s : State} {a : Nat} (rq unit : Nat) (h : a / 64 ∉ s.dram.poison) :
    s.uncorrectedRead rq a unit = (s.lineFault rq (a / 64 * 64)).agentActs rq a unit := by
  unfold State.uncorrectedRead
  rw [if_neg (mt State.poisoned_iff.1 h)]

/-- The line that the scrub has read, by its outcome. -/
def State.scrubbed (s : State) (a : Nat) (o : LineOutcome) : State :=
  match o with
  | .clean => s
  | .corrected => s.lineCorrected 0x0B (a / 64 * 64)
  | .uncorrected => if s.poisoned a then s else s.lineFault 0x0B (a / 64 * 64)

/-- The scrub reads a line and goes on to the next, or ends its pass. -/
theorem State.scrub_inService {s : State} {a : Nat} {o : LineOutcome} (hmode : s.mode ≠ .save)
    (hch : (s.mc (s.channelOf a)).state = .inService) :
    let t := (s.rqCount 11 64).scrubbed a o
    s.scrub a o = if t.dramBytes ≤ (t.dram.scrubLine + 1) * 64 then (t.modDram fun d => { d with scrubLine := 0 }).bump P.scrub_passes
      else t.modDram fun d => { d with scrubLine := t.dram.scrubLine + 1 } :=
  if_neg (not_or.2 ⟨hmode, not_not.2 hch⟩)

/-- Settles O43. -/
theorem dramLines : Obligations.DramLines := by
  unfold Obligations.DramLines
  refine ⟨fun rq a unit o s h => ⟨if_pos h, if_pos h, if_pos h⟩, fun rq a unit s ha => ?line, fun a o s ha => ?scrub, fun ch entries retired s => ?alert⟩
  case line =>
    have hin : ¬ s.dramBytes ≤ a.toNat := Nat.not_le.2 ha
    have hread {t : State} (h : s.uncorrectedRead rq a.toNat unit.toNat = t) : exec (.dramUncorrectedRead rq a unit) s = .next t.settle :=
      (if_neg hin).trans (next_settle_eq h)
    have hrepair {t : State} (h : s.lineRepair a.toNat = t) : exec (.lineRepair a) s = .next t := (if_neg hin).trans (next_eq h)
    refine ⟨fun h => hread (State.uncorrectedRead_poisoned _ _ h), fun h => hread (State.uncorrectedRead_new _ _ h),
      fun h => hrepair (if_pos (by simpa using mt State.poisoned_iff.1 h)), fun h => ⟨fun cells hd => hrepair (State.lineRepair_deep h hd),
      fun hd => ⟨fun o ho ht => hrepair ((State.lineRepair_owner h hd ho).trans (if_pos ht)),
        fun o ho ht => hrepair ((State.lineRepair_owner h hd ho).trans (if_neg (ne_true_of_eq_false ht))),
        fun ho => hrepair (State.lineRepair_noSource h hd ho)⟩⟩⟩
  case scrub =>
    have hin : ¬ s.dramBytes ≤ a.toNat := Nat.not_le.2 ha
    have hscrub {t : State} (h : s.scrub a.toNat o = t) : exec (.scrubRead a o) s = .next t.settle := (if_neg hin).trans (next_settle_eq h)
    refine ⟨fun h => hscrub (if_pos h), fun hmode hch => ?_⟩
    intro r t ht
    have htake : r.scrubbed a.toNat o = t := by
      rcases ht with ⟨rfl, rfl⟩ | ⟨rfl, rfl⟩ | ⟨rfl, hp, rfl⟩ | ⟨rfl, hp, rfl⟩
      · rfl
      · rfl
      · exact if_pos hp
      · exact if_neg (ne_true_of_eq_false hp)
    subst htake
    exact ⟨fun h => hscrub ((State.scrub_inService hmode hch).trans (if_neg (Nat.not_le.2 h))),
      fun h => hscrub ((State.scrub_inService hmode hch).trans (if_pos h))⟩
  case alert =>
    refine ⟨fun h1 h2 => next_settle_eq (if_pos ⟨h1, h2⟩), fun h => ?_⟩
    intro n t u
    have hactive : ¬ ((s.mc ch).state ≠ .inService ∧ (s.mc ch).state ≠ .training) := fun hn => h.elim hn.1 hn.2
    exact ⟨fun hn => next_settle_eq ((if_neg hactive).trans (if_neg (Nat.not_le.2 hn))),
      fun hn => next_settle_eq ((if_neg hactive).trans (if_pos hn))⟩

end Sys2Proof.Machine

/-!
The statements on the flash (R312 to R343).
-/

namespace Sys2Proof.Machine

/-! ### Carriers -/

section
variable {s : State} {n : Nat}

theorem State.carrierOut_inUse
    (h : ((s.modCarrier n fun x => { x with present := false }).carrier n).state ∈
      [CarState.inService, .retiring, .evacuating, .formatting]) :
    s.carrierOut n = (s.modCarrier n fun x => { x with present := false }).carrierOffline n := by
  simp only [List.mem_cons, List.not_mem_nil, or_false] at h
  unfold State.carrierOut
  dsimp only
  rcases h with h | h | h | h <;> rw [h]

theorem State.carrierOut_idle
    (h : ((s.modCarrier n fun x => { x with present := false }).carrier n).state ∈
      [CarState.refused, .detached, .offline, .attaching, .foreign]) :
    s.carrierOut n = (s.modCarrier n fun x => { x with present := false }).carrierGone n := by
  simp only [List.mem_cons, List.not_mem_nil, or_false] at h
  unfold State.carrierOut
  dsimp only
  rcases h with h | h | h | h | h <;> rw [h]

theorem State.carrierOut_empty (h : ((s.modCarrier n fun x => { x with present := false }).carrier n).state = .empty) :
    s.carrierOut n = s.modCarrier n fun x => { x with present := false } := by
  unfold State.carrierOut
  dsimp only
  rw [h]

theorem State.attachChecked_fails {o : CarrierObs} (h : (s.carrier n).state = .attaching) (hfail : attachFailure o ≠ 0) :
    let a := if o.optionArea.length = 192 then s.modCarrier n fun x => { x with option := o.optionArea } else s
    let t := ((a.carrierPowerOff n .refused).modCarrier n fun x => { x with refuseReason := attachFailure o }).event 0x5041 n [attachFailure o]
    s.attachChecked n o = if attachFailure o = 3 then t.event 0x5042 n [optStatic o.optionArea 975 912] else t :=
  (if_neg (not_not.2 h)).trans (if_pos hfail)

/-- A carrier that passes every check is in service if this device formatted it, else FOREIGN. -/
theorem State.attachChecked_passes {o : CarrierObs} (h : (s.carrier n).state = .attaching) (hpass : attachFailure o = 0) {t u : State}
    (ht : ((if o.optionArea.length = 192 then s.modCarrier n fun x => { x with option := o.optionArea } else s).modCarrier n fun x =>
      { x with pgood := true, civ := civChoice o.optionArea }).setRail (10 + n) .up = t)
    (hu : (∃ d, t.carrierBound o.optionArea = some d ∧ u = t.carrierService n d o) ∨
      (t.carrierBound o.optionArea = none ∧ u = t.modCarrier n fun x =>
        { x with state := .foreign, keyDraw := 0, goodBlocks := 4 * o.goodBlocks, erasedSlot0 := false, erasedSlot1 := false })) :
    s.attachChecked n o = if u.attached then u.evalArea else u := by
  refine (if_neg (not_not.2 h)).trans ((if_neg (not_not.2 hpass)).trans ?_)
  dsimp only
  rw [ht]
  obtain ⟨d, hd, rfl⟩ | ⟨hd, rfl⟩ := hu <;> rw [hd]

theorem State.detachRun_inUse {num : Nat} (h : (s.carrier (carrierOf num)).state = .inService ∨ (s.carrier (carrierOf num)).state = .retiring) :
    s.detachRun num = ((s.abandonOn fun e => s.entryOnCarrier e (carrierOf num)).modCarrier (carrierOf num) fun c =>
      { c with state := .evacuating, prior := c.state, relocated := 0, wp := true }).evalArea := by
  unfold State.detachRun
  dsimp only
  rcases h with h | h <;> rw [h]

theorem State.detachRun_offline {num : Nat} (h : (s.carrier (carrierOf num)).state = .offline) :
    s.detachRun num =
      ((s.carrierPowerOff (carrierOf num) .detached).modCarrier (carrierOf num) fun c => { c with attn := true }).done num (leBytes 8 0) := by
  unfold State.detachRun
  dsimp only
  rw [h]

theorem State.detachRun_other {num : Nat} (h1 : (s.carrier (carrierOf num)).state ≠ .inService)
    (h2 : (s.carrier (carrierOf num)).state ≠ .retiring) (h3 : (s.carrier (carrierOf num)).state ≠ .offline) :
    s.detachRun num = s.failed num 0x01 := by
  unfold State.detachRun
  dsimp only
  split
  · exact absurd ‹_› h1
  · exact absurd ‹_› h2
  · exact absurd ‹_› h3
  · rfl

end

/-- Settles O44. -/
theorem carrierLife : Obligations.CarrierLife := by
  unfold Obligations.CarrierLife
  refine ⟨fun c s => ⟨?seated, ?gone, fun o => ?attach, fun h => next_settle_eq (if_pos (by simp [h])), fun h => ?pgood,
    fun bad => ⟨fun h => next_settle_eq (if_neg (not_not.2 h)), fun h => next_settle_eq (if_pos h)⟩,
    fun full h => next_settle_eq (if_pos h), fun h => ?evacuated⟩, fun r s p hp => ?format, fun r s p hp => ?detach, fun s => ?options⟩
  case seated =>
    intro t run
    have hrun {u : State} (hu : (if (t.carrier c).state ≠ .empty then t
        else if t.mode = .train ∨ t.mode = .maint then t.attachBegin c else if t.mode.flRuns then t.event 0x5040 c [] else t) = u) :
        run = .next u.settle := next_settle_eq hu
    have hrest : t.mode.flRuns = false → ¬ (t.mode = .train ∨ t.mode = .maint) := by
      rintro h (hm | hm) <;> simp [hm, Mode.flRuns] at h
    exact ⟨fun h => hrun (if_pos h), fun h hm => hrun ((if_neg (not_not.2 h)).trans (if_pos hm)),
      fun h h1 h2 hf => hrun ((if_neg (not_not.2 h)).trans ((if_neg (not_or.2 ⟨h1, h2⟩)).trans (if_pos hf))),
      fun h hf => hrun ((if_neg (not_not.2 h)).trans ((if_neg (hrest hf)).trans (if_neg (ne_true_of_eq_false hf))))⟩
  case gone =>
    intro t run
    exact ⟨fun h => next_settle_eq (State.carrierOut_inUse h), fun h => next_settle_eq (State.carrierOut_idle h),
      fun h => next_settle_eq (State.carrierOut_empty h)⟩
  case attach =>
    intro run n a
    refine ⟨fun h => next_settle_eq (if_pos h), fun h hn => ?_, fun h hn => ?_⟩
    · intro t
      exact ⟨fun h3 => next_settle_eq ((State.attachChecked_fails h hn).trans (if_neg h3)),
        fun h3 => next_settle_eq ((State.attachChecked_fails h hn).trans (if_pos h3))⟩
    · intro t u hu
      exact ⟨fun hat => next_settle_eq ((State.attachChecked_passes h hn rfl hu).trans (if_pos hat)),
        fun hat => next_settle_eq ((State.attachChecked_passes h hn rfl hu).trans (if_neg (ne_true_of_eq_false hat)))⟩
  case pgood =>
    intro t
    have hgood : ¬ (!(s.carrier c).pgood) = true := by simp [h]
    exact ⟨fun hr => next_settle_eq ((if_neg hgood).trans (if_pos hr)), fun hr => next_settle_eq ((if_neg hgood).trans (if_neg hr))⟩
  case evacuated =>
    intro r back
    have hrun {full : Bool} {u : State} (hu : _ = u) : exec (.evacuationComplete c full) s = .next u.settle :=
      next_settle_eq ((if_neg (not_not.2 h)).trans hu)
    exact ⟨hrun (if_pos rfl), fun hr => hrun (if_pos (by simpa using hr)), fun hr => hrun (if_neg (by simpa using hr))⟩
  case format =>
    intro a n
    have hstart {t : State} (ht : a.formatRun (s.namedBy r) = t) : exec (.carrierFormat r) s = .next t :=
      next_eq ((State.command_plain (fun n _ s => s.formatRun n) hp).trans ht)
    exact ⟨fun h => hstart (if_pos h), fun h hs => hstart ((if_neg (not_not.2 h)).trans (if_pos hs)),
      fun h hs => hstart ((if_neg (not_not.2 h)).trans (if_neg (ne_true_of_eq_false hs)))⟩
  case detach =>
    intro a n st
    have hstart {t : State} (ht : a.detachRun (s.namedBy r) = t) : exec (.carrierDetach r) s = .next t.settle :=
      next_settle_eq ((State.command_plain (fun n _ s => s.detachRun n) hp).trans ht)
    exact ⟨fun h => hstart (State.detachRun_inUse h), fun h => hstart (State.detachRun_offline h),
      fun h1 h2 h3 => hstart (State.detachRun_other h1 h2 h3)⟩
  case options =>
    refine next_eq (congrArg (fun f => (List.range 8).foldl f s) (funext fun t => funext fun n => ?_))
    cases h : (t.carrier n).state <;> rfl


/-! ### Programs, erases, timeouts and the patrol -/

section
variable {s : State} {k : Nat} (hlive : (s.carrier (keyCarrier k)).state.takesErase = true)
include hlive

theorem State.programDone_room {page : Nat} (hroom : s.holdWaits k page = false) (res : ProgramResult) :
    s.programDone k page res =
      if ((s.blk k).state ≠ .free ∧ (s.blk k).state ≠ .open_) ∨ (s.blk k).suspect ∨ page ≠ (s.blk k).pointer then s.programReject k
      else match res with
        | .pass ok => s.programPassed k page ok
        | .fail => s.programFailed k :=
  if_neg (by simp [hlive, hroom])

theorem State.eraseDone_erasing (h : (s.blk k).state = .erasing) (ok : Bool) :
    let t := s.modBlk k fun b =>
      { b with state := .free, pointer := 0, suspect := false, verifying := b.suspect, erases := b.erases + 1, reads := 0, suspended := false }
    s.eraseDone k ok = if !ok then s.eraseFailed k else t.modCarrier (keyCarrier k) fun c => { c with maxPe := max c.maxPe (t.blk k).erases } :=
  if_neg (by simp [hlive, h])

theorem State.flashPatrol_used (h : s.blockUsed k = true) (worst : UnitOutcome) :
    let t := (s.modBlk k fun b => { b with lastPatrol := s.now }).blockRead k
    s.flashPatrol k worst = match worst with
      | .hard => t
      | .retry n => if t.param P.relocate_retry_level ≤ n then t.moveBlock k else t
      | .soft => t.moveBlock k
      | .uncorrectable =>
        let u := t.setFlag (perInst P.car_err_status (keyCarrier k)) 3
        if u.rowsWhole k then (u.bump P.units_rebuilt).suspectBlock k else u.bump P.units_unrecovered :=
  if_neg (by simp [hlive, h])

end

/-- What the timed-out operation becomes, after the LUN's Reset and the fault. -/
def State.timedOut (s : State) (k : Nat) (kind : FlashOpKind) : State :=
  match kind with
  | .read => s.setFlag (perInst P.car_err_status (keyCarrier k)) 3
  | .program => s.programFailed k
  | .erase => s.eraseFailed k

theorem State.flashTimeout_live {s : State} {b : BlkAddr} (hlive : (s.carrier (keyCarrier (blkKey b))).state.takesErase = true)
    (kind : FlashOpKind) :
    let k := blkKey b
    let u := ((s.emit (.lunReset b)).fault (faultMsg 0x50 (keyChannel k) .ucc Kind.timeout (opcodeOf kind) (.content k)
      (some (b.target.val * 4 + b.lun.val)))).timedOut k kind
    let l := (keyChannel k, u.now) :: (u.carrier (keyCarrier k)).timeouts.filter fun t => u.now < t.2 + secNs
    let v := u.modCarrier (keyCarrier k) fun c => { c with timeouts := l }
    s.flashTimeout b kind = if 3 ≤ l.countP (fun t => t.1 == keyChannel k) then v.fenceFlash (keyChannel k) else v :=
  if_neg (by simp [hlive])

/-! ### Upkeep of the media -/

theorem State.mapFlush_clean {s : State} (h : s.flash.dirtyPages = []) :
    s.mapFlush = s.modFlash fun f => { f with journal := 0, dirtyPages := [] } := by
  unfold State.mapFlush
  rw [h]
  rfl

theorem State.mapFlush_one {s t : State} {m : Nat} {found : Bool} (h : s.flash.dirtyPages = [m]) (hw : s.writePage m = (t, found)) :
    s.mapFlush = t.modFlash fun f => { f with journal := if found then 0 else f.journal, dirtyPages := if found then [] else [m] } := by
  unfold State.mapFlush
  rw [h, List.foldl_cons, List.foldl_nil]
  dsimp only
  rw [hw]
  cases found <;> rfl

theorem State.collect_pick {s : State} {n : Nat} (hlow : 100 * s.freeSupers.1 < s.param P.gc_free_low_pct * s.freeSupers.2)
    (hpick : bestBy (fun n => -(s.validUnits n : Int))
      (s.flash.sbs.keysWhere fun n b => b.full && (s.drainsOn fun e => e.superblock == n).isEmpty) = some n) :
    let r := s.relocate fun e => !e.noRead && e.superblock == n
    s.collect = if !r.2.2 then r.1
      else ((s.sb n).blocks).foldl (fun s k => if (s.blk k).state = .bad then s else s.modBlk k fun b => { b with state := .erasing })
        (r.1.modFlash fun f => { f with sbs := f.sbs.del n }) := by
  unfold State.collect
  dsimp only
  rw [if_neg (Nat.not_le.2 hlow), hpick]

theorem State.collect_noPick {s : State}
    (h : ¬ 100 * s.freeSupers.1 < s.param P.gc_free_low_pct * s.freeSupers.2 ∨
      bestBy (fun n => -(s.validUnits n : Int))
        (s.flash.sbs.keysWhere fun n b => b.full && (s.drainsOn fun e => e.superblock == n).isEmpty) = none) : s.collect = s := by
  unfold State.collect
  dsimp only
  rcases h with h | h
  · exact if_pos (Nat.not_lt.1 h)
  · rw [h, ite_self]

theorem State.wearLevel_pick {s : State} {c k : Nat}
    (h : bestBy (fun k => -((s.blk k).erases : Int))
      (((s.flash.blks.filter fun e => keyCarrier e.1 == c && e.2.state ≠ .bad).map (·.1)).filter s.blockUsed) = some k) :
    s.wearLevel c =
      if (s.blk k).erases + s.param P.wear_spread_max <
        (s.flash.blks.filter fun e => keyCarrier e.1 == c && e.2.state ≠ .bad).foldl (fun m e => max m e.2.erases) 0 then s.moveBlock k else s := by
  unfold State.wearLevel
  dsimp only
  rw [h]

theorem State.wearLevel_noPick {s : State} {c : Nat}
    (h : bestBy (fun k => -((s.blk k).erases : Int))
      (((s.flash.blks.filter fun e => keyCarrier e.1 == c && e.2.state ≠ .bad).map (·.1)).filter s.blockUsed) = none) : s.wearLevel c = s := by
  unfold State.wearLevel
  dsimp only
  rw [h]

/-! ### Raw reads -/

/-- Block that the arguments of `raw_read` name. -/
def rawBlock (x : Bytes) : Nat := blkKeyOf (4 * leAt x 0 1 + leAt x 1 1) (leAt x 2 1) (leAt x 3 1) (leAt x 4 4)

/-- The octets of a chunk that the spec leaves open. -/
def State.rawFree (s : State) (x : Bytes) : Bytes := takePad (if leAt x 11 1 = 4 then 512 else 1024) (Config.rawChunk s.freeCount)

/-- The answer of a read of a written page: status, level, corrected bits and the chunk. -/
def State.rawAnswer (s : State) (x : Bytes) (o : UnitOutcome) (corrected status : Nat) (data : Bytes) : Bytes :=
  leBytes 1 status ++ (leBytes 1 (UnitLevel (s.carrier (leAt x 0 1)) o) ++ leBytes 2 corrected) ++ data

section
variable {s : State} {num : Nat} {x : Bytes} {o : UnitOutcome} {corrected : Nat}

theorem State.rawRead_bad (h : (s.blk (rawBlock x)).state = .bad) : s.rawRead num x o corrected = s.done num [5, 0, 0, 0] :=
  if_pos h

theorem State.rawRead_erasing (h : (s.blk (rawBlock x)).state = .erasing) : s.rawRead num x o corrected = s.done num [3, 0, 0, 0] :=
  (if_neg (show ¬ (s.blk (rawBlock x)).state = .bad by simp [h])).trans (if_pos h)

section
variable (hbad : (s.blk (rawBlock x)).state ≠ .bad) (herasing : (s.blk (rawBlock x)).state ≠ .erasing)
include hbad herasing

theorem State.rawRead_unwritten (h : (s.blk (rawBlock x)).pointer ≤ leAt x 8 2) :
    s.rawRead num x o corrected = s.tick.done num ([4, 0, 0, 0] ++ s.rawFree x) :=
  (if_neg hbad).trans ((if_neg herasing).trans (if_pos h))

/-- A written page is read: free octets, or the codeword where no bit of it is in error. -/
theorem State.rawRead_written (h : leAt x 8 2 < (s.blk (rawBlock x)).pointer) :
    s.rawRead num x o corrected = s.tick.done num (s.tick.rawAnswer x o corrected
      (match o with
        | .uncorrectable => 2
        | .hard => if corrected = 0 then 0 else 1
        | _ => 1)
      (if leAt x 11 1 = 4 ∨ o ≠ .hard ∨ corrected ≠ 0 then s.rawFree x
        else match s.codeword (rawBlock x) (leAt x 8 2 * (s.carrier (leAt x 0 1)).unitsPerPage + leAt x 10 1) with
          | some c => slice c (1024 * leAt x 11 1) 1024
          | none => s.rawFree x)) := by
  refine (if_neg hbad).trans ((if_neg herasing).trans ((if_neg (Nat.not_le.2 h)).trans ?_))
  rw [State.rawAnswer, ← List.append_assoc (leBytes 1 _)]
  rfl

end

end

/-- Settles O45. -/
theorem flashProgramsAndUpkeep : Obligations.FlashProgramsAndUpkeep := by
  unfold Obligations.FlashProgramsAndUpkeep
  refine ⟨fun b s => ?media, fun s => ?upkeep, fun s => ?garbage, fun c s => ?wear, fun r o bits s p hp => ?raw, fun r s p hp => ?lookup⟩
  case media =>
    intro k n ch live
    have hdead (h : live = false) : (!(s.carrier (keyCarrier k)).state.takesErase) = true := by simpa [live] using h
    refine ⟨fun h => ⟨fun page res => next_settle_eq (if_pos (.inl (hdead h))), fun ok => next_settle_eq (if_pos (.inl (hdead h))),
        fun o => next_settle_eq (if_pos (hdead h)), fun w => next_settle_eq (if_pos (.inr (hdead h)))⟩,
      fun h page => ⟨fun hw res => next_settle_eq (if_pos (.inr hw)), fun hw => ?program⟩,
      fun h => ⟨fun he ok => next_settle_eq (if_pos (.inr he)), fun he =>
        ⟨next_settle_eq ((State.eraseDone_erasing h he false).trans (if_pos rfl)),
          next_settle_eq ((State.eraseDone_erasing h he true).trans (if_neg (by simp)))⟩⟩,
      fun h o => ?timeout, fun h w => next_settle_eq (if_pos (.inl (congrArg (!·) h))), fun h hu => ?patrol⟩
    case program =>
      intro right
      have hright : ¬ right ↔ ((s.blk k).state ≠ .free ∧ (s.blk k).state ≠ .open_) ∨ (s.blk k).suspect ∨ page ≠ (s.blk k).pointer := by
        simp only [right, not_and_or, not_or, Bool.not_eq_false, ne_eq]
      exact ⟨fun hr => ⟨fun ok => next_settle_eq ((State.programDone_room h hw _).trans (if_neg (mt hright.2 (not_not.2 hr)))),
          next_settle_eq ((State.programDone_room h hw _).trans (if_neg (mt hright.2 (not_not.2 hr))))⟩,
        fun hr res => next_settle_eq ((State.programDone_room h hw _).trans (if_pos (hright.1 hr)))⟩
    case timeout =>
      intro t u hu
      have htimed : t.timedOut k o = u := by
        obtain ⟨rfl, rfl⟩ | ⟨rfl, rfl⟩ | ⟨rfl, rfl⟩ := hu <;> rfl
      subst htimed
      intro l v
      exact ⟨fun hl => next_settle_eq ((State.flashTimeout_live h o).trans (if_neg (Nat.not_le.2 hl))),
        fun hl => next_settle_eq ((State.flashTimeout_live h o).trans (if_pos hl))⟩
    case patrol =>
      intro t
      exact ⟨next_settle_eq (State.flashPatrol_used h hu .hard), next_settle_eq (State.flashPatrol_used h hu .soft),
        fun m => ⟨fun hm => next_settle_eq ((State.flashPatrol_used h hu (.retry m)).trans (if_pos hm)),
          fun hm => next_settle_eq ((State.flashPatrol_used h hu (.retry m)).trans (if_neg (Nat.not_le.2 hm)))⟩,
        fun hw => next_settle_eq ((State.flashPatrol_used h hu .uncorrectable).trans (if_pos hw)),
        fun hw => next_settle_eq ((State.flashPatrol_used h hu .uncorrectable).trans (if_neg (ne_true_of_eq_false hw)))⟩
  case upkeep =>
    refine ⟨rfl, fun h => ?_, fun h1 h2 => next_eq (if_neg (not_or.2 ⟨Nat.not_le.2 h1, Nat.not_le.2 h2⟩)),
      fun h => next_eq (if_pos h), fun h => next_eq (if_neg (ne_true_of_eq_false h))⟩
    have hflush {t : State} (ht : s.mapFlush = t) : exec .mapFlush s = .next t := next_eq ((if_pos h).trans ht)
    exact ⟨hflush rfl, fun hd => hflush (State.mapFlush_clean hd), fun m t hd =>
      ⟨fun hw => hflush (State.mapFlush_one hd hw), fun hw => hflush (State.mapFlush_one hd hw)⟩⟩
  case garbage =>
    intro pick low
    exact ⟨fun h => next_settle_eq (State.collect_noPick h), fun n hl hp =>
      ⟨fun hr => next_settle_eq ((State.collect_pick hl hp).trans (if_pos (congrArg (!·) hr))),
        fun hr => next_settle_eq ((State.collect_pick hl hp).trans (if_neg (ne_true_of_eq_false (congrArg (!·) hr))))⟩⟩
  case wear =>
    intro mine top pick
    exact ⟨fun h => next_settle_eq (State.wearLevel_noPick h), fun k h =>
      ⟨fun hs => next_settle_eq ((State.wearLevel_pick h).trans (if_pos hs)),
        fun hs => next_settle_eq ((State.wearLevel_pick h).trans (if_neg (Nat.not_lt.2 hs)))⟩⟩
  case raw =>
    intro a num k chunk c free
    have hstart {t : State} (ht : a.rawRead num r.args o bits.toNat = t) : exec (.rawRead r o bits) s = .next t :=
      next_eq ((State.command_args (fun n a s => s.rawRead n a o bits.toNat)
        (fun a => leAt a 0 1 < 8 && leAt a 1 1 < 4 && leAt a 2 1 < 8 && leAt a 3 1 < 4 && leAt a 11 1 < 5) hp).trans ht)
    refine ⟨fun h => hstart (State.rawRead_bad h), fun h => hstart (State.rawRead_erasing h), fun hb he =>
      ⟨fun h => hstart (State.rawRead_unwritten hb he h), fun h => ?written⟩⟩
    intro head
    have hcode : a.codeword (rawBlock r.args) (leAt r.args 8 2 * (a.carrier (leAt r.args 0 1)).unitsPerPage + leAt r.args 10 1) =
      a.codeword k (leAt r.args 8 2 * c.unitsPerPage + leAt r.args 10 1) := rfl
    have hread {status : Nat} {data : Bytes} (hst : _ = status) (hdata : _ = data) :
        exec (.rawRead r o bits) s = .next (a.tick.done num (a.tick.rawAnswer r.args o bits.toNat status data)) :=
      hstart ((State.rawRead_written hb he h).trans (congrArg₂ (fun x y => a.tick.done num (a.tick.rawAnswer r.args o bits.toNat x y)) hst hdata))
    have hbits : bits.toNat = 0 ↔ bits = 0 := ⟨fun hz => BitVec.eq_of_toNat_eq hz, fun hz => by rw [hz]; rfl⟩
    refine ⟨fun ho => hread (status := 2) (by rw [ho]) (if_pos (.inr (.inl (by simp [ho])))),
      fun ho hbad => hread (status := 1) ?_ (if_pos (.inr (hbad.imp id (mt hbits.1)))),
      fun ho hz => ⟨fun cw hc hcw => hread (status := 0) ?_ ?_, fun hc => hread (status := 0) ?_ ?_⟩⟩
    · cases o with
      | uncorrectable => exact absurd rfl ho
      | hard => exact if_neg (mt hbits.1 (hbad.resolve_left (not_not.2 rfl)))
      | retry n => rfl
      | soft => rfl
    · subst ho
      exact if_pos (hbits.2 hz)
    · rw [if_neg (by simp [ho, hbits.2 hz, show ¬ leAt r.args 11 1 = 4 from hc]), hcode, hcw]
    · subst ho
      exact if_pos (hbits.2 hz)
    · rcases hc with hc | hc
      · exact if_pos (.inl hc)
      · rw [hcode, hc, ite_self]
        rfl
  case lookup =>
    intro a
    exact next_eq (State.command_plain (fun n x s => s.done n (leBytes 8 (s.deepOf (leNat x)).word)) hp)

end Sys2Proof.Machine

/-!
The statements on the life-cycle commands, the cipher, JTAG, firmware update, faults and events (R344 to R381).
-/

namespace Sys2Proof.Machine

/-! ### Life-cycle transitions -/

section
variable {s : State} {num slot : Nat} {a : Bytes}

theorem State.lcTransition_fails {f : Nat} (h : s.lcFailure (s.session slot).level a = some f) :
    s.lcTransition num slot a = s.failed num f := by
  unfold State.lcTransition
  rw [h]

/-- What a transition that nothing of R358 refuses does. -/
theorem State.lcTransition_admitted {dest : LcState} {row : Nat × Mode × Bool} (h : s.lcFailure (s.session slot).level a = none)
    (hdest : lcOf (leAt a 0 1) = some dest) (hrow : lcRow s.sec.lc dest = some row) :
    let t := s.event 0x2548 0 [s.sec.lc.code, dest.code, slot]
    s.lcTransition num slot a =
      if dest.keyed && s.sec.drbgStopped then s.drawFails num
      else if row.2.2 then t.lcOverwrite { from_ := t.sec.lc, dest := dest, slot := slot, since := t.now }
      else if dest = .decommissioned then (t.enterLc dest).done num
      else (((t.reseed true).enterLc dest).done num).powerDown .offNoSave 7 false := by
  unfold State.lcTransition
  rw [h, hdest]
  dsimp only
  rw [hrow]

end

section
variable {s : State}

theorem State.zeroFilled_idle (h : s.sec.lcRecord = none ∨ s.mode ≠ .maint) : s.zeroFilled = s := by
  unfold State.zeroFilled
  split
  · rfl
  · rename_i r hr
    exact if_pos (.inl (h.resolve_left (by simp [hr])))

theorem State.wiped_idle (h : s.sec.lcRecord = none ∨ s.mode ≠ .maint) : s.wiped = s := by
  unfold State.wiped
  split
  · rfl
  · rename_i r hr
    exact if_pos (.inl (h.resolve_left (by simp [hr])))

theorem State.zeroFilled_done {r : LcRecord} (h : s.sec.lcRecord = some r) (hz : r.zeroed = true) : s.zeroFilled = s := by
  rw [State.zeroFilled, h]
  exact if_pos (.inr hz)

theorem State.wiped_early {r : LcRecord} (h : s.sec.lcRecord = some r) (hz : r.zeroed = false) : s.wiped = s := by
  rw [State.wiped, h]
  exact if_pos (.inr (congrArg (!·) hz))

/-- The zero fill empties the DRAM and every table that lay in it, and leaves the life cycle, the flash and the configuration. -/
theorem State.zeroFilled_clears {r : LcRecord} (h : s.sec.lcRecord = some r) (hm : s.mode = .maint) (hz : r.zeroed = false) :
    s.zeroFilled.dram.mem = [] ∧ s.zeroFilled.dram.poison = [] ∧ s.zeroFilled.reg.descs = [] ∧ s.zeroFilled.xpt.qps = [] ∧
    s.zeroFilled.xpt.cqs = [] ∧ s.zeroFilled.tmv.maps = [] ∧ s.zeroFilled.mir.divergent = [] ∧ s.zeroFilled.sec.wipeZero = 100 ∧
    s.zeroFilled.sec.lcRecord = some { r with zeroed := true } ∧ s.zeroFilled.sec.lc = s.sec.lc ∧ s.zeroFilled.flash = s.flash ∧
    s.zeroFilled.cfg = s.cfg ∧ s.zeroFilled.mode = s.mode := by
  unfold State.zeroFilled
  rw [h]
  dsimp only
  rw [if_neg (by simp [hm, hz])]
  simp [State.rqCount]

end

/-! ### The cipher and JTAG -/

theorem length_leBytes (n v : Nat) : (leBytes n v).length = n := by
  induction n generalizing v with
  | zero => rfl
  | succ n ih => exact congrArg (· + 1) (ih _)

theorem length_takePad (n : Nat) (b : Bytes) : (takePad n b).length = n := by
  simp only [takePad, List.length_append, List.length_take, List.length_replicate]
  omega

/-- The key that CRY refuses has two equal halves. -/
theorem xtsRefused_iff (key : BitVec 512) : xtsRefused key = true ↔ ∃ h : BitVec 256, key = h ++ h := by
  unfold xtsRefused
  rw [beq_iff_eq]
  constructor
  · intro heq
    refine ⟨key.extractLsb' 0 256, BitVec.eq_of_getLsbD_eq fun i hi => ?_⟩
    have hhigh (j : Nat) (hj : j < 256) : key.getLsbD (256 + j) = key.getLsbD j := by
      have := congrArg (·.getLsbD j) heq
      simpa [hj] using this.symm
    rw [BitVec.getLsbD_append]
    by_cases h : i < 256
    · simp [h]
    · have := hhigh (i - 256) (by omega)
      rw [show 256 + (i - 256) = i by omega] at this
      simp [h, this, show i - 256 < 256 by omega]
  · rintro ⟨h, rfl⟩
    refine BitVec.eq_of_getLsbD_eq fun i hi => ?_
    have hlow : (h ++ h).getLsbD i = h.getLsbD i := by rw [BitVec.getLsbD_append]; simp [hi]
    have hhigh : (h ++ h).getLsbD (256 + i) = h.getLsbD i := by rw [BitVec.getLsbD_append]; simp
    simp [hi, hlow, hhigh]

theorem length_xtsEncrypt (key : BitVec 512) (t : XtsUnit) {d : Bytes} (h : 16 ≤ d.length) : (xtsEncrypt key t d).length = d.length := by
  unfold xtsEncrypt
  simp only [length_takePad]
  omega

theorem State.jtagOpen_iff {s : State} : s.jtagOpen = true ↔ s.sec.lc = .blank ∨ s.sec.lc = .returned := by
  simp [State.jtagOpen]

/-- Settles O46. -/
theorem lifeCycleCommands : Obligations.LifeCycleCommands := by
  unfold Obligations.LifeCycleCommands
  refine ⟨⟨fun test s => ⟨fun h => next_settle_eq (if_neg (by simp [h])), fun h => next_settle_eq (if_pos (congrArg (!·) h))⟩,
      fun r s p hp => ?transition, fun s => ⟨fun h => ⟨next_settle_eq (State.zeroFilled_idle h), next_settle_eq (State.wiped_idle h)⟩,
        fun r hr hm => ⟨fun hz => ⟨s.zeroFilled, rfl, State.zeroFilled_clears hr hm hz⟩, fun hz => rfl,
          fun hz => next_settle_eq (State.zeroFilled_done hr hz), fun hz => next_settle_eq (State.wiped_early hr hz)⟩⟩⟩,
    fun _ _ _ _ => ⟨rfl, rfl, rfl⟩, fun t => ⟨rfl, length_leBytes _ _⟩, xtsRefused_iff, fun key t d h => length_xtsEncrypt key t h,
    fun s h1 h2 => ?closed, fun s h b => if_pos (State.jtagOpen_iff.2 h)⟩
  case transition =>
    intro a num level
    have hstart {t : State} (ht : a.lcTransition num r.slot.val r.args = t) : exec (.lcTransition r) s = .next t.settle :=
      next_settle_eq ((State.command_plain (fun n a s => s.lcTransition n r.slot.val a) hp).trans ht)
    refine ⟨fun f hf => hstart (State.lcTransition_fails hf), fun dest row hf hd hrow => ?_⟩
    have hadmitted {t : State} (ht : _ = t) : exec (.lcTransition r) s = .next t.settle :=
      hstart ((State.lcTransition_admitted hf hd hrow).trans ht)
    refine ⟨fun hk => hadmitted (if_pos hk), fun hk => ?_⟩
    have hkeyed := ne_true_of_eq_false hk
    exact ⟨fun hw => hadmitted ((if_neg hkeyed).trans (if_pos hw)),
      fun hw hdec => hadmitted ((if_neg hkeyed).trans ((if_neg (ne_true_of_eq_false hw)).trans (if_pos hdec))),
      fun hw hdec => hadmitted ((if_neg hkeyed).trans ((if_neg (ne_true_of_eq_false hw)).trans (if_neg hdec)))⟩
  case closed =>
    have hclosed : ¬ s.jtagOpen = true := mt State.jtagOpen_iff.1 (not_or.2 ⟨h1, h2⟩)
    exact ⟨if_neg (by simp [hclosed]), fun b => if_neg hclosed⟩

/-! ### Firmware update -/

theorem State.updateCommit_passes {s : State} {f : Nat} (num : Nat) (h : s.commitStep (s.imageSlot !s.sec.active).header f = 0) :
    s.updateCommit num f =
      (((s.event 0x0641 0 [flag !s.sec.active, headerSecurity (s.imageSlot !s.sec.active).header, 0]).modSlot (!s.sec.active) fun t =>
        { t with state := .valid }).modSec fun x => { x with preferred := !s.sec.active }).done num := by
  unfold State.updateCommit
  dsimp only
  rw [if_pos h]

theorem State.updateCommit_fails {s : State} {f : Nat} (num : Nat) (h : s.commitStep (s.imageSlot !s.sec.active).header f ≠ 0) :
    s.updateCommit num f = (s.modSlot (!s.sec.active) fun t => { t with state := .invalid }).failed num
      (s.commitStep (s.imageSlot !s.sec.active).header f) := by
  unfold State.updateCommit
  dsimp only
  rw [if_neg h]

/-- Settles O47. -/
theorem firmwareUpdate : Obligations.FirmwareUpdate := by
  unfold Obligations.FirmwareUpdate
  refine ⟨fun r s p hp => ?chunk, fun r failed s p hp => ?commit, fun r s p hp => ?rollback⟩
  case chunk =>
    intro a num o n b
    have hstart {t : State} (ht : a.updateChunk num r.args = t) : exec (.fwUpdateChunk r) s = .next t :=
      next_eq ((State.command_plain (fun n a s => s.updateChunk n a) hp).trans ht)
    refine ⟨fun h => hstart (if_pos h), fun h hn => hstart ((if_neg (Nat.not_lt.2 h)).trans (if_pos hn)), fun h h0 hn ho hover => ?_,
      fun h h0 hn hfits => ?_⟩
    · exact hstart ((if_neg (Nat.not_lt.2 h)).trans ((if_neg (show ¬ (n = 0 ∨ 1016 < n) by omega)).trans (if_pos ⟨ho, hover⟩)))
    · refine hstart ((if_neg (Nat.not_lt.2 h)).trans ((if_neg (show ¬ (n = 0 ∨ 1016 < n) by omega)).trans (if_neg ?_)))
      rintro ⟨ho, hover⟩
      exact ne_true_of_eq_false (hfits.resolve_left ho) hover
  case commit =>
    intro a num b h step
    have hstart {t : State} (ht : a.updateCommit num (failed.elim 0 BitVec.toNat) = t) : exec (.fwUpdateCommit r failed) s = .next t := by
      cases failed <;> exact next_eq ((State.command_args (fun n _ s => s.updateCommit n _) (fun a => leNat a == 0) hp).trans ht)
    have hstep : step = a.commitStep h (failed.elim 0 BitVec.toNat) := by cases failed <;> rfl
    rw [hstep]
    exact ⟨fun hs => hstart (State.updateCommit_passes num hs), fun hs => hstart (State.updateCommit_fails num hs)⟩
  case rollback =>
    intro a
    have hstart {t : State} (ht : a.rollbackCommit (s.namedBy r) = t) : exec (.fwRollbackCommit r) s = .next t :=
      next_eq ((State.command_args (fun n _ s => s.rollbackCommit n) (fun a => leNat a == 0) hp).trans ht)
    exact ⟨fun h => hstart (if_neg (not_not.2 h)), fun h => hstart (if_pos h)⟩

/-! ### Faults and events -/

theorem State.droppedEvent_none (s : State) (part : Nat) : s.droppedEvent part 0 = s := rfl

theorem State.droppedEvent_some (s : State) (part : Nat) {n : Nat} (h : 0 < n) : s.droppedEvent part n = s.event 0x0240 0 [n, part] :=
  if_neg (Nat.ne_of_gt h)

/-- Settles O48. -/
theorem faultsAndEvents : Obligations.FaultsAndEvents := by
  unfold Obligations.FaultsAndEvents
  refine ⟨fun m s => ⟨rfl, fun h => next_settle_eq (if_pos (h.imp id (congrArg (!·))))⟩, fun r s p hp => ?fetch,
    fun r s p hp => next_eq (State.command_plain (fun n _ s => ({ s with stickyCtr := [] } : State).done n) hp), fun s => ?timers⟩
  case fetch =>
    intro a start l next
    exact next_eq (State.command_args (fun n a s => s.done n (s.fetchEvents a)) (fun a => 1 ≤ leAt a 10 1 && leAt a 10 1 ≤ 16) hp)
  case timers =>
    intro t
    have hrun : exec .eventsDroppedTimer s = .next ((t.droppedEvent 0 s.evr.droppedRes).droppedEvent 1 s.evr.droppedGen) := rfl
    refine ⟨fun h1 h2 => hrun.trans (next_eq ?_), fun h1 h2 => hrun.trans (next_eq ?_), fun h1 h2 => hrun.trans (next_eq ?_),
      fun h1 h2 => hrun.trans (next_eq ?_), fun h => next_eq (if_pos h), fun h => next_eq (if_neg (ne_true_of_eq_false h))⟩
    · rw [h1, h2, State.droppedEvent_none, State.droppedEvent_none]
    · rw [h1, State.droppedEvent_none, State.droppedEvent_some _ _ h2]
    · rw [h2, State.droppedEvent_none, State.droppedEvent_some _ _ h1]
    · rw [State.droppedEvent_some _ _ h1, State.droppedEvent_some _ _ h2]

end Sys2Proof.Machine

/-!
The statements on supplies, the capacitance test, requests for power and the power sequence (R382 to R408).
-/

namespace Sys2Proof.Machine

/-! ### Rails and PMBus -/

section
variable {s : State} {r mv : Nat} (hup : (s.rail r).state = .up)
include hup

theorem State.railDown_alone (h : (s.railFail r mv).store.pmbusFenced = false ∨ s.store.pmbusFenced = true) :
    s.railDown r mv = s.railFail r mv := by
  refine (if_neg (not_not.2 hup)).trans (if_neg fun hc => ?_)
  obtain ⟨hfenced, hwas⟩ := Bool.and_eq_true_iff.1 hc
  rcases h with h | h
  · exact ne_true_of_eq_false h hfenced
  · simp [h] at hwas

/-- A failure that fences the PMBus master fails every rail that only PMBus supervises. -/
theorem State.railDown_fencing (hfenced : (s.railFail r mv).store.pmbusFenced = true) (hwas : s.store.pmbusFenced = false) :
    s.railDown r mv = (((List.range 32).map (32 + ·)).filter fun q => !(s.railFail r mv).sensed q).foldl
      (fun s q => if (s.rail q).state = .up then s.railFail q (s.rail q).mv else s) (s.railFail r mv) :=
  (if_neg (not_not.2 hup)).trans (if_pos (Bool.and_eq_true_iff.2 ⟨hfenced, congrArg (!·) hwas⟩))

end

/-- The reads of a poll of an entry. -/
def State.pollReads (s : State) (i : Nat) : State :=
  ([0x00, 0x79, 0x88, 0x8B, 0x8C, 0x8D, 0x96] : List Nat).foldl
    (fun s c => s.emit (.pmbus i c (if c = 0 then PmbusField.page (s.pmbusEntry i) else 0))) s

section
variable {s : State} {p : PmbusReading} (hlive : s.pmbusLive p.entry = true)
include hlive

theorem State.pollEntry_ok (hok : p.ok = true) :
    let i := p.entry.val
    let r := s.entryRail i
    s.pollEntry p = (((s.pollReads i).modStore fun x => { x with pmbus := x.pmbus.upd i {} fun e => { e with failedInRow := 0 } }).modPwr fun w =>
      { w with rails := w.rails.upd r {} fun x => { x with ma := p.ma, mv := if r < 32 then x.mv else p.mv } }).statusRead i p.statusWord :=
  (if_neg (by simp [hlive])).trans (if_pos hok)

/-- A reading that fails is counted; the third in a row of an entry without a sense input takes its rail down. -/
theorem State.pollEntry_fails (hok : p.ok = false) :
    let i := p.entry.val
    let r := s.entryRail i
    let n := ((s.pollReads i).store.pmbus.getD i {}).failedInRow + 1
    let v := ((s.pollReads i).bump P.pmbus_errors).modStore fun x =>
      { x with pmbus := x.pmbus.upd i {} fun e => { e with failedInRow := n, state := if n ≥ 3 then .lost else e.state } }
    s.pollEntry p = if n ≥ 3 && !v.sensed r then v.railDown r (v.rail r).mv else v :=
  (if_neg (by simp [hlive])).trans (if_neg (ne_true_of_eq_false hok))

end

/-! ### The capacitance test -/

section
variable {s : State} {cmd : Bool}

theorem State.capStart_running (h : s.store.capPhase ≠ .idle) : s.capStart true = s.modStore fun x => { x with capCmd := true } := by
  refine (if_pos h).trans ?_
  simp only [Bool.or_true]

theorem State.capStart_starts (h : s.store.capPhase = .idle) (hd : s.capDefers = false) :
    s.capStart cmd = s.modStore fun x => { x with capPhase := .settling, capCmd := cmd, holdTestEn := true, capRetry := none } :=
  (if_neg (not_not.2 h)).trans (if_neg (ne_true_of_eq_false hd))

theorem State.capStart_deferred (h : s.store.capPhase = .idle) (hd : s.capDefers = true) :
    let t := (s.bump P.cap_tests_deferred).modStore fun x => { x with capRetry := some (s.now + 600000000000) }
    s.capStart cmd = if cmd then t.failed P.cap_test 0x04 else t :=
  (if_neg (not_not.2 h)).trans (if_pos hd)

end

/-- Settles O49. -/
theorem suppliesAndCapacitance : Obligations.SuppliesAndCapacitance := by
  unfold Obligations.SuppliesAndCapacitance
  refine ⟨⟨fun rail mv s => ?rail, fun _ _ _ => rfl, fun p s => ?poll, fun answers s => ?alert, fun f mv s => ?feeds⟩,
    fun r s p hp => ?test, fun s => ?phases⟩
  case rail =>
    have hother {t : State} (h0 : rail.val ≠ 0) (ht : s.railDown rail mv = t) : exec (.railFault rail mv) s = .next t.settle :=
      next_settle_eq ((if_neg h0).trans ht)
    refine ⟨fun h => ?_, fun h0 h => next_settle_eq ((if_pos h0).trans (if_pos h)), fun h0 h => ?_⟩
    · by_cases h0 : rail.val = 0
      · exact next_settle_eq ((if_pos h0).trans (if_neg (h0 ▸ h)))
      · exact hother h0 (if_pos h)
    · intro t
      exact ⟨fun hf => hother h0 (State.railDown_alone h hf), fun hf hw => hother h0 (State.railDown_fencing h hf hw)⟩
  case poll =>
    intro i r
    refine ⟨fun h => if_pos (congrArg (!·) h), fun h => ?_⟩
    intro u
    refine ⟨fun hok => State.pollEntry_ok h hok, fun hok => ?_⟩
    intro n v
    refine ⟨fun hn => (State.pollEntry_fails h hok).trans (if_neg fun hc => ?_), fun hn hs => (State.pollEntry_fails h hok).trans (if_pos ?_)⟩
    · obtain ⟨hthird, hsense⟩ := Bool.and_eq_true_iff.1 hc
      rcases hn with hn | hn
      · exact absurd (of_decide_eq_true hthird) (Nat.not_le.2 hn)
      · exact Bool.false_ne_true ((congrArg (!·) hn).symm.trans hsense)
    · exact Bool.and_eq_true_iff.2 ⟨decide_eq_true hn, congrArg (!·) hs⟩
  case alert =>
    refine ⟨fun h hm => next_settle_eq (if_neg (not_or.2 ⟨ne_true_of_eq_false h, hm⟩)), fun h => next_settle_eq (if_pos h)⟩
  case feeds =>
    refine ⟨fun h => next_eq (if_pos h), fun hc hf => ?_, fun hf => ⟨next_eq (if_pos hf), ?_⟩, fun hf =>
      ⟨next_eq (if_neg (ne_true_of_eq_false hf)), next_eq (if_pos (congrArg (!·) hf))⟩⟩
    · intro t on
      have hon : on ↔ (decide (t.mode = .standby) && t.paramOn P.auto_on && t.pwr.autoEligible) = true := by simp [on, and_assoc]
      have hnew : ¬ (s.rst.cold = .held ∨ s.feedIn f = true) := not_or.2 ⟨hc, ne_true_of_eq_false hf⟩
      exact ⟨fun h => next_eq ((if_neg hnew).trans (if_neg (mt hon.2 h))), fun h => next_eq ((if_neg hnew).trans (if_pos (hon.1 h)))⟩
    · intro t
      have hin : ¬ (!s.feedIn f) = true := by simp [hf]
      exact ⟨fun h => next_eq ((if_neg hin).trans (if_pos h)), fun h => next_eq ((if_neg hin).trans (if_neg h))⟩
  case test =>
    intro a
    have hstart {t : State} (ht : a.capStart true = t) : exec (.capTest r) s = .next t :=
      next_eq ((State.command_plain (fun _ _ s => s.capStart true) hp).trans ht)
    exact ⟨fun h => hstart (State.capStart_running h), fun h hd => hstart (State.capStart_starts h hd),
      fun h hd => hstart ((State.capStart_deferred h hd).trans (if_pos rfl))⟩
  case phases =>
    have hend {ma dt mv : Nat} {t : State} (hphase : s.store.capPhase = .discharging) (hv : mv < s.store.v1) (ht : _ = t) :
        exec (.capTestEnd ma dt mv) s = .next t :=
      next_eq ((if_neg (not_or.2 ⟨not_not.2 hphase, Nat.not_le.2 hv⟩)).trans ht)
    refine ⟨fun hm hi => ?_, fun h => next_eq (if_neg fun hc => ?_), fun mv => ⟨fun h => next_eq (if_pos h), fun h => next_eq (if_neg h)⟩,
      fun h => next_eq (if_neg h), fun h => next_eq (if_pos h), fun ma dt mv h => next_eq (if_pos h), fun ma dt mv hphase hv => ?_⟩
    · have hdue {t : State} (ht : s.capStart false = t) : exec .capTestSchedule s = .next t :=
        next_eq ((if_pos (Bool.and_eq_true_iff.2 ⟨hm, decide_eq_true hi⟩)).trans ht)
      exact ⟨fun hd => hdue (State.capStart_starts hi hd), fun hd => hdue ((State.capStart_deferred hi hd).trans (if_neg Bool.false_ne_true))⟩
    · obtain ⟨hm, hi⟩ := Bool.and_eq_true_iff.1 hc
      exact h.elim (fun hn => ne_true_of_eq_false hn hm) (· (of_decide_eq_true hi))
    · intro c
      exact ⟨fun h => hend hphase hv (if_pos h), fun h hc => hend hphase hv ((if_neg (Nat.not_lt.2 h)).trans (if_pos hc)),
        fun h hlo hhi => hend hphase hv ((if_neg (Nat.not_lt.2 h)).trans (if_neg (not_or.2 ⟨Nat.not_lt.2 hlo, Nat.not_lt.2 hhi⟩)))⟩


/-! ### Requests for power and mode -/

section
variable {s : State} (hfall : s.pwr.falling = false)
include hfall

theorem State.modeRequest_endQuiesce (hm : s.mode = .quiesce) :
    s.modeRequest 6 = ((s.modPwr fun p => { p with offPending := none }).aborted P.power_off).setMode s.byD 3 := by
  unfold State.modeRequest
  dsimp only
  rw [if_neg (ne_true_of_eq_false hfall), hm]
  rfl

theorem State.modeRequest_endMaint (hm : s.mode = .maint) :
    s.modeRequest 6 =
      if s.workRunning then s.failed P.mode_request 0x02
      else if !s.pwr.maintFromTrain then s.setMode s.byD 3
      else if s.trained then s.setMode .restore 3
      else s.failed P.mode_request 0x03 := by
  unfold State.modeRequest
  dsimp only
  rw [if_neg (ne_true_of_eq_false hfall), hm]
  rfl

theorem State.modeRequest_quiesce
    (hm : s.mode ∈ [Mode.resync, .service, .degraded] ∨ (s.mode = .maint ∧ s.pwr.maintFromTrain = false)) :
    s.modeRequest 8 = s.setMode .quiesce 3 := by
  unfold State.modeRequest
  dsimp only
  rw [if_neg (ne_true_of_eq_false hfall)]
  obtain hm | ⟨hm, htrain⟩ := hm
  · simp only [List.mem_cons, List.not_mem_nil, or_false] at hm
    rcases hm with hm | hm | hm <;> rw [hm] <;> rfl
  · rw [hm]
    exact if_neg (ne_true_of_eq_false htrain)

theorem State.modeRequest_maint (hm : s.mode ∈ [Mode.service, .degraded, .quiesce]) :
    s.modeRequest 10 = s.modPwr fun p => { p with maintHeld := true } := by
  unfold State.modeRequest
  dsimp only
  rw [if_neg (ne_true_of_eq_false hfall)]
  simp only [List.mem_cons, List.not_mem_nil, or_false] at hm
  rcases hm with hm | hm | hm <;> rw [hm] <;> rfl

/-- A path that Table 15.8 does not have. -/
theorem State.modeRequest_noPath {m : Nat}
    (h : (m ≠ 6 ∧ m ≠ 8 ∧ m ≠ 10) ∨ (m = 6 ∧ s.mode ≠ .quiesce ∧ s.mode ≠ .maint) ∨
      (m = 8 ∧ s.mode ∉ [Mode.resync, .service, .degraded, .maint]) ∨ (m = 8 ∧ s.mode = .maint ∧ s.pwr.maintFromTrain = true) ∨
      (m = 10 ∧ s.mode ∉ [Mode.service, .degraded, .quiesce])) :
    s.modeRequest m = s.failed P.mode_request 0x01 := by
  unfold State.modeRequest
  dsimp only
  rw [if_neg (ne_true_of_eq_false hfall)]
  split
  case h_6 hm =>
    simp only [hm] at h
    refine if_pos ?_
    simpa using h
  case h_10 => rfl
  all_goals
    rename_i hm
    simp [hm] at h

end

/-! ### The power sequence -/

/-- The step's rails are up; at step 2 the pending values are stored and an image begins to load. -/
def State.stepUp (s : State) : State :=
  let u := ((s.stepRails s.pwr.step).foldl (fun s r => s.setRail r .up) s).modPwr fun p => { p with rising := false }
  if s.pwr.step = 2 then u.storeStandby.modRst fun r => { r with load := some { slot := u.sec.preferred, since := u.now } } else u

section
variable {s : State} (hmode : s.mode = .ramp) (hrise : s.pwr.rising = true) (hfall : s.pwr.falling = false)
include hmode hrise hfall

theorem State.rising_iff : ¬ (s.mode ≠ .ramp ∨ !s.pwr.rising ∨ s.pwr.falling) := by
  simp [hmode, hrise, hfall]

theorem State.stepStable_unbound (h : ((s.stepRails s.pwr.step).any fun r => s.railUnbound r || (s.rail r).state = .failed) = true) :
    s.stepStable = s :=
  (if_neg (State.rising_iff hmode hrise hfall)).trans (if_pos h)

section
variable (hwhole : ((s.stepRails s.pwr.step).any fun r => s.railUnbound r || (s.rail r).state = .failed) = false)
include hwhole

theorem State.stepStable_aborted (habort : s.stepUp.pwr.rampAbort = true) : s.stepStable = s.stepUp.rampEnd :=
  (if_neg (State.rising_iff hmode hrise hfall)).trans ((if_neg (ne_true_of_eq_false hwhole)).trans (if_pos habort))

theorem State.stepStable_next (habort : s.stepUp.pwr.rampAbort = false) :
    s.stepStable = match s.stepUp.stepAfter s.pwr.step with
      | some k => s.stepUp.enableStep k
      | none => s.stepUp.setMode .train 5 :=
  (if_neg (State.rising_iff hmode hrise hfall)).trans ((if_neg (ne_true_of_eq_false hwhole)).trans (if_neg (ne_true_of_eq_false habort)))

end

theorem State.stepTimeout_rising (out : List (Fin 64)) :
    let u := ((s.stepRails s.pwr.step).foldl (fun s r =>
      s.setRail r (if s.railUnbound r || out.any (·.val == r) then .failed else .up)) s).bump P.ramp_failures
    s.stepTimeout out = (if u.pwr.rampAbort then u else u.modPwr fun p => { p with downTrig := 4, autoEligible := false }).rampEnd :=
  if_neg (State.rising_iff hmode hrise hfall)

end

/-- The rails of the present step are off, those that have failed excepted. -/
def State.stepOff (s : State) : State :=
  (s.stepRails s.pwr.step).foldl (fun s r => if (s.rail r).state = .failed then s else s.setRail r .off) s

theorem State.downStep_falling {s : State} (h : s.pwr.falling = true) :
    s.downStep = match s.stepOff.stepBelow s.pwr.step with
      | some k => if s.stepOff.pwr.goal = .sealed ∧ k ≤ 2 then s.stepOff.downEnd else s.stepOff.lower s.pwr.step
      | none => s.stepOff.downEnd :=
  if_neg (by simp [h])

/-- Settles O50. -/
theorem powerSequence : Obligations.PowerSequence := by
  unfold Obligations.PowerSequence
  refine ⟨⟨fun s => ?buttons, fun r s p => ⟨fun hp => next_eq (State.command_plain (fun _ _ s => s.onRequest) hp), fun hp => ?off,
    fun hp => ?mode⟩⟩, fun s h => ?idle, fun s hmode hrise hfall => ?rising, fun s h => ?falling,
    fun s h => next_eq (if_pos (congrArg (!·) h))⟩
  case buttons =>
    refine ⟨fun h => next_eq (if_pos h), fun h => next_eq (if_neg h), fun h => next_settle_eq (if_pos h),
      fun h1 h2 => next_settle_eq (if_neg (not_or.2 ⟨h1, h2⟩)), fun h1 h2 => next_eq (if_pos ⟨h1, h2⟩),
      fun h => next_eq (if_neg fun hc => h.elim (· hc.1) fun hn => ne_true_of_eq_false hn hc.2), fun h hn => ?lgm,
      fun h => next_eq (if_neg fun hc => h.elim (· hc.1) fun hn => by simp [hn] at hc), fun h hn => next_eq (if_pos ⟨h, Option.isSome_iff_ne_none.2 hn⟩),
      fun h => next_eq (if_neg fun hc => h.elim (· hc.1) fun hn => by simp [hn] at hc), fun h => next_eq (if_pos h), fun h1 h2 => ?plan⟩
    case lgm =>
      have hidle : s.mode = .standby ∧ s.pwr.lgmAccess.isSome = true := ⟨h, Option.isSome_iff_ne_none.2 hn⟩
      have hrun : exec .standbyLgmIdle s =
          .next ((if s.pwr.falling then s else (s.lowerStep 2).lowerStep 1).modPwr fun p => { p with lgmAccess := none }) :=
        next_eq (if_pos hidle)
      exact ⟨fun hf => hrun.trans (by rw [if_neg (ne_true_of_eq_false hf)]), fun hf => hrun.trans (by rw [if_pos hf])⟩
    case plan =>
      have hstop : ¬ (s.mode ≠ .save ∨ s.pwr.lastOff ≠ .fatal) := not_or.2 ⟨not_not.2 h1, not_not.2 h2⟩
      refine ⟨fun hr => next_eq ((if_neg hstop).trans ?_), fun r hr hplan => next_eq ((if_neg hstop).trans ?_),
        fun r hr hplan => next_eq ((if_neg hstop).trans ?_)⟩
      · rw [hr]
      · rw [hr]
        exact if_pos hplan
      · rw [hr]
        exact if_neg (ne_true_of_eq_false hplan)
  case off =>
    have hstart {t : State} (ht : (if leNat r.args = 0 then (s.answered r).orderlyOff else (s.answered r).immediateOff) = t) :
        exec (.powerOff r) s = .next t.settle :=
      next_settle_eq ((State.command_plain (fun _ a s => if leNat a = 0 then s.orderlyOff else s.immediateOff) hp).trans ht)
    exact ⟨fun h => hstart (if_pos h), fun h => hstart (if_neg h)⟩
  case mode =>
    intro a m run
    have hstart {t : State} (ht : a.modeRequest m = t) : run = .next t.settle :=
      next_settle_eq ((State.command_plain (fun _ a s => s.modeRequest (leNat a)) hp).trans ht)
    refine ⟨fun h => hstart (if_pos h), fun hf => ⟨fun hm hq => hstart (hm ▸ State.modeRequest_endQuiesce hf hq), fun hm hq => ?maint,
      fun hm hq => hstart (hm ▸ State.modeRequest_quiesce hf hq), fun hm hq => hstart (hm ▸ State.modeRequest_maint hf hq),
      fun h => hstart (State.modeRequest_noPath hf h)⟩⟩
    have hend {t : State} (ht : _ = t) : run = .next t.settle := hstart (hm ▸ (State.modeRequest_endMaint hf hq).trans ht)
    have hdone (hw : a.workRunning = false) := ne_true_of_eq_false hw
    refine ⟨fun hw => hend (if_pos hw), fun hw ht => hend ((if_neg (hdone hw)).trans (if_pos (congrArg (!·) ht))), fun hw ht htr => ?_,
      fun hw ht htr => ?_⟩
    · exact hend ((if_neg (hdone hw)).trans ((if_neg (by simp [ht])).trans (if_pos htr)))
    · exact hend ((if_neg (hdone hw)).trans ((if_neg (by simp [ht])).trans (if_neg (ne_true_of_eq_false htr))))
  case idle =>
    have hidle : s.mode ≠ .ramp ∨ (!s.pwr.rising) = true ∨ s.pwr.falling = true := h.imp id (Or.imp (congrArg (!·)) id)
    exact ⟨next_settle_eq (if_pos hidle), fun out => next_eq (if_pos hidle)⟩
  case rising =>
    intro rails u t
    have ht : s.stepUp = t := rfl
    refine ⟨fun h => next_settle_eq (State.stepStable_unbound hmode hrise hfall h), fun h => ⟨fun ha => ?_, fun k ha hk => ?_, fun ha hk => ?_⟩,
      fun out => ?_⟩
    · exact next_settle_eq (State.stepStable_aborted hmode hrise hfall h ha)
    · refine next_settle_eq ((State.stepStable_next hmode hrise hfall h ha).trans ?_)
      rw [ht, hk]
    · refine next_settle_eq ((State.stepStable_next hmode hrise hfall h ha).trans ?_)
      rw [ht, hk]
    · intro w
      exact ⟨fun ha => next_eq ((State.stepTimeout_rising hmode hrise hfall out).trans (congrArg State.rampEnd (if_pos ha))),
        fun ha => next_eq ((State.stepTimeout_rising hmode hrise hfall out).trans (congrArg State.rampEnd (if_neg (ne_true_of_eq_false ha))))⟩
  case falling =>
    intro t
    have ht : s.stepOff = t := rfl
    refine ⟨fun hk => next_eq ((State.downStep_falling h).trans ?_), fun k hk hg h2 => next_eq ((State.downStep_falling h).trans ?_),
      fun k hk hn => next_eq ((State.downStep_falling h).trans ?_)⟩
    · rw [ht, hk]
    · rw [ht, hk]
      exact if_pos ⟨hg, h2⟩
    · rw [ht, hk]
      exact if_neg fun hc => hn.elim (· hc.1) fun h2 => absurd hc.2 (Nat.not_le.2 h2)

end Sys2Proof.Machine

/-!
The statements on the cold start, image loads, clocks, temperature and the reset state (R355, R409 to R443).
-/

namespace Sys2Proof.Machine

/-! ### Cold start -/

/-- What the option copies come to (R413). -/
def optionOf (a b : Bool) : OptState := if a && b then .ok else if a || b then .repaired else .failed

theorem optionOf_failed_iff {a b : Bool} : optionOf a b = .failed ↔ ¬ (a = true ∨ b = true) := by
  cases a <;> cases b <;> simp [optionOf]

/-- The state that `rootLock` reaches in STANDBY. -/
def State.locked (s : State) (a b : Bool) : State :=
  let t := s.modRst fun r => { r with cold := .done, rootLocked := true, option := optionOf a b, coldStartMs := s.now / 1000000 }
  let u := t.modEvr fun e => { e with cycles := min (e.cycles + 1) (2 ^ 24 - 1) }
  (u.modSec fun x => { x with kekReady := x.keySeed != 0 && !x.killFused }).setMode .standby 8

theorem State.rootLock_locks {s : State} {a b : Bool} (hrom : s.rst.cold = .rom) (hclk : s.rst.refclkOk = true) :
    let v := s.locked a b
    s.rootLock a b =
      if optionOf a b = .failed then v.fault (faultMsg 0x08 0 .ftl Kind.memUe 0)
      else if v.pwr.resetHeld then (v.modPwr fun p => { p with resetHeld := false }).coldReset .sysRst
      else if v.paramOn P.auto_on ∧ v.feedsPresent ≠ 0 then v.onRequest
      else v :=
  if_neg (by simp [hrom, hclk])

/-! ### Image loads -/

section
variable {s : State} {l : ImageLoad}

theorem execBootHeaderChecked_idle (o : HeaderOutcome) (h : ∀ l, s.rst.load = some l → l.phase ≠ .header) :
    exec (.bootHeaderChecked o) s = .next s.settle := by
  refine next_settle_eq ?_
  split
  · exact if_pos (h _ ‹_›)
  · rfl

theorem execBootHeaderChecked_header (o : HeaderOutcome) (hl : s.rst.load = some l) (hphase : l.phase = .header) :
    let step := s.headerStep (s.imageSlot l.slot).header o
    exec (.bootHeaderChecked o) s =
      .next (if step = 0 then s.modRst fun r => { r with load := some { l with phase := .body } } else s.slotFails l step).settle := by
  refine next_settle_eq ?_
  rw [hl]
  exact if_neg (not_not.2 hphase)

theorem State.bodyVerified_idle (ok : Bool) (h : ∀ l, s.rst.load = some l → l.phase ≠ .body) : s.bodyVerified ok = s := by
  unfold State.bodyVerified
  split
  · rfl
  · exact if_pos (h _ ‹_›)

theorem State.bodyVerified_fails (hl : s.rst.load = some l) (hphase : l.phase = .body) : s.bodyVerified false = s.slotFails l 6 := by
  unfold State.bodyVerified
  rw [hl]
  exact (if_neg (not_not.2 hphase)).trans (if_pos rfl)

/-- The cores start from the slot whose body verifies, which is the active one from then on. -/
def State.coresStarted (s : State) (l : ImageLoad) : State :=
  let h := (s.imageSlot l.slot).header
  let t := (s.modSlot l.slot fun t => { t with state := .valid }).modSec fun x =>
    { x with active := l.slot, imageDigest := headerDigest h, imageVersion := headerVersion h, runningSecurity := headerSecurity h }
  t.modRst fun r => { r with coresUp := true, heldClusters := [], coreStartMs := (t.now - r.onAt) / 1000000 }

theorem State.bodyVerified_passes (hl : s.rst.load = some l) (hphase : l.phase = .body) :
    s.bodyVerified true =
      if l.restart then
        (((s.coresStarted l).rqCount 10 (headerLen (s.imageSlot l.slot).header)).modRst fun r => { r with load := none }).done P.core_restart
      else (s.coresStarted l).modRst fun r => { r with load := some { l with phase := .started } } := by
  unfold State.bodyVerified
  rw [hl]
  exact (if_neg (not_not.2 hphase)).trans (if_neg (by simp))

/-- The load, with the step at which its slot has failed. -/
def ImageLoad.failedAt (l : ImageLoad) (step : Nat) : ImageLoad := if l.slot then { l with failB := step } else { l with failA := step }

@[simp] theorem ImageLoad.failedAt_slot (l : ImageLoad) (step : Nat) : (l.failedAt step).slot = l.slot := by
  unfold ImageLoad.failedAt
  split <;> rfl

@[simp] theorem ImageLoad.failedAt_second (l : ImageLoad) (step : Nat) : (l.failedAt step).second = l.second := by
  unfold ImageLoad.failedAt
  split <;> rfl

@[simp] theorem ImageLoad.failedAt_restart (l : ImageLoad) (step : Nat) : (l.failedAt step).restart = l.restart := by
  unfold ImageLoad.failedAt
  split <;> rfl

theorem State.slotFails_first (step : Nat) (h : l.second = false) :
    s.slotFails l step = (s.modSlot l.slot fun t => { t with state := .invalid }).modRst fun r =>
      { r with load := some { l.failedAt step with slot := !l.slot, second := true, phase := LoadPhase.header } } := by
  refine (if_neg ?_).trans ?_
  · exact ne_true_of_eq_false ((l.failedAt_second step).trans h)
  · exact congrArg (fun b => (s.modSlot l.slot fun t => { t with state := .invalid }).modRst fun r =>
      { r with load := some { l.failedAt step with slot := !b, second := true, phase := LoadPhase.header } }) (l.failedAt_slot step)

/-- With the second slot failed too, the load has failed. -/
theorem State.slotFails_second (step : Nat) (h : l.second = true) :
    s.slotFails l step = (s.modSlot l.slot fun t => { t with state := .invalid }).bootFails (l.failedAt step) :=
  if_pos ((l.failedAt_second step).trans h)

end

section
variable {s : State} {l : ImageLoad}

theorem State.bootFails_restart (h : l.restart = true) :
    s.bootFails l =
      (((s.bump P.boot_failures).event 0x0640 0 [l.failA, l.failB]).modRst fun r => { r with load := none }).failed P.core_restart 0x01 :=
  if_pos h

theorem State.bootFails_start (h : l.restart = false) :
    let u := ((s.bump P.boot_failures).event 0x0640 0 [l.failA, l.failB]).modRst fun r => { r with load := none }
    s.bootFails l = if u.mode = .ramp then u.abortRamp 2 false else if u.unserved then u.powerDown .rampAbort 2 false else u.orderlyOff :=
  if_neg (ne_true_of_eq_false h)

end

theorem execImageCopyComplete_idle {s : State} (h : ∀ l, s.rst.load = some l → l.phase ≠ .started) : exec .imageCopyComplete s = .next s := by
  refine next_eq ?_
  split
  · exact if_neg fun hc => h _ ‹_› hc.1
  · rfl

theorem execImageCopyComplete_load {s : State} {l : ImageLoad} (h : s.rst.load = some l) :
    exec .imageCopyComplete s = .next (if l.phase = .started ∧ s.trained then
      (s.rqCount 10 (headerLen (s.imageSlot l.slot).header)).modRst fun r => { r with load := none, copied := true } else s) :=
  next_eq (by rw [h])

/-- Settles O51. -/
theorem coldStartAndImages : Obligations.ColdStartAndImages := by
  unfold Obligations.ColdStartAndImages
  refine ⟨⟨fun s => ⟨fun h => ?off, fun h => ⟨next_eq (if_pos h), next_eq (if_pos h), fun hm => ?_, fun h1 h2 => ?_⟩, fun h ok => ?_, fun h hc => ?held⟩,
      fun a b s h => next_eq (if_pos (h.imp id (congrArg (!·)))), fun a b s hrom hclk => ?lock⟩,
    fun s h o => execBootHeaderChecked_idle o h, fun s h ok => next_settle_eq (State.bodyVerified_idle ok h),
    fun s h => execImageCopyComplete_idle h, fun o s l hl hp => ?header, fun s l hl hp => ?body, fun s l step => ?slot,
    fun s l hl hp => ⟨fun ht => ?_, fun ht => ?_⟩, fun r s p hp => next_eq (State.command_plain (fun _ _ s => s.coreRestart) hp),
    fun cluster core pc s => ⟨fun h hg => ?_, fun h => ?_⟩⟩
  case off =>
    have hoff := ne_true_of_eq_false h
    exact ⟨next_eq (if_neg hoff), next_eq (if_neg hoff), next_eq (if_pos (congrArg (!·) h))⟩
  · exact next_eq ((if_neg (by simp [h])).trans (if_pos hm))
  · exact next_eq ((if_neg (by simp [h])).trans (if_neg (not_or.2 ⟨h1, h2⟩)))
  · exact next_eq (if_pos (h.imp (congrArg (!·)) id))
  case held =>
    intro t u
    have hheld : ¬ ((!s.rst.vddAon) = true ∨ s.rst.cold ≠ .held) := by simp [h, hc]
    exact ⟨next_eq ((if_neg hheld).trans (if_pos rfl)), next_eq ((if_neg hheld).trans (if_neg Bool.false_ne_true))⟩
  case lock =>
    intro opt t u v
    have hlock {w : State} (hw : _ = w) : exec (.rootLock a b) s = .next w := next_eq ((State.rootLock_locks hrom hclk).trans hw)
    have hgood (h : a = true ∨ b = true) : ¬ optionOf a b = .failed := fun hf => optionOf_failed_iff.1 hf h
    refine ⟨fun ha hb => hlock (if_pos (optionOf_failed_iff.2 (by simp [ha, hb]))), fun h hr => hlock ((if_neg (hgood h)).trans (if_pos hr)),
      fun h hr ho hf => hlock ((if_neg (hgood h)).trans ((if_neg (ne_true_of_eq_false hr)).trans (if_pos ⟨ho, hf⟩))),
      fun h hr hno => hlock ((if_neg (hgood h)).trans ((if_neg (ne_true_of_eq_false hr)).trans (if_neg fun hc => ?_)))⟩
    exact hno.elim (fun ho => ne_true_of_eq_false ho hc.1) (fun hf => hc.2 hf)
  case header =>
    intro step
    exact ⟨fun h => (execBootHeaderChecked_header o hl hp).trans (next_settle_eq (if_pos h)),
      fun h => (execBootHeaderChecked_header o hl hp).trans (next_settle_eq (if_neg h))⟩
  case body =>
    intro h t u
    exact ⟨fun hr => next_settle_eq ((State.bodyVerified_passes hl hp).trans (if_pos hr)),
      fun hr => next_settle_eq ((State.bodyVerified_passes hl hp).trans (if_neg (ne_true_of_eq_false hr))),
      next_settle_eq (State.bodyVerified_fails hl hp)⟩
  case slot =>
    intro t m
    refine ⟨fun h => State.slotFails_first step h, fun h => ?_⟩
    intro u
    have hstart (hr : l.restart = false) := (State.slotFails_second (s := s) step h).trans (State.bootFails_start ((l.failedAt_restart step).trans hr))
    exact ⟨fun hr => (State.slotFails_second step h).trans (State.bootFails_restart ((l.failedAt_restart step).trans hr)),
      fun hr hm => (hstart hr).trans (if_pos hm), fun hr hm hu => (hstart hr).trans ((if_neg hm).trans (if_pos hu)),
      fun hr hm hu => (hstart hr).trans ((if_neg hm).trans (if_neg (ne_true_of_eq_false hu)))⟩
  · exact (execImageCopyComplete_load hl).trans (next_eq (if_pos ⟨hp, ht⟩))
  · exact (execImageCopyComplete_load hl).trans (next_eq (if_neg fun hc => ne_true_of_eq_false ht hc.2))
  · exact next_settle_eq (if_pos ⟨h, congrArg (!·) hg⟩)
  · refine next_settle_eq (if_neg fun hc => ?_)
    obtain ⟨hup, hg⟩ := hc
    exact h.elim (fun hn => ne_true_of_eq_false hn hup) fun hn => by simp [hn] at hg


/-! ### Domain resets and clocks -/

section
variable {s : State} {d : Nat}

theorem State.domainReleased_own (hin : d ∈ s.rst.inReset) (hown : s.portResetOf d = true) :
    s.domainReleased d = ((s.modRst fun r => { r with inReset := r.inReset.filter (· != d) }).liftPort (d - 5)).done P.port_reset :=
  (if_neg (by simp [hin, hown])).trans (if_pos hown)

theorem State.domainReleased_plain (hin : d ∈ s.rst.inReset) (hfree : d ∉ s.rst.fenced) (hown : s.portResetOf d = false) :
    s.domainReleased d = s.modRst fun r => { r with inReset := r.inReset.filter (· != d) } :=
  (if_neg (by simp [hin, hfree])).trans (if_neg (ne_true_of_eq_false hown))

theorem State.domainReleased_stays (h : d ∉ s.rst.inReset ∨ (d ∈ s.rst.fenced ∧ s.portResetOf d = false)) : s.domainReleased d = s :=
  if_pos (h.imp (by simp) (by simp))

end

section
variable {s : State} {khz : Nat} (haon : s.rst.vddAon = true) (hcold : s.rst.cold ≠ .held)
include haon hcold

theorem State.clocks_measured : ¬ ((!s.rst.vddAon) = true ∨ s.rst.cold = .held) := by
  simp [haon, hcold]

theorem State.clockCheck_refclk :
    let good : Bool := 75000 ≤ khz && khz ≤ 125000
    let t := s.modRst fun r => { r with refclkOk := good }
    s.clockCheck 40 khz = if good ∨ !s.rst.refclkOk then t else (t.setFlag P.clk_status 0).fault (faultMsg 0x09 39 .ftl Kind.clock khz) :=
  (if_neg (State.clocks_measured haon hcold)).trans (if_pos rfl)

theorem State.clockCheck_ethref :
    let t := s.modRst fun r => { r with ethrefPpm := ((khz : Int) - 156250) * 1000000 / 156250 }
    s.clockCheck 41 khz =
      if s.gated 5 && s.gated 6 && s.gated 7 && s.gated 8 && s.gated 9 && s.gated 10 then s
      else if offBy 156250 khz 500 then t.ethrefFault khz else t :=
  (if_neg (State.clocks_measured haon hcold)).trans ((if_neg (by simp)).trans (if_pos rfl))

section
variable {src : Nat} (hsrc : src < 40)
include hsrc

theorem State.clockCheck_gated (hg : s.gated src = true) : s.clockCheck src khz = s :=
  (if_neg (State.clocks_measured haon hcold)).trans ((if_neg (by omega)).trans ((if_neg (by omega)).trans (if_pos hg)))

/-- A clocked domain: the root that has lost lock, else a clock in or out of its range. -/
theorem State.clockCheck_domain (hg : s.gated src = false) :
    let t := s.modRst fun r => { r with freqKhz := r.freqKhz.set src khz }
    s.clockCheck src khz =
      if src = 39 ∧ khz = 0 then
        ((t.modRst fun r => { r with rootLocked := false }).setFlag P.clk_status 1).fault (faultMsg 0x09 39 .ftl Kind.clock 0)
      else if offBy (t.nominalKhz src) khz (if 5 ≤ src ∧ src ≤ 10 then 500 else 5000) then t.fault (faultMsg 0x09 src .ucc Kind.clock khz)
      else t :=
  (if_neg (State.clocks_measured haon hcold)).trans
    ((if_neg (by omega)).trans ((if_neg (by omega)).trans (if_neg (ne_true_of_eq_false hg))))

end

end

/-- Settles O52. -/
theorem clocksAndTemperature : Obligations.ClocksAndTemperature := by
  unfold Obligations.ClocksAndTemperature
  refine ⟨fun r ok s p hp => ?port, fun d s => ?domain, fun src khz s => ?clock, fun l s => ?thermal, fun s => ?release⟩
  case port =>
    intro t
    have hstart {u : State} (hu : (s.answered r).portResetRun (leNat r.args) ok = u) : exec (.portReset r ok) s = .next u.settle :=
      next_settle_eq ((State.command_plain (fun _ a s => s.portResetRun (leNat a) ok) hp).trans hu)
    exact ⟨fun h => hstart (if_pos h), fun h => hstart (if_neg (ne_true_of_eq_false h))⟩
  case domain =>
    intro t
    exact ⟨fun hin hf hown => next_settle_eq (State.domainReleased_plain hin hf hown),
      fun hin hown => next_settle_eq (State.domainReleased_own hin hown),
      fun _ hf hown => next_settle_eq (State.domainReleased_stays (.inr ⟨hf, hown⟩)),
      fun hout => next_settle_eq (State.domainReleased_stays (.inl hout))⟩
  case clock =>
    intro run
    have hrun {n : Nat} {t : State} (hn : src.val = n) (ht : s.clockCheck n khz = t) : run = .next t.settle := by
      subst hn
      exact next_settle_eq ht
    refine ⟨fun h => next_settle_eq (if_pos (h.imp (congrArg (!·)) id)), fun haon hcold => ⟨fun h => ?refclk, fun h => ?ethref,
      fun h hg => next_settle_eq (State.clockCheck_gated haon hcold h hg), fun h hg => ?gauged⟩⟩
    case refclk =>
      intro good t
      refine ⟨fun hok => hrun h ((State.clockCheck_refclk haon hcold).trans (if_pos (hok.imp id (congrArg (!·))))),
        fun hbad hwas => hrun h ((State.clockCheck_refclk haon hcold).trans (if_neg fun hc => ?_))⟩
      exact hc.elim (ne_true_of_eq_false hbad) fun hn => by simp [hwas] at hn
    case ethref =>
      intro t
      exact ⟨fun hg => hrun h ((State.clockCheck_ethref haon hcold).trans (if_pos hg)), fun hg =>
        ⟨fun ho => hrun h ((State.clockCheck_ethref haon hcold).trans ((if_neg (ne_true_of_eq_false hg)).trans (if_neg (ne_true_of_eq_false ho)))),
          fun ho => hrun h ((State.clockCheck_ethref haon hcold).trans ((if_neg (ne_true_of_eq_false hg)).trans (if_pos ho)))⟩⟩
    case gauged =>
      intro t ppm
      have hroot (hn : src.val ≠ 39 ∨ khz ≠ 0) : ¬ (src.val = 39 ∧ khz = 0) := fun hc => hn.elim (· hc.1) (· hc.2)
      exact ⟨fun h39 h0 => next_settle_eq ((State.clockCheck_domain haon hcold h hg).trans (if_pos ⟨h39, h0⟩)),
        fun hn ho => next_settle_eq ((State.clockCheck_domain haon hcold h hg).trans
          ((if_neg (hroot hn)).trans (if_neg (ne_true_of_eq_false ho)))),
        fun hn ho => next_settle_eq ((State.clockCheck_domain haon hcold h hg).trans ((if_neg (hroot hn)).trans (if_pos ho)))⟩
  case thermal =>
    refine ⟨fun h => next_eq (if_pos (h.imp id (congrArg (!·)))), fun hl haon => ?_⟩
    intro t m trip b u
    have hsampled : ¬ (l.length ≠ 8 ∨ (!s.rst.vddAon) = true) := by simp [hl, haon]
    exact ⟨fun hc => next_eq ((if_neg hsampled).trans (if_pos hc)), fun hc => next_eq ((if_neg hsampled).trans (if_neg hc))⟩
  case release =>
    refine ⟨fun h => next_eq (if_pos h), fun h => next_eq (if_neg (not_lt.2 h)),
      fun h1 h2 => next_eq (if_neg (not_or.2 ⟨ne_true_of_eq_false h1, ne_true_of_eq_false h2⟩)), fun h => next_eq (if_pos h)⟩

/-! ### The reset state -/

/-- Settles O57. -/
theorem resetState : Obligations.ResetState := by
  unfold Obligations.ResetState
  exact ⟨rfl, rfl, rfl, rfl, fun _ _ => rfl, fun _ => rfl, fun _ => rfl, rfl, rfl, fun _ => rfl, fun _ => rfl, fun _ => rfl⟩

end Sys2Proof.Machine
